-- ==== Sys2Proof/Word.lean ====
section
/-!
DEFINITION. Sys2Proof/Word.lean: the byte type, and the names used for plain numbers.

The block is described by the spec in bytes on the wire (network byte order, R4) and in quantities: nanoseconds,
counts, samples, fixed-point numbers with a stated rounding.  Quantities are `Nat` or `Int`, and every place where
the spec wraps or saturates one says so explicitly.
-/
namespace Sys2Proof

/-- One byte of a wire format, a BLOB or a flash record. -/
abbrev Byte := BitVec 8

/-- A byte string, first byte on the wire first. -/
abbrev Bytes := List Byte

/-- Absolute wall time in nanoseconds since the PTP epoch, the instant a command is received or happens
(the instant T of the scope file).  Wall nanoseconds are this modulo 2^48. -/
abbrev Time := Nat

/-- Index of a Withy port: 0 to 3 on a sender, 0 (West) and 1 (East) on a tile. -/
abbrev PortId := Nat

/-- Session identifier of R53. -/
abbrev SessionId := Nat

/-- A dictionary key: index × 256 + subindex. -/
abbrev ObjKey := Nat

end Sys2Proof
end

