-- ==== Sys2Proof/Syntax.lean ====
section
/-!
DEFINITION. Sys2Proof/Syntax.lean: the commands the block takes, one constructor of `Instr` per row of the opcode
table, and the messages, packets and readings they carry.

The table gives its rows no operand fields, so a command carries what the spec says the step receives.  Every command
carries first the instant `t` at which it is received or happens.  A row that names one opcode of a protocol carries
the whole message; its meaning takes the row's own opcode, whatever opcode the message carries.
-/
namespace Sys2Proof

/-! ### Pliuk (02_control.md) -/

/-- A Pliuk message: the header of R45, the payload, and the trailer of R47.  `payload.length` is the length the
carrier delivered, `length` the header's field. -/
structure Msg where
  version : Nat
  flags : Nat
  opcode : Nat
  status : Nat
  session : Nat
  sequence : Nat
  txn : Nat
  length : Nat
  payload : Bytes
  crc : Nat
  deriving DecidableEq, Repr

/-- The carrier on which a message arrives or leaves (R39): the management lane with the UDP source, a CTL packet on a
Withy port, or the SPI target port. -/
inductive Carrier where
  | mgmt (addr : Nat) (udp : Nat)
  | ctl (port : PortId)
  | spi
  deriving DecidableEq, Repr

/-- A chunk of a WRITE_BLOCK (R49, R50). -/
structure Chunk where
  offset : Nat
  total : Nat
  more : Bool
  data : Bytes
  deriving DecidableEq, Repr

/-! ### Wall time (03_wall_time.md) -/

/-- A PTP message on an ingest port, by the fields of IEEE 1588-2019 that R79 to R93 use.  Times are in ps since the
epoch. -/
structure PtpMsg where
  domain : Nat
  /-- Transport and delay mechanism are those of R79 (UDP over IPv4, the listed groups and ports, end to end). -/
  transportOk : Bool
  logInterval : Int
  /-- clockIdentity and port number of the sending port. -/
  source : Nat × Nat
  sequence : Nat
  twoStep : Bool
  /-- correctionField, in units of 2^-16 ns. -/
  correction : Int
  /-- originTimestamp, preciseOriginTimestamp or receiveTimestamp. -/
  stampPs : Nat
  /-- The instant at which the first block of the message crossed the deserialiser (R89). -/
  ingressPs : Nat
  /-- Announce: grandmaster identity, priority1, clockClass, clockAccuracy, variance, priority2, stepsRemoved. -/
  gm : Nat
  priority1 : Nat
  clockClass : Nat
  accuracy : Nat
  variance : Nat
  priority2 : Nat
  stepsRemoved : Nat
  utcOffset : Int
  ptpTimescale : Bool
  /-- Delay_Resp: the requesting port identity is this port's. -/
  forMe : Bool
  /-- The SMPTE management TLV that comes with the message, if any (R79). -/
  smpte : Option Bytes
  /-- The frame that carries it has a VLAN tag; its length in bytes (R113). -/
  vlan : Bool
  frameLen : Nat
  deriving DecidableEq, Repr

/-- A Sync or a grant run that a device begins: the Withy port, and the instant in ps at which its first block crosses the
serialiser (R89). -/
structure SyncTx where
  port : Nat
  egressPs : Nat
  deriving DecidableEq, Repr
/-! ### Source ingest (04_ingest.md) -/

/-- A sample row data segment: the field bit, the line, the offset in pixels, and the octets. -/
structure RowSegment where
  field : Bool
  line : Nat
  offset : Nat
  octets : Bytes
  deriving DecidableEq, Repr

/-- A UDP packet on an ingest port: addressing, the RTP header, and the ST 2110-20 payload header. -/
structure RtpPkt where
  dst : Nat
  src : Nat
  udp : Nat
  /-- The Ethernet frame carries a VLAN tag, and its length in bytes. -/
  vlan : Bool
  frameLen : Nat
  version : Nat
  marker : Bool
  /-- RTP sequence number, and the extended sequence number of ST 2110-20, 16 bits each. -/
  sequence : Nat
  extended : Nat
  timestamp : Nat
  segments : List RowSegment
  deriving DecidableEq, Repr

/-- How a frame arrives on an ingest port: with a VLAN tag or without, and its length in bytes (R113). -/
structure IngestFrame where
  port : Nat
  vlan : Bool
  length : Nat
  deriving DecidableEq, Repr


/-! ### Lamp Driver Link (09_lamp_driver_link.md) -/

/-- An LDL packet (R279): the header fields, the words after W0, and the CRC word. -/
structure LdlPkt where
  opcode : Nat
  addr : Nat
  count : Nat
  words : List Nat
  crc : Nat
  deriving DecidableEq, Repr

/-! ### Sense (12_sense.md) -/

/-- One conversion: converter 0 to 8, input 0 to 15, raw code, and whether the code lies at a rail (R363). -/
structure SenseReading where
  conv : Nat
  input : Nat
  code : Int
  rail : Bool
  deriving DecidableEq, Repr

/-- Raw codes of a converter's conversions in its zero phase and in its reference phase, in their order (R367). -/
structure CalMeasure where
  zeros : List Int
  refs : List Int
  deriving DecidableEq, Repr


/-! ### Withy (13_withy.md) -/

/-- A Withy packet: the START fields (R403), the body bytes received, and the TERMINATE fields (R404). -/
structure Packet where
  cls : Nat
  hops : Nat
  target : Nat
  flags : Nat
  /-- START byte 5. -/
  startZero : Nat
  len : Nat
  body : Bytes
  crc : Nat
  /-- TERMINATE byte 5: STOMP in bit 0, ABORT in bit 1. -/
  term : Nat
  deriving DecidableEq, Repr

/-- A port, with the sync header errors it has found since they were last counted (log entry 160). -/
structure PortErrors where
  port : PortId
  syncErrors : Nat
  deriving DecidableEq, Repr

/-- A column that arrives: the port, the block types of its four lanes (none: a data block), and the packet in progress, if
any (R385, R386). -/
structure BlockPlace where
  port : PortId
  types : List (Option Nat)
  packet : Option Packet
  deriving DecidableEq, Repr

/-- What the ALIGN columns of a lane show: whether they come bit-inverted, the port lane they name, and the instant in ps at
which they arrive, against the other lanes of the port (R385, R387). -/
structure LaneAlign where
  inverted : Bool
  lane : Nat
  skewPs : Nat
  deriving DecidableEq, Repr

/-- A port of a tile, and the columns that the forwarding FIFO towards it holds (R390). -/
structure FifoSlot where
  port : PortId
  depth : Nat
  deriving DecidableEq, Repr

/-- A grant run: N of its GRANT column, and the instant in ps at which its first column crosses the serialiser (R89, R416). -/
structure GrantRun where
  n : Nat
  egressPs : Nat
  deriving DecidableEq, Repr


/-! ### Integrity and start-up (18_integrity.md, 19_startup.md) -/

/-- Straps sampled at the rising edge of RST_N (R546); true is high. -/
structure Straps where
  recovery : Bool
  xspiSafe : Bool
  test : Bool
  deriving DecidableEq, Repr

/-- What a strand returned in bring-up (R300): its index, the returned ENUMERATE counter (none: no echo), the loop
delay in ns, and the IDENT words of each driver that answered. -/
structure StrandResult where
  strand : Nat
  counter : Option Nat
  delay : Nat
  idents : List (List Nat)
  /-- ENUMERATEs sent while sweeping the sampling phase (step 3). -/
  sweeps : Nat
  /-- How many of the packets sent since the first ENUMERATE failed R303. -/
  fails : Nat
  deriving DecidableEq, Repr

/-- What a driver's channel did while it conducted (R309): its current sink lacked compliance, or its voltage stayed
above the short threshold. -/
structure LampVolt where
  ch : Nat
  lacked : Bool
  shorted : Bool
  deriving DecidableEq, Repr

/-! ### Memories (15_dram.md, 18_integrity.md) -/

/-- What a SECDED check of one word finds. -/
inductive EccKind where
  | none | corrected | uncorrectable
  deriving DecidableEq, Repr

/-- A data burst read by the patrol scrub: its channel, and what each of its words that was not whole showed, words
0 to 7 (R464 to R466). -/
structure EccEvent where
  ch : Nat
  words : List (Nat × EccKind)
  deriving DecidableEq, Repr

/-- Where a poisoned word lay: its byte address in the flat space that every client uses (R458, R465). -/
structure PoisonAt where
  addr : Nat
  deriving DecidableEq, Repr

/-- What of the reads of one wale's processing stops it (R465, R536, and the table of poisoned reads above R538). -/
inductive ReadFault where
  /-- Every word was whole or corrected. -/
  | sound
  /-- A poisoned word of the wale's data. -/
  | poisoned (a : PoisonAt)
  /-- A poisoned codec reference of block column `col`. -/
  | reference (a : PoisonAt) (col : Nat)
  /-- A poisoned correction record of a pixel of the wale, counted in the wale. -/
  | correction (a : PoisonAt) (px : Nat)
  /-- A word of a configuration store with an uncorrectable error, found now or waiting for its reload. -/
  | failing (store : Nat)
  deriving DecidableEq, Repr

/-- What the reads of one wale's processing met: a fault, the flat addresses of the words read with a single-bit error
(R464), and for each such word of a configuration store the store (R535). -/
structure WaleRead where
  fault : ReadFault
  corrected : List Nat := []
  fixed : List Nat := []
  deriving DecidableEq, Repr

/-- What the reads of a ledger fold met: the lamps whose accumulator was read with poison, and where; and the flat
addresses of the words read with a single-bit error (R464). -/
structure FoldReads where
  poisoned : List (Nat × PoisonAt) := []
  corrected : List Nat := []
  deriving DecidableEq, Repr

/-- Training of one channel (R450): the eye margins in 1/64 UI that steps 1 to 4 measure, and the count of the DQS interval
oscillator after step 4, at set points 0, 2 and 1, in that order. -/
structure TrainResult where
  margins : List (List Nat)
  counts : List Nat := []
  deriving DecidableEq, Repr

/-- Steps 3 and 4 repeated on a channel at the exit from self-refresh (R474): their margins in 1/64 UI, and the oscillator
count that follows. -/
structure RetrainResult where
  read : Nat
  write : Nat
  count : Nat
  deriving DecidableEq, Repr

/-- A bit error that the tile meets when it reads its journal: the block and record, the entry (none: the record's header),
and the bits of the value that read back wrong. -/
structure JournalError where
  block : Nat
  record : Nat
  entry : Option Nat
  mask : Nat
  deriving DecidableEq, Repr

/-- What a start step found.  `ok`: the step's own checks passed (self-check, flash part, step 6's equalisation table
readable).  `training` belongs to step 5; `ranges` (one mode-register-4 field per die), `counts` (the oscillator
count of each channel's exit epoch) and `retrain` (by channel) to step 5 of a Standby exit (R474); `calFail`: the copies of the calibration image, 0 or 1, whose flash it cannot read
(R269); `journal`: bit errors of the journal (R357). -/
structure StepResult where
  ok : Bool
  training : List TrainResult
  ranges : List Nat
  counts : List Nat
  retrain : List RetrainResult := []
  calFail : List Nat := []
  journal : List JournalError := []
  deriving DecidableEq, Repr

/-- A value that the device holds beside its complement (R526): those of the table's six rows, an overlay slot's by slot, and the
staging of the armed commit. -/
inductive Kept where
  | claim | mode | fraction
  | offset (j : Nat)
  | flipTime | fader | ceiling | headroom | tileCeiling | applyTime
  | overlay (k : Nat)
  | staging
  deriving DecidableEq, Repr

/-- Values that differ from their complements (R526): at a latch point, and from just after it until their next check. -/
structure Upsets where
  now : List Kept := []
  after : List Kept := []
  deriving DecidableEq, Repr

/-- What AVS_ADJUST meets: the least wale margin of the last millisecond in ns, and whether a Voltage write succeeds. -/
structure AvsStep where
  slack : Int
  written : Bool := true
  deriving DecidableEq, Repr

/-! ### The commands -/

/-- The commands of the block, in the order of the opcode table. -/
inductive Instr where
  /-- READ (R50): a READ request arrives -/
  | read (t : Time) (c : Carrier) (m : Msg)
  /-- WRITE (R30): a WRITE request arrives -/
  | write (t : Time) (c : Carrier) (m : Msg)
  /-- READ_BLOCK (R584): a READ_BLOCK request arrives -/
  | readBlock (t : Time) (c : Carrier) (m : Msg)
  /-- WRITE_BLOCK (R50): a WRITE_BLOCK request arrives -/
  | writeBlock (t : Time) (c : Carrier) (m : Msg)
  /-- BEGIN (R59): a BEGIN request arrives -/
  | begin (t : Time) (c : Carrier) (m : Msg)
  /-- COMMIT (R61): a COMMIT request with WALL clear arrives -/
  | commit (t : Time) (c : Carrier) (m : Msg)
  /-- WALL_COMMIT (R62): a COMMIT request with WALL set arrives -/
  | wallCommit (t : Time) (c : Carrier) (m : Msg)
  /-- ROLLBACK (R590): a ROLLBACK request arrives -/
  | rollback (t : Time) (c : Carrier) (m : Msg)
  /-- STATUS (R52): a STATUS request arrives -/
  | status (t : Time) (c : Carrier) (m : Msg)
  /-- NOTIFY_ACK (R586): a message with RESP set arrives -/
  | notifyAck (t : Time) (c : Carrier) (m : Msg)
  /-- SUBSCRIBE (R591): a SUBSCRIBE request arrives -/
  | subscribe (t : Time) (c : Carrier) (m : Msg)
  /-- AUTH_CHALLENGE (R53): an AUTH_CHALLENGE request arrives -/
  | authChallenge (t : Time) (c : Carrier) (m : Msg)
  /-- AUTH_RESPONSE (R53): an AUTH_RESPONSE request arrives -/
  | authResponse (t : Time) (c : Carrier) (m : Msg)
  /-- BROADCAST_WRITE (R68): a BROADCAST_WRITE request arrives -/
  | broadcastWrite (t : Time) (c : Carrier) (m : Msg)
  /-- PAIR_EXPIRED (R36): the 1 s limit of the pending half of `key` has passed -/
  | pairExpired (t : Time) (key : ObjKey)
  /-- TXN_TIMEOUT (R59): the timeout of transaction `txn` has passed -/
  | txnTimeout (t : Time) (txn : Nat)
  /-- SESSION_IDLE_TIMEOUT (R57): session `sid` has been idle too long -/
  | sessionIdleTimeout (t : Time) (sid : SessionId)
  /-- AUTH_RESPONSE_TIMEOUT (R53): 2 s have passed since the challenge answer of `sid` -/
  | authResponseTimeout (t : Time) (sid : SessionId)
  /-- AUTH_LOCKOUT_EXPIRY (R54): the 60 s lockout of a source ends -/
  | authLockoutExpiry (t : Time) (src : Carrier)
  /-- BLOB_STAGING_TIMEOUT (R50): a BLOB has been incomplete for 5 s -/
  | blobStagingTimeout (t : Time) (sid : SessionId) (key : ObjKey)
  /-- NOTIFY_RETRY_TIMEOUT (R74): 100 ms have passed without an acknowledgement -/
  | notifyRetryTimeout (t : Time) (sid : SessionId) (seq : Nat)
  /-- NOTIFY_INTERVAL_EXPIRY (R73): the minimum interval of a subscription ends -/
  | notifyIntervalExpiry (t : Time) (sid : SessionId) (key : ObjKey)
  /-- COMMIT_VALIDATION_END (R61): validation of `txn` ends -/
  | commitValidationEnd (t : Time) (txn : Nat)
  /-- WALL_COMMIT_APPLY_AT_W (R63): the instant W of the armed wall commit -/
  | wallCommitApplyAtW (t : Time)
  /-- RELAY_DATAGRAM (R40): a datagram to port 47821 with relay prefix `uid` -/
  | relayDatagram (t : Time) (src : Carrier) (uid : Nat) (m : Msg)
  /-- CTL_FROM_TILE (R40): a CTL packet with a tile's Pliuk message reaches a sender -/
  | ctlFromTile (t : Time) (port : PortId) (p : Packet)
  /-- SPI_MESSAGE_WRITE (R44): an SPI operation 0xA5 -/
  | spiMessageWrite (t : Time) (m : Msg)
  /-- SPI_MESSAGE_READ (R43): an SPI operation 0x5A -/
  | spiMessageRead (t : Time)
  /-- SPI_PORT_STATUS (R43): an SPI operation 0x5B -/
  | spiPortStatus (t : Time)
  /-- SPI_RESERVED_OPERATION (R43): an SPI assertion with a reserved first byte -/
  | spiReservedOperation (t : Time) (op : Nat)
  /-- SETTINGS_WRITE (R514): the settings write runs; it is cut short after `stopAfter` of its four steps (4: completes) -/
  | settingsWrite (t : Time) (stopAfter : Nat)
  /-- CTL_BROADCAST (R70): a relayed broadcast reaches a tile -/
  | ctlBroadcast (t : Time) (port : PortId) (p : Packet)
  /-- CTL_TO_TILE (R410): a CTL packet reaches a tile -/
  | ctlToTile (t : Time) (port : PortId) (p : Packet)
  /-- PTP_SYNC_RECEIVED (R79): a Sync on ingest port `port` -/
  | ptpSyncReceived (t : Time) (port : Nat) (m : PtpMsg)
  /-- PTP_FOLLOW_UP_RECEIVED (R79): a Follow_Up on ingest -/
  | ptpFollowUpReceived (t : Time) (port : Nat) (m : PtpMsg)
  /-- PTP_ANNOUNCE_RECEIVED (R592): an Announce on ingest -/
  | ptpAnnounceReceived (t : Time) (port : Nat) (m : PtpMsg)
  /-- PTP_DELAY_RESP_RECEIVED (R79): a Delay_Resp on ingest -/
  | ptpDelayRespReceived (t : Time) (port : Nat) (m : PtpMsg)
  /-- DELAY_REQ_SEND (R79): the Delay_Req interval ends; the request leaves at `egressPs` -/
  | delayReqSend (t : Time) (port : Nat) (egressPs : Nat)
  /-- ANNOUNCE_RECEIPT_TIMEOUT (R92): the Announces on a port have timed out -/
  | announceReceiptTimeout (t : Time) (port : Nat)
  /-- HOLDOVER_LIMIT_EXPIRY (R92): HOLDOVER_LIMIT has passed in Holdover -/
  | holdoverLimitExpiry (t : Time)
  /-- TIME_LOCKED (R90): the run of in-limit offsets is complete -/
  | timeLocked (t : Time)
  /-- SYNC_LOSS_TIMEOUT (R93): no valid Sync for 8 Sync intervals on either path -/
  | syncLossTimeout (t : Time)
  /-- TIME_SOURCE_SWITCH (R86): the active path has delivered no valid Sync for 8 intervals -/
  | timeSourceSwitch (t : Time)
  /-- WITHY_SYNC_SEND (R81): the Sync interval of a Withy port ends -/
  | withySyncSend (t : Time) (tx : SyncTx)
  /-- WITHY_ANNOUNCE_SEND (R82): the Announce interval of a Withy port ends -/
  | withyAnnounceSend (t : Time) (port : PortId)
  /-- PDELAY_REQ_SEND (R80): the Pdelay interval of a port ends -/
  | pdelayReqSend (t : Time) (port : PortId) (egressPs : Nat)
  /-- TIM_SYNC_RECEIVED (R84): a Sync arrives, and its forwarding crosses the serialiser at `egressPs` -/
  | timSyncReceived (t : Time) (port : PortId) (p : Packet) (ingressPs : Nat) (egressPs : Nat)
  /-- TIM_ANNOUNCE_RECEIVED (R82): a forwarded Announce arrives -/
  | timAnnounceReceived (t : Time) (port : PortId) (p : Packet)
  /-- PDELAY_REQ_RECEIVED (R411): a Pdelay_Req arrives, and the answer leaves at `egressPs` -/
  | pdelayReqReceived (t : Time) (port : PortId) (p : Packet) (ingressPs : Nat) (egressPs : Nat)
  /-- PDELAY_RESP_RECEIVED (R411): a Pdelay_Resp arrives -/
  | pdelayRespReceived (t : Time) (port : PortId) (p : Packet) (ingressPs : Nat)
  /-- PAIR_SYNC_RECEIVED (R83): a partner's Sync reaches a sender -/
  | pairSyncReceived (t : Time) (port : PortId) (p : Packet) (ingressPs : Nat)
  /-- PAIR_OFFSET_FAULT (R83): PAIR_TIME_OFFSET has been beyond its limit for 1 s -/
  | pairOffsetFault (t : Time)
  /-- DIR_CHECK_FAULT (R88): DIR_DIFF has exceeded its limit on 128 consecutive averages -/
  | dirCheckFault (t : Time)
  /-- TIME_BASE_CHECK (R519): the 125 µs check, with what it measured -/
  | timeBaseCheck (t : Time) (pllLocked : Bool) (ppm : Int)
  /-- CAPTURE_EDGE (R103): an edge at CAPn, after which the level lasts `width` ns -/
  | captureEdge (t : Time) (n : Nat) (rising : Bool) (width : Nat)
  /-- SHUTTER_OPEN_TIMEOUT (R104): one base frame has passed since an opening edge -/
  | shutterOpenTimeout (t : Time) (n : Nat)
  /-- CAP_FIFO_READ (R106): a READ_BLOCK of a CAPn_FIFO arrives -/
  | capFifoRead (t : Time) (c : Carrier) (m : Msg)
  /-- TRIG_MODE_WRITE (R107): a write of TRIGn_MODE -/
  | trigModeWrite (t : Time) (sid : SessionId) (n : Nat) (v : Nat)
  /-- TRIGGER_EDGE (R110): the programmed edge of TRIGn falls due -/
  | triggerEdge (t : Time) (n : Nat)
  /-- SENSE_CONVERSION_TRIGGER (R362): the 500 µs trigger, with the converted codes and the die temperature in 1/16 °C -/
  | senseConversionTrigger (t : Time) (codes : List SenseReading) (dieTemp : Int)
  /-- THERMAL_LOOP_TRIGGER (R374): the 100 ms trigger -/
  | thermalLoopTrigger (t : Time)
  /-- LATCH_POINT (R233): L of the coming boundary, with the values of R526 that differ from their complements at it and after it -/
  | latchPoint (t : Time) (upsets : Upsets)
  /-- FACET_BOUNDARY (R230): a facet boundary -/
  | facetBoundary (t : Time)
  /-- INGEST_RTP_PACKET (R126): a UDP packet arrives on an ingest port -/
  | ingestRtpPacket (t : Time) (port : Nat) (p : RtpPkt)
  /-- INGEST_ARP_REQUEST (R114): an ARP request arrives -/
  | ingestArpRequest (t : Time) (frame : IngestFrame) (target : Nat) (sender : Nat) (senderMac : Nat)
  /-- INGEST_ICMP_ECHO (R114): an ICMP echo request arrives -/
  | ingestIcmpEcho (t : Time) (frame : IngestFrame) (dst : Nat) (src : Nat) (data : Bytes)
  /-- FRAME_INCOMPLETE_TIMEOUT (R130): 20 ms have passed since the marker or a later time-stamp -/
  | frameIncompleteTimeout (t : Time) (slot : Nat)
  /-- LEG_LOSS_TIMEOUT (R128): a leg has delivered no packet for 10 ms -/
  | legLossTimeout (t : Time) (slot : Nat) (leg : Nat)
  /-- STILL_DATA_WRITE (R124): a chunk of STILLn_DATA -/
  | stillDataWrite (t : Time) (sid : SessionId) (n : Nat) (b : Chunk)
  /-- STILL_CAPTURE (R125): a write of STILLn_CAPTURE -/
  | stillCapture (t : Time) (sid : SessionId) (n : Nat) (v : Nat)
  /-- STILL_CAPTURE_INSTANT (R125): the capture time W -/
  | stillCaptureInstant (t : Time) (n : Nat)
  /-- STILL_CAPTURE_TIMEOUT (R125): W + 1 s -/
  | stillCaptureTimeout (t : Time) (n : Nat)
  /-- STILL_RELEASE (R163): a write of STILLn_RELEASE -/
  | stillRelease (t : Time) (sid : SessionId) (n : Nat) (v : Nat)
  /-- ENCODE_WALE (R198): composition has passed wale `wale` of the tile at distance `dist` to the encoder of `port`, with what its reads met -/
  | encodeWale (t : Time) (port : PortId) (dist : Nat) (wale : Nat) (met : WaleRead)
  /-- WALE_DEADLINE (R221): E_i of a wale -/
  | waleDeadline (t : Time) (port : PortId) (dist : Nat) (wale : Nat)
  /-- PIX_FRAGMENT_RECEIVED (R588): a PIX packet arrives; `canStart` says whether the egress can start it in time -/
  | pixFragmentReceived (t : Time) (port : PortId) (p : Packet) (canStart : Bool)
  /-- DECODE_WALE (R205): a path decodes a wale, at its last fragment or at the deadline, with what its reads met -/
  | decodeWale (t : Time) (path : Nat) (frame : Nat) (facet : Nat) (wale : Nat) (met : WaleRead)
  /-- PATH_SELECTION_CLOSE (R430): K_i − 15 µs -/
  | pathSelectionClose (t : Time) (wale : Nat)
  /-- LOSS_HOLD_EXPIRY (R240): LOSS_HOLD_FACETS lost facets in succession -/
  | lossHoldExpiry (t : Time)
  /-- PRISM_WALE_DONE (R246): a wale has passed Prism, with what its reads met -/
  | prismWaleDone (t : Time) (wale : Nat) (met : WaleRead)
  /-- WALE_LOAD (R222): a wale is loaded into the drivers -/
  | waleLoad (t : Time) (wale : Nat)
  /-- WALE_LOAD_DEADLINE (R224): K_i of a wale -/
  | waleLoadDeadline (t : Time) (wale : Nat)
  /-- FLP_SEND (R226): D + 20 µs or D + P/2 -/
  | flpSend (t : Time) (port : PortId) (second : Bool)
  /-- FLP_RECEIVED (R228): an FLP reaches a tile -/
  | flpReceived (t : Time) (port : PortId) (p : Packet)
  /-- TIMG_DATA_WRITE (R243): a chunk of TIMGi_DATA -/
  | timgDataWrite (t : Time) (sid : SessionId) (i : Nat) (b : Chunk)
  /-- TIMG_CLEAR (R244): a write of TIMGi_CLEAR -/
  | timgClear (t : Time) (sid : SessionId) (i : Nat) (v : Nat)
  /-- PRISM_CAL_IMAGE (R273): a chunk of PRISM_CAL_IMAGE; `readBackOk` is the read-back of the last one -/
  | prismCalImage (t : Time) (sid : SessionId) (b : Chunk) (readBackOk : Bool)
  /-- PRISM_CAL_ERASE (R274): a write of PRISM_CAL_ERASE -/
  | prismCalErase (t : Time) (sid : SessionId) (v : Nat)
  /-- CANVAS_DERIVATION_DONE (R266): the derivation of R266 completes -/
  | canvasDerivationDone (t : Time)
  /-- LDL_BRINGUP_DONE (R302): bring-up ends, with what each strand returned -/
  | ldlBringupDone (t : Time) (results : List StrandResult)
  /-- SRET_ECHO (R303): a packet returns on SRET -/
  | sretEcho (t : Time) (strand : Nat) (words : List Nat)
  /-- ECHO_TIMEOUT (R303): 2 µs after the last word -/
  | echoTimeout (t : Time) (strand : Nat)
  /-- BROKEN_PROBE (R304): the 1 s probe of a Broken strand, and the words that came back, if any -/
  | brokenProbe (t : Time) (strand : Nat) (back : Option (List Nat))
  /-- DIAG_READ (R312): DIAG_READ_PERIOD ends -/
  | diagRead (t : Time)
  /-- LAMP_VERIFY_EXPIRY (R314): a lamp's verification becomes too old -/
  | lampVerifyExpiry (t : Time) (lamp : Nat)
  /-- LAMP_CLEAR (R314): a write of LAMP_CLEAR -/
  | lampClear (t : Time) (sid : SessionId) (v : Nat)
  /-- WRITE_ROW (R286): a WRITE_ROW packet reaches the driver at `pos` of a strand -/
  | writeRow (t : Time) (strand : Nat) (pos : Nat) (p : LdlPkt)
  /-- SET_PLAN (R308): a SET_PLAN packet reaches a driver -/
  | setPlan (t : Time) (strand : Nat) (pos : Nat) (p : LdlPkt)
  /-- FLIP (R291): a FLIP packet reaches a driver -/
  | flip (t : Time) (strand : Nat) (pos : Nat) (p : LdlPkt)
  /-- SET_RANGE (R298): a SET_RANGE packet reaches a driver -/
  | setRange (t : Time) (strand : Nat) (pos : Nat) (p : LdlPkt)
  /-- BLANK (R308): a BLANK packet with B = 1 reaches a driver -/
  | blank (t : Time) (strand : Nat) (pos : Nat) (p : LdlPkt)
  /-- UNBLANK (R308): a BLANK packet with B = 0 reaches a driver -/
  | unblank (t : Time) (strand : Nat) (pos : Nat) (p : LdlPkt)
  /-- TEST (R310): a TEST packet reaches a driver -/
  | test (t : Time) (strand : Nat) (pos : Nat) (p : LdlPkt)
  /-- READ_DIAG_ROW_FLAGS (R309): a READ_DIAG of item ROW_FLAGS reaches a driver -/
  | readDiagRowFlags (t : Time) (strand : Nat) (pos : Nat) (p : LdlPkt)
  /-- READ_DIAG_STATUS (R311): a READ_DIAG of item STATUS reaches a driver -/
  | readDiagStatus (t : Time) (strand : Nat) (pos : Nat) (p : LdlPkt)
  /-- READ_DIAG_IDENT (R311): a READ_DIAG of item IDENT reaches a driver -/
  | readDiagIdent (t : Time) (strand : Nat) (pos : Nat) (p : LdlPkt)
  /-- READ_DIAG_RESERVED (R311): a READ_DIAG of a reserved item reaches a driver -/
  | readDiagReserved (t : Time) (strand : Nat) (pos : Nat) (p : LdlPkt)
  /-- ENUMERATE (R301): an ENUMERATE packet reaches a driver -/
  | enumerate (t : Time) (strand : Nat) (pos : Nat) (p : LdlPkt)
  /-- LDL_RESERVED_OPCODE (R282): a packet with a reserved opcode or address reaches a driver -/
  | ldlReservedOpcode (t : Time) (strand : Nat) (pos : Nat) (p : LdlPkt)
  /-- GCLK_MARK (R289): a mark reaches a driver -/
  | gclkMark (t : Time) (strand : Nat) (pos : Nat)
  /-- BANK_EXCHANGE (R287): the count N_FC after a mark -/
  | bankExchange (t : Time) (strand : Nat) (pos : Nat)
  /-- LIT_INTERVAL_END (R309): the lit interval of `row` in segment period `seg` ends, with the channel readings -/
  | litIntervalEnd (t : Time) (strand : Nat) (pos : Nat) (row : Nat) (seg : Nat) (volts : List LampVolt)
  /-- TEST_PULSE (R310): an armed test pulse runs, with the channel readings -/
  | testPulse (t : Time) (strand : Nat) (pos : Nat) (volts : List LampVolt)
  /-- OVL_LOAD (R329): an OVL_COMMAND whose CMD is LOAD, the other 103 bytes in `body` -/
  | ovlLoad (t : Time) (sid : SessionId) (body : Bytes)
  /-- OVL_ACTIVATE (R329): an OVL_COMMAND whose CMD is ACTIVATE -/
  | ovlActivate (t : Time) (sid : SessionId) (body : Bytes)
  /-- OVL_DEACTIVATE (R329): an OVL_COMMAND whose CMD is DEACTIVATE -/
  | ovlDeactivate (t : Time) (sid : SessionId) (body : Bytes)
  /-- OVL_CLEAR (R329): an OVL_COMMAND whose CMD is CLEAR -/
  | ovlClear (t : Time) (sid : SessionId) (body : Bytes)
  /-- OVL_DEACTIVATE_ALL (R329): an OVL_COMMAND whose CMD is DEACTIVATE_ALL -/
  | ovlDeactivateAll (t : Time) (sid : SessionId) (body : Bytes)
  /-- OVL_RESERVED_CMD (R326): an OVL_COMMAND whose CMD is reserved -/
  | ovlReservedCmd (t : Time) (sid : SessionId) (cmd : Nat) (body : Bytes)
  /-- OVL_DATA_WRITE (R324): a chunk of OVLk_DATA -/
  | ovlDataWrite (t : Time) (sid : SessionId) (k : Nat) (b : Chunk)
  /-- LEDGER_FOLD (R340): a whole PTP second, with what the reads of the accumulators met -/
  | ledgerFold (t : Time) (reads : FoldReads)
  /-- CHECKPOINT_COMPLETE (R352): the records of a checkpoint have been written and read back; `failing` are blocks whose erase, program or read-back fails from now on, each with the number of records it takes before -/
  | checkpointComplete (t : Time) (failing : List (Nat × Nat))
  /-- LEDG_CHECKPOINT_NOW (R355): a write of LEDG_CHECKPOINT_NOW -/
  | ledgCheckpointNow (t : Time) (sid : SessionId) (v : Nat)
  /-- LEDG_FORMAT (R359): a write of LEDG_FORMAT -/
  | ledgFormat (t : Time) (sid : SessionId) (v : Nat)
  /-- LEDG_LAMP_RESET (R359): a write of LEDG_LAMP_RESET -/
  | ledgLampReset (t : Time) (sid : SessionId) (v : Nat)
  /-- LEDG_TILE_CEILING_RESET (R359): a write of LEDG_TILE_CEILING_RESET -/
  | ledgTileCeilingReset (t : Time) (sid : SessionId) (v : Nat)
  /-- CEILING_REQUEST_RESEND (R348): 10 s since the last request -/
  | ceilingRequestResend (t : Time)
  /-- CTL_CEILING_REQUEST (R349): a tile's ceiling request reaches a sender -/
  | ctlCeilingRequest (t : Time) (port : PortId) (p : Packet)
  /-- CEILING_REQUEST_EXPIRY (R349): 30 s since a tile's last request -/
  | ceilingRequestExpiry (t : Time) (uid : Nat)
  /-- SENSE_CAL_STEP_END (R369): a calibration step ends, with what it measured -/
  | senseCalStepEnd (t : Time) (m : CalMeasure)
  /-- SNS_CAL_START (R372): a write of SNS_CAL_START -/
  | snsCalStart (t : Time) (sid : SessionId) (v : Nat)
  /-- SENSE_START_CAL_DONE (R373): the start calibration ends, with the measurements of converters 0 to 8 -/
  | senseStartCalDone (t : Time) (results : List CalMeasure)
  /-- THERMAL_INPUT_FAIL_TIMEOUT (R375): 10 s with every input of a slot absent -/
  | thermalInputFailTimeout (t : Time) (slot : Nat)
  /-- PD_DARK_CAPTURE (R380): a write of 1 to SNSi_PD_CAPTURE -/
  | pdDarkCapture (t : Time) (sid : SessionId) (i : Nat)
  /-- PD_BASELINE_CAPTURE (R380): a write of 2 to SNSi_PD_CAPTURE -/
  | pdBaselineCapture (t : Time) (sid : SessionId) (i : Nat)
  /-- PD_DARK_CAPTURE_DONE (R380): the 1 s dark measurement ends -/
  | pdDarkCaptureDone (t : Time) (i : Nat)
  /-- LANE_LOCK_GAINED (R387): a lane gains block lock, with what its ALIGN columns show -/
  | laneLockGained (t : Time) (port : PortId) (lane : Nat) (align : LaneAlign)
  /-- LANE_LOCK_LOST (R387): a lane loses block lock, inside the given packet if one is in progress -/
  | laneLockLost (t : Time) (link : PortErrors) (lane : Nat) (midPacket : Option Packet)
  /-- HELLO_RECEIVED (R396): a hello packet arrives -/
  | helloReceived (t : Time) (port : PortId) (p : Packet)
  /-- HELLO_SEND (R395): the 100 µs hello interval ends -/
  | helloSend (t : Time) (port : PortId)
  /-- STEP_LOCK_TIMEOUT (R397): 2 ms since a rate switch -/
  | stepLockTimeout (t : Time) (port : PortId)
  /-- STEP_VERIFY_END (R396): the 1 ms verification ends -/
  | stepVerifyEnd (t : Time) (link : PortErrors)
  /-- CHK_PATTERN_RECEIVED (R396): a CHK pattern packet arrives -/
  | chkPatternReceived (t : Time) (port : PortId) (p : Packet)
  /-- HELLO_TIMEOUT (R398): 10 ms without a valid hello -/
  | helloTimeout (t : Time) (port : PortId)
  /-- ATTEMPT_BACKOFF_EXPIRY (R398): the back-off ends -/
  | attemptBackoffExpiry (t : Time) (port : PortId)
  /-- DARK_BEACON (R399): the beacon of a Dark port starts or ends -/
  | darkBeacon (t : Time) (port : PortId) (start : Bool)
  /-- WITHY_RETRAIN (R399): a write of WITHYh_RETRAIN -/
  | withyRetrain (t : Time) (sid : SessionId) (h : PortId) (v : Nat)
  /-- WITHY_ENABLE (R399): a write of WITHYh_ENABLE -/
  | withyEnable (t : Time) (sid : SessionId) (h : PortId) (v : Nat)
  /-- STEP_UP_RETRY (R402): WITHYh_RETRY_UP has passed -/
  | stepUpRetry (t : Time) (port : PortId)
  /-- EQ_TABLE_WRITE (R393): a chunk of EQ_TABLE -/
  | eqTableWrite (t : Time) (sid : SessionId) (b : Chunk)
  /-- SLACK_COLUMN_RECEIVED (R390): a SLACK column arrives while the forwarding FIFO holds `depth` columns -/
  | slackColumnReceived (t : Time) (port : PortId) (depth : Nat)
  /-- SLACK_SEND (R388): 2,047 other columns have been sent -/
  | slackSend (t : Time) (port : PortId)
  /-- ALIGN_SEND (R387): the ALIGN cadence falls due -/
  | alignSend (t : Time) (port : PortId)
  /-- GRANT_RUN_OPEN (R416): 8,192 columns since the last grant run -/
  | grantRunOpen (t : Time) (tx : SyncTx)
  /-- GRANT_RECEIVED (R416): a GRANT column with N = `n` arrives -/
  | grantReceived (t : Time) (port : PortId) (run : GrantRun)
  /-- GRANT_TIMEOUT (R417): 1 ms without a GRANT on `port` -/
  | grantTimeout (t : Time) (port : PortId)
  /-- CHK_SEND (R413): 1 ms since the last CHK -/
  | chkSend (t : Time) (link : PortErrors)
  /-- CHK_RECEIVED (R413): a CHK packet arrives -/
  | chkReceived (t : Time) (port : PortId) (p : Packet)
  /-- UNKNOWN_CLASS_PACKET (R406): a packet of a reserved class arrives -/
  | unknownClassPacket (t : Time) (port : PortId) (p : Packet)
  /-- ENUM_SEND (R420): 100 ms since the last ENUM -/
  | enumSend (t : Time) (port : PortId)
  /-- ENUM_RECEIVED (R420): an ENUM reaches a tile -/
  | enumReceived (t : Time) (port : PortId) (p : Packet)
  /-- ENUM_RECEIVED_SENDER (R424): an ENUM reaches a sender -/
  | enumReceivedSender (t : Time) (port : PortId) (p : Packet)
  /-- HOOP_OPEN_TIMEOUT (R424): 300 ms without a partner ENUM -/
  | hoopOpenTimeout (t : Time) (port : PortId)
  /-- ENUM_PORT_TIMEOUT (R423): 300 ms without an ENUM on a tile port -/
  | enumPortTimeout (t : Time) (port : PortId)
  /-- PARTNER_FLP_RECEIVED (R428): a partner's FLP reaches a sender -/
  | partnerFlpReceived (t : Time) (port : PortId) (p : Packet)
  /-- PAIR_TAKEOVER (R434): a write of PAIR_TAKEOVER -/
  | pairTakeover (t : Time) (sid : SessionId) (v : Nat)
  /-- PARTNER_SILENT_TIMEOUT (R433): 8 Sync intervals without a partner Sync on closed ports -/
  | partnerSilentTimeout (t : Time)
  /-- PARTNER_FREERUN_TIMEOUT (R433): the partner has announced clockClass 248 for 1 s -/
  | partnerFreerunTimeout (t : Time)
  /-- PAIR_JOIN_WAIT_EXPIRY (R439): PAIR_JOIN_WAIT has passed with no partner claim -/
  | pairJoinWaitExpiry (t : Time)
  /-- PAIR_STATE_CONFIRM (R440): a write of PAIR_STATE_CONFIRM -/
  | pairStateConfirm (t : Time) (sid : SessionId) (v : Nat)
  /-- RETRAIN_EPOCH (R454): a retraining epoch with the oscillator count it read -/
  | retrainEpoch (t : Time) (ch : Nat) (count : Nat)
  /-- MR4_READ (R468): a die's refresh-rate field is read -/
  | mr4Read (t : Time) (die : Nat) (range : Nat)
  /-- SETPOINT_CHANGE (R457): a set-point change is due -/
  | setpointChange (t : Time) (target : Nat) (urgent : Bool)
  /-- PER_BANK_REFRESH (R467): a bank's refresh falls due and is issued or postponed -/
  | perBankRefresh (t : Time) (ch : Nat) (bank : Nat) (issued : Bool)
  /-- PATROL_SCRUB (R466): the patrol scrub reads a data burst -/
  | patrolScrub (t : Time) (e : EccEvent)
  /-- SELF_REFRESH_ENTRY (R472): epochs have ended and debts are paid -/
  | selfRefreshEntry (t : Time)
  /-- CU_CLAIM (R481): a write of CUn_CLAIM -/
  | cuClaim (t : Time) (sid : SessionId) (n : Nat) (v : Nat)
  /-- CU_ALGORITHM (R479): a write of CUn_ALGORITHM -/
  | cuAlgorithm (t : Time) (sid : SessionId) (n : Nat) (v : Nat)
  /-- CU_INIT (R479): a write of CUn_INIT -/
  | cuInit (t : Time) (sid : SessionId) (n : Nat) (v : Nat)
  /-- CU_FEED8 (R477): a write of CUn_FEED8 -/
  | cuFeed8 (t : Time) (sid : SessionId) (n : Nat) (v : Nat)
  /-- CU_FEED16 (R477): a write of CUn_FEED16 -/
  | cuFeed16 (t : Time) (sid : SessionId) (n : Nat) (v : Nat)
  /-- CU_FEED32 (R477): a write of CUn_FEED32 -/
  | cuFeed32 (t : Time) (sid : SessionId) (n : Nat) (v : Nat)
  /-- CU_FEED64 (R477): a write of CUn_FEED64 -/
  | cuFeed64 (t : Time) (sid : SessionId) (n : Nat) (v : Nat)
  /-- CU_STATE (R480): a write of CUn_STATE -/
  | cuState (t : Time) (sid : SessionId) (n : Nat) (v : Nat)
  /-- UPD_IMAGE (R493): a chunk of UPD_IMAGE -/
  | updImage (t : Time) (sid : SessionId) (b : Chunk)
  /-- UPD_VERIFY_DONE (R496): read-back verification ends -/
  | updVerifyDone (t : Time) (readBackOk : Bool)
  /-- UPD_CHUNK_TIMEOUT (R494): 60 s without a chunk -/
  | updChunkTimeout (t : Time)
  /-- UPD_ACTIVATE (R501): a write of UPD_ACTIVATE -/
  | updActivate (t : Time) (sid : SessionId) (v : Nat)
  /-- UPD_PREPARATION_DONE (R503): preparation ends -/
  | updPreparationDone (t : Time)
  /-- UPD_TRIAL_ENTRY (R506): the directory and the trial boot record have been written -/
  | updTrialEntry (t : Time)
  /-- UPD_CONFIRM (R510): a write of UPD_CONFIRM -/
  | updConfirm (t : Time) (sid : SessionId) (v : Nat)
  /-- UPD_ABORT (R511): a write of UPD_ABORT -/
  | updAbort (t : Time) (sid : SessionId) (v : Nat)
  /-- UPD_TRIAL_EXPIRY (R511): the first boundary after TRIAL_END -/
  | updTrialExpiry (t : Time)
  /-- FLOG_PERSIST_WRITE (R523): the persistent log is written -/
  | flogPersistWrite (t : Time)
  /-- FLOG_CLEAR (R525): a write of FLOG_CLEAR -/
  | flogClear (t : Time) (sid : SessionId) (v : Nat)
  /-- STAGE_STALL (R531): a stage watchdog fires -/
  | stageStall (t : Time) (stage : Nat) (port : PortId) (dist : Nat) (wale : Nat)
  /-- LOCKSTEP_DIVERGENCE (R537): a lockstep compare differs, or a poisoned word of firmware or control data was read -/
  | lockstepDivergence (t : Time) (poisoned : Option PoisonAt)
  /-- CONTROL_RESTART_DONE (R537): the control restart ends -/
  | controlRestartDone (t : Time)
  /-- CONTROL_RESTART_TIMEOUT (R538): 300 ms since the restart began -/
  | controlRestartTimeout (t : Time)
  /-- AVS_ADJUST (R533): the 1 ms adjustment, with PACE_RATE, the least wale margin of the last millisecond and the outcome of a Voltage write -/
  | avsAdjust (t : Time) (rate : Nat) (x : AvsStep)
  /-- AVS_READ (R534): the 10 ms read: voltage in mV and current in 10 mA, or a failed transaction -/
  | avsRead (t : Time) (answer : Option (Nat × Nat))
  /-- CONFIG_SCRUB (R535): the scrub reads a word of a configuration store -/
  | configScrub (t : Time) (store : Nat) (e : EccKind)
  /-- CONFIG_RELOAD_DONE (R535): a configuration store has been reloaded -/
  | configReloadDone (t : Time) (store : Nat)
  /-- INTEG_CLEAR_SAFE (R541): a write of INTEG_CLEAR_SAFE; in the self-test of R542 `stalled` wales stalled, and `crcOk` says whether every CRC was right -/
  | integClearSafe (t : Time) (sid : SessionId) (v : Nat) (stalled : Nat) (crcOk : Bool)
  /-- OTP_SAFETY_KEY (R543): a write of OTP_SAFETY_KEY -/
  | otpSafetyKey (t : Time) (sid : SessionId) (key : Bytes)
  /-- OTP_KEY_REVOKE (R544): a write of OTP_KEY_REVOKE -/
  | otpKeyRevoke (t : Time) (sid : SessionId) (v : Nat)
  /-- RESET_RELEASE (R545): RST_N rises -/
  | resetRelease (t : Time) (straps : Straps)
  /-- RESET_ASSERT (R545): RST_N is low for `width` ns -/
  | resetAssert (t : Time) (width : Nat)
  /-- START_STEP_COMPLETE (R548): the present start step ends -/
  | startStepComplete (t : Time) (r : StepResult)
  /-- MODE_COMMIT_TIMEOUT (R548): 1 s in step 8 on a tile -/
  | modeCommitTimeout (t : Time)
  /-- STANDBY_REQUEST (R556): STBY_REQ_N has been low for 1 ms -/
  | standbyRequest (t : Time)
  /-- STANDBY_EXIT_REQUEST (R558): STBY_REQ_N has been high for 1 ms -/
  | standbyExitRequest (t : Time)
  /-- OFF_REQUEST (R559): OFF_REQ_N has been low for 1 ms -/
  | offRequest (t : Time)
  /-- OFF_READY (R559): no flash write is in progress -/
  | offReady (t : Time)
  /-- POWER_LOSS (R517): power is removed -/
  | powerLoss (t : Time)
  /-- DRIVER_POWER_ON (R308): a column driver powers on -/
  | driverPowerOn (t : Time) (strand : Nat) (pos : Nat)
  /-- SLACK_INSERT (R390): an egress column time of a tile comes, with what its forwarding FIFO holds -/
  | slackInsert (t : Time) (slot : FifoSlot)
  /-- BLOCK_ERROR (R386): a column arrives; an error where it has a reserved type or mixes column types -/
  | blockError (t : Time) (place : BlockPlace)
  /-- INGEST_LINK_CHANGE (R113): an ingest link comes up or goes down -/
  | ingestLinkChange (t : Time) (port : Nat) (up : Bool)
  /-- MGMT_LINK_CHANGE (R382): the management link comes up or goes down -/
  | mgmtLinkChange (t : Time) (up : Bool)
  /-- IGMP_MEMBERSHIP_REPORT (R113): membership reports fall due -/
  | igmpMembershipReport (t : Time) (port : Nat)
  /-- BROADCAST_APPLY_AT_W (R69): the instant W of a pending broadcast -/
  | broadcastApplyAtW (t : Time)
  /-- UPD_ACTIVATION_INSTANT (R504): the activation instant with no mode in force -/
  | updActivationInstant (t : Time)
  deriving DecidableEq, Repr

end Sys2Proof
end

