-- ==== Sys2Proof/Decode.lean ====
section
/-!
DEFINITION. Sys2Proof/Decode.lean: the command a word spells.  The opcode table gives no row any bits, so no word spells a
command.
-/
namespace Sys2Proof

/-- The command whose bits, as the opcode table numbers them, are `w`: the table numbers none. -/
def decodeTableWord (_nbits _w : Nat) : Option Instr := none

end Sys2Proof
end

