-- ==== Sys2Proof/Machine/Bytes.lean ====
section
/-!
DEFINITION. Sys2Proof/Machine/Bytes.lean: byte strings in network byte order (R4), bit fields, and rounding division.
-/
namespace Sys2Proof.Machine

/-- The low `n` bytes of `v`, most significant first (R4). -/
def be : Nat → Nat → Bytes
  | 0, _ => []
  | n + 1, v => BitVec.ofNat 8 (v >>> (8 * n)) :: be n v

/-- The number a byte string spells, most significant byte first (R4). -/
def beVal : Bytes → Nat
  | [] => 0
  | b :: bs => b.toNat * 2 ^ (8 * bs.length) + beVal bs

/-- `n` bytes at offset `off`. -/
def slice (off n : Nat) (bs : Bytes) : Bytes := (bs.drop off).take n

/-- The unsigned field of `n` bytes at offset `off`. -/
def fieldAt (off n : Nat) (bs : Bytes) : Nat := beVal (slice off n bs)

/-- `n` zero bytes. -/
def zeros (n : Nat) : Bytes := List.replicate n 0

/-- A byte string padded with zero bytes to a multiple of 4 (R50). -/
def pad4 (bs : Bytes) : Bytes := bs ++ zeros ((4 - bs.length % 4) % 4)

/-- Every byte zero? -/
def allZero (bs : Bytes) : Bool := bs.all (· == 0)

/-- Every byte complemented. -/
def complement (bs : Bytes) : Bytes := bs.map (fun b => ~~~b)

/-- Bits `lo + n - 1` to `lo` of a number. -/
def bits (lo n v : Nat) : Nat := (v >>> lo) % 2 ^ n

/-- Is bit `i` set? -/
def bit (i v : Nat) : Bool := v.testBit i

/-- A number with bit `i` set to `b`. -/
def setBit (i : Nat) (b : Bool) (v : Nat) : Nat :=
  if b then v ||| 2 ^ i else if v.testBit i then v - 2 ^ i else v

/-- Number of set bits below position `n`. -/
def popCount (n v : Nat) : Nat := ((List.range n).filter (fun i => v.testBit i)).length

/-- A number of 0 or 1 from a Bool. -/
def b2n (b : Bool) : Nat := if b then 1 else 0

/-- Division rounded up. -/
def ceilDiv (a b : Nat) : Nat := (a + b - 1) / b

/-- Integer clamped to a closed interval. -/
def clampI (lo hi x : Int) : Int := if x < lo then lo else if hi < x then hi else x

/-- Natural number clamped to a closed interval. -/
def clampN (lo hi x : Nat) : Nat := if x < lo then lo else if hi < x then hi else x

/-- One more, stopping at the largest value of `w` bits (objects marked saturating). -/
def satInc (w v : Nat) : Nat := if v + 1 < 2 ^ w then v + 1 else 2 ^ w - 1

/-- A sum stopping at the largest value of `w` bits. -/
def satAdd (w v n : Nat) : Nat := if v + n < 2 ^ w then v + n else 2 ^ w - 1

/-- The element at `i` replaced; the list unchanged where `i` is outside it. -/
def upd {α : Type} (i : Nat) (f : α → α) : List α → List α
  | [] => []
  | a :: as =>
    match i with
    | 0 => f a :: as
    | j + 1 => a :: upd j f as

/-- The first difference with 48-bit wall nanoseconds: `a − b` taken signed modulo 2^48. -/
def wallDiff (a b : Nat) : Int :=
  let m : Int := ((a : Int) - (b : Int)) % ((2 ^ 48 : Nat) : Int)
  if m < ((2 ^ 47 : Nat) : Int) then m else m - ((2 ^ 48 : Nat) : Int)

/-- The absolute instant nearest to `now` whose wall nanoseconds are `w`. -/
def wallToAbs (now w : Nat) : Nat := ((now : Int) + wallDiff w (now % 2 ^ 48)).toNat

/-- Insertion into an ascending list by a key, for small worklists that the spec orders. -/
def insertBy {α : Type} (key : α → Nat) (a : α) : List α → List α
  | [] => [a]
  | b :: bs => if key a < key b then a :: b :: bs else b :: insertBy key a bs

/-- A list in ascending order of a key; elements with equal keys keep their order. -/
def sortBy {α : Type} (key : α → Nat) (l : List α) : List α := l.foldl (fun acc a => insertBy key a acc) []

/-- Insertion into an ascending list of integers. -/
def insertInt (a : Int) : List Int → List Int
  | [] => [a]
  | b :: bs => if a < b then a :: b :: bs else b :: insertInt a bs

/-- Integers in ascending order. -/
def sortInt (l : List Int) : List Int := l.foldl (fun acc a => insertInt a acc) []

end Sys2Proof.Machine
end

