-- ==== Sys2Proof/Machine/Sha.lean ====
section
/-!
DEFINITION. Sys2Proof/Machine/Sha.lean: SHA-256, HMAC-SHA-256 and SHA-384, which R53, R325 and R490 name without
giving.  PRESUMED (log entry 4): the published standards FIPS 180-4 and FIPS 198-1.
-/
namespace Sys2Proof.Machine

/-- The parameters in which SHA-256 and SHA-384 differ: word width, rounds, round constants, rotation counts. -/
structure ShaAlg where
  w : Nat
  k : List Nat
  s0 : Nat × Nat × Nat
  s1 : Nat × Nat × Nat
  e0 : Nat × Nat × Nat
  e1 : Nat × Nat × Nat
  h : List Nat
  out : Nat
  deriving DecidableEq, Repr

/-! The constants of both algorithms are fractional parts of roots of the first primes, as FIPS 180-4 defines them. -/

/-- The `e`-th root of `n`, rounded down: bits of it below `2 ^ b`, highest first, over those found. -/
def rootFloor (e n : Nat) : Nat → Nat → Nat
  | 0, r => r
  | b + 1, r => rootFloor e n b (if (r + 2 ^ b) ^ e ≤ n then r + 2 ^ b else r)

/-- The first `bits` bits of the fractional part of the `e`-th root of a prime below 512. -/
def rootFraction (e bits p : Nat) : Nat := rootFloor e (p * 2 ^ (e * bits)) (bits + 5) 0 % 2 ^ bits

/-- The first 80 primes: the numbers from 2 to 409 that no smaller prime up to 19 divides. -/
def firstPrimes : List Nat :=
  ((List.range 410).drop 2).filter (fun n => [2, 3, 5, 7, 11, 13, 17, 19].all (fun q => n == q || n % q != 0))

/-- SHA-256: 32 bits of the cube roots of 64 primes, and of the square roots of 8. -/
def sha256Alg : ShaAlg :=
  { w := 32, s0 := (7, 18, 3), s1 := (17, 19, 10), e0 := (2, 13, 22), e1 := (6, 11, 25), out := 8
    h := (firstPrimes.take 8).map (rootFraction 2 32), k := (firstPrimes.take 64).map (rootFraction 3 32) }

/-- SHA-384: 64 bits of the cube roots of 80 primes, and of the square roots of the ninth to the sixteenth. -/
def sha384Alg : ShaAlg :=
  { w := 64, s0 := (1, 8, 7), s1 := (19, 61, 6), e0 := (28, 34, 39), e1 := (14, 18, 41), out := 6
    h := ((firstPrimes.drop 8).take 8).map (rootFraction 2 64), k := firstPrimes.map (rootFraction 3 64) }

/-- Rotation right in the algorithm's word. -/
def ShaAlg.rotr (a : ShaAlg) (n x : Nat) : Nat := (x >>> n) ||| ((x <<< (a.w - n)) % 2 ^ a.w)

/-- Exclusive or of two rotations and a shift: the message-schedule functions. -/
def ShaAlg.small (a : ShaAlg) (r : Nat × Nat × Nat) (x : Nat) : Nat :=
  a.rotr r.1 x ^^^ a.rotr r.2.1 x ^^^ (x >>> r.2.2)

/-- Exclusive or of three rotations: the round functions. -/
def ShaAlg.big (a : ShaAlg) (r : Nat × Nat × Nat) (x : Nat) : Nat :=
  a.rotr r.1 x ^^^ a.rotr r.2.1 x ^^^ a.rotr r.2.2 x

/-- The next schedule word from the last 16, newest first. -/
def ShaAlg.nextW (a : ShaAlg) (ws : List Nat) : Nat :=
  (a.small a.s1 (ws.getD 1 0) + ws.getD 6 0 + a.small a.s0 (ws.getD 14 0) + ws.getD 15 0) % 2 ^ a.w

/-- One round on the eight working variables. -/
def ShaAlg.round (a : ShaAlg) (v : List Nat) (k w : Nat) : List Nat :=
  match v with
  | [va, vb, vc, vd, ve, vf, vg, vh] =>
    let ch := (ve &&& vf) ^^^ ((2 ^ a.w - 1 - ve) &&& vg)
    let t1 := vh + a.big a.e1 ve + ch + k + w
    let maj := (va &&& vb) ^^^ (va &&& vc) ^^^ (vb &&& vc)
    [(t1 + a.big a.e0 va + maj) % 2 ^ a.w, va, vb, vc, (vd + t1) % 2 ^ a.w, ve, vf, vg]
  | _ => v

/-- All rounds: the schedule is kept as a window of 16 words, newest first, oldest used first. -/
def ShaAlg.rounds (a : ShaAlg) : List Nat → List Nat → List Nat → List Nat
  | [], _, v => v
  | k :: ks, win, v => a.rounds ks ((a.nextW win :: win).take 16) (a.round v k (win.getD 15 0))

/-- The words of a block. -/
def ShaAlg.words (a : ShaAlg) : Nat → Bytes → List Nat
  | 0, _ => []
  | n + 1, bs => beVal (bs.take (a.w / 8)) :: a.words n (bs.drop (a.w / 8))

/-- Compression of `n` blocks. -/
def ShaAlg.blocks (a : ShaAlg) : Nat → Bytes → List Nat → List Nat
  | 0, _, h => h
  | n + 1, bs, h =>
    let v := a.rounds a.k (a.words 16 bs).reverse h
    a.blocks n (bs.drop (2 * a.w)) (List.zipWith (fun x y => (x + y) % 2 ^ a.w) h v)

/-- The padded message. -/
def ShaAlg.padded (a : ShaAlg) (bs : Bytes) : Bytes :=
  let blk := 2 * a.w
  let lenB := a.w / 4
  let z := (blk - (bs.length + 1 + lenB) % blk) % blk
  bs ++ [0x80] ++ zeros z ++ be lenB (8 * bs.length)

/-- The digest. -/
def ShaAlg.digest (a : ShaAlg) (bs : Bytes) : Bytes :=
  let p := a.padded bs
  ((a.blocks (p.length / (2 * a.w)) p a.h).take a.out).flatMap (be (a.w / 8))

/-- HMAC-SHA-256 of R53 and R325. -/
def hmacSha256 (key msg : Bytes) : Bytes :=
  let k0 := if key.length > 64 then sha256Alg.digest key else key
  let k := k0 ++ zeros (64 - k0.length)
  let o := k.map (fun b => b ^^^ 0x5c)
  let i := k.map (fun b => b ^^^ 0x36)
  sha256Alg.digest (o ++ sha256Alg.digest (i ++ msg))

end Sys2Proof.Machine
end

