-- ==== Sys2Proof/Config.lean ====
section
/-!
DEFINITION. Sys2Proof/Config.lean: what an implementation fixes and the spec leaves open.  Every constant here is
opaque: nothing in Lean can evaluate it or prove a value of it, so a statement about the device holds whatever it is.
-/
namespace Sys2Proof.Config

/-- The n-th value the device draws where the spec leaves a value open: random session identifiers and nonces (R53),
and results the spec does not state.  The state counts the draws (`Dev.free`). -/
opaque freeValue : Nat → Nat

/-- Does an ECDSA P-384 signature verify under the update key with this index (R491)?  Arguments: key index, digest,
signature.  The public keys are on the die and not in the spec. -/
opaque ecdsaVerify : Nat → Bytes → Bytes → Bool

/-- Bytes of the TAB part behind `COMP_CONV_TABLES`, `COMP_SCALER_COEF` and `PRISM_CANVAS_TO_XYZ`, by object key: the spec gives their layout and not all their values. -/
opaque tabBlob : Nat → Bytes

/-- A byte of a stored picture that no packet of the frame has written, by line and byte offset: the ring place holds
whatever it held before, which the spec does not state. -/
opaque unwritten : Nat → Nat → Nat

/-- Where the bytes behind `COMP_CONV_TABLES` hold an entry: its offset and its length in bytes, by kind of entry (0 matrix
coefficient, 1 offset, 2 decode table, 3 primaries, 4 encode table) and by what picks it.  The spec gives the widths of the
entries and not their places. -/
opaque convPlace : Nat → List Nat → Nat × Nat

/-- What the schema of a DEF part has for an object of another schema (R515), by the DEF part and the object's key: 0 lacks it, 1
has it with the same type and range, anything else has another.  The spec does not give the form of a DEF part. -/
opaque schemaHas : Bytes → Nat → Nat

/-- What the rule of a DEF part makes of a value of another schema (R515), for an object that the schema does not have with the
same type and range: drop it (none, no rule), fail to convert it (some none), or its value in the new schema.
Arguments: the DEF part, the schema it migrates from, the object's key, its value. -/
opaque migrateValue : Bytes → Nat → Nat → Nat → Option (Option Nat)

/-- The same for the bytes of a BLOB object. -/
opaque migrateBlob : Bytes → Nat → Nat → Bytes → Option (Option Bytes)

/-- A quotient "rounded to nearest" that lies halfway between two integers: is it the upper one?  Only R84 says what
happens to ties. -/
opaque tieUp : Int → Nat → Bool

/-- A quotient that the spec reports as an integer without saying how it is rounded: is it the integer above? -/
opaque roundsUp : Int → Nat → Bool

/-- Word 0 to 2 of a column driver's IDENT item (R311): vendor code, part code, revision.  By driver key and word. -/
opaque driverIdent : Nat → Nat → Nat

/-- The drift in 1/64 UI that a retraining epoch computes (R454): the spec says what is compared and not how.  Arguments: the
baseline of the set point in force, the oscillator count read, and the correction applied since training. -/
opaque epochDrift : Nat → Nat → Int → Int

end Sys2Proof.Config
end

