-- ==== Sys2Proof/Machine/Crc.lean ====
section
/-!
DEFINITION. Sys2Proof/Machine/Crc.lean: the four CRC algorithms of R475, with the register in processing form (R476).
The device's own CRC-32C (R192) and CRC-16 (R279) are algorithms 2 and 3.
-/
namespace Sys2Proof.Machine

/-- One algorithm of R475.  `poly` is the polynomial in processing form: bit-reversed for a reflected algorithm. -/
structure CrcAlg where
  width : Nat
  poly : Nat
  init : Nat
  reflected : Bool
  xorOut : Nat
  deriving DecidableEq, Repr

/-- The bits of `v` in reverse order, over `w` bits. -/
def reflect : Nat → Nat → Nat
  | 0, _ => 0
  | w + 1, v => (v % 2) * 2 ^ w + reflect w (v / 2)

/-- The table of R475; algorithm 0 and the values above 4 are reserved and never selected. -/
def crcAlg : Nat → CrcAlg
  | 1 => ⟨32, reflect 32 0x04C11DB7, 0xFFFFFFFF, true, 0xFFFFFFFF⟩
  | 2 => ⟨32, reflect 32 0x1EDC6F41, 0xFFFFFFFF, true, 0xFFFFFFFF⟩
  | 3 => ⟨16, 0x1021, 0xFFFF, false, 0⟩
  | _ => ⟨64, 0x42F0E1EBA9EA3693, 0, false, 0⟩

/-- One bit step of the register. -/
def crcBit (a : CrcAlg) (r : Nat) : Nat :=
  if a.reflected then
    if r % 2 = 1 then (r / 2) ^^^ a.poly else r / 2
  else
    if r.testBit (a.width - 1) then ((r * 2) % 2 ^ a.width) ^^^ a.poly else (r * 2) % 2 ^ a.width

/-- `n` bit steps. -/
def crcBits (a : CrcAlg) : Nat → Nat → Nat
  | 0, r => r
  | n + 1, r => crcBits a n (crcBit a r)

/-- One handshake step: the register after one byte (R477). -/
def crcByte (a : CrcAlg) (r : Nat) (b : Byte) : Nat :=
  crcBits a 8 (if a.reflected then r ^^^ b.toNat else r ^^^ (b.toNat * 2 ^ (a.width - 8)))

/-- The register after a byte string, in order. -/
def crcFeed (a : CrcAlg) (r : Nat) : Bytes → Nat
  | [] => r
  | b :: bs => crcFeed a (crcByte a r b) bs

/-- The finished check value of a byte string from the initial value. -/
def crcOf (a : CrcAlg) (bs : Bytes) : Nat := crcFeed a a.init bs ^^^ a.xorOut

/-- CRC-32C with the parameters of R192. -/
def crc32c (bs : Bytes) : Nat := crcOf (crcAlg 2) bs

/-- CRC-16/CCITT-FALSE with the parameters of R279. -/
def crc16 (bs : Bytes) : Nat := crcOf (crcAlg 3) bs

end Sys2Proof.Machine
end

