-- ==== Sys2Proof/Machine/Dict.lean ====
section
/-!
DEFINITION. Sys2Proof/Machine/Dict.lean: the types of the object dictionary (R25 to R33): object types, access, level,
apply class, range, and one row of an object table.
-/
namespace Sys2Proof.Machine

/-- The personality fused at test (R1): sender SLN-6440-S or tile SLN-6440-T. -/
inductive Pers where
  | sender
  | tile
  deriving DecidableEq, Repr

/-- Object types of R26.  A Q object carries the width of its container. -/
inductive ObjTy where
  | bool | u8 | u16 | u32 | u64 | s8 | s16 | s32 | s64 | q16 | q32 | time80 | enum | blob | str
  deriving DecidableEq, Repr

/-- Access of an object. -/
inductive Access where
  | ro | rw | wo | const
  deriving DecidableEq, Repr

/-- The two surfaces of every function, which govern who may write (R58). -/
inductive Level where
  | basic | expert
  deriving DecidableEq, Repr

/-- Apply classes of R30. -/
inductive ApplyClass where
  | imm | bnd | idle | boot
  deriving DecidableEq, Repr

/-- The Range column of an object table. -/
inductive Rng where
  /-- Every value of the type. -/
  | any
  /-- Every value from the first to the second, read as signed where the type is. -/
  | iv (lo hi : Int)
  /-- A multiple of `k` from `lo` to `hi`. -/
  | step (lo hi k : Nat)
  /-- 0, or a multiple of `k` from `lo` to `hi`. -/
  | stepOrZero (lo hi k : Nat)
  /-- From `lo` to `hi`, or exactly `v`. -/
  | ivOr (lo hi v : Nat)
  /-- A contiguous IPv4 mask. -/
  | mask
  /-- At most two bits set (`PTP_PORT_MASK`). -/
  | maxTwoBits
  /-- A multicast group of 224.0.0.0/4, or 0. -/
  | mcast
  /-- A colour of R140: bits 15 to 0 zero. -/
  | colour
  /-- A layer source (true) or matte (false) of R139. -/
  | source (isSource : Bool)
  /-- A facet mode number of R214. -/
  | modeNumber
  /-- The device's own `UNIQUE_ID`. -/
  | uid
  /-- A lamp index, or 0xFFFF_FFFF. -/
  | lampIndex
  deriving DecidableEq, Repr

/-- One row of an object table: `index` is the first instance, `instS` and `instT` the number of instances on a
sender and on a tile (0: absent in that personality). -/
structure ObjDef where
  index : Nat
  sub : Nat
  instS : Nat
  instT : Nat
  ty : ObjTy
  accS : Access
  accT : Access
  level : Level
  cls : ApplyClass
  persistS : Bool
  persistT : Bool
  dfltS : Nat
  dfltT : Nat
  rngS : Rng
  rngT : Rng
  deriving DecidableEq, Repr

/-- Bytes of the value of a type on the wire; 0 for the types of variable length (R26). -/
def ObjTy.width : ObjTy → Nat
  | .bool | .u8 | .s8 | .enum => 1
  | .u16 | .s16 | .q16 => 2
  | .u32 | .s32 | .q32 => 4
  | .u64 | .s64 => 8
  | .time80 => 10
  | .blob | .str => 0

/-- Type code of R26. -/
def ObjTy.code : ObjTy → Nat
  | .bool => 0x01
  | .u8 => 0x02 | .u16 => 0x03 | .u32 => 0x04 | .u64 => 0x05
  | .s8 => 0x06 | .s16 => 0x07 | .s32 => 0x08 | .s64 => 0x09
  | .q16 | .q32 => 0x0A
  | .time80 => 0x0B | .enum => 0x0C | .blob => 0x0D | .str => 0x0E

/-- Types whose wire form is two's complement. -/
def ObjTy.signed : ObjTy → Bool
  | .s8 | .s16 | .s32 | .s64 => true
  | _ => false

namespace ObjDef

def inst (o : ObjDef) : Pers → Nat
  | .sender => o.instS
  | .tile => o.instT

def acc (o : ObjDef) : Pers → Access
  | .sender => o.accS
  | .tile => o.accT

def persist (o : ObjDef) : Pers → Bool
  | .sender => o.persistS
  | .tile => o.persistT

def dflt (o : ObjDef) : Pers → Nat
  | .sender => o.dfltS
  | .tile => o.dfltT

def rng (o : ObjDef) : Pers → Rng
  | .sender => o.rngS
  | .tile => o.rngT

/-- Does this row define the key in the given personality? -/
def covers (o : ObjDef) (p : Pers) (k : Nat) : Bool :=
  o.sub == k % 256 && decide (o.index ≤ k / 256) && decide (k / 256 < o.index + o.inst p)

end ObjDef

/-- A value of `bits` bits read as two's complement. -/
def toSigned (bits v : Nat) : Int :=
  if v < 2 ^ (bits - 1) then (v : Int) else (v : Int) - (2 ^ bits : Nat)

/-- Two's complement of an integer in `bits` bits. -/
def ofSigned (bits : Nat) (i : Int) : Nat := (i % ((2 ^ bits : Nat) : Int)).toNat

/-- An integer clamped to the values of a signed container of `bits` bits (objects marked saturating). -/
def satSigned (bits : Nat) (i : Int) : Nat :=
  let lo : Int := -((2 ^ (bits - 1) : Nat) : Int)
  let hi : Int := ((2 ^ (bits - 1) : Nat) : Int) - 1
  ofSigned bits (if i < lo then lo else if hi < i then hi else i)

/-- The value a raw container holds, by the signedness of its type. -/
def ObjTy.value (t : ObjTy) (raw : Nat) : Int :=
  if t.signed then toSigned (8 * t.width) raw else (raw : Int)

end Sys2Proof.Machine
end

