-- ==== Sys2Proof/Machine/DictTab.lean ====
section
/-!
DEFINITION. Sys2Proof/Machine/DictTab.lean: the object tables of every chapter of the spec, row for row: index,
subindex, number of instances on a sender and on a tile, type, access on a sender and on a tile, level, apply class,
persist flag on a sender and on a tile, default on a sender and on a tile (raw, two's complement in the container),
range on a sender and on a tile.  A default that the spec writes as fused, running image, TAB part or a dash is 0 here
and is answered by the operation that reads the object (Flags.lean).  Rows whose default differs by instance (R485) stand once
for each instance.
-/
namespace Sys2Proof.Machine

/-- Rows of the object tables, indexes 0x1000 to 0x10FF. -/
def dictRows10a : List ObjDef := [
  .mk 0x1000 0x01 1 1 .u32 .const .const .basic .imm false false 22082 22082 .any .any,
  .mk 0x1000 0x02 1 1 .enum .const .const .basic .imm false false 0 0 .any .any,
  .mk 0x1000 0x03 1 1 .u16 .const .const .basic .imm false false 0 0 .any .any,
  .mk 0x1000 0x04 1 1 .u64 .const .const .basic .imm false false 0 0 .any .any,
  .mk 0x1000 0x05 1 1 .u8 .const .const .expert .imm false false 4 1 .any .any,
  .mk 0x1001 0x01 1 1 .u32 .const .const .expert .imm false false 0 0 .any .any,
  .mk 0x1001 0x02 1 1 .u32 .ro .ro .basic .imm false false 0 0 .any .any,
  .mk 0x1001 0x03 1 1 .u32 .ro .ro .basic .imm false false 0 0 .any .any,
  .mk 0x1001 0x04 1 1 .u32 .ro .ro .basic .imm false false 0 0 .any .any,
  .mk 0x1001 0x05 1 1 .u32 .ro .ro .basic .imm false false 0 0 .any .any,
  .mk 0x1001 0x06 1 1 .u32 .ro .ro .basic .imm false false 0 0 .any .any,
  .mk 0x1001 0x07 1 1 .enum .ro .ro .expert .imm false false 0 0 .any .any,
  .mk 0x1001 0x08 1 1 .u16 .ro .ro .expert .imm false false 0 0 .any .any,
  .mk 0x1010 0x01 1 0 .u32 .rw .rw .basic .boot true true 0 0 .any .any,
  .mk 0x1010 0x02 1 0 .u32 .rw .rw .basic .boot true true 0 0 .mask .mask,
  .mk 0x1010 0x03 1 0 .bool .rw .rw .basic .boot true true 1 1 (.iv 0 1) (.iv 0 1),
  .mk 0x1010 0x04 1 0 .u32 .rw .rw .expert .boot true true 0 0 .any .any,
  .mk 0x1010 0x05 1 0 .u16 .const .const .expert .imm false false 47820 47820 .any .any,
  .mk 0x1010 0x06 1 0 .u16 .const .const .expert .imm false false 47821 47821 .any .any,
  .mk 0x1010 0x07 1 0 .u64 .const .const .expert .imm false false 0 0 .any .any,
  .mk 0x1020 0x01 1 1 .u8 .const .const .expert .imm false false 16 16 .any .any,
  .mk 0x1020 0x02 1 1 .u8 .ro .ro .basic .imm false false 0 0 .any .any,
  .mk 0x1020 0x03 1 1 .u16 .rw .rw .expert .imm true true 30 30 (.iv 5 3600) (.iv 5 3600),
  .mk 0x1020 0x04 1 1 .u32 .rw .rw .expert .imm true true 5000 5000 (.iv 100 60000) (.iv 100 60000),
  .mk 0x1020 0x05 1 1 .u16 .rw .rw .expert .imm true true 100 100 (.iv 10 60000) (.iv 10 60000),
  .mk 0x1020 0x06 1 1 .u32 .ro .ro .expert .imm false false 0 0 .any .any,
  .mk 0x1020 0x07 1 1 .u32 .ro .ro .expert .imm false false 0 0 .any .any,
  .mk 0x1020 0x08 1 1 .u32 .ro .ro .expert .imm false false 0 0 .any .any,
  .mk 0x1020 0x09 1 1 .u32 .ro .ro .basic .imm false false 0 0 .any .any,
  .mk 0x1021 0x01 1 1 .blob .wo .wo .expert .imm true true 0 0 .any .any,
  .mk 0x1021 0x02 1 1 .blob .wo .wo .expert .imm true true 0 0 .any .any,
  .mk 0x1021 0x03 1 1 .blob .wo .wo .expert .imm true true 0 0 .any .any,
  .mk 0x1021 0x05 1 1 .blob .wo .wo .expert .imm true true 0 0 .any .any,
  .mk 0x1021 0x06 1 1 .u8 .ro .ro .basic .imm false false 0 0 .any .any,
  .mk 0x1030 0x01 1 1 .bool .rw .rw .expert .boot true true 1 1 (.iv 0 1) (.iv 0 1),
  .mk 0x1030 0x02 1 1 .u32 .ro .ro .expert .imm false false 0 0 .any .any]

/-- Rows of the object tables, indexes 0x2000 to 0x20FF. -/
def dictRows20a : List ObjDef := [
  .mk 0x2000 0x01 1 1 .enum .ro .ro .basic .imm false false 1 1 .any .any,
  .mk 0x2000 0x02 1 1 .time80 .ro .ro .basic .imm false false 0 0 .any .any,
  .mk 0x2000 0x03 1 1 .u64 .ro .ro .basic .imm false false 0 0 .any .any,
  .mk 0x2000 0x04 1 1 .enum .ro .ro .basic .imm false false 255 255 .any .any,
  .mk 0x2000 0x05 1 1 .s32 .ro .ro .expert .imm false false 0 0 .any .any,
  .mk 0x2000 0x06 1 1 .u32 .ro .ro .expert .imm false false 0 0 .any .any,
  .mk 0x2000 0x07 1 1 .u32 .rw .rw .expert .imm true true 60000 1000 (.iv 1000 3600000) (.iv 100 10000),
  .mk 0x2000 0x08 1 1 .u32 .ro .ro .basic .imm false false 0 0 .any .any,
  .mk 0x2000 0x09 1 1 .u8 .ro .ro .expert .imm false false 248 248 .any .any,
  .mk 0x2000 0x0A 1 1 .u64 .ro .ro .expert .imm false false 0 0 .any .any,
  .mk 0x2000 0x0B 1 1 .s16 .ro .ro .expert .imm false false 0 0 .any .any,
  .mk 0x2000 0x0C 1 1 .bool .ro .ro .expert .imm false false 1 1 .any .any,
  .mk 0x2001 0x01 1 0 .u8 .rw .rw .basic .boot true true 127 127 (.iv 0 127) (.iv 0 127),
  .mk 0x2001 0x02 1 0 .u8 .rw .rw .basic .boot true true 3 3 .maxTwoBits .maxTwoBits,
  .mk 0x2001 0x03 1 0 .s8 .rw .rw .expert .boot true true 253 253 (.iv (-7) 0) (.iv (-7) 0),
  .mk 0x2001 0x04 1 0 .bool .rw .rw .expert .boot true true 0 0 (.iv 0 1) (.iv 0 1),
  .mk 0x2001 0x05 1 0 .u64 .ro .ro .expert .imm false false 0 0 .any .any,
  .mk 0x2001 0x06 1 0 .u32 .ro .ro .expert .imm false false 0 0 .any .any,
  .mk 0x2001 0x07 1 0 .u32 .ro .ro .expert .imm false false 0 0 .any .any,
  .mk 0x2001 0x08 1 0 .u32 .ro .ro .expert .imm false false 0 0 .any .any,
  .mk 0x2002 0x01 1 1 .s8 .const .const .expert .imm false false 243 243 .any .any,
  .mk 0x2002 0x02 1 1 .s8 .const .const .expert .imm false false 253 253 .any .any,
  .mk 0x2002 0x03 1 1 .u16 .rw .rw .expert .imm true true 25 25 (.iv 5 1000) (.iv 5 1000),
  .mk 0x2002 0x04 0 1 .s32 .ro .ro .expert .imm false false 0 0 .any .any,
  .mk 0x2002 0x05 0 1 .s32 .ro .ro .expert .imm false false 0 0 .any .any,
  .mk 0x2002 0x06 0 1 .s32 .ro .ro .basic .imm false false 0 0 .any .any,
  .mk 0x2002 0x07 0 1 .u32 .ro .ro .basic .imm false false 0 0 .any .any,
  .mk 0x2002 0x08 1 0 .s32 .ro .ro .basic .imm false false 0 0 .any .any,
  .mk 0x2002 0x09 1 0 .u16 .rw .rw .expert .imm true true 50 50 (.iv 5 10000) (.iv 5 10000),
  .mk 0x2002 0x0A 0 1 .u32 .ro .ro .expert .imm false false 0 0 .any .any,
  .mk 0x2002 0x0B 0 1 .u32 .ro .ro .expert .imm false false 0 0 .any .any,
  .mk 0x2002 0x10 1 0 .u32 .ro .ro .expert .imm false false 0 0 .any .any,
  .mk 0x2002 0x11 1 0 .u32 .ro .ro .expert .imm false false 0 0 .any .any,
  .mk 0x2002 0x12 1 0 .u32 .ro .ro .expert .imm false false 0 0 .any .any,
  .mk 0x2002 0x13 1 0 .u32 .ro .ro .expert .imm false false 0 0 .any .any,
  .mk 0x2003 0x01 1 1 .u32 .ro .ro .expert .imm false false 0 0 .any .any,
  .mk 0x2003 0x02 1 1 .u32 .ro .ro .expert .imm false false 0 0 .any .any,
  .mk 0x2003 0x03 1 1 .u32 .ro .ro .expert .imm false false 0 0 .any .any,
  .mk 0x2003 0x04 1 1 .u32 .ro .ro .expert .imm false false 0 0 .any .any,
  .mk 0x2003 0x05 1 1 .u32 .ro .ro .expert .imm false false 0 0 .any .any]

/-- Rows of the object tables, indexes 0x2000 to 0x20FF. -/
def dictRows20b : List ObjDef := [
  .mk 0x2003 0x06 1 1 .u32 .ro .ro .expert .imm false false 0 0 .any .any,
  .mk 0x2003 0x07 1 1 .u32 .ro .ro .expert .imm false false 0 0 .any .any,
  .mk 0x2003 0x08 1 1 .u32 .ro .ro .expert .imm false false 0 0 .any .any,
  .mk 0x2003 0x09 1 0 .u32 .ro .ro .expert .imm false false 0 0 .any .any,
  .mk 0x2003 0x0A 1 0 .u32 .ro .ro .expert .imm false false 0 0 .any .any,
  .mk 0x2003 0x0B 1 0 .u32 .ro .ro .expert .imm false false 0 0 .any .any,
  .mk 0x2003 0x0C 1 0 .u32 .ro .ro .expert .imm false false 0 0 .any .any,
  .mk 0x2010 0x01 8 8 .enum .rw .rw .basic .imm true true 0 0 (.iv 0 4) (.iv 0 4),
  .mk 0x2010 0x02 8 8 .u64 .rw .rw .basic .idle true true 0 0 (.iv 0 281474976710655) (.iv 0 281474976710655),
  .mk 0x2010 0x03 8 8 .u64 .rw .rw .basic .idle true true 1000000 1000000 (.iv 1000 1099511627776) (.iv 1000 1099511627776),
  .mk 0x2010 0x04 8 8 .s32 .rw .rw .basic .idle true true 0 0 (.iv (-100000000) 100000000) (.iv (-100000000) 100000000),
  .mk 0x2010 0x05 8 8 .u32 .rw .rw .basic .idle true true 1000 1000 (.iv 20 1000000000) (.iv 20 1000000000),
  .mk 0x2010 0x06 8 8 .bool .rw .rw .expert .idle true true 0 0 (.iv 0 1) (.iv 0 1),
  .mk 0x2010 0x07 8 8 .u8 .rw .rw .basic .idle true true 15 15 (.iv 0 15) (.iv 0 15),
  .mk 0x2010 0x08 8 8 .u32 .ro .ro .expert .imm false false 0 0 .any .any,
  .mk 0x2010 0x09 8 8 .u64 .ro .ro .expert .imm false false 0 0 .any .any,
  .mk 0x2020 0x01 8 8 .enum .rw .rw .basic .imm true true 0 0 (.iv 0 3) (.iv 0 3),
  .mk 0x2020 0x02 8 8 .enum .rw .rw .basic .imm true true 2 2 (.iv 0 2) (.iv 0 2),
  .mk 0x2020 0x03 8 8 .u8 .rw .rw .basic .bnd true true 0 0 (.iv 0 3) (.iv 0 3),
  .mk 0x2020 0x04 8 8 .s32 .rw .rw .expert .imm true true 0 0 (.iv (-100000) 100000) (.iv (-100000) 100000),
  .mk 0x2020 0x05 8 8 .s32 .rw .rw .basic .imm true true 0 0 (.iv (-1000000) 1000000) (.iv (-1000000) 1000000),
  .mk 0x2020 0x06 8 8 .bool .rw .rw .expert .imm true true 0 0 (.iv 0 1) (.iv 0 1),
  .mk 0x2020 0x07 8 8 .u32 .rw .rw .basic .imm true true 1000 1000 (.iv 0 10000000) (.iv 0 10000000),
  .mk 0x2020 0x08 8 8 .blob .ro .ro .expert .imm false false 0 0 .any .any,
  .mk 0x2020 0x09 8 8 .u32 .ro .ro .expert .imm false false 0 0 .any .any,
  .mk 0x2020 0x0A 8 8 .s32 .ro .ro .basic .imm false false 0 0 .any .any,
  .mk 0x2020 0x0B 8 8 .s32 .ro .ro .basic .imm false false 0 0 .any .any,
  .mk 0x2020 0x0C 8 8 .u32 .ro .ro .basic .imm false false 0 0 .any .any,
  .mk 0x2020 0x0D 8 8 .s32 .ro .ro .basic .imm false false 0 0 .any .any,
  .mk 0x2020 0x0E 8 8 .u64 .ro .ro .expert .imm false false 0 0 .any .any,
  .mk 0x2040 0x01 1 1 .u32 .rw .ro .basic .bnd true true 4294967295 4294967295 (.ivOr 0 249999999 4294967295) (.ivOr 0 249999999 4294967295),
  .mk 0x2040 0x02 1 1 .u32 .rw .ro .basic .bnd true true 4294967295 4294967295 (.ivOr 0 249999999 4294967295) (.ivOr 0 249999999 4294967295),
  .mk 0x2040 0x03 1 1 .u32 .rw .ro .basic .bnd true true 4294967295 4294967295 (.ivOr 0 249999999 4294967295) (.ivOr 0 249999999 4294967295),
  .mk 0x2040 0x04 1 1 .u32 .rw .ro .basic .bnd true true 4294967295 4294967295 (.ivOr 0 249999999 4294967295) (.ivOr 0 249999999 4294967295)]

/-- Rows of the object tables, indexes 0x3000 to 0x30FF. -/
def dictRows30a : List ObjDef := [
  .mk 0x3000 0x01 1 0 .enum .rw .rw .basic .idle true true 0 0 (.iv 0 1) (.iv 0 1),
  .mk 0x3000 0x02 1 0 .u32 .ro .ro .basic .imm false false 0 0 .any .any,
  .mk 0x3000 0x03 1 0 .u32 .ro .ro .expert .imm false false 0 0 .any .any,
  .mk 0x3008 0x01 8 0 .u32 .rw .rw .basic .idle true true 0 0 .any .any,
  .mk 0x3008 0x02 8 0 .u32 .rw .rw .basic .idle true true 0 0 .mask .mask,
  .mk 0x3008 0x03 8 0 .enum .ro .ro .basic .imm false false 0 0 .any .any,
  .mk 0x3008 0x04 8 0 .u32 .ro .ro .expert .imm false false 0 0 .any .any,
  .mk 0x3008 0x05 8 0 .u32 .ro .ro .expert .imm false false 0 0 .any .any,
  .mk 0x3008 0x06 8 0 .u32 .ro .ro .basic .imm false false 0 0 .any .any,
  .mk 0x3008 0x07 8 0 .u32 .ro .ro .expert .imm false false 0 0 .any .any]

/-- Rows of the object tables, indexes 0x3100 to 0x31FF. -/
def dictRows31a : List ObjDef := [
  .mk 0x3100 0x01 16 0 .bool .rw .rw .basic .bnd true true 0 0 (.iv 0 1) (.iv 0 1),
  .mk 0x3100 0x02 16 0 .enum .rw .rw .basic .idle true true 1 1 (.iv 1 8) (.iv 1 8),
  .mk 0x3100 0x03 16 0 .u16 .rw .rw .basic .idle true true 3840 3840 (.iv 64 8192) (.iv 64 8192),
  .mk 0x3100 0x04 16 0 .u16 .rw .rw .basic .idle true true 2160 2160 (.iv 64 4320) (.iv 64 4320),
  .mk 0x3100 0x05 16 0 .enum .rw .rw .basic .idle true true 10 10 (.iv 1 15) (.iv 1 15),
  .mk 0x3100 0x06 16 0 .enum .rw .rw .basic .idle true true 2 2 (.iv 1 2) (.iv 1 2),
  .mk 0x3100 0x07 16 0 .enum .rw .rw .basic .idle true true 1 1 (.iv 1 3) (.iv 1 3),
  .mk 0x3100 0x08 16 0 .enum .rw .rw .basic .idle true true 1 1 (.iv 1 2) (.iv 1 2),
  .mk 0x3100 0x09 16 0 .enum .rw .rw .expert .idle true true 1 1 (.iv 1 2) (.iv 1 2),
  .mk 0x3100 0x0A 16 0 .u8 .rw .rw .expert .idle true true 3 3 (.iv 2 8) (.iv 2 8),
  .mk 0x3100 0x0B 16 0 .u32 .rw .rw .expert .bnd true true 500000 500000 (.iv 0 100000000) (.iv 0 100000000),
  .mk 0x3100 0x10 16 0 .u32 .rw .rw .basic .idle true true 0 0 .mcast .mcast,
  .mk 0x3100 0x11 16 0 .u32 .rw .rw .basic .idle true true 0 0 .any .any,
  .mk 0x3100 0x12 16 0 .u16 .rw .rw .basic .idle true true 5004 5004 (.iv 1 65535) (.iv 1 65535),
  .mk 0x3100 0x13 16 0 .u8 .rw .rw .basic .idle true true 0 0 (.iv 0 7) (.iv 0 7),
  .mk 0x3100 0x18 16 0 .u32 .rw .rw .basic .idle true true 0 0 .mcast .mcast,
  .mk 0x3100 0x19 16 0 .u32 .rw .rw .basic .idle true true 0 0 .any .any,
  .mk 0x3100 0x1A 16 0 .u16 .rw .rw .basic .idle true true 5004 5004 (.iv 1 65535) (.iv 1 65535),
  .mk 0x3100 0x1B 16 0 .u8 .rw .rw .basic .idle true true 0 0 (.iv 0 7) (.iv 0 7),
  .mk 0x3100 0x20 16 0 .u8 .ro .ro .basic .imm false false 0 0 .any .any,
  .mk 0x3100 0x21 16 0 .u32 .ro .ro .basic .imm false false 0 0 .any .any,
  .mk 0x3100 0x22 16 0 .u32 .ro .ro .basic .imm false false 0 0 .any .any,
  .mk 0x3100 0x23 16 0 .u32 .ro .ro .basic .imm false false 0 0 .any .any,
  .mk 0x3100 0x24 16 0 .u32 .ro .ro .basic .imm false false 0 0 .any .any,
  .mk 0x3100 0x25 16 0 .u32 .ro .ro .expert .imm false false 0 0 .any .any,
  .mk 0x3100 0x26 16 0 .u32 .ro .ro .expert .imm false false 0 0 .any .any,
  .mk 0x3100 0x27 16 0 .u32 .ro .ro .expert .imm false false 0 0 .any .any,
  .mk 0x3100 0x28 16 0 .s32 .ro .ro .expert .imm false false 0 0 .any .any,
  .mk 0x3100 0x29 16 0 .s32 .ro .ro .expert .imm false false 0 0 .any .any,
  .mk 0x3100 0x2A 16 0 .u64 .ro .ro .expert .imm false false 0 0 .any .any]

/-- Rows of the object tables, indexes 0x3200 to 0x32FF. -/
def dictRows32a : List ObjDef := [
  .mk 0x3200 0x01 16 0 .enum .rw .rw .basic .imm false false 1 1 (.iv 1 8) (.iv 1 8),
  .mk 0x3200 0x02 16 0 .u16 .rw .rw .basic .imm false false 3840 3840 (.iv 64 8192) (.iv 64 8192),
  .mk 0x3200 0x03 16 0 .u16 .rw .rw .basic .imm false false 2160 2160 (.iv 64 4320) (.iv 64 4320),
  .mk 0x3200 0x04 16 0 .enum .rw .rw .basic .imm false false 10 10 (.iv 1 15) (.iv 1 15),
  .mk 0x3200 0x05 16 0 .enum .rw .rw .basic .imm false false 2 2 (.iv 1 2) (.iv 1 2),
  .mk 0x3200 0x06 16 0 .enum .rw .rw .basic .imm false false 1 1 (.iv 1 3) (.iv 1 3),
  .mk 0x3200 0x07 16 0 .enum .rw .rw .basic .imm false false 1 1 (.iv 1 2) (.iv 1 2),
  .mk 0x3200 0x08 16 0 .blob .wo .wo .basic .imm false false 0 0 .any .any,
  .mk 0x3200 0x09 16 0 .u64 .wo .wo .basic .imm false false 0 0 (.iv 0 4503599627370495) (.iv 0 4503599627370495),
  .mk 0x3200 0x0A 16 0 .enum .ro .ro .basic .imm false false 0 0 .any .any,
  .mk 0x3200 0x0B 16 0 .bool .wo .wo .basic .imm false false 0 0 (.iv 1 1) (.iv 1 1)]

/-- Rows of the object tables, indexes 0x3400 to 0x34FF. -/
def dictRows34a : List ObjDef := [
  .mk 0x3400 0x01 1 0 .u16 .rw .rw .basic .bnd true true 3840 3840 (.step 16 32768 16) (.step 16 32768 16),
  .mk 0x3400 0x02 1 0 .u16 .rw .rw .basic .bnd true true 2160 2160 (.step 16 32768 16) (.step 16 32768 16),
  .mk 0x3400 0x03 1 0 .enum .rw .rw .basic .bnd true true 2 2 (.iv 1 2) (.iv 1 2),
  .mk 0x3400 0x04 1 0 .enum .rw .rw .basic .bnd true true 1 1 (.iv 1 3) (.iv 1 3),
  .mk 0x3400 0x05 1 0 .u64 .rw .rw .basic .bnd true true 0 0 .colour .colour,
  .mk 0x3400 0x06 1 0 .u32 .ro .ro .basic .imm false false 0 0 .any .any,
  .mk 0x3400 0x07 1 0 .u32 .ro .ro .expert .imm false false 100000 100000 .any .any,
  .mk 0x3400 0x08 1 0 .u32 .ro .ro .basic .imm false false 0 0 .any .any,
  .mk 0x3400 0x09 1 0 .u32 .ro .ro .expert .imm false false 0 0 .any .any,
  .mk 0x3400 0x0A 1 0 .u32 .ro .ro .basic .imm false false 0 0 .any .any,
  .mk 0x3400 0x0B 1 0 .blob .ro .ro .expert .imm false false 0 0 .any .any,
  .mk 0x3400 0x0C 1 0 .blob .ro .ro .expert .imm false false 0 0 .any .any,
  .mk 0x3410 0x01 8 0 .bool .rw .rw .basic .bnd true true 0 0 (.iv 0 1) (.iv 0 1),
  .mk 0x3410 0x02 8 0 .u8 .rw .rw .basic .bnd true true 0 0 (.source true) (.source true),
  .mk 0x3410 0x03 8 0 .u8 .rw .rw .expert .bnd true true 0 0 (.source false) (.source false),
  .mk 0x3410 0x04 8 0 .u16 .rw .rw .basic .bnd true true 0 0 (.iv 0 8191) (.iv 0 8191),
  .mk 0x3410 0x05 8 0 .u16 .rw .rw .basic .bnd true true 0 0 (.iv 0 4319) (.iv 0 4319),
  .mk 0x3410 0x06 8 0 .u16 .rw .rw .basic .bnd true true 3840 3840 (.iv 1 8192) (.iv 1 8192),
  .mk 0x3410 0x07 8 0 .u16 .rw .rw .basic .bnd true true 2160 2160 (.iv 1 4320) (.iv 1 4320),
  .mk 0x3410 0x08 8 0 .s16 .rw .rw .basic .bnd true true 0 0 (.iv (-32768) 32767) (.iv (-32768) 32767),
  .mk 0x3410 0x09 8 0 .s16 .rw .rw .basic .bnd true true 0 0 (.iv (-32768) 32767) (.iv (-32768) 32767),
  .mk 0x3410 0x0A 8 0 .u16 .rw .rw .basic .bnd true true 3840 3840 (.iv 1 32768) (.iv 1 32768),
  .mk 0x3410 0x0B 8 0 .u16 .rw .rw .basic .bnd true true 2160 2160 (.iv 1 32768) (.iv 1 32768),
  .mk 0x3410 0x0C 8 0 .u8 .rw .rw .expert .bnd true true 6 6 (.iv 2 6) (.iv 2 6),
  .mk 0x3410 0x0D 8 0 .enum .rw .rw .expert .bnd true true 1 1 (.iv 1 4) (.iv 1 4),
  .mk 0x3410 0x0E 8 0 .enum .rw .rw .basic .bnd true true 0 0 (.iv 0 3) (.iv 0 3),
  .mk 0x3410 0x0F 8 0 .u16 .rw .rw .basic .bnd true true 65535 65535 (.iv 0 65535) (.iv 0 65535),
  .mk 0x3410 0x10 8 0 .u64 .rw .rw .basic .bnd true true 0 0 .colour .colour,
  .mk 0x3410 0x11 8 0 .u16 .rw .rw .basic .bnd true true 0 0 (.iv 0 65535) (.iv 0 65535),
  .mk 0x3410 0x12 8 0 .u16 .rw .rw .expert .bnd true true 0 0 (.iv 0 32767) (.iv 0 32767),
  .mk 0x3410 0x13 8 0 .u16 .rw .rw .expert .bnd true true 0 0 (.iv 0 32767) (.iv 0 32767),
  .mk 0x3410 0x14 8 0 .u16 .rw .rw .expert .bnd true true 0 0 (.iv 0 32768) (.iv 0 32768),
  .mk 0x3410 0x15 8 0 .u16 .rw .rw .expert .bnd true true 0 0 (.iv 0 32768) (.iv 0 32768),
  .mk 0x3410 0x16 8 0 .u8 .rw .rw .basic .bnd true true 0 0 (.iv 0 255) (.iv 0 255),
  .mk 0x3410 0x17 8 0 .u8 .rw .rw .basic .bnd true true 15 15 (.iv 0 15) (.iv 0 15),
  .mk 0x3410 0x18 8 0 .u8 .rw .rw .basic .bnd true true 8 8 (.iv 1 255) (.iv 1 255),
  .mk 0x3410 0x19 8 0 .enum .rw .rw .basic .bnd true true 0 0 (.iv 0 2) (.iv 0 2),
  .mk 0x3410 0x1A 8 0 .u64 .rw .rw .basic .bnd true true 0 0 .colour .colour,
  .mk 0x3410 0x1B 8 0 .u64 .rw .rw .basic .bnd true true 0 0 .colour .colour,
  .mk 0x3410 0x20 8 0 .enum .ro .ro .basic .imm false false 0 0 .any .any]

/-- Rows of the object tables, indexes 0x3400 to 0x34FF. -/
def dictRows34b : List ObjDef := [
  .mk 0x3410 0x21 8 0 .u32 .ro .ro .basic .imm false false 0 0 .any .any,
  .mk 0x3410 0x22 8 0 .u32 .ro .ro .basic .imm false false 0 0 .any .any,
  .mk 0x3410 0x23 8 0 .u64 .ro .ro .expert .imm false false 0 0 .any .any,
  .mk 0x3410 0x24 8 0 .u32 .ro .ro .expert .imm false false 0 0 .any .any]

/-- Rows of the object tables, indexes 0x3800 to 0x38FF. -/
def dictRows38a : List ObjDef := [
  .mk 0x3800 0x01 1 1 .u8 .const .const .expert .imm false false 1 1 .any .any,
  .mk 0x3800 0x02 1 1 .u32 .ro .ro .expert .imm false false 0 0 .any .any,
  .mk 0x3810 0x01 4 0 .enum .rw .rw .basic .bnd true true 1 1 (.iv 1 2) (.iv 1 2),
  .mk 0x3810 0x02 4 0 .u8 .rw .rw .expert .bnd true true 0 0 (.iv 0 7) (.iv 0 7),
  .mk 0x3810 0x03 4 0 .u8 .rw .rw .basic .bnd true true 3 3 (.iv 0 7) (.iv 0 7),
  .mk 0x3810 0x04 4 0 .q16 .rw .rw .expert .bnd true true 9216 9216 (.iv 1536 9216) (.iv 1536 9216),
  .mk 0x3810 0x05 4 0 .q16 .ro .ro .basic .imm false false 0 0 .any .any,
  .mk 0x3810 0x06 4 0 .q16 .ro .ro .basic .imm false false 0 0 .any .any,
  .mk 0x3810 0x07 4 0 .q16 .ro .ro .basic .imm false false 0 0 .any .any,
  .mk 0x3810 0x08 4 0 .u32 .ro .ro .expert .imm false false 0 0 .any .any,
  .mk 0x3810 0x09 4 0 .u32 .ro .ro .expert .imm false false 0 0 .any .any,
  .mk 0x3810 0x0A 4 0 .u32 .ro .ro .basic .imm false false 0 0 .any .any,
  .mk 0x3810 0x0B 4 0 .u32 .ro .ro .basic .imm false false 0 0 .any .any,
  .mk 0x3810 0x0C 4 0 .u32 .ro .ro .basic .imm false false 0 0 .any .any,
  .mk 0x3810 0x0D 4 0 .u32 .ro .ro .expert .imm false false 0 0 .any .any,
  .mk 0x3880 0x01 0 1 .u32 .ro .ro .basic .imm false false 0 0 .any .any,
  .mk 0x3880 0x02 0 1 .u32 .ro .ro .expert .imm false false 0 0 .any .any,
  .mk 0x3890 0x01 0 2 .u32 .ro .ro .expert .imm false false 0 0 .any .any,
  .mk 0x3890 0x02 0 2 .u32 .ro .ro .basic .imm false false 0 0 .any .any,
  .mk 0x3890 0x03 0 2 .u32 .ro .ro .basic .imm false false 0 0 .any .any,
  .mk 0x3890 0x04 0 2 .u32 .ro .ro .basic .imm false false 0 0 .any .any,
  .mk 0x3890 0x05 0 2 .u32 .ro .ro .basic .imm false false 0 0 .any .any,
  .mk 0x3890 0x06 0 2 .u32 .ro .ro .expert .imm false false 0 0 .any .any,
  .mk 0x3890 0x07 0 2 .u32 .ro .ro .expert .imm false false 0 0 .any .any,
  .mk 0x3890 0x08 0 2 .u32 .ro .ro .basic .imm false false 0 0 .any .any,
  .mk 0x3890 0x09 0 2 .enum .ro .ro .expert .imm false false 0 0 .any .any]

/-- Rows of the object tables, indexes 0x4000 to 0x40FF. -/
def dictRows40a : List ObjDef := [
  .mk 0x4000 0x01 1 1 .u8 .rw .ro .basic .bnd true false 0 0 .modeNumber .modeNumber,
  .mk 0x4000 0x02 1 1 .enum .rw .ro .basic .bnd true false 3 3 (.iv 1 3) (.iv 1 3),
  .mk 0x4000 0x03 1 1 .u8 .ro .ro .basic .imm false false 0 0 .any .any,
  .mk 0x4000 0x04 1 1 .u32 .ro .ro .basic .imm false false 0 0 .any .any,
  .mk 0x4000 0x05 1 1 .u32 .ro .ro .basic .imm false false 0 0 .any .any,
  .mk 0x4000 0x06 1 1 .u32 .ro .ro .basic .imm false false 0 0 .any .any,
  .mk 0x4000 0x07 1 1 .u32 .ro .ro .expert .imm false false 0 0 .any .any,
  .mk 0x4000 0x08 1 1 .u32 .ro .ro .expert .imm false false 0 0 .any .any,
  .mk 0x4000 0x09 1 1 .u8 .ro .ro .expert .imm false false 0 0 .any .any,
  .mk 0x4000 0x0A 1 1 .u32 .ro .ro .expert .imm false false 0 0 .any .any,
  .mk 0x4001 0x01 1 0 .u32 .ro .ro .expert .imm false false 0 0 .any .any,
  .mk 0x4008 0x01 0 1 .enum .rw .rw .expert .idle true true 4 4 (.iv 1 4) (.iv 1 4),
  .mk 0x4008 0x02 0 1 .enum .rw .rw .expert .idle true true 3 3 (.iv 1 3) (.iv 1 3),
  .mk 0x4008 0x03 0 1 .enum .rw .rw .expert .idle true true 0 0 (.iv 0 3) (.iv 0 3),
  .mk 0x4008 0x04 0 1 .u32 .ro .ro .basic .imm false false 0 0 .any .any,
  .mk 0x4008 0x05 0 1 .u32 .ro .ro .basic .imm false false 0 0 .any .any,
  .mk 0x4008 0x06 0 1 .u32 .ro .ro .expert .imm false false 0 0 .any .any,
  .mk 0x4008 0x07 0 1 .bool .ro .ro .basic .imm false false 0 0 .any .any,
  .mk 0x4008 0x08 0 1 .u16 .rw .rw .expert .boot true true 0 0 (.stepOrZero 64 512 16) (.stepOrZero 64 512 16),
  .mk 0x4008 0x09 0 1 .u16 .rw .rw .expert .boot true true 0 0 (.stepOrZero 64 512 16) (.stepOrZero 64 512 16),
  .mk 0x4008 0x0A 0 1 .u8 .rw .rw .expert .boot true true 0 0 (.iv 0 4) (.iv 0 4),
  .mk 0x4010 0x01 0 1 .bool .rw .rw .basic .bnd true true 1 1 (.iv 0 1) (.iv 0 1),
  .mk 0x4010 0x02 0 1 .enum .ro .ro .basic .imm false false 1 1 .any .any,
  .mk 0x4010 0x03 0 1 .enum .rw .rw .basic .bnd false false 0 0 (.iv 0 2) (.iv 0 2),
  .mk 0x4010 0x04 0 1 .enum .rw .rw .basic .bnd false false 1 1 (.iv 1 5) (.iv 1 5),
  .mk 0x4010 0x05 0 1 .u64 .rw .rw .basic .bnd false false 18446744073709486080 18446744073709486080 .colour .colour,
  .mk 0x4010 0x06 0 1 .u8 .rw .rw .basic .bnd false false 0 0 (.iv 0 1) (.iv 0 1),
  .mk 0x4010 0x07 0 1 .u16 .rw .rw .basic .bnd true true 12 12 (.iv 0 65535) (.iv 0 65535),
  .mk 0x4010 0x08 0 1 .enum .rw .rw .basic .bnd true true 1 1 (.iv 1 3) (.iv 1 3),
  .mk 0x4018 0x01 0 1 .u32 .ro .ro .expert .imm false false 0 0 .any .any,
  .mk 0x4018 0x02 0 1 .u32 .ro .ro .basic .imm false false 0 0 .any .any,
  .mk 0x4018 0x03 0 1 .u32 .ro .ro .basic .imm false false 0 0 .any .any,
  .mk 0x4018 0x04 0 1 .u32 .ro .ro .basic .imm false false 0 0 .any .any,
  .mk 0x4018 0x05 0 1 .u32 .ro .ro .expert .imm false false 0 0 .any .any,
  .mk 0x4018 0x06 0 1 .u32 .ro .ro .basic .imm false false 0 0 .any .any,
  .mk 0x4018 0x07 0 1 .u32 .ro .ro .basic .imm false false 0 0 .any .any,
  .mk 0x4018 0x08 0 1 .u64 .ro .ro .expert .imm false false 0 0 .any .any,
  .mk 0x4020 0x01 0 2 .blob .wo .wo .basic .imm true true 0 0 .any .any,
  .mk 0x4020 0x02 0 2 .enum .ro .ro .basic .imm false false 0 0 .any .any,
  .mk 0x4020 0x03 0 2 .bool .wo .wo .basic .imm false false 0 0 (.iv 1 1) (.iv 1 1)]

/-- Rows of the object tables, indexes 0x4400 to 0x44FF. -/
def dictRows44a : List ObjDef := [
  .mk 0x4400 0x01 0 1 .enum .rw .rw .expert .bnd false false 1 1 (.iv 1 2) (.iv 1 2),
  .mk 0x4400 0x02 0 1 .enum .rw .rw .basic .bnd true true 1 1 (.iv 1 3) (.iv 1 3),
  .mk 0x4400 0x03 0 1 .enum .rw .rw .basic .idle true true 2 2 (.iv 1 2) (.iv 1 2),
  .mk 0x4400 0x04 0 1 .q32 .rw .rw .basic .bnd true true 655360 655360 (.iv 4096 16777215) (.iv 4096 16777215),
  .mk 0x4400 0x05 0 1 .enum .rw .rw .expert .bnd false false 0 0 (.iv 0 1) (.iv 0 1),
  .mk 0x4400 0x06 0 1 .u8 .rw .rw .expert .bnd false false 15 15 (.iv 0 15) (.iv 0 15),
  .mk 0x4400 0x07 0 1 .u32 .rw .rw .expert .bnd true true 1769510535 1769510535 .any .any,
  .mk 0x4400 0x08 0 1 .enum .ro .ro .basic .imm false false 4 4 .any .any,
  .mk 0x4400 0x09 0 1 .enum .rw .rw .expert .boot true true 1 1 (.iv 1 2) (.iv 1 2),
  .mk 0x4408 0x01 0 4 .enum .ro .ro .basic .imm false false 0 0 .any .any,
  .mk 0x4408 0x02 0 4 .q32 .rw .rw .expert .bnd true true 14680064 14680064 (.iv 1048576 16777215) (.iv 1048576 16777215),
  .mk 0x4408 0x03 0 4 .q32 .rw .rw .expert .bnd true true 262144 262144 (.iv 0 1048576) (.iv 0 1048576),
  .mk 0x4408 0x04 0 4 .q16 .ro .ro .basic .imm false false 32768 32768 .any .any,
  .mk 0x4408 0x05 0 4 .blob .ro .ro .expert .imm false false 0 0 .any .any,
  .mk 0x4408 0x06 0 4 .blob .ro .ro .expert .imm false false 0 0 .any .any,
  .mk 0x4410 0x01 1 1 .q16 .rw .ro .basic .bnd true false 32768 32768 (.iv 0 32768) (.iv 0 32768),
  .mk 0x4410 0x02 0 1 .u32 .ro .ro .expert .imm false false 8388608 8388608 .any .any,
  .mk 0x4410 0x03 1 1 .u16 .rw .ro .basic .bnd true false 0 0 (.iv 0 768) (.iv 0 768),
  .mk 0x4418 0x01 0 1 .enum .ro .ro .basic .imm false false 5 5 .any .any,
  .mk 0x4418 0x02 0 1 .blob .wo .wo .expert .imm false false 0 0 .any .any,
  .mk 0x4418 0x03 0 1 .u64 .wo .wo .expert .imm false false 0 0 .uid .uid,
  .mk 0x4418 0x04 0 1 .blob .ro .ro .expert .imm false false 0 0 .any .any,
  .mk 0x4418 0x05 0 1 .enum .ro .ro .expert .imm false false 0 0 .any .any,
  .mk 0x4418 0x06 0 1 .enum .ro .ro .expert .imm false false 0 0 .any .any,
  .mk 0x4418 0x07 0 1 .blob .ro .ro .expert .imm false false 0 0 .any .any,
  .mk 0x4420 0x01 0 1 .u32 .ro .ro .expert .imm false false 0 0 .any .any,
  .mk 0x4420 0x02 0 1 .u32 .ro .ro .basic .imm false false 0 0 .any .any,
  .mk 0x4420 0x03 0 1 .u32 .ro .ro .basic .imm false false 0 0 .any .any,
  .mk 0x4420 0x04 0 1 .u32 .ro .ro .expert .imm false false 0 0 .any .any,
  .mk 0x4420 0x05 0 1 .u32 .ro .ro .expert .imm false false 0 0 .any .any,
  .mk 0x4428 0x01 0 1 .blob .ro .ro .expert .imm false false 0 0 .any .any,
  .mk 0x4428 0x02 0 1 .blob .ro .ro .expert .imm false false 0 0 .any .any,
  .mk 0x4428 0x03 0 1 .blob .ro .ro .expert .imm false false 0 0 .any .any]

/-- Rows of the object tables, indexes 0x4800 to 0x48FF. -/
def dictRows48a : List ObjDef := [
  .mk 0x4800 0x01 0 1 .u32 .rw .rw .expert .idle true true 0 0 .any .any,
  .mk 0x4800 0x02 0 1 .enum .rw .rw .expert .idle true true 2 2 (.iv 1 2) (.iv 1 2),
  .mk 0x4800 0x03 0 1 .enum .rw .rw .expert .idle true true 3 3 (.iv 1 4) (.iv 1 4),
  .mk 0x4800 0x04 0 1 .u8 .rw .rw .expert .idle true true 16 16 (.iv 1 255) (.iv 1 255),
  .mk 0x4800 0x05 0 1 .enum .rw .rw .expert .idle true true 1 1 (.iv 0 3) (.iv 0 3),
  .mk 0x4800 0x06 0 1 .enum .rw .rw .expert .idle true true 1 1 (.iv 0 3) (.iv 0 3),
  .mk 0x4800 0x07 0 1 .u8 .rw .rw .expert .idle true true 255 255 .any .any,
  .mk 0x4800 0x08 0 1 .bool .rw .rw .expert .idle true true 0 0 (.iv 0 1) (.iv 0 1),
  .mk 0x4800 0x09 0 1 .q16 .const .const .expert .imm false false 4096 4096 .any .any,
  .mk 0x4800 0x0A 0 1 .blob .rw .rw .expert .idle true true 0 0 .any .any,
  .mk 0x4800 0x0B 0 1 .u8 .ro .ro .expert .imm false false 0 0 .any .any,
  .mk 0x4800 0x0C 0 1 .u32 .ro .ro .expert .imm false false 0 0 .any .any,
  .mk 0x4800 0x0D 0 1 .u32 .ro .ro .expert .imm false false 0 0 .any .any,
  .mk 0x4800 0x0E 0 1 .enum .rw .rw .basic .bnd true true 1 1 (.iv 1 2) (.iv 1 2),
  .mk 0x4808 0x01 0 1 .bool .rw .rw .basic .bnd true true 1 1 (.iv 0 1) (.iv 0 1),
  .mk 0x4808 0x02 0 1 .u16 .rw .rw .expert .bnd true true 50 50 (.iv 40 1000) (.iv 40 1000),
  .mk 0x4808 0x03 0 1 .u32 .rw .rw .expert .bnd true true 2000 2000 (.iv 1000 100000) (.iv 1000 100000),
  .mk 0x4808 0x04 0 1 .u32 .rw .rw .basic .bnd true true 600 600 (.iv 60 86400) (.iv 60 86400),
  .mk 0x4808 0x05 0 1 .u32 .rw .rw .basic .bnd true true 3600 3600 (.iv 60 604800) (.iv 60 604800),
  .mk 0x4808 0x06 0 1 .u8 .rw .rw .expert .bnd true true 32 32 (.iv 1 64) (.iv 1 64),
  .mk 0x4808 0x07 0 1 .u32 .rw .rw .expert .bnd true true 1000 1000 (.iv 100 60000) (.iv 100 60000),
  .mk 0x4808 0x08 0 1 .bool .ro .ro .basic .imm false false 0 0 .any .any,
  .mk 0x4808 0x09 0 1 .u32 .ro .ro .basic .imm false false 0 0 .any .any,
  .mk 0x4808 0x0A 0 1 .u32 .ro .ro .basic .imm false false 0 0 .any .any,
  .mk 0x4808 0x0B 0 1 .u32 .ro .ro .basic .imm false false 0 0 .any .any,
  .mk 0x4808 0x0C 0 1 .u32 .ro .ro .basic .imm false false 0 0 .any .any,
  .mk 0x4808 0x0D 0 1 .u32 .ro .ro .basic .imm false false 0 0 .any .any,
  .mk 0x4808 0x0E 0 1 .blob .ro .ro .expert .imm false false 0 0 .any .any,
  .mk 0x4808 0x0F 0 1 .blob .ro .ro .expert .imm false false 0 0 .any .any,
  .mk 0x4808 0x10 0 1 .u32 .wo .wo .expert .imm false false 0 0 .lampIndex .lampIndex,
  .mk 0x4808 0x11 0 1 .u32 .ro .ro .expert .imm false false 0 0 .any .any,
  .mk 0x4840 0x01 0 32 .u8 .rw .rw .expert .idle true true 0 0 (.iv 0 24) (.iv 0 24),
  .mk 0x4840 0x02 0 32 .u8 .ro .ro .basic .imm false false 0 0 .any .any,
  .mk 0x4840 0x03 0 32 .enum .ro .ro .basic .imm false false 1 1 .any .any,
  .mk 0x4840 0x04 0 32 .u32 .ro .ro .expert .imm false false 0 0 .any .any,
  .mk 0x4840 0x05 0 32 .u32 .ro .ro .expert .imm false false 0 0 .any .any,
  .mk 0x4840 0x06 0 32 .u32 .ro .ro .basic .imm false false 0 0 .any .any,
  .mk 0x4840 0x07 0 32 .u32 .ro .ro .expert .imm false false 0 0 .any .any,
  .mk 0x4840 0x08 0 32 .u16 .ro .ro .expert .imm false false 0 0 .any .any,
  .mk 0x4840 0x09 0 32 .blob .ro .ro .expert .imm false false 0 0 .any .any]

/-- Rows of the object tables, indexes 0x6800 to 0x68FF. -/
def dictRows68a : List ObjDef := [
  .mk 0x6800 0x01 0 1 .blob .wo .wo .basic .bnd true true 0 0 .any .any,
  .mk 0x6800 0x02 0 1 .u32 .ro .ro .basic .imm true true 0 0 .any .any,
  .mk 0x6800 0x03 0 1 .enum .ro .ro .basic .imm false false 1 1 .any .any,
  .mk 0x6800 0x04 0 1 .u8 .ro .ro .basic .imm false false 0 0 .any .any,
  .mk 0x6800 0x05 0 1 .u8 .ro .ro .expert .imm false false 0 0 .any .any,
  .mk 0x6800 0x06 0 1 .u32 .ro .ro .basic .imm false false 0 0 .any .any,
  .mk 0x6810 0x01 0 4 .blob .wo .wo .basic .imm true true 0 0 .any .any,
  .mk 0x6810 0x02 0 4 .enum .ro .ro .basic .imm true true 0 0 .any .any,
  .mk 0x6810 0x03 0 4 .u16 .ro .ro .basic .imm true true 0 0 .any .any,
  .mk 0x6810 0x04 0 4 .u16 .ro .ro .basic .imm true true 0 0 .any .any,
  .mk 0x6810 0x05 0 4 .u16 .ro .ro .basic .imm true true 0 0 .any .any,
  .mk 0x6810 0x06 0 4 .u16 .ro .ro .basic .imm true true 0 0 .any .any,
  .mk 0x6810 0x07 0 4 .u32 .ro .ro .expert .imm true true 0 0 .any .any,
  .mk 0x6810 0x08 0 4 .u64 .ro .ro .expert .imm true true 0 0 .any .any]

/-- Rows of the object tables, indexes 0x5400 to 0x54FF. -/
def dictRows54a : List ObjDef := [
  .mk 0x5440 0x01 16 16 .enum .rw .rw .basic .bnd true true 0 0 (.iv 0 2) (.iv 0 2),
  .mk 0x5440 0x02 16 16 .enum .rw .rw .basic .bnd true true 4 2 (.iv 4 4) (.iv 1 3),
  .mk 0x5440 0x03 16 16 .u16 .rw .rw .basic .bnd true true 0 0 (.iv 0 32767) (.iv 0 511),
  .mk 0x5440 0x04 16 16 .u16 .rw .rw .basic .bnd true true 0 0 (.iv 0 32767) (.iv 0 511),
  .mk 0x5440 0x05 16 16 .u16 .rw .rw .basic .bnd true true 16 16 (.iv 1 32768) (.iv 1 512),
  .mk 0x5440 0x06 16 16 .u16 .rw .rw .basic .bnd true true 16 16 (.iv 1 32768) (.iv 1 512),
  .mk 0x5440 0x07 16 16 .u8 .rw .rw .basic .bnd true true 15 15 (.iv 0 15) (.iv 0 15),
  .mk 0x5440 0x08 16 16 .u32 .rw .rw .basic .bnd true true 0 0 .any .any,
  .mk 0x5440 0x09 16 16 .u32 .ro .ro .basic .imm false false 0 0 .any .any,
  .mk 0x5440 0x0A 16 16 .enum .ro .ro .basic .imm false false 0 0 .any .any,
  .mk 0x5440 0x0B 16 16 .u32 .ro .ro .expert .imm false false 0 0 .any .any,
  .mk 0x5440 0x0C 16 16 .u32 .ro .ro .basic .imm false false 0 0 .any .any,
  .mk 0x5440 0x0D 16 16 .u32 .ro .ro .expert .imm false false 0 0 .any .any,
  .mk 0x5440 0x0E 16 16 .u64 .ro .ro .expert .imm false false 0 0 .any .any,
  .mk 0x5400 0x01 1 1 .u8 .const .const .basic .imm false false 4 4 .any .any,
  .mk 0x5408 0x01 4 4 .bool .rw .rw .basic .imm false false 0 0 (.iv 0 1) (.iv 0 1),
  .mk 0x5408 0x02 1 1 .enum .rw .rw .basic .imm false false 1 1 (.iv 1 4) (.iv 1 4),
  .mk 0x5409 0x02 1 1 .enum .rw .rw .basic .imm false false 2 2 (.iv 1 4) (.iv 1 4),
  .mk 0x540A 0x02 1 1 .enum .rw .rw .basic .imm false false 3 3 (.iv 1 4) (.iv 1 4),
  .mk 0x540B 0x02 1 1 .enum .rw .rw .basic .imm false false 4 4 (.iv 1 4) (.iv 1 4),
  .mk 0x5408 0x03 4 4 .bool .wo .wo .basic .imm false false 0 0 (.iv 1 1) (.iv 1 1),
  .mk 0x5408 0x04 4 4 .u8 .wo .wo .basic .imm false false 0 0 .any .any,
  .mk 0x5408 0x05 4 4 .u16 .wo .wo .basic .imm false false 0 0 .any .any,
  .mk 0x5408 0x06 4 4 .u32 .wo .wo .basic .imm false false 0 0 .any .any,
  .mk 0x5408 0x07 4 4 .u64 .wo .wo .basic .imm false false 0 0 .any .any,
  .mk 0x5408 0x08 1 1 .u64 .rw .rw .basic .imm false false 4294967295 4294967295 .any .any,
  .mk 0x5409 0x08 1 1 .u64 .rw .rw .basic .imm false false 4294967295 4294967295 .any .any,
  .mk 0x540A 0x08 1 1 .u64 .rw .rw .basic .imm false false 65535 65535 .any .any,
  .mk 0x540B 0x08 1 1 .u64 .rw .rw .basic .imm false false 0 0 .any .any,
  .mk 0x5408 0x09 4 4 .u64 .ro .ro .basic .imm false false 0 0 .any .any]

/-- Rows of the object tables, indexes 0x4C00 to 0x4CFF. -/
def dictRows4Ca : List ObjDef := [
  .mk 0x4C00 0x01 0 1 .enum .ro .ro .basic .imm false false 1 1 .any .any,
  .mk 0x4C00 0x02 0 1 .u8 .rw .rw .expert .bnd true true 32 32 (.iv 0 64) (.iv 0 64),
  .mk 0x4C00 0x03 0 1 .u16 .rw .rw .basic .imm true true 600 600 (.iv 60 3600) (.iv 60 3600),
  .mk 0x4C00 0x04 0 1 .u16 .ro .ro .basic .imm false false 600 600 .any .any,
  .mk 0x4C00 0x05 0 1 .enum .rw .rw .basic .bnd true true 1 1 (.iv 1 2) (.iv 1 2),
  .mk 0x4C00 0x06 0 1 .q16 .rw .rw .expert .bnd true true 28672 28672 (.step 16384 32768 128) (.step 16384 32768 128),
  .mk 0x4C00 0x07 0 1 .q16 .ro .ro .basic .imm true true 32768 32768 .any .any,
  .mk 0x4C00 0x08 0 1 .q16 .ro .ro .basic .imm false false 32768 32768 .any .any,
  .mk 0x4C00 0x09 0 1 .bool .wo .wo .expert .imm false false 0 0 (.iv 1 1) (.iv 1 1),
  .mk 0x4C00 0x0A 0 1 .u64 .ro .ro .expert .imm false false 0 0 .any .any,
  .mk 0x4C00 0x0B 0 1 .u32 .ro .ro .expert .imm false false 0 0 .any .any,
  .mk 0x4C00 0x0C 0 1 .u32 .ro .ro .expert .imm false false 0 0 .any .any,
  .mk 0x4C00 0x0D 0 1 .u32 .ro .ro .expert .imm false false 0 0 .any .any,
  .mk 0x4C00 0x0E 0 1 .u64 .wo .wo .expert .imm false false 0 0 .uid .uid,
  .mk 0x4C00 0x0F 0 1 .bool .wo .wo .expert .imm false false 0 0 (.iv 1 1) (.iv 1 1),
  .mk 0x4C08 0x01 0 1 .u16 .ro .ro .expert .imm false false 0 0 .any .any,
  .mk 0x4C08 0x02 0 1 .u16 .ro .ro .expert .imm false false 0 0 .any .any,
  .mk 0x4C08 0x03 0 1 .u16 .ro .ro .expert .imm false false 0 0 .any .any,
  .mk 0x4C08 0x04 0 1 .u16 .ro .ro .basic .imm false false 0 0 .any .any,
  .mk 0x4C08 0x05 0 1 .u16 .ro .ro .basic .imm false false 0 0 .any .any,
  .mk 0x4C08 0x06 0 1 .u32 .ro .ro .expert .imm false false 0 0 .any .any,
  .mk 0x4C08 0x07 0 1 .u32 .ro .ro .expert .imm false false 0 0 .any .any,
  .mk 0x4C08 0x08 0 1 .u8 .ro .ro .expert .imm false false 0 0 .any .any,
  .mk 0x4C08 0x09 0 1 .u32 .ro .ro .basic .imm false false 0 0 .any .any,
  .mk 0x4C10 0x01 0 1 .blob .ro .ro .expert .imm false false 0 0 .any .any,
  .mk 0x4C10 0x02 0 1 .blob .ro .ro .expert .imm false false 0 0 .any .any,
  .mk 0x4C10 0x03 0 1 .blob .ro .ro .expert .imm false false 0 0 .any .any,
  .mk 0x4C10 0x04 0 1 .u16 .ro .ro .basic .imm false false 32768 32768 .any .any,
  .mk 0x4C10 0x05 0 1 .u32 .ro .ro .basic .imm false false 0 0 .any .any,
  .mk 0x4C10 0x06 0 1 .u32 .ro .ro .expert .imm false false 0 0 .any .any,
  .mk 0x4C10 0x07 0 1 .u32 .wo .wo .expert .imm false false 0 0 .lampIndex .lampIndex,
  .mk 0x4C18 0x01 0 4 .s16 .ro .ro .basic .imm false false 0 0 .any .any,
  .mk 0x4C18 0x02 0 4 .q16 .ro .ro .expert .imm false false 4096 4096 .any .any,
  .mk 0x4C18 0x03 0 4 .bool .ro .ro .expert .imm false false 0 0 .any .any,
  .mk 0x4C80 0x01 1 0 .q16 .ro .ro .basic .imm false false 32768 32768 .any .any,
  .mk 0x4C80 0x02 1 0 .u64 .ro .ro .basic .imm false false 0 0 .any .any]

/-- Rows of the object tables, indexes 0x5000 to 0x50FF. -/
def dictRows50a : List ObjDef := [
  .mk 0x5000 0x01 1 1 .enum .ro .ro .basic .imm false false 1 1 .any .any,
  .mk 0x5000 0x02 1 1 .s16 .ro .ro .basic .imm false false 0 0 .any .any,
  .mk 0x5000 0x03 1 1 .bool .wo .wo .expert .imm false false 0 0 (.iv 1 1) (.iv 1 1),
  .mk 0x5000 0x04 1 1 .bool .rw .rw .expert .imm true true 1 1 (.iv 0 1) (.iv 0 1),
  .mk 0x5000 0x05 1 1 .u16 .rw .rw .expert .imm true true 80 80 (.iv 16 1600) (.iv 16 1600),
  .mk 0x5000 0x06 1 1 .u32 .rw .rw .expert .imm true true 10 10 (.iv 1 3600) (.iv 1 3600),
  .mk 0x5000 0x07 1 1 .s16 .ro .ro .expert .imm false false 0 0 .any .any,
  .mk 0x5000 0x08 1 1 .u64 .ro .ro .expert .imm false false 0 0 .any .any,
  .mk 0x5000 0x09 1 1 .u32 .ro .ro .expert .imm false false 0 0 .any .any,
  .mk 0x5000 0x0A 1 1 .u32 .rw .rw .expert .imm true true 2000 2000 (.iv 100 100000) (.iv 100 100000),
  .mk 0x5000 0x0B 1 1 .u8 .ro .ro .expert .imm false false 255 255 .any .any,
  .mk 0x5000 0x0C 1 1 .q16 .rw .rw .expert .imm true true 1638 1638 (.iv 128 16384) (.iv 128 16384),
  .mk 0x5000 0x0D 1 1 .u16 .rw .rw .expert .imm true true 60 60 (.iv 1 10080) (.iv 1 10080),
  .mk 0x5008 0x01 9 9 .enum .ro .ro .expert .imm false false 1 1 .any .any,
  .mk 0x5008 0x02 9 9 .s32 .ro .ro .expert .imm false false 0 0 .any .any,
  .mk 0x5008 0x03 9 9 .u32 .ro .ro .expert .imm false false 4194304 4194304 .any .any,
  .mk 0x5008 0x04 9 9 .u32 .ro .ro .expert .imm false false 0 0 .any .any,
  .mk 0x5020 0x01 16 16 .enum .rw .rw .basic .imm true true 0 0 (.iv 0 2) (.iv 0 3),
  .mk 0x5020 0x02 16 16 .u32 .ro .ro .expert .imm false false 0 0 .any .any,
  .mk 0x5020 0x03 16 16 .s32 .ro .ro .basic .imm false false 0 0 .any .any,
  .mk 0x5020 0x04 16 16 .q32 .rw .rw .expert .imm true true 65536 65536 (.iv 4096 16777215) (.iv 4096 16777215),
  .mk 0x5020 0x05 16 16 .blob .rw .rw .expert .imm true true 0 0 .any .any,
  .mk 0x5020 0x06 16 16 .s32 .rw .rw .basic .imm true true 2147483648 2147483648 .any .any,
  .mk 0x5020 0x07 16 16 .s32 .rw .rw .basic .imm true true 2147483647 2147483647 .any .any,
  .mk 0x5020 0x08 16 16 .u32 .ro .ro .basic .imm false false 0 0 .any .any,
  .mk 0x5020 0x09 0 16 .u8 .rw .rw .basic .imm true true 0 0 (.iv 0 15) (.iv 0 15),
  .mk 0x5020 0x0A 0 16 .u32 .rw .rw .expert .imm true true 4294967295 4294967295 .lampIndex .lampIndex,
  .mk 0x5020 0x0B 0 16 .u32 .ro .ro .expert .imm true true 0 0 .any .any,
  .mk 0x5020 0x0C 0 16 .u64 .ro .ro .expert .imm true true 0 0 .any .any,
  .mk 0x5020 0x0D 0 16 .q16 .ro .ro .basic .imm false false 32768 32768 .any .any,
  .mk 0x5020 0x0E 0 16 .u8 .wo .wo .expert .imm false false 0 0 (.iv 1 2) (.iv 1 2),
  .mk 0x5020 0x0F 16 16 .u32 .ro .ro .expert .imm false false 0 0 .any .any,
  .mk 0x5040 0x01 0 4 .blob .rw .rw .expert .imm true true 0 0 .any .any,
  .mk 0x5040 0x02 0 4 .s16 .rw .rw .expert .imm true true 0 0 (.iv (-1600) 1600) (.iv (-1600) 1600),
  .mk 0x5040 0x03 0 4 .q16 .ro .ro .expert .imm false false 32768 32768 .any .any,
  .mk 0x5040 0x04 0 4 .q16 .ro .ro .basic .imm false false 32768 32768 .any .any,
  .mk 0x5040 0x05 0 4 .u8 .ro .ro .expert .imm false false 0 0 .any .any,
  .mk 0x5048 0x01 0 1 .s16 .rw .rw .expert .imm true true 1360 1360 (.iv (-320) 2080) (.iv (-320) 2080),
  .mk 0x5048 0x02 0 1 .u32 .ro .ro .expert .imm false false 0 0 .any .any]

/-- Rows of the object tables, indexes 0x2400 to 0x24FF. -/
def dictRows24a : List ObjDef := [
  .mk 0x2400 0x01 1 1 .u32 .ro .ro .expert .imm false false 0 0 .any .any,
  .mk 0x2400 0x02 1 1 .u32 .rw .rw .expert .boot true true 0 0 (.iv 0 16777215) (.iv 0 16777215),
  .mk 0x2400 0x03 1 1 .u32 .ro .ro .expert .imm false false 0 0 .any .any,
  .mk 0x2400 0x04 1 0 .enum .ro .ro .basic .imm false false 0 0 .any .any,
  .mk 0x2404 0x01 1 1 .blob .rw .rw .expert .boot true true 0 0 .any .any,
  .mk 0x2404 0x02 1 1 .enum .ro .ro .expert .imm false false 2 2 .any .any,
  .mk 0x2404 0x03 1 1 .u32 .ro .ro .expert .imm false false 0 0 .any .any,
  .mk 0x2410 0x01 4 2 .bool .rw .rw .basic .imm true true 1 1 (.iv 0 1) (.iv 0 1),
  .mk 0x2410 0x02 4 2 .enum .rw .rw .expert .idle true true 3 3 (.iv 0 3) (.iv 0 3),
  .mk 0x2410 0x03 4 2 .u8 .rw .rw .expert .idle true true 0 0 (.iv 0 7) (.iv 0 7),
  .mk 0x2410 0x04 4 2 .enum .ro .ro .basic .imm false false 1 1 .any .any,
  .mk 0x2410 0x05 4 2 .enum .ro .ro .basic .imm false false 255 255 .any .any,
  .mk 0x2410 0x06 4 2 .bool .wo .wo .expert .imm false false 0 0 (.iv 1 1) (.iv 1 1),
  .mk 0x2410 0x07 4 2 .u32 .rw .rw .expert .imm true true 10000 10000 (.iv 1000 3600000) (.iv 1000 3600000),
  .mk 0x2410 0x08 4 2 .u64 .ro .ro .basic .imm false false 0 0 .any .any,
  .mk 0x2410 0x09 4 2 .u64 .ro .ro .expert .imm false false 0 0 .any .any,
  .mk 0x2410 0x0A 4 2 .u8 .ro .ro .expert .imm false false 0 0 .any .any,
  .mk 0x2410 0x0B 4 2 .u32 .ro .ro .basic .imm false false 0 0 .any .any,
  .mk 0x2410 0x0C 4 2 .u32 .ro .ro .expert .imm false false 0 0 .any .any,
  .mk 0x2410 0x0D 4 2 .u32 .ro .ro .expert .imm false false 0 0 .any .any,
  .mk 0x2410 0x0E 4 2 .u32 .ro .ro .basic .imm false false 0 0 .any .any,
  .mk 0x2410 0x0F 4 2 .u32 .ro .ro .expert .imm false false 0 0 .any .any,
  .mk 0x2410 0x10 4 2 .u32 .ro .ro .basic .imm false false 0 0 .any .any,
  .mk 0x2410 0x11 0 2 .u32 .ro .ro .expert .imm false false 0 0 .any .any,
  .mk 0x2410 0x12 0 2 .u32 .ro .ro .expert .imm false false 0 0 .any .any,
  .mk 0x2410 0x13 0 2 .u16 .ro .ro .expert .imm false false 0 0 .any .any,
  .mk 0x2410 0x14 0 2 .u32 .ro .ro .basic .imm false false 0 0 .any .any,
  .mk 0x2410 0x15 4 2 .u32 .ro .ro .expert .imm false false 0 0 .any .any,
  .mk 0x2410 0x16 4 2 .u32 .ro .ro .expert .imm false false 0 0 .any .any,
  .mk 0x2420 0x01 0 1 .u8 .ro .ro .basic .imm false false 0 0 .any .any,
  .mk 0x2420 0x02 0 1 .u8 .ro .ro .basic .imm false false 0 0 .any .any,
  .mk 0x2420 0x03 0 1 .u64 .ro .ro .expert .imm false false 0 0 .any .any,
  .mk 0x2420 0x04 0 1 .u64 .ro .ro .expert .imm false false 0 0 .any .any,
  .mk 0x2420 0x05 0 1 .u8 .ro .ro .basic .imm false false 0 0 .any .any,
  .mk 0x2420 0x06 0 1 .bool .ro .ro .basic .imm false false 0 0 .any .any,
  .mk 0x2428 0x01 4 0 .u8 .ro .ro .basic .imm false false 0 0 .any .any,
  .mk 0x2428 0x02 4 0 .bool .ro .ro .basic .imm false false 0 0 .any .any,
  .mk 0x2428 0x03 4 0 .u64 .ro .ro .basic .imm false false 0 0 .any .any,
  .mk 0x2428 0x04 4 0 .blob .ro .ro .expert .imm false false 0 0 .any .any,
  .mk 0x2428 0x05 4 0 .enum .ro .ro .expert .imm false false 3 3 .any .any]

/-- Rows of the object tables, indexes 0x5800 to 0x58FF. -/
def dictRows58a : List ObjDef := [
  .mk 0x5800 0x01 1 0 .u8 .rw .rw .expert .boot true true 1 1 (.iv 1 255) (.iv 1 255),
  .mk 0x5800 0x02 1 0 .u32 .ro .ro .basic .imm true true 1 1 .any .any,
  .mk 0x5800 0x03 1 0 .u32 .ro .ro .basic .imm false false 0 0 .any .any,
  .mk 0x5800 0x04 1 0 .u32 .ro .ro .basic .imm false false 0 0 .any .any,
  .mk 0x5800 0x05 1 0 .enum .ro .ro .basic .imm false false 1 1 .any .any,
  .mk 0x5800 0x06 1 0 .bool .rw .rw .expert .imm true true 1 1 (.iv 0 1) (.iv 0 1),
  .mk 0x5800 0x07 1 0 .bool .wo .wo .expert .imm false false 0 0 (.iv 1 1) (.iv 1 1),
  .mk 0x5800 0x08 1 0 .u16 .rw .rw .expert .imm true true 2000 2000 (.iv 500 60000) (.iv 500 60000),
  .mk 0x5800 0x09 1 0 .u32 .ro .ro .expert .imm false false 0 0 .any .any,
  .mk 0x5800 0x0A 1 0 .u32 .ro .ro .basic .imm false false 0 0 .any .any,
  .mk 0x5800 0x0B 1 0 .enum .ro .ro .expert .imm false false 0 0 .any .any,
  .mk 0x5800 0x0C 1 0 .u64 .ro .ro .expert .imm false false 0 0 .any .any,
  .mk 0x5800 0x0D 1 0 .u32 .ro .ro .basic .imm false false 0 0 .any .any,
  .mk 0x5800 0x0E 1 0 .u32 .wo .wo .basic .imm false false 0 0 .any .any,
  .mk 0x5800 0x0F 1 0 .bool .ro .ro .basic .imm false false 0 0 .any .any,
  .mk 0x5800 0x10 1 0 .u32 .rw .rw .basic .bnd true true 0 0 .any .any,
  .mk 0x5808 0x01 1 0 .blob .rw .rw .basic .bnd true true 0 0 .any .any,
  .mk 0x5808 0x02 1 0 .u16 .ro .ro .basic .imm false false 0 0 .any .any,
  .mk 0x5810 0x01 0 1 .enum .ro .ro .basic .imm false false 255 255 .any .any,
  .mk 0x5810 0x02 0 1 .u32 .ro .ro .basic .imm false false 0 0 .any .any,
  .mk 0x5810 0x03 0 1 .u32 .ro .ro .basic .imm false false 0 0 .any .any,
  .mk 0x5810 0x04 0 1 .u8 .ro .ro .basic .imm false false 0 0 .any .any,
  .mk 0x5810 0x05 0 1 .u32 .ro .ro .expert .imm false false 0 0 .any .any,
  .mk 0x5810 0x06 0 1 .u32 .ro .ro .basic .imm false false 0 0 .any .any,
  .mk 0x5810 0x07 0 1 .u32 .ro .ro .expert .imm false false 0 0 .any .any,
  .mk 0x5818 0x01 0 2 .enum .ro .ro .basic .imm false false 1 1 .any .any,
  .mk 0x5818 0x02 0 2 .u32 .ro .ro .basic .imm false false 0 0 .any .any,
  .mk 0x5818 0x03 0 2 .u64 .ro .ro .expert .imm false false 0 0 .any .any]

/-- Rows of the object tables, indexes 0x2800 to 0x28FF. -/
def dictRows28a : List ObjDef := [
  .mk 0x2800 0x01 1 1 .enum .ro .ro .basic .imm false false 1 1 .any .any,
  .mk 0x2800 0x02 1 1 .u8 .const .const .expert .imm false false 8 2 .any .any,
  .mk 0x2800 0x03 1 1 .u8 .ro .ro .basic .imm false false 0 0 .any .any,
  .mk 0x2800 0x04 1 1 .u32 .ro .ro .basic .imm false false 0 0 .any .any,
  .mk 0x2800 0x05 1 1 .enum .ro .ro .expert .imm false false 0 0 .any .any,
  .mk 0x2800 0x06 1 1 .u16 .ro .ro .basic .imm false false 2133 2133 .any .any,
  .mk 0x2800 0x07 1 1 .enum .rw .rw .expert .boot true true 2 2 (.iv 1 3) (.iv 1 3),
  .mk 0x2800 0x08 1 1 .enum .rw .rw .expert .boot true true 4 4 (.iv 0 8) (.iv 0 8),
  .mk 0x2800 0x09 1 1 .u8 .rw .rw .expert .boot true true 0 0 .any (.iv 0 3),
  .mk 0x2800 0x0A 1 1 .bool .rw .rw .expert .imm true true 1 1 (.iv 0 1) (.iv 0 1),
  .mk 0x2800 0x0B 1 1 .u32 .ro .ro .basic .imm false false 0 0 .any .any,
  .mk 0x2800 0x0C 1 1 .u32 .ro .ro .expert .imm false false 0 0 .any .any,
  .mk 0x2800 0x0D 1 1 .u32 .ro .ro .expert .imm false false 0 0 .any .any,
  .mk 0x2808 0x01 8 2 .enum .ro .ro .basic .imm false false 1 1 .any .any,
  .mk 0x2808 0x02 8 2 .u8 .ro .ro .expert .imm false false 0 0 .any .any,
  .mk 0x2808 0x03 8 2 .u16 .ro .ro .expert .imm false false 0 0 .any .any,
  .mk 0x2808 0x04 8 2 .u16 .ro .ro .expert .imm false false 0 0 .any .any,
  .mk 0x2808 0x05 8 2 .enum .ro .ro .basic .imm false false 1 1 .any .any,
  .mk 0x2808 0x06 8 2 .enum .ro .ro .expert .imm false false 1 1 .any .any,
  .mk 0x2808 0x07 8 2 .u8 .ro .ro .expert .imm false false 0 0 .any .any,
  .mk 0x2808 0x08 8 2 .u32 .ro .ro .expert .imm false false 0 0 .any .any,
  .mk 0x2808 0x09 8 2 .u32 .ro .ro .expert .imm false false 0 0 .any .any,
  .mk 0x2808 0x0A 8 2 .u32 .ro .ro .expert .imm false false 0 0 .any .any,
  .mk 0x2808 0x0B 8 2 .s16 .ro .ro .expert .imm false false 0 0 .any .any,
  .mk 0x2808 0x0C 8 2 .u32 .ro .ro .basic .imm false false 0 0 .any .any,
  .mk 0x2808 0x0D 8 2 .u32 .ro .ro .basic .imm false false 0 0 .any .any,
  .mk 0x2808 0x0E 8 2 .u32 .ro .ro .basic .imm false false 0 0 .any .any,
  .mk 0x2820 0x01 1 1 .u16 .ro .ro .expert .imm false false 0 0 .any .any,
  .mk 0x2820 0x02 1 1 .u32 .ro .ro .expert .imm false false 0 0 .any .any,
  .mk 0x2820 0x03 1 1 .u32 .ro .ro .basic .imm false false 0 0 .any .any,
  .mk 0x2820 0x04 1 1 .u32 .ro .ro .expert .imm false false 0 0 .any .any,
  .mk 0x2820 0x05 1 1 .u64 .ro .ro .expert .imm false false 0 0 .any .any]

/-- Rows of the object tables, indexes 0x6000 to 0x60FF. -/
def dictRows60a : List ObjDef := [
  .mk 0x6000 0x01 1 1 .enum .ro .ro .basic .imm false false 1 1 .any .any,
  .mk 0x6000 0x02 1 1 .blob .wo .wo .expert .imm false false 0 0 .any .any,
  .mk 0x6000 0x03 1 1 .u32 .ro .ro .basic .imm false false 0 0 .any .any,
  .mk 0x6000 0x04 1 1 .u64 .wo .wo .expert .imm false false 0 0 (.iv 0 281474976710655) (.iv 0 281474976710655),
  .mk 0x6000 0x05 1 1 .u64 .ro .ro .basic .imm false false 0 0 .any .any,
  .mk 0x6000 0x06 1 1 .bool .wo .wo .expert .imm false false 0 0 (.iv 1 1) (.iv 1 1),
  .mk 0x6000 0x07 1 1 .bool .wo .wo .expert .imm false false 0 0 (.iv 1 1) (.iv 1 1),
  .mk 0x6000 0x08 1 1 .u32 .rw .rw .expert .imm true true 600 600 (.iv 60 86400) (.iv 60 86400),
  .mk 0x6000 0x09 1 1 .u8 .rw .rw .expert .imm true true 3 3 (.iv 1 15) (.iv 1 15),
  .mk 0x6000 0x0A 1 1 .u64 .ro .ro .basic .imm false false 0 0 .any .any,
  .mk 0x6000 0x0B 1 1 .enum .rw .rw .expert .imm true true 1 1 (.iv 1 2) (.iv 1 2),
  .mk 0x6000 0x0C 1 1 .enum .ro .ro .basic .imm false false 0 0 .any .any,
  .mk 0x6000 0x0D 1 1 .bool .ro .ro .basic .imm false false 0 0 .any .any,
  .mk 0x6000 0x0E 1 1 .u32 .ro .ro .expert .imm false false 0 0 .any .any,
  .mk 0x6008 0x01 2 2 .enum .ro .ro .basic .imm false false 0 0 .any .any,
  .mk 0x6008 0x02 2 2 .blob .ro .ro .expert .imm false false 0 0 .any .any,
  .mk 0x6008 0x03 2 2 .u16 .ro .ro .expert .imm false false 0 0 .any .any,
  .mk 0x6010 0x01 1 1 .u32 .ro .ro .expert .imm false false 0 0 .any .any,
  .mk 0x6010 0x02 1 1 .u32 .ro .ro .expert .imm false false 0 0 .any .any,
  .mk 0x6010 0x03 1 1 .blob .ro .ro .expert .imm false false 0 0 .any .any,
  .mk 0x6010 0x04 1 1 .u32 .ro .ro .expert .imm false false 0 0 .any .any,
  .mk 0x6010 0x05 1 1 .u32 .ro .ro .expert .imm false false 0 0 .any .any,
  .mk 0x6010 0x06 1 1 .u16 .ro .ro .expert .imm false false 318 318 .any .any]

/-- Rows of the object tables, indexes 0x7000 to 0x70FF. -/
def dictRows70a : List ObjDef := [
  .mk 0x7000 0x01 1 1 .enum .ro .ro .basic .imm false false 1 1 .any .any,
  .mk 0x7000 0x02 1 1 .u32 .ro .ro .basic .imm false false 0 0 .any .any,
  .mk 0x7000 0x03 1 1 .bool .wo .wo .basic .imm false false 0 0 (.iv 1 1) (.iv 1 1),
  .mk 0x7000 0x04 1 1 .u16 .rw .rw .expert .imm true true 0 0 .any .any,
  .mk 0x7000 0x05 1 1 .u32 .ro .ro .basic .imm false false 0 0 .any .any,
  .mk 0x7000 0x06 1 1 .u32 .ro .ro .basic .imm true true 0 0 .any .any,
  .mk 0x7008 0x01 1 1 .u16 .ro .ro .basic .imm false false 0 0 .any .any,
  .mk 0x7008 0x02 1 1 .s32 .ro .ro .basic .imm false false 0 0 .any .any,
  .mk 0x7008 0x03 1 1 .u32 .ro .ro .basic .imm false false 0 0 .any .any,
  .mk 0x7008 0x04 1 1 .u16 .rw .rw .expert .imm true true 2200 2200 (.iv 2000 3200) (.iv 2000 3200),
  .mk 0x7008 0x05 1 1 .u16 .ro .ro .expert .imm false false 0 0 .any .any,
  .mk 0x7008 0x06 1 1 .u16 .ro .ro .expert .imm false false 0 0 .any .any,
  .mk 0x7008 0x07 1 1 .u16 .ro .ro .expert .imm false false 0 0 .any .any,
  .mk 0x7008 0x08 1 1 .u32 .ro .ro .basic .imm false false 0 0 .any .any,
  .mk 0x7010 0x01 1 1 .u32 .ro .ro .expert .imm false false 0 0 .any .any,
  .mk 0x7010 0x02 1 1 .u32 .ro .ro .basic .imm false false 0 0 .any .any,
  .mk 0x7010 0x03 1 1 .u32 .ro .ro .expert .imm false false 0 0 .any .any,
  .mk 0x7020 0x01 1 1 .blob .ro .ro .basic .imm false false 0 0 .any .any,
  .mk 0x7020 0x02 1 1 .u16 .ro .ro .basic .imm false false 0 0 .any .any,
  .mk 0x7020 0x03 1 1 .u32 .ro .ro .basic .imm false false 0 0 .any .any,
  .mk 0x7020 0x04 1 1 .blob .ro .ro .basic .imm false false 0 0 .any .any,
  .mk 0x7020 0x05 1 1 .bool .wo .wo .expert .imm false false 0 0 (.iv 1 1) (.iv 1 1),
  .mk 0x7020 0x06 1 1 .u32 .ro .ro .expert .imm false false 0 0 .any .any,
  .mk 0x7020 0x07 1 1 .u32 .ro .ro .expert .imm false false 0 0 .any .any,
  .mk 0x7020 0x08 1 1 .blob .ro .ro .expert .imm false false 0 0 .any .any,
  .mk 0x7040 0x01 0 1 .blob .wo .wo .expert .imm true true 0 0 .any .any,
  .mk 0x7040 0x02 1 1 .u8 .wo .wo .expert .imm true true 0 0 (.iv 0 15) (.iv 0 15),
  .mk 0x7040 0x03 1 1 .u8 .ro .ro .basic .imm true true 0 0 .any .any]

/-- The rows of the object tables by the high byte of the index. -/
def dictGroups : List (Nat × List ObjDef) := [
  (0x10, dictRows10a),
  (0x20, dictRows20a ++ dictRows20b),
  (0x30, dictRows30a),
  (0x31, dictRows31a),
  (0x32, dictRows32a),
  (0x34, dictRows34a ++ dictRows34b),
  (0x38, dictRows38a),
  (0x40, dictRows40a),
  (0x44, dictRows44a),
  (0x48, dictRows48a),
  (0x68, dictRows68a),
  (0x54, dictRows54a),
  (0x4C, dictRows4Ca),
  (0x50, dictRows50a),
  (0x24, dictRows24a),
  (0x58, dictRows58a),
  (0x28, dictRows28a),
  (0x60, dictRows60a),
  (0x70, dictRows70a)]

end Sys2Proof.Machine
end

