-- ==== Sys2Proof/Machine/Keys.lean ====
section
/-!
DEFINITION. Sys2Proof/Machine/Keys.lean: the key of every dictionary object, under the name the spec's object tables
give it (the instance letter of the name is the argument).  A key is index × 256 + subindex.
-/
namespace Sys2Proof.Machine.K

abbrev VENDOR_ID : Nat := 0x100001
abbrev PERSONALITY : Nat := 0x100002
abbrev DIE_REVISION : Nat := 0x100003
abbrev UNIQUE_ID : Nat := 0x100004
abbrev DRAM_DIES : Nat := 0x100005
abbrev VER_BOOTROM : Nat := 0x100101
abbrev VER_CTL : Nat := 0x100102
abbrev VER_MCD : Nat := 0x100103
abbrev VER_PHY : Nat := 0x100104
abbrev VER_TAB : Nat := 0x100105
abbrev VER_DEF : Nat := 0x100106
abbrev ACTIVE_SLOT : Nat := 0x100107
abbrev SCHEMA_VERSION : Nat := 0x100108
abbrev MGMT_IPV4_ADDR : Nat := 0x101001
abbrev MGMT_IPV4_MASK : Nat := 0x101002
abbrev MGMT_DHCP : Nat := 0x101003
abbrev MGMT_GATEWAY : Nat := 0x101004
abbrev MGMT_UDP_PORT : Nat := 0x101005
abbrev RELAY_UDP_PORT : Nat := 0x101006
abbrev MGMT_MAC : Nat := 0x101007
abbrev SESSION_MAX : Nat := 0x102001
abbrev SESSIONS_OPEN : Nat := 0x102002
abbrev SESSION_IDLE_TIMEOUT : Nat := 0x102003
abbrev TXN_DEFAULT_TIMEOUT : Nat := 0x102004
abbrev NOTIFY_MIN_INTERVAL : Nat := 0x102005
abbrev MSG_DISCARD_CRC : Nat := 0x102006
abbrev PAIR_EXPIRED_COUNT : Nat := 0x102007
abbrev NOTIFY_DROPPED : Nat := 0x102008
abbrev ARMED_TXN : Nat := 0x102009
abbrev KEY_OBSERVER : Nat := 0x102101
abbrev KEY_OPERATOR : Nat := 0x102102
abbrev KEY_ENGINEER : Nat := 0x102103
abbrev KEY_SERVICE : Nat := 0x102105
abbrev KEYS_SET : Nat := 0x102106
abbrev SPI_TARGET_ENABLE : Nat := 0x103001
abbrev SPI_DISCARDS : Nat := 0x103002
abbrev TIME_STATE : Nat := 0x200001
abbrev WALL_TIME : Nat := 0x200002
abbrev WALL_NS : Nat := 0x200003
abbrev TIME_SOURCE : Nat := 0x200004
abbrev OFFSET_FROM_SOURCE : Nat := 0x200005
abbrev MEAN_PATH_DELAY : Nat := 0x200006
abbrev HOLDOVER_LIMIT : Nat := 0x200007
abbrev LOCK_LOSS_COUNT : Nat := 0x200008
abbrev CLOCK_CLASS : Nat := 0x200009
abbrev GM_IDENTITY : Nat := 0x20000A
abbrev UTC_OFFSET : Nat := 0x20000B
abbrev PTP_TIMESCALE : Nat := 0x20000C
abbrev PTP_DOMAIN : Nat := 0x200101
abbrev PTP_PORT_MASK : Nat := 0x200102
abbrev PTP_LOG_DELAY_REQ : Nat := 0x200103
abbrev PTP_DELAY_UNICAST : Nat := 0x200104
abbrev GM_SECOND_IDENTITY : Nat := 0x200105
abbrev ANNOUNCE_TIMEOUTS : Nat := 0x200106
abbrev GM_CHANGES : Nat := 0x200107
abbrev PTP_FOREIGN_COUNT : Nat := 0x200108
abbrev WITHY_LOG_SYNC : Nat := 0x200201
abbrev WITHY_LOG_PDELAY : Nat := 0x200202
abbrev DIR_CHECK_LIMIT : Nat := 0x200203
abbrev DIR_OFFSET_WEST : Nat := 0x200204
abbrev DIR_OFFSET_EAST : Nat := 0x200205
abbrev DIR_DIFF : Nat := 0x200206
abbrev DIR_CHECK_FAULTS : Nat := 0x200207
abbrev PAIR_TIME_OFFSET : Nat := 0x200208
abbrev PAIR_OFFSET_LIMIT : Nat := 0x200209
abbrev LINK_DELAY_WEST : Nat := 0x20020A
abbrev LINK_DELAY_EAST : Nat := 0x20020B
abbrev LINK_DELAY_PORT (j : Nat) : Nat := 0x2002 * 256 + 0x10 + j
abbrev TX_LATENCY_RATE (j : Nat) : Nat := 0x2003 * 256 + 0x01 + j
abbrev RX_LATENCY_RATE (j : Nat) : Nat := 0x2003 * 256 + 0x05 + j
abbrev INGEST_LATENCY (j : Nat) : Nat := 0x2003 * 256 + 0x09 + j
abbrev TRIG_MODE (i : Nat) : Nat := (0x2010 + i) * 256 + 0x01
abbrev TRIG_START (i : Nat) : Nat := (0x2010 + i) * 256 + 0x02
abbrev TRIG_PERIOD (i : Nat) : Nat := (0x2010 + i) * 256 + 0x03
abbrev TRIG_OFFSET (i : Nat) : Nat := (0x2010 + i) * 256 + 0x04
abbrev TRIG_WIDTH (i : Nat) : Nat := (0x2010 + i) * 256 + 0x05
abbrev TRIG_INVERT (i : Nat) : Nat := (0x2010 + i) * 256 + 0x06
abbrev TRIG_FACET_MASK (i : Nat) : Nat := (0x2010 + i) * 256 + 0x07
abbrev TRIG_FIRED_COUNT (i : Nat) : Nat := (0x2010 + i) * 256 + 0x08
abbrev TRIG_LAST_EDGE (i : Nat) : Nat := (0x2010 + i) * 256 + 0x09
abbrev CAP_MODE (i : Nat) : Nat := (0x2020 + i) * 256 + 0x01
abbrev CAP_EDGE (i : Nat) : Nat := (0x2020 + i) * 256 + 0x02
abbrev CAP_FACET (i : Nat) : Nat := (0x2020 + i) * 256 + 0x03
abbrev CAP_DELAY_COMP (i : Nat) : Nat := (0x2020 + i) * 256 + 0x04
abbrev CAP_MARGIN_MIN (i : Nat) : Nat := (0x2020 + i) * 256 + 0x05
abbrev CAP_INVERT (i : Nat) : Nat := (0x2020 + i) * 256 + 0x06
abbrev CAP_PHASE_LIMIT (i : Nat) : Nat := (0x2020 + i) * 256 + 0x07
abbrev CAP_FIFO (i : Nat) : Nat := (0x2020 + i) * 256 + 0x08
abbrev CAP_FIFO_OVERFLOW (i : Nat) : Nat := (0x2020 + i) * 256 + 0x09
abbrev CAP_MARGIN_OPEN (i : Nat) : Nat := (0x2020 + i) * 256 + 0x0A
abbrev CAP_MARGIN_CLOSE (i : Nat) : Nat := (0x2020 + i) * 256 + 0x0B
abbrev CAP_OUTSIDE_COUNT (i : Nat) : Nat := (0x2020 + i) * 256 + 0x0C
abbrev CAP_SYNC_PHASE (i : Nat) : Nat := (0x2020 + i) * 256 + 0x0D
abbrev CAP_LAST_EDGE (i : Nat) : Nat := (0x2020 + i) * 256 + 0x0E
abbrev APERTURE_OFFSET (j : Nat) : Nat := 0x2040 * 256 + 0x01 + j
abbrev INGEST_LANE_MODE : Nat := 0x300001
abbrev INGEST_RX_RATE : Nat := 0x300002
abbrev INGEST_REGION_FREE : Nat := 0x300003
abbrev ING_IPV4_ADDR (i : Nat) : Nat := (0x3008 + i) * 256 + 0x01
abbrev ING_IPV4_MASK (i : Nat) : Nat := (0x3008 + i) * 256 + 0x02
abbrev ING_LINK (i : Nat) : Nat := (0x3008 + i) * 256 + 0x03
abbrev ING_FEC_CORRECTED (i : Nat) : Nat := (0x3008 + i) * 256 + 0x04
abbrev ING_FEC_UNCORRECTED (i : Nat) : Nat := (0x3008 + i) * 256 + 0x05
abbrev ING_RX_RATE (i : Nat) : Nat := (0x3008 + i) * 256 + 0x06
abbrev ING_DROPPED (i : Nat) : Nat := (0x3008 + i) * 256 + 0x07
abbrev STR_ENABLE (i : Nat) : Nat := (0x3100 + i) * 256 + 0x01
abbrev STR_FORMAT (i : Nat) : Nat := (0x3100 + i) * 256 + 0x02
abbrev STR_WIDTH (i : Nat) : Nat := (0x3100 + i) * 256 + 0x03
abbrev STR_HEIGHT (i : Nat) : Nat := (0x3100 + i) * 256 + 0x04
abbrev STR_RATE (i : Nat) : Nat := (0x3100 + i) * 256 + 0x05
abbrev STR_COLORIMETRY (i : Nat) : Nat := (0x3100 + i) * 256 + 0x06
abbrev STR_TCS (i : Nat) : Nat := (0x3100 + i) * 256 + 0x07
abbrev STR_RANGE (i : Nat) : Nat := (0x3100 + i) * 256 + 0x08
abbrev STR_PACKING (i : Nat) : Nat := (0x3100 + i) * 256 + 0x09
abbrev STR_RING_DEPTH (i : Nat) : Nat := (0x3100 + i) * 256 + 0x0A
abbrev STR_MARGIN (i : Nat) : Nat := (0x3100 + i) * 256 + 0x0B
abbrev STR_A_GROUP (i : Nat) : Nat := (0x3100 + i) * 256 + 0x10
abbrev STR_A_SOURCE (i : Nat) : Nat := (0x3100 + i) * 256 + 0x11
abbrev STR_A_UDP (i : Nat) : Nat := (0x3100 + i) * 256 + 0x12
abbrev STR_A_PORT (i : Nat) : Nat := (0x3100 + i) * 256 + 0x13
abbrev STR_B_GROUP (i : Nat) : Nat := (0x3100 + i) * 256 + 0x18
abbrev STR_B_SOURCE (i : Nat) : Nat := (0x3100 + i) * 256 + 0x19
abbrev STR_B_UDP (i : Nat) : Nat := (0x3100 + i) * 256 + 0x1A
abbrev STR_B_PORT (i : Nat) : Nat := (0x3100 + i) * 256 + 0x1B
abbrev STR_LEG_STATE (i : Nat) : Nat := (0x3100 + i) * 256 + 0x20
abbrev STR_FRAMES_COMPLETE (i : Nat) : Nat := (0x3100 + i) * 256 + 0x21
abbrev STR_FRAMES_INCOMPLETE (i : Nat) : Nat := (0x3100 + i) * 256 + 0x22
abbrev STR_FRAMES_MALFORMED (i : Nat) : Nat := (0x3100 + i) * 256 + 0x23
abbrev STR_LATE_AT_SELECT (i : Nat) : Nat := (0x3100 + i) * 256 + 0x24
abbrev STR_RING_FULL (i : Nat) : Nat := (0x3100 + i) * 256 + 0x25
abbrev STR_PKT_MALFORMED (i : Nat) : Nat := (0x3100 + i) * 256 + 0x26
abbrev STR_SKEW_EXCEEDED (i : Nat) : Nat := (0x3100 + i) * 256 + 0x27
abbrev STR_ARRIVAL_MIN (i : Nat) : Nat := (0x3100 + i) * 256 + 0x28
abbrev STR_LATENESS_MAX (i : Nat) : Nat := (0x3100 + i) * 256 + 0x29
abbrev STR_LAST_SELECTED (i : Nat) : Nat := (0x3100 + i) * 256 + 0x2A
abbrev STILL_FORMAT (i : Nat) : Nat := (0x3200 + i) * 256 + 0x01
abbrev STILL_WIDTH (i : Nat) : Nat := (0x3200 + i) * 256 + 0x02
abbrev STILL_HEIGHT (i : Nat) : Nat := (0x3200 + i) * 256 + 0x03
abbrev STILL_RATE (i : Nat) : Nat := (0x3200 + i) * 256 + 0x04
abbrev STILL_COLORIMETRY (i : Nat) : Nat := (0x3200 + i) * 256 + 0x05
abbrev STILL_TCS (i : Nat) : Nat := (0x3200 + i) * 256 + 0x06
abbrev STILL_RANGE (i : Nat) : Nat := (0x3200 + i) * 256 + 0x07
abbrev STILL_DATA (i : Nat) : Nat := (0x3200 + i) * 256 + 0x08
abbrev STILL_CAPTURE (i : Nat) : Nat := (0x3200 + i) * 256 + 0x09
abbrev STILL_STATE (i : Nat) : Nat := (0x3200 + i) * 256 + 0x0A
abbrev STILL_RELEASE (i : Nat) : Nat := (0x3200 + i) * 256 + 0x0B
abbrev COMP_CANVAS_W : Nat := 0x340001
abbrev COMP_CANVAS_H : Nat := 0x340002
abbrev COMP_COLORIMETRY : Nat := 0x340003
abbrev COMP_TCS : Nat := 0x340004
abbrev COMP_BACKGROUND : Nat := 0x340005
abbrev COMP_BUDGET_EST : Nat := 0x340006
abbrev COMP_BUDGET_LIMIT : Nat := 0x340007
abbrev COMP_PIXEL_RATE : Nat := 0x340008
abbrev COMP_FACETS_COMPOSED : Nat := 0x340009
abbrev COMP_WALES_LATE : Nat := 0x34000A
abbrev COMP_CONV_TABLES : Nat := 0x34000B
abbrev COMP_SCALER_COEF : Nat := 0x34000C
abbrev LAY_ENABLE (i : Nat) : Nat := (0x3410 + i) * 256 + 0x01
abbrev LAY_SOURCE (i : Nat) : Nat := (0x3410 + i) * 256 + 0x02
abbrev LAY_MATTE (i : Nat) : Nat := (0x3410 + i) * 256 + 0x03
abbrev LAY_CROP_X (i : Nat) : Nat := (0x3410 + i) * 256 + 0x04
abbrev LAY_CROP_Y (i : Nat) : Nat := (0x3410 + i) * 256 + 0x05
abbrev LAY_CROP_W (i : Nat) : Nat := (0x3410 + i) * 256 + 0x06
abbrev LAY_CROP_H (i : Nat) : Nat := (0x3410 + i) * 256 + 0x07
abbrev LAY_DST_X (i : Nat) : Nat := (0x3410 + i) * 256 + 0x08
abbrev LAY_DST_Y (i : Nat) : Nat := (0x3410 + i) * 256 + 0x09
abbrev LAY_DST_W (i : Nat) : Nat := (0x3410 + i) * 256 + 0x0A
abbrev LAY_DST_H (i : Nat) : Nat := (0x3410 + i) * 256 + 0x0B
abbrev LAY_TAPS_V (i : Nat) : Nat := (0x3410 + i) * 256 + 0x0C
abbrev LAY_FILTER (i : Nat) : Nat := (0x3410 + i) * 256 + 0x0D
abbrev LAY_ALPHA_MODE (i : Nat) : Nat := (0x3410 + i) * 256 + 0x0E
abbrev LAY_ALPHA (i : Nat) : Nat := (0x3410 + i) * 256 + 0x0F
abbrev LAY_KEY_COLOUR (i : Nat) : Nat := (0x3410 + i) * 256 + 0x10
abbrev LAY_KEY_TOL (i : Nat) : Nat := (0x3410 + i) * 256 + 0x11
abbrev LAY_OPAQUE_X (i : Nat) : Nat := (0x3410 + i) * 256 + 0x12
abbrev LAY_OPAQUE_Y (i : Nat) : Nat := (0x3410 + i) * 256 + 0x13
abbrev LAY_OPAQUE_W (i : Nat) : Nat := (0x3410 + i) * 256 + 0x14
abbrev LAY_OPAQUE_H (i : Nat) : Nat := (0x3410 + i) * 256 + 0x15
abbrev LAY_PRIORITY (i : Nat) : Nat := (0x3410 + i) * 256 + 0x16
abbrev LAY_FACET_MASK (i : Nat) : Nat := (0x3410 + i) * 256 + 0x17
abbrev LAY_STALE_REPEATS (i : Nat) : Nat := (0x3410 + i) * 256 + 0x18
abbrev LAY_STALE_POLICY (i : Nat) : Nat := (0x3410 + i) * 256 + 0x19
abbrev LAY_FALLBACK_COLOUR (i : Nat) : Nat := (0x3410 + i) * 256 + 0x1A
abbrev LAY_FILL_COLOUR (i : Nat) : Nat := (0x3410 + i) * 256 + 0x1B
abbrev LAY_STATE (i : Nat) : Nat := (0x3410 + i) * 256 + 0x20
abbrev LAY_REPEATS (i : Nat) : Nat := (0x3410 + i) * 256 + 0x21
abbrev LAY_STALE_EVENTS (i : Nat) : Nat := (0x3410 + i) * 256 + 0x22
abbrev LAY_LAST_R (i : Nat) : Nat := (0x3410 + i) * 256 + 0x23
abbrev LAY_FETCH_EST (i : Nat) : Nat := (0x3410 + i) * 256 + 0x24
abbrev CODEC_SYNTAX : Nat := 0x380001
abbrev CODEC_REF_BYTES : Nat := 0x380002
abbrev ENC_MODE (i : Nat) : Nat := (0x3810 + i) * 256 + 0x01
abbrev ENC_E_MIN (i : Nat) : Nat := (0x3810 + i) * 256 + 0x02
abbrev ENC_E_MAX (i : Nat) : Nat := (0x3810 + i) * 256 + 0x03
abbrev ENC_BPP_CAP (i : Nat) : Nat := (0x3810 + i) * 256 + 0x04
abbrev ENC_BPP_BUDGET (i : Nat) : Nat := (0x3810 + i) * 256 + 0x05
abbrev ENC_BPP_MEAN (i : Nat) : Nat := (0x3810 + i) * 256 + 0x06
abbrev ENC_E_MEAN (i : Nat) : Nat := (0x3810 + i) * 256 + 0x07
abbrev ENC_WALES_CODED (i : Nat) : Nat := (0x3810 + i) * 256 + 0x08
abbrev ENC_WALES_RAW (i : Nat) : Nat := (0x3810 + i) * 256 + 0x09
abbrev ENC_FB_SKIP_BLOCKS (i : Nat) : Nat := (0x3810 + i) * 256 + 0x0A
abbrev ENC_FB_EMAX_BLOCKS (i : Nat) : Nat := (0x3810 + i) * 256 + 0x0B
abbrev ENC_FB_TRUNC_WALES (i : Nat) : Nat := (0x3810 + i) * 256 + 0x0C
abbrev ENC_UNEST_BLOCKS (i : Nat) : Nat := (0x3810 + i) * 256 + 0x0D
abbrev DEC_HELD_BLOCKS : Nat := 0x388001
abbrev DEC_PARTIAL_SHOWN : Nat := 0x388002
abbrev DEC_PASS (i : Nat) : Nat := (0x3890 + i) * 256 + 0x01
abbrev DEC_PARTIAL (i : Nat) : Nat := (0x3890 + i) * 256 + 0x02
abbrev DEC_MALFORMED (i : Nat) : Nat := (0x3890 + i) * 256 + 0x03
abbrev DEC_CRC_FAIL (i : Nat) : Nat := (0x3890 + i) * 256 + 0x04
abbrev DEC_LOST (i : Nat) : Nat := (0x3890 + i) * 256 + 0x05
abbrev DEC_TRUNCATED (i : Nat) : Nat := (0x3890 + i) * 256 + 0x06
abbrev DEC_RAW (i : Nat) : Nat := (0x3890 + i) * 256 + 0x07
abbrev DEC_AWAITING (i : Nat) : Nat := (0x3890 + i) * 256 + 0x08
abbrev DEC_LAST_MALFORMED (i : Nat) : Nat := (0x3890 + i) * 256 + 0x09
abbrev MODE_NUMBER : Nat := 0x400001
abbrev APERTURE_FRACTION : Nat := 0x400002
abbrev FACET_COUNT : Nat := 0x400003
abbrev FACET_RATE : Nat := 0x400004
abbrev FACET_PERIOD : Nat := 0x400005
abbrev APERTURE_LENGTH : Nat := 0x400006
abbrev DARK_GAP_MIN : Nat := 0x400007
abbrev BASE_FRAME_NOW : Nat := 0x400008
abbrev FACET_INDEX_NOW : Nat := 0x400009
abbrev PARAM_GENERATION : Nat := 0x40000A
abbrev FLP_SENT : Nat := 0x400101
abbrev SCAN_MULTIPLEX : Nat := 0x400801
abbrev GCLK_RATE : Nat := 0x400802
abbrev GCLK_SPREAD : Nat := 0x400803
abbrev ROW_WINDOW : Nat := 0x400804
abbrev GCLK_PER_ROW : Nat := 0x400805
abbrev WALE_LOAD_TIME : Nat := 0x400806
abbrev SCAN_FIT : Nat := 0x400807
abbrev REGION_W : Nat := 0x400808
abbrev REGION_H : Nat := 0x400809
abbrev REGION_LAMPS : Nat := 0x40080A
abbrev SCAN_ENABLE : Nat := 0x401001
abbrev SCAN_STATE : Nat := 0x401002
abbrev SCAN_SOURCE : Nat := 0x401003
abbrev SCAN_TEST_PATTERN : Nat := 0x401004
abbrev SCAN_TEST_COLOUR : Nat := 0x401005
abbrev SCAN_IMAGE_SELECT : Nat := 0x401006
abbrev LOSS_HOLD_FACETS : Nat := 0x401007
abbrev LOSS_END : Nat := 0x401008
abbrev SCAN_FLIPS : Nat := 0x401801
abbrev SCAN_WALES_MISSED : Nat := 0x401802
abbrev SCAN_FLP_INVALID : Nat := 0x401803
abbrev SCAN_FLP_MISSING : Nat := 0x401804
abbrev SCAN_FLP_DISAGREE : Nat := 0x401805
abbrev LOSS_EVENTS : Nat := 0x401806
abbrev LOSS_FACETS : Nat := 0x401807
abbrev SCAN_LAST_FLIP : Nat := 0x401808
abbrev TIMG_DATA (i : Nat) : Nat := (0x4020 + i) * 256 + 0x01
abbrev TIMG_STATE (i : Nat) : Nat := (0x4020 + i) * 256 + 0x02
abbrev TIMG_CLEAR (i : Nat) : Nat := (0x4020 + i) * 256 + 0x03
abbrev PRISM_MODE : Nat := 0x440001
abbrev PRISM_IN_TCS : Nat := 0x440002
abbrev PRISM_IN_COLORIMETRY : Nat := 0x440003
abbrev PRISM_IN_SCALE : Nat := 0x440004
abbrev PRISM_RAW_RANGE : Nat := 0x440005
abbrev PRISM_RAW_MASK : Nat := 0x440006
abbrev PRISM_HEADROOM : Nat := 0x440007
abbrev PRISM_STATE : Nat := 0x440008
abbrev PRISM_UNCAL_POLICY : Nat := 0x440009
abbrev PRIM_KIND (i : Nat) : Nat := (0x4408 + i) * 256 + 0x01
abbrev PRIM_RANGE_THRESHOLD (i : Nat) : Nat := (0x4408 + i) * 256 + 0x02
abbrev PRIM_RANGE_HYST (i : Nat) : Nat := (0x4408 + i) * 256 + 0x03
abbrev PRIM_THERMAL_GAIN (i : Nat) : Nat := (0x4408 + i) * 256 + 0x04
abbrev PRIM_CURVE_HI (i : Nat) : Nat := (0x4408 + i) * 256 + 0x05
abbrev PRIM_CURVE_LO (i : Nat) : Nat := (0x4408 + i) * 256 + 0x06
abbrev WALL_CEILING : Nat := 0x441001
abbrev FADER_GAIN : Nat := 0x441002
abbrev FADER_STOPS : Nat := 0x441003
abbrev PRISM_CAL_STATE : Nat := 0x441801
abbrev PRISM_CAL_IMAGE : Nat := 0x441802
abbrev PRISM_CAL_ERASE : Nat := 0x441803
abbrev PRISM_CAL_HEADER : Nat := 0x441804
abbrev PRISM_CAL_CAUSE_A : Nat := 0x441805
abbrev PRISM_CAL_CAUSE_B : Nat := 0x441806
abbrev PRISM_CORR_TABLE : Nat := 0x441807
abbrev PRISM_CLIP_NEG : Nat := 0x442001
abbrev PRISM_CLIP_FULL : Nat := 0x442002
abbrev PRISM_HEADROOM_LIMITED : Nat := 0x442003
abbrev PRISM_PARAM_CLAMPED : Nat := 0x442004
abbrev PRISM_FACETS : Nat := 0x442005
abbrev PRISM_TF_TABLES : Nat := 0x442801
abbrev PRISM_FADER_TABLE : Nat := 0x442802
abbrev PRISM_CANVAS_TO_XYZ : Nat := 0x442803
abbrev LDL_STRAND_MASK : Nat := 0x480001
abbrev LDL_BIT_RATE : Nat := 0x480002
abbrev LDL_SEGMENTS : Nat := 0x480003
abbrev LDL_DEAD_TIME : Nat := 0x480004
abbrev LDL_SLEW_DATA : Nat := 0x480005
abbrev LDL_SLEW_GCLK : Nat := 0x480006
abbrev LDL_GCLK_MASK : Nat := 0x480007
abbrev LDL_SCAN_ACTIVE_LOW : Nat := 0x480008
abbrev LDL_RANGE_RATIO : Nat := 0x480009
abbrev LDL_LAMP_MAP : Nat := 0x48000A
abbrev LDL_DET_COUNTS : Nat := 0x48000B
abbrev LDL_ROW_SLOT : Nat := 0x48000C
abbrev LDL_LIT_COUNTS : Nat := 0x48000D
abbrev LDL_SHORT_POLICY : Nat := 0x48000E
abbrev DIAG_ENABLE : Nat := 0x480801
abbrev DIAG_TEST_WIDTH : Nat := 0x480802
abbrev DIAG_TEST_GUARD : Nat := 0x480803
abbrev DIAG_TEST_AGE : Nat := 0x480804
abbrev DIAG_VERIFY_MAX_AGE : Nat := 0x480805
abbrev DIAG_ROWS_PER_FACET : Nat := 0x480806
abbrev DIAG_READ_PERIOD : Nat := 0x480807
abbrev DIAG_DEFERRED : Nat := 0x480808
abbrev LAMPS_UNVERIFIED : Nat := 0x480809
abbrev LAMPS_GOOD : Nat := 0x48080A
abbrev LAMPS_OPEN : Nat := 0x48080B
abbrev LAMPS_SHORT : Nat := 0x48080C
abbrev LAMPS_MASKED : Nat := 0x48080D
abbrev LAMP_STATE : Nat := 0x48080E
abbrev LAMP_VERIFIED_AT : Nat := 0x48080F
abbrev LAMP_CLEAR : Nat := 0x480810
abbrev TEST_PULSES : Nat := 0x480811
abbrev STR_DRIVERS_EXPECTED (i : Nat) : Nat := (0x4840 + i) * 256 + 0x01
abbrev STR_DRIVERS_FOUND (i : Nat) : Nat := (0x4840 + i) * 256 + 0x02
abbrev STR_STATE (i : Nat) : Nat := (0x4840 + i) * 256 + 0x03
abbrev STR_ECHO_FAIL (i : Nat) : Nat := (0x4840 + i) * 256 + 0x04
abbrev STR_RETRIES (i : Nat) : Nat := (0x4840 + i) * 256 + 0x05
abbrev STR_ROWS_DARK (i : Nat) : Nat := (0x4840 + i) * 256 + 0x06
abbrev STR_DRIVER_CRC (i : Nat) : Nat := (0x4840 + i) * 256 + 0x07
abbrev STR_SRET_DELAY (i : Nat) : Nat := (0x4840 + i) * 256 + 0x08
abbrev STR_IDENT (i : Nat) : Nat := (0x4840 + i) * 256 + 0x09
abbrev OVL_COMMAND : Nat := 0x680001
abbrev OVL_SEQUENCE : Nat := 0x680002
abbrev OVL_KEY_STATE : Nat := 0x680003
abbrev OVL_ACTIVE_MASK : Nat := 0x680004
abbrev OVL_PENDING : Nat := 0x680005
abbrev OVL_REFUSED : Nat := 0x680006
abbrev OVL_DATA (i : Nat) : Nat := (0x6810 + i) * 256 + 0x01
abbrev OVL_STATE (i : Nat) : Nat := (0x6810 + i) * 256 + 0x02
abbrev OVL_X (i : Nat) : Nat := (0x6810 + i) * 256 + 0x03
abbrev OVL_Y (i : Nat) : Nat := (0x6810 + i) * 256 + 0x04
abbrev OVL_W (i : Nat) : Nat := (0x6810 + i) * 256 + 0x05
abbrev OVL_H (i : Nat) : Nat := (0x6810 + i) * 256 + 0x06
abbrev OVL_IMAGE_CRC (i : Nat) : Nat := (0x6810 + i) * 256 + 0x07
abbrev OVL_CHANGED_AT (i : Nat) : Nat := (0x6810 + i) * 256 + 0x08
abbrev CHK_MODE (i : Nat) : Nat := (0x5440 + i) * 256 + 0x01
abbrev CHK_TAP (i : Nat) : Nat := (0x5440 + i) * 256 + 0x02
abbrev CHK_X (i : Nat) : Nat := (0x5440 + i) * 256 + 0x03
abbrev CHK_Y (i : Nat) : Nat := (0x5440 + i) * 256 + 0x04
abbrev CHK_W (i : Nat) : Nat := (0x5440 + i) * 256 + 0x05
abbrev CHK_H (i : Nat) : Nat := (0x5440 + i) * 256 + 0x06
abbrev CHK_FACET_MASK (i : Nat) : Nat := (0x5440 + i) * 256 + 0x07
abbrev CHK_EXPECTED (i : Nat) : Nat := (0x5440 + i) * 256 + 0x08
abbrev CHK_LAST (i : Nat) : Nat := (0x5440 + i) * 256 + 0x09
abbrev CHK_RESULT (i : Nat) : Nat := (0x5440 + i) * 256 + 0x0A
abbrev CHK_MATCHES (i : Nat) : Nat := (0x5440 + i) * 256 + 0x0B
abbrev CHK_MISMATCHES (i : Nat) : Nat := (0x5440 + i) * 256 + 0x0C
abbrev CHK_SKIPPED (i : Nat) : Nat := (0x5440 + i) * 256 + 0x0D
abbrev CHK_LAST_FACET (i : Nat) : Nat := (0x5440 + i) * 256 + 0x0E
abbrev LEDG_STATE : Nat := 0x4C0001
abbrev LEDG_EXPONENT : Nat := 0x4C0002
abbrev LEDG_INTERVAL : Nat := 0x4C0003
abbrev LEDG_INTERVAL_IN_FORCE : Nat := 0x4C0004
abbrev LEDG_POLICY : Nat := 0x4C0005
abbrev LEDG_TILE_FLOOR : Nat := 0x4C0006
abbrev LEDG_TILE_CEILING : Nat := 0x4C0007
abbrev LEDG_WALL_REQUEST : Nat := 0x4C0008
abbrev LEDG_CHECKPOINT_NOW : Nat := 0x4C0009
abbrev LEDG_LAST_SNAPSHOT : Nat := 0x4C000A
abbrev LEDG_SEQUENCE : Nat := 0x4C000B
abbrev LEDG_LAST_CREDIT : Nat := 0x4C000C
abbrev LEDG_SNAPSHOTS_SKIPPED : Nat := 0x4C000D
abbrev LEDG_FORMAT : Nat := 0x4C000E
abbrev LEDG_TILE_CEILING_RESET : Nat := 0x4C000F
abbrev LEDG_JOURNAL_BLOCKS : Nat := 0x4C0801
abbrev LEDG_CKPT_BLOCKS : Nat := 0x4C0802
abbrev LEDG_RING_BLOCKS : Nat := 0x4C0803
abbrev LEDG_SPARES_LEFT : Nat := 0x4C0804
abbrev LEDG_RETIRED : Nat := 0x4C0805
abbrev LEDG_ERASE_MAX : Nat := 0x4C0806
abbrev LEDG_ERASE_MEAN : Nat := 0x4C0807
abbrev LEDG_DOUBLINGS : Nat := 0x4C0808
abbrev LEDG_ENTRIES_LOST : Nat := 0x4C0809
abbrev LEDG_STRESS : Nat := 0x4C1001
abbrev LEDG_LUMINANCE : Nat := 0x4C1002
abbrev LEDG_GAIN_NEEDED : Nat := 0x4C1003
abbrev LEDG_GAIN_MAX : Nat := 0x4C1004
abbrev LEDG_LAMPS_OUT : Nat := 0x4C1005
abbrev LEDG_LAMPS_SATURATED : Nat := 0x4C1006
abbrev LEDG_LAMP_RESET : Nat := 0x4C1007
abbrev LEDG_TEMP (i : Nat) : Nat := (0x4C18 + i) * 256 + 0x01
abbrev LEDG_TEMP_FACTOR (i : Nat) : Nat := (0x4C18 + i) * 256 + 0x02
abbrev LEDG_CURVE_VALID (i : Nat) : Nat := (0x4C18 + i) * 256 + 0x03
abbrev LEDG_WALL_REQUEST_MIN : Nat := 0x4C8001
abbrev LEDG_WALL_REQUEST_TILE : Nat := 0x4C8002
abbrev SNS_STATE : Nat := 0x500001
abbrev SNS_DIE_TEMP : Nat := 0x500002
abbrev SNS_CAL_START : Nat := 0x500003
abbrev SNS_CAL_AUTO : Nat := 0x500004
abbrev SNS_CAL_DELTA_T : Nat := 0x500005
abbrev SNS_CAL_MIN_GAP : Nat := 0x500006
abbrev SNS_CAL_TEMP : Nat := 0x500007
abbrev SNS_CAL_LAST : Nat := 0x500008
abbrev SNS_CAL_RUNS : Nat := 0x500009
abbrev SNS_HANDOVER_TOL : Nat := 0x50000A
abbrev SNS_SPARE_FOR : Nat := 0x50000B
abbrev SNS_PD_TOL : Nat := 0x50000C
abbrev SNS_PD_WINDOWS : Nat := 0x50000D
abbrev ADC_STATE (i : Nat) : Nat := (0x5008 + i) * 256 + 0x01
abbrev ADC_ZERO (i : Nat) : Nat := (0x5008 + i) * 256 + 0x02
abbrev ADC_GAIN (i : Nat) : Nat := (0x5008 + i) * 256 + 0x03
abbrev ADC_CAL_FAILS (i : Nat) : Nat := (0x5008 + i) * 256 + 0x04
abbrev SNS_KIND (i : Nat) : Nat := (0x5020 + i) * 256 + 0x01
abbrev SNS_VOLTAGE (i : Nat) : Nat := (0x5020 + i) * 256 + 0x02
abbrev SNS_VALUE (i : Nat) : Nat := (0x5020 + i) * 256 + 0x03
abbrev SNS_SCALE (i : Nat) : Nat := (0x5020 + i) * 256 + 0x04
abbrev SNS_TABLE (i : Nat) : Nat := (0x5020 + i) * 256 + 0x05
abbrev SNS_LOW (i : Nat) : Nat := (0x5020 + i) * 256 + 0x06
abbrev SNS_HIGH (i : Nat) : Nat := (0x5020 + i) * 256 + 0x07
abbrev SNS_LIMIT_EVENTS (i : Nat) : Nat := (0x5020 + i) * 256 + 0x08
abbrev SNS_PRIMARY_MASK (i : Nat) : Nat := (0x5020 + i) * 256 + 0x09
abbrev SNS_LAMP (i : Nat) : Nat := (0x5020 + i) * 256 + 0x0A
abbrev SNS_PD_DARK (i : Nat) : Nat := (0x5020 + i) * 256 + 0x0B
abbrev SNS_PD_BASELINE (i : Nat) : Nat := (0x5020 + i) * 256 + 0x0C
abbrev SNS_PD_RATIO (i : Nat) : Nat := (0x5020 + i) * 256 + 0x0D
abbrev SNS_PD_CAPTURE (i : Nat) : Nat := (0x5020 + i) * 256 + 0x0E
abbrev SNS_SATURATED (i : Nat) : Nat := (0x5020 + i) * 256 + 0x0F
abbrev THERM_TABLE (i : Nat) : Nat := (0x5040 + i) * 256 + 0x01
abbrev THERM_OFFSET (i : Nat) : Nat := (0x5040 + i) * 256 + 0x02
abbrev THERM_TARGET (i : Nat) : Nat := (0x5040 + i) * 256 + 0x03
abbrev THERM_GAIN (i : Nat) : Nat := (0x5040 + i) * 256 + 0x04
abbrev THERM_INPUTS (i : Nat) : Nat := (0x5040 + i) * 256 + 0x05
abbrev THERM_FAIL_TEMP : Nat := 0x504801
abbrev THERM_CYCLES : Nat := 0x504802
abbrev LANE_POWERED : Nat := 0x240001
abbrev LANE_TX_INVERT : Nat := 0x240002
abbrev LANE_RX_INVERTED : Nat := 0x240003
abbrev MGMT_LINK : Nat := 0x240004
abbrev EQ_TABLE : Nat := 0x240401
abbrev EQ_TABLE_STATE : Nat := 0x240402
abbrev EQ_BOARD : Nat := 0x240403
abbrev WITHY_ENABLE (i : Nat) : Nat := (0x2410 + i) * 256 + 0x01
abbrev WITHY_RATE_MAX (i : Nat) : Nat := (0x2410 + i) * 256 + 0x02
abbrev WITHY_CABLE_CLASS (i : Nat) : Nat := (0x2410 + i) * 256 + 0x03
abbrev WITHY_STATE (i : Nat) : Nat := (0x2410 + i) * 256 + 0x04
abbrev WITHY_RATE (i : Nat) : Nat := (0x2410 + i) * 256 + 0x05
abbrev WITHY_RETRAIN (i : Nat) : Nat := (0x2410 + i) * 256 + 0x06
abbrev WITHY_RETRY_UP (i : Nat) : Nat := (0x2410 + i) * 256 + 0x07
abbrev WITHY_PARTNER_ID (i : Nat) : Nat := (0x2410 + i) * 256 + 0x08
abbrev WITHY_PARTNER_INFO (i : Nat) : Nat := (0x2410 + i) * 256 + 0x09
abbrev WITHY_ATTEMPTS (i : Nat) : Nat := (0x2410 + i) * 256 + 0x0A
abbrev WITHY_LOCK_LOSSES (i : Nat) : Nat := (0x2410 + i) * 256 + 0x0B
abbrev WITHY_FALLBACKS (i : Nat) : Nat := (0x2410 + i) * 256 + 0x0C
abbrev WITHY_SYNC_ERRORS (i : Nat) : Nat := (0x2410 + i) * 256 + 0x0D
abbrev WITHY_CRC_ERRORS (i : Nat) : Nat := (0x2410 + i) * 256 + 0x0E
abbrev WITHY_STOMPED_RX (i : Nat) : Nat := (0x2410 + i) * 256 + 0x0F
abbrev WITHY_CHK_MISMATCH (i : Nat) : Nat := (0x2410 + i) * 256 + 0x10
abbrev WITHY_SLACK_DELETED (i : Nat) : Nat := (0x2410 + i) * 256 + 0x11
abbrev WITHY_SLACK_INSERTED (i : Nat) : Nat := (0x2410 + i) * 256 + 0x12
abbrev WITHY_RESIDENCE_MAX (i : Nat) : Nat := (0x2410 + i) * 256 + 0x13
abbrev WITHY_PIX_DROPPED (i : Nat) : Nat := (0x2410 + i) * 256 + 0x14
abbrev WITHY_MISADDRESSED (i : Nat) : Nat := (0x2410 + i) * 256 + 0x15
abbrev WITHY_UNKNOWN (i : Nat) : Nat := (0x2410 + i) * 256 + 0x16
abbrev ENUM_DIST_WEST : Nat := 0x242001
abbrev ENUM_DIST_EAST : Nat := 0x242002
abbrev ENUM_SENDER_WEST : Nat := 0x242003
abbrev ENUM_SENDER_EAST : Nat := 0x242004
abbrev ENUM_POSITION : Nat := 0x242005
abbrev ENUM_HELD_DARK : Nat := 0x242006
abbrev ENUM_TILES (i : Nat) : Nat := (0x2428 + i) * 256 + 0x01
abbrev ENUM_CLOSED (i : Nat) : Nat := (0x2428 + i) * 256 + 0x02
abbrev ENUM_PARTNER_ID (i : Nat) : Nat := (0x2428 + i) * 256 + 0x03
abbrev ENUM_LIST (i : Nat) : Nat := (0x2428 + i) * 256 + 0x04
abbrev ENUM_SLOWEST (i : Nat) : Nat := (0x2428 + i) * 256 + 0x05
abbrev PAIR_RANK : Nat := 0x580001
abbrev PAIR_GENERATION : Nat := 0x580002
abbrev PAIR_CLAIM : Nat := 0x580003
abbrev PAIR_PARTNER_CLAIM : Nat := 0x580004
abbrev PAIR_ROLE : Nat := 0x580005
abbrev PAIR_AUTO_TAKEOVER : Nat := 0x580006
abbrev PAIR_TAKEOVER : Nat := 0x580007
abbrev PAIR_JOIN_WAIT : Nat := 0x580008
abbrev PAIR_GEN_SEEN : Nat := 0x580009
abbrev PAIR_FAILOVERS : Nat := 0x58000A
abbrev PAIR_LAST_CAUSE : Nat := 0x58000B
abbrev PAIR_LAST_FAILOVER : Nat := 0x58000C
abbrev PAIR_STATE_DIGEST : Nat := 0x58000D
abbrev PAIR_STATE_CONFIRM : Nat := 0x58000E
abbrev PAIR_READY : Nat := 0x58000F
abbrev HOOP_RENUMBER_GEN : Nat := 0x580010
abbrev PLACE_TABLE : Nat := 0x580801
abbrev PLACE_UNPLACED : Nat := 0x580802
abbrev PATH_ACTIVE : Nat := 0x581001
abbrev PATH_CLAIM_WEST : Nat := 0x581002
abbrev PATH_CLAIM_EAST : Nat := 0x581003
abbrev HOOP_POSITION : Nat := 0x581004
abbrev PATH_GEN_SEEN : Nat := 0x581005
abbrev PATH_SWITCHES : Nat := 0x581006
abbrev PATH_WALES_OTHER : Nat := 0x581007
abbrev PATH_STATE (i : Nat) : Nat := (0x5818 + i) * 256 + 0x01
abbrev PATH_FAULT_FACETS (i : Nat) : Nat := (0x5818 + i) * 256 + 0x02
abbrev PATH_LAST_FAULT (i : Nat) : Nat := (0x5818 + i) * 256 + 0x03
abbrev DRAM_STATE : Nat := 0x280001
abbrev DRAM_CHANNELS : Nat := 0x280002
abbrev DRAM_TRAINED_MASK : Nat := 0x280003
abbrev DRAM_USABLE_MIB : Nat := 0x280004
abbrev DRAM_SETPOINT : Nat := 0x280005
abbrev DRAM_RATE : Nat := 0x280006
abbrev DRAM_ADDR_ORDER : Nat := 0x280007
abbrev DRAM_FALLBACK_GRAIN : Nat := 0x280008
abbrev DRAM_CHANNEL_DISABLE : Nat := 0x280009
abbrev DRAM_DERATE_ENABLE : Nat := 0x28000A
abbrev DRAM_DERATE_EVENTS : Nat := 0x28000B
abbrev DRAM_FREQ_CHANGES : Nat := 0x28000C
abbrev DRAM_EPOCHS_DISCARDED : Nat := 0x28000D
abbrev CH_STATE (i : Nat) : Nat := (0x2808 + i) * 256 + 0x01
abbrev CH_TRAIN_FAIL_STEP (i : Nat) : Nat := (0x2808 + i) * 256 + 0x02
abbrev CH_MARGIN_READ (i : Nat) : Nat := (0x2808 + i) * 256 + 0x03
abbrev CH_MARGIN_WRITE (i : Nat) : Nat := (0x2808 + i) * 256 + 0x04
abbrev CH_TEMP_RANGE (i : Nat) : Nat := (0x2808 + i) * 256 + 0x05
abbrev CH_REFRESH_RATE (i : Nat) : Nat := (0x2808 + i) * 256 + 0x06
abbrev CH_DEBT_MAX (i : Nat) : Nat := (0x2808 + i) * 256 + 0x07
abbrev CH_RERATES (i : Nat) : Nat := (0x2808 + i) * 256 + 0x08
abbrev CH_STALL_MAX (i : Nat) : Nat := (0x2808 + i) * 256 + 0x09
abbrev CH_RETRAINS (i : Nat) : Nat := (0x2808 + i) * 256 + 0x0A
abbrev CH_DRIFT (i : Nat) : Nat := (0x2808 + i) * 256 + 0x0B
abbrev CH_DRIFT_FAULTS (i : Nat) : Nat := (0x2808 + i) * 256 + 0x0C
abbrev CH_ECC_CORRECTED (i : Nat) : Nat := (0x2808 + i) * 256 + 0x0D
abbrev CH_ECC_UNCORRECTED (i : Nat) : Nat := (0x2808 + i) * 256 + 0x0E
abbrev SCRUB_PROGRESS : Nat := 0x282001
abbrev SCRUB_PASSES : Nat := 0x282002
abbrev SCRUB_CORRECTED : Nat := 0x282003
abbrev ECC_LAST_UE_LOC : Nat := 0x282004
abbrev ECC_LAST_UE_TIME : Nat := 0x282005
abbrev CU_ENGINES : Nat := 0x540001
abbrev CU_CLAIM (i : Nat) : Nat := (0x5408 + i) * 256 + 0x01
abbrev CU_ALGORITHM (i : Nat) : Nat := (0x5408 + i) * 256 + 0x02
abbrev CU_INIT (i : Nat) : Nat := (0x5408 + i) * 256 + 0x03
abbrev CU_FEED8 (i : Nat) : Nat := (0x5408 + i) * 256 + 0x04
abbrev CU_FEED16 (i : Nat) : Nat := (0x5408 + i) * 256 + 0x05
abbrev CU_FEED32 (i : Nat) : Nat := (0x5408 + i) * 256 + 0x06
abbrev CU_FEED64 (i : Nat) : Nat := (0x5408 + i) * 256 + 0x07
abbrev CU_STATE (i : Nat) : Nat := (0x5408 + i) * 256 + 0x08
abbrev CU_RESULT (i : Nat) : Nat := (0x5408 + i) * 256 + 0x09
abbrev UPD_STATE : Nat := 0x600001
abbrev UPD_IMAGE : Nat := 0x600002
abbrev UPD_PROGRESS : Nat := 0x600003
abbrev UPD_ACTIVATE : Nat := 0x600004
abbrev UPD_ARMED_AT : Nat := 0x600005
abbrev UPD_CONFIRM : Nat := 0x600006
abbrev UPD_ABORT : Nat := 0x600007
abbrev UPD_TRIAL_WINDOW : Nat := 0x600008
abbrev UPD_TRIAL_STARTS : Nat := 0x600009
abbrev UPD_TRIAL_END : Nat := 0x60000A
abbrev UPD_MIGRATE_POLICY : Nat := 0x60000B
abbrev UPD_LAST_REASON : Nat := 0x60000C
abbrev UPD_WALL_WIDE : Nat := 0x60000D
abbrev UPD_SECURITY_MIN : Nat := 0x60000E
abbrev SLOT_MARK (i : Nat) : Nat := (0x6008 + i) * 256 + 0x01
abbrev SLOT_HEADER (i : Nat) : Nat := (0x6008 + i) * 256 + 0x02
abbrev SLOT_SCHEMA (i : Nat) : Nat := (0x6008 + i) * 256 + 0x03
abbrev FLASH_SIZE : Nat := 0x601001
abbrev FLASH_JEDEC_ID : Nat := 0x601002
abbrev FLASH_LAYOUT : Nat := 0x601003
abbrev SETTINGS_GENERATION : Nat := 0x601004
abbrev SETTINGS_WRITES : Nat := 0x601005
abbrev SETTINGS_POOL_FREE : Nat := 0x601006
abbrev INTEG_STATE : Nat := 0x700001
abbrev INTEG_SAFE_CAUSE : Nat := 0x700002
abbrev INTEG_CLEAR_SAFE : Nat := 0x700003
abbrev INTEG_RAIL_MASK : Nat := 0x700004
abbrev INTEG_COMPLEMENT_FAULTS : Nat := 0x700005
abbrev LOCKSTEP_RESTARTS : Nat := 0x700006
abbrev PACE_RATE : Nat := 0x700801
abbrev PACE_SLACK_MIN : Nat := 0x700802
abbrev PACE_STALLS : Nat := 0x700803
abbrev AVS_RATE_TARGET : Nat := 0x700804
abbrev AVS_VOUT_REQ : Nat := 0x700805
abbrev AVS_VOUT_READ : Nat := 0x700806
abbrev AVS_IOUT_READ : Nat := 0x700807
abbrev AVS_FAULTS : Nat := 0x700808
abbrev CSCRUB_CORRECTED : Nat := 0x701001
abbrev CSCRUB_RELOADS : Nat := 0x701002
abbrev CSCRUB_PASSES : Nat := 0x701003
abbrev FLOG_ENTRIES : Nat := 0x702001
abbrev FLOG_COUNT : Nat := 0x702002
abbrev FLOG_LAST_SEQ : Nat := 0x702003
abbrev FLOG_PERSISTENT : Nat := 0x702004
abbrev FLOG_CLEAR : Nat := 0x702005
abbrev FLOG_OVERWRITTEN : Nat := 0x702006
abbrev FLOG_PERSIST_DROPPED : Nat := 0x702007
abbrev FLOG_CLASS_COUNTS : Nat := 0x702008
abbrev OTP_SAFETY_KEY : Nat := 0x704001
abbrev OTP_KEY_REVOKE : Nat := 0x704002
abbrev OTP_REVOKED : Nat := 0x704003

end Sys2Proof.Machine.K
end

