-- ==== Sys2Proof/Machine/WaleCodec.lean ====
section
/-!
DEFINITION. Sys2Proof/Machine/WaleCodec.lean: the Wale bitstream, both sides' arithmetic (R173 to R193).
-/
namespace Sys2Proof.Machine

/-- A pixel: 12-bit R, G, B. -/
structure Px where
  r : Nat
  g : Nat
  b : Nat
  deriving DecidableEq, Repr

/-- A 64-bit pixel word of the tile pipeline: R, G, B and the alpha/tag field, 16 bits each (R140, R178). -/
structure PixWord where
  r : Nat
  g : Nat
  b : Nat
  tag : Nat
  deriving DecidableEq, Repr

/-- Y, Co, Cg of a pixel. -/
structure C3 where
  y : Int
  co : Int
  cg : Int
  deriving DecidableEq, Repr

/-- A block: 256 pixels in raster order. -/
abbrev Block := List Px

def Px.black : Px := { r := 0, g := 0, b := 0 }

def PixWord.black : PixWord := { r := 0, g := 0, b := 0, tag := 0 }

/-- The forward transform of R174. -/
def ycocg (p : Px) : C3 :=
  let co := (p.r : Int) - p.b
  let t := (p.b : Int) + co / 2
  let cg := (p.g : Int) - t
  { y := t + cg / 2, co := co, cg := cg }

/-- 12-bit clamp. -/
def clamp12 (x : Int) : Nat := (clampI 0 4095 x).toNat

/-- The inverse transform of R176, each result clamped. -/
def rgbOf (c : C3) : Px :=
  let t := c.y - c.cg / 2
  let g := c.cg + t
  let b := t - c.co / 2
  { r := clamp12 (b + c.co), g := clamp12 g, b := clamp12 b }

/-- One component widened for the tile pipeline (R178). -/
def widen12 (v : Nat) : Nat := v * 16 + v / 256

/-- A reconstructed pixel as the decoder hands it on: widened, with the alpha/tag field zero (R178). -/
def widenPx (p : Px) : PixWord := { r := widen12 p.r, g := widen12 p.g, b := widen12 p.b, tag := 0 }

/-! ### Prediction and residuals -/

/-- The prediction rule away from the edges (R182). -/
def medPredict (a b c : Int) : Int :=
  if max a b ≤ c then min a b else if c ≤ min a b then max a b else a + b - c

/-- Prediction of one component at position `i` of a block; `acc` holds the reconstructed samples, newest first, so the
left neighbour is entry 0, the one above entry 15 and the one above-left entry 16. -/
def intraPredict (first : Int) (i : Nat) (acc : List Int) : Int :=
  if i = 0 then first
  else if i < 16 then acc.getD 0 0
  else if i % 16 = 0 then acc.getD 15 0
  else medPredict (acc.getD 0 0) (acc.getD 15 0) (acc.getD 16 0)

/-- The quantised residual (R185). -/
def residual (x p : Int) (e : Nat) : Int :=
  let dlt := x - p
  let mag : Int := (((dlt.natAbs + e) / (2 * e + 1) : Nat) : Int)
  if dlt < 0 then -mag else mag

/-- The reconstruction of a residual, clamped to the component's range (R175, R185). -/
def rebuild (lo p : Int) (q : Int) (e : Nat) : Int := clampI lo 4095 (p + q * ((2 * e + 1 : Nat) : Int))

/-- m of R186. -/
def mapResidual (q : Int) : Nat := if 0 ≤ q then (2 * q).toNat else (-2 * q - 1).toNat

/-- The residual of m. -/
def unmapResidual (m : Nat) : Int := if m % 2 = 0 then ((m / 2 : Nat) : Int) else -(((m + 1) / 2 : Nat) : Int)

/-! ### Rice coding -/

/-- Rice state of a component (R187). -/
structure Rice where
  a : Nat
  n : Nat
  deriving DecidableEq, Repr

def Rice.start : Rice := { a := 16, n := 1 }

/-- Least κ from `k` on with N << κ ≥ A, 13 if none. -/
def kappaFrom (r : Rice) : Nat → Nat → Nat
  | 0, _ => 13
  | fuel + 1, k => if r.a ≤ r.n * 2 ^ k then k else kappaFrom r fuel (k + 1)

/-- κ of R187. -/
def Rice.kappa (r : Rice) : Nat := kappaFrom r 14 0

/-- The state after symbol m. -/
def Rice.next (r : Rice) (m : Nat) : Rice :=
  if r.n + 1 = 64 then { a := (r.a + m) / 2, n := 32 } else { a := r.a + m, n := r.n + 1 }

/-- The low `n` bits of a number, most significant first. -/
def bitsOf : Nat → Nat → List Bool
  | 0, _ => []
  | n + 1, v => v.testBit n :: bitsOf n v

/-- A symbol as bits (R186). -/
def symbolBits (k m : Nat) : List Bool :=
  let u := m / 2 ^ k
  if u < 24 then List.replicate u false ++ true :: bitsOf k m
  else List.replicate 24 false ++ true :: bitsOf 14 m

/-- The number spelt by `n` bits, and the rest; none when they run out. -/
def takeBits : Nat → List Bool → Option (Nat × List Bool)
  | 0, bs => some (0, bs)
  | _ + 1, [] => none
  | n + 1, b :: bs =>
    match takeBits n bs with
    | none => none
    | some (v, rest) => some ((if b then 2 ^ n else 0) + v, rest)

/-- Zero bits before the first 1 bit, at most 24: none when the bits run out; 25 stands for 24 zeros and a 0. -/
def countZeros : Nat → List Bool → Option (Nat × List Bool)
  | _, [] => none
  | n, true :: bs => some (n, bs)
  | n, false :: bs => if n < 24 then countZeros (n + 1) bs else some (25, bs)

/-- A symbol read: the causes 11 and 12 of R203 on failure. -/
def readSymbol (k : Nat) (bs : List Bool) : Except Nat (Nat × List Bool) :=
  match countZeros 0 bs with
  | none => .error 12
  | some (25, _) => .error 11
  | some (24, rest) =>
    match takeBits 14 rest with
    | none => .error 12
    | some r => .ok r
  | some (u, rest) =>
    match takeBits k rest with
    | none => .error 12
    | some (v, rest) => .ok (u * 2 ^ k + v, rest)

/-! ### Blocks -/

/-- Rice states of the three components. -/
structure Rices where
  y : Rice
  co : Rice
  cg : Rice
  deriving DecidableEq, Repr

def Rices.start : Rices := { y := .start, co := .start, cg := .start }

/-- One component coded: the symbol's bits, the reconstruction, and the Rice state after it. -/
def codeComponent (lo x p : Int) (e : Nat) (r : Rice) : List Bool × Int × Rice :=
  let q := residual x p e
  let m := mapResidual q
  (symbolBits r.kappa m, rebuild lo p q e, r.next m)

/-- A block's symbols (R182 to R187): `intra` predicts from the block, otherwise from `ref`.  `acc` holds the
reconstructed pixels newest first, and `out` the bits newest first. -/
def codePixels (intra : Bool) (e : Nat) :
    List C3 → List C3 → Nat → List C3 → Rices → List Bool → List Bool × List C3 × Rices
  | [], _, _, acc, rs, out => (out, acc, rs)
  | x :: xs, refs, i, acc, rs, out =>
    let ref := refs.headD { y := 0, co := 0, cg := 0 }
    let near := acc.take 17
    let (by', ry, ny) := codeComponent 0 x.y
      (if intra then intraPredict 2048 i (near.map (·.y)) else ref.y) e rs.y
    let (bo, ro, no) := codeComponent (-4095) x.co
      (if intra then intraPredict 0 i (near.map (·.co)) else ref.co) e rs.co
    let (bg, rg, ng) := codeComponent (-4095) x.cg
      (if intra then intraPredict 0 i (near.map (·.cg)) else ref.cg) e rs.cg
    codePixels intra e xs refs.tail (i + 1) ({ y := ry, co := ro, cg := rg } :: acc) { y := ny, co := no, cg := ng }
      (bg.reverse ++ (bo.reverse ++ (by'.reverse ++ out)))

/-- A coded block: its mode (0 skip, 1 temporal, 2 intra), bound, bits, reconstruction and the Rice states after it. -/
structure Coded where
  mode : Nat
  e : Nat
  bits : List Bool
  recon : Block
  rices : Rices
  deriving DecidableEq, Repr

/-- A temporal (1) or intra (2) block with its header (R190). -/
def codeBlock (mode e : Nat) (src ref : Block) (rs : Rices) : Coded :=
  let (out, acc, rs') := codePixels (mode == 2) e (src.map ycocg) (ref.map ycocg) 0 [] rs []
  { mode := mode, e := e, bits := bitsOf 2 mode ++ bitsOf 3 e ++ out.reverse, recon := acc.reverse.map rgbOf,
    rices := rs' }

/-- A skip block copies its reference (R184). -/
def skipBlock (ref : Block) (rs : Rices) : Coded :=
  { mode := 0, e := 0, bits := [false, false], recon := ref, rices := rs }

/-- Does every component lie within e of its temporal prediction (R193)? -/
def withinBound (e : Nat) (src ref : Block) : Bool :=
  (src.zip ref).all (fun p =>
    let a := ycocg p.1
    let b := ycocg p.2
    decide ((a.y - b.y).natAbs ≤ e) && decide ((a.co - b.co).natAbs ≤ e) && decide ((a.cg - b.cg).natAbs ≤ e))

/-- Intra or temporal, whichever takes fewer bits; a tie goes to temporal (R193). -/
def shorterBlock (e : Nat) (src ref : Block) (rs : Rices) : Coded :=
  let i := codeBlock 2 e src ref rs
  let t := codeBlock 1 e src ref rs
  if i.bits.length < t.bits.length then i else t

/-! ### Wales -/

/-- What the encoder knows of a block: source, reference, established flag, and whether it stands in the refresh
column. -/
structure BlockIn where
  src : Block
  ref : Block
  established : Bool
  refresh : Bool
  deriving DecidableEq, Repr

/-- A block under normal coding (R193). -/
def normalBlock (band : Bool) (e : Nat) (b : BlockIn) (rs : Rices) : Coded :=
  if band || b.refresh || !b.established then codeBlock 2 e b.src b.ref rs
  else if withinBound e b.src b.ref then skipBlock b.ref rs
  else shorterBlock e b.src b.ref rs

/-- The predicted form under normal coding, block by block. -/
def normalBlocks (band : Bool) (e : Nat) : List BlockIn → Rices → List Coded
  | [], _ => []
  | b :: bs, rs => let c := normalBlock band e b rs; c :: normalBlocks band e bs c.rices

/-- A block placed by the fallback (R199). -/
def fallbackBlock (band : Bool) (eMax : Nat) (b : BlockIn) (rs : Rices) : Coded :=
  if !band && b.established && !b.refresh then skipBlock b.ref rs else codeBlock 2 eMax b.src b.ref rs

/-- Fallback blocks after `k` normal ones. -/
def fallbackBlocks (band : Bool) (e eMax : Nat) : Nat → List BlockIn → Rices → List Coded
  | _, [], _ => []
  | 0, b :: bs, rs => let c := fallbackBlock band eMax b rs; c :: fallbackBlocks band e eMax 0 bs c.rices
  | k + 1, b :: bs, rs => let c := normalBlock band e b rs; c :: fallbackBlocks band e eMax k bs c.rices

/-- Bits of a list of blocks. -/
def totalBits (l : List Coded) : Nat := l.foldl (fun a c => a + c.bits.length) 0

/-- Padded to a whole byte. -/
def paddedBits (n : Nat) : Nat := ceilDiv n 8 * 8

/-- The largest k whose first k blocks take no more than `room` bits (R199). -/
def blocksWithin (room : Nat) : List Coded → Nat
  | [] => 0
  | c :: cs => if c.bits.length ≤ room then blocksWithin (room - c.bits.length) cs + 1 else 0

/-- Bytes from bits, most significant first, padded with zero bits; `fuel` bounds the bytes. -/
def packBits : Nat → List Bool → Bytes
  | 0, _ => []
  | fuel + 1, bs =>
    if bs.isEmpty then []
    else
      let w := (List.range 8).foldl (fun a i => 2 * a + b2n (bs.getD i false)) 0
      BitVec.ofNat 8 w :: packBits fuel (bs.drop 8)

/-- Bits of a byte string. -/
def unpackBits (b : Bytes) : List Bool := b.flatMap (fun x => bitsOf 8 x.toNat)

/-- Pixels of a wale in row order across its width, from its blocks (R191). -/
def rowOrder (blocks : List Block) : List Px :=
  (List.range 16).flatMap (fun r => blocks.flatMap (fun b => (b.drop (16 * r)).take 16))

/-- Blocks of a wale of `nc` columns from its pixels in row order. -/
def blocksOf (nc : Nat) (px : List Px) : List Block :=
  (List.range nc).map (fun c => (List.range 16).flatMap (fun r => (px.drop (r * nc * 16 + c * 16)).take 16))

/-- RECON_CRC of a wale's reconstruction (R192). -/
def reconCrc (blocks : List Block) : Nat :=
  crc32c ((rowOrder blocks).flatMap (fun p => be 2 p.r ++ be 2 p.g ++ be 2 p.b))

/-- A raw payload (R191). -/
def rawPayload (blocks : List Block) : Bytes :=
  let bs := (rowOrder blocks).flatMap (fun p => bitsOf 12 p.r ++ bitsOf 12 p.g ++ bitsOf 12 p.b)
  packBits bs.length bs

/-- Pixels of a raw payload. -/
def rawPixels : Nat → List Bool → List Px
  | 0, _ => []
  | n + 1, bs =>
    let v := fun (i : Nat) => (List.range 12).foldl (fun a k => 2 * a + b2n (bs.getD (12 * i + k) false)) 0
    { r := v 0, g := v 1, b := v 2 } :: rawPixels n (bs.drop 36)

/-- A wale: the fields of R188 and the payload. -/
structure Wale where
  band : Bool
  raw : Bool
  trunc : Bool
  facet : Nat
  eMax : Nat
  index : Nat
  refreshCol : Nat
  w : Nat
  h : Nat
  frame : Nat
  crc : Nat
  payload : Bytes
  deriving DecidableEq, Repr

/-- Bytes 0 to 27 of the header. -/
def waleHead (x : Wale) : Bytes :=
  be 1 1 ++ be 1 (b2n x.band + 2 * b2n x.raw + 4 * b2n x.trunc) ++ be 1 x.facet ++ be 1 x.eMax ++ be 2 x.index ++
    be 2 x.refreshCol ++ be 2 x.w ++ be 2 x.h ++ be 4 x.frame ++ be 4 x.payload.length ++ be 4 x.crc ++ be 4 0

/-- The wale as bytes (R188). -/
def waleBytes (x : Wale) : Bytes := waleHead x ++ be 4 (crc32c (waleHead x)) ++ x.payload

/-! ### Decoding -/

/-- What the decoder knows of a block: its reference and validity flag, and whether it stands in the refresh column. -/
structure RefIn where
  ref : Block
  valid : Bool
  refresh : Bool
  deriving DecidableEq, Repr

/-- One component decoded. -/
def decodeComponent (lo p : Int) (e : Nat) (r : Rice) (bs : List Bool) : Except Nat (Int × Rice × List Bool) :=
  match readSymbol r.kappa bs with
  | .error c => .error c
  | .ok (m, rest) => .ok (rebuild lo p (unmapResidual m) e, r.next m, rest)

/-- `n` pixels of a block decoded from position `i`. -/
def decodePixels (intra : Bool) (e : Nat) :
    Nat → List C3 → Nat → List C3 → Rices → List Bool → Except Nat (List C3 × Rices × List Bool)
  | 0, _, _, acc, rs, bs => .ok (acc, rs, bs)
  | n + 1, refs, i, acc, rs, bs =>
    let ref := refs.headD { y := 0, co := 0, cg := 0 }
    let near := acc.take 17
    match decodeComponent 0 (if intra then intraPredict 2048 i (near.map (·.y)) else ref.y) e rs.y bs with
    | .error c => .error c
    | .ok (y, ry, bs) =>
      match decodeComponent (-4095) (if intra then intraPredict 0 i (near.map (·.co)) else ref.co) e rs.co bs with
      | .error c => .error c
      | .ok (co, ro, bs) =>
        match decodeComponent (-4095) (if intra then intraPredict 0 i (near.map (·.cg)) else ref.cg) e rs.cg bs with
        | .error c => .error c
        | .ok (cg, rg, bs) =>
          decodePixels intra e n refs.tail (i + 1) ({ y := y, co := co, cg := cg } :: acc)
            { y := ry, co := ro, cg := rg } bs

/-- A predicted payload decoded block by block: the reconstruction and the flags after it, with the bits left, or the
cause of R203. -/
def decodeBlocks (band : Bool) (eMax : Nat) :
    List RefIn → Rices → List Bool → Except Nat (List (Block × Bool) × List Bool)
  | [], _, bs => .ok ([], bs)
  | r :: rest, rs, bs =>
    match takeBits 2 bs with
    | none => .error 12
    | some (mode, bs) =>
      if mode = 3 then .error 8
      else if mode ≠ 2 ∧ (band || r.refresh) then .error 9
      else if mode = 0 then
        match decodeBlocks band eMax rest rs bs with
        | .error c => .error c
        | .ok (l, bs) => .ok ((r.ref, r.valid) :: l, bs)
      else
        match takeBits 3 bs with
        | none => .error 12
        | some (e, bs) =>
          if eMax < e then .error 10
          else
            match decodePixels (mode == 2) e 256 (r.ref.map ycocg) 0 [] rs bs with
            | .error c => .error c
            | .ok (acc, rs, bs) =>
              match decodeBlocks band eMax rest rs bs with
              | .error c => .error c
              | .ok (l, bs) => .ok ((acc.reverse.map rgbOf, mode == 2 || r.valid) :: l, bs)

end Sys2Proof.Machine
end

