-- ==== Sys2Proof/Machine/State.lean ====
section
/-!
DEFINITION. Sys2Proof/Machine/State.lean: everything the spec gives the device, as plain data.

One state covers both personalities: the fused personality (R1) decides which parts are used.  Objects of the
dictionary are held in one store (`Dev.dict`, `Dev.blobs`); state that the spec names without an object has a field
of its own.
-/
namespace Sys2Proof.Machine

/-- Why the block stops.  One reason, raised by `execResetRelease` alone: RST_N rose with STRAP_TEST high, which R546
reserves for production test and gives no behaviour.  Safe: the model stops where the spec describes nothing. -/
inductive Fault where
  | productionTest
  deriving DecidableEq, Repr

/-- Why a command has no meaning.  `notModelled` is answered only by an arm of `exec` whose command has no meaning yet.
Safe: nothing is claimed of such a command. -/
inductive Refusal where
  | notModelled (mnemonic : String)
  deriving DecidableEq, Repr

/-- What is fused at test or mask-set (R1, R7, R547). -/
structure Fuses where
  pers : Pers
  dieRev : Nat
  uid : Nat
  mac : Nat
  verBootrom : Nat
  /-- The comparison of R547: every fuse value agrees with its complement. -/
  complementsAgree : Bool
  deriving DecidableEq, Repr

/-- One-time-programmable storage (R543, R544). -/
structure Otp where
  safetyKey : Option Bytes
  revoked : Nat
  deriving DecidableEq, Repr

/-- The part of the device that no command but the two one-time writes can change. -/
structure Fixed where
  fuses : Fuses
  otp : Otp
  deriving DecidableEq, Repr

/-- Sparse object values: keys strictly rising, no entry equal to the object's default. -/
abbrev Store := List (Nat × Nat)

/-- Sparse byte strings by key, keys strictly rising. -/
abbrev BlobStore := List (Nat × Bytes)

/-! ### Pliuk (02_control.md) -/

/-- A subscription entry (R72): an object key, or an event code. -/
structure Sub where
  isEvent : Bool
  code : Nat
  minMs : Nat
  /-- Time of the last OBJECT_CHANGED, none before the first. -/
  lastSent : Option Time
  /-- A change waits for the interval to end (R73). -/
  waiting : Bool
  deriving DecidableEq, Repr

/-- A NOTIFY awaiting its acknowledgement (R74). -/
structure Outstanding where
  seq : Nat
  msg : Msg
  sentAt : Time
  repeats : Nat
  deriving DecidableEq, Repr

/-- A session, half open from the challenge answer until the AUTH_RESPONSE passes (R53, R56, R57). -/
structure Session where
  id : Nat
  role : Nat
  halfOpen : Bool
  /-- The carrier of the AUTH_CHALLENGE, the source of R54. -/
  source : Carrier
  /-- The carrier of the most recent request, to which answers and notifications go (R40, R42). -/
  peer : Carrier
  hostNonce : Bytes
  devNonce : Bytes
  since : Time
  lastSeq : Nat
  cached : Option Msg
  lastHeard : Time
  notifySeq : Nat
  /-- Requests that wait for the end of a validation, with their instants of receipt (R56, R63, R66). -/
  queue : List (Time × Carrier × Msg)
  subs : List Sub
  unacked : List Outstanding
  /-- The session's last transaction that has applied; 0: none (R590). -/
  applied : Nat := 0
  deriving DecidableEq, Repr

/-- A staged write or a shadow value: a scalar, or a BLOB's bytes. -/
structure Staged where
  key : Nat
  val : Nat
  blob : Option Bytes
  deriving DecidableEq, Repr

/-- The phase of a transaction (R59 to R66, R590). -/
inductive Phase where
  /-- Staging writes. -/
  | staging
  /-- COMMIT passed its cross-rules and validation has not ended (R61). -/
  | validating
  /-- Applies at this facet boundary (R61, R590). -/
  | scheduled (boundary : Time)
  /-- An armed wall commit for W; it applies at the first boundary at or after W, or at W with no mode in force. -/
  | armed (w : Time)
  deriving DecidableEq, Repr

/-- A write held in the shadow for a facet boundary (R30, R31). -/
structure Shadow where
  item : Staged
  boundary : Time
  deriving DecidableEq, Repr

/-- A transaction. -/
structure Txn where
  number : Nat
  session : Nat
  timeoutMs : Nat
  lastMsg : Time
  phase : Phase
  /-- Staged entries in arrival order, repeats included (R59). -/
  entries : List Staged
  /-- The request a COMMIT in validation answers. -/
  request : Option (Carrier × Msg)
  /-- The armed apply time agrees with its complement, and so does the staging (R526). -/
  intact : Bool
  /-- Shadow values that it overtakes, kept for a ROLLBACK. -/
  overtaken : List Shadow := []
  deriving DecidableEq, Repr

/-- A pending pair half (R34). -/
structure Half where
  key : Nat
  val : Nat
  session : Nat
  since : Time
  deriving DecidableEq, Repr

/-- A BLOB being staged by WRITE_BLOCK (R50). -/
structure BlobStage where
  key : Nat
  session : Nat
  txn : Nat
  total : Nat
  data : Bytes
  lastChunk : Time
  deriving DecidableEq, Repr

/-- Broadcast entries accepted by a tile and waiting (R69). -/
structure BcastPending where
  id : Nat
  entries : List Staged
  /-- W, or the instant of arrival where W is 0 or had passed: they apply at the first boundary from then on whose latch
  point follows the arrival, or at this instant while no mode is in force. -/
  applyAt : Time
  /-- The instant of arrival. -/
  taken : Time
  deriving DecidableEq, Repr

/-- Failed openings of one source and its lockout (R54). -/
structure Lockout where
  source : Carrier
  fails : List Time
  lockedTill : Option Time
  deriving DecidableEq, Repr

structure Pliuk where
  sessions : List Session
  txns : List Txn
  nextTxn : Nat
  halves : List Half
  stages : List BlobStage
  shadow : List Shadow
  bcasts : List BcastPending
  /-- Broadcast IDs of the last 10 s with their arrival (R71). -/
  bcastSeen : List (Nat × Time)
  lastBcast : Nat
  lastRefused : Nat
  lockouts : List Lockout
  /-- Inbound messages taken by the SPI target port and not yet executed, at most 4 (R44). -/
  spiIn : List Msg
  /-- Outbound messages pending on the SPI target port, at most 8 (R44); HSPI_IRQ_N is low while it is not empty. -/
  spiOut : List Msg
  /-- Relayed sessions of a sender: tile, session, and the UDP source of the most recent request (R40). -/
  relays : List (Nat × Nat × Carrier)
  /-- Wall planning rules that the committed state fails at run time (R21), by reason code. -/
  rulesRaised : List Nat
  /-- Objects whose stored Boot value differs from the running one, with the running value (R33). -/
  bootOld : Store
  deriving DecidableEq, Repr

/-! ### Wall time (03_wall_time.md) -/

/-- A master heard on an ingest port, with its Announce data set (R79). -/
structure ForeignMaster where
  port : Nat
  gm : Nat
  priority1 : Nat
  clockClass : Nat
  accuracy : Nat
  variance : Nat
  priority2 : Nat
  stepsRemoved : Nat
  source : Nat × Nat
  utcOffset : Int
  ptpTimescale : Bool
  /-- Announces heard in the qualification window, with the last one's time and the announce interval in ns. -/
  heard : Nat
  lastAt : Time
  interval : Nat
  deriving DecidableEq, Repr

/-- The time base and what steers it. -/
structure TimeBase where
  masters : List ForeignMaster
  /-- The master the best master clock algorithm selected (R592). -/
  selected : Option ForeignMaster
  /-- Consecutive Syncs with an offset within the limit of R90. -/
  run : Nat
  /-- The first offset after entering Acquiring is stepped (R91). -/
  stepDue : Bool
  /-- The last step, and the offset being slewed out with its limit in ppm (R87, R91). -/
  lastStepPs : Int
  slewPs : Int
  slewPpm : Nat
  /-- The fraction of a nanosecond that steers the rate, in units of 2^-32 ns, as of the last measured offset, and the
  instant of that offset (R76). -/
  frac : Nat
  slewAt : Time
  /-- Two-step Syncs awaiting their Follow_Up: port, sequence, ingress stamp, correction. -/
  awaiting : List (Nat × Nat × Int × Int)
  /-- The latest difference t2 − t1 of the slave port, in ps. -/
  masterToSlave : Int
  /-- Delay_Req in flight: port, sequence, egress stamp. -/
  delayReq : Option (Nat × Nat × Nat)
  delaySeq : Nat
  holdoverAt : Option Time
  /-- Last valid Sync per Withy port. -/
  lastSync : List (Option Time)
  /-- Latest Announce clockClass per Withy port. -/
  portClass : List Nat
  /-- Grandmaster identity, UTC offset and timescale flag of the latest Announce per Withy port (R76). -/
  portGm : List (Nat × Nat × Bool)
  /-- The port whose Syncs the tile follows or followed last (R82, R86). -/
  followed : Option PortId
  /-- Domain number of the latest TIM packet a tile has taken (R81). -/
  domain : Nat
  /-- The time state has left Unlocked since the start (R80). -/
  everTimed : Bool
  /-- Latest SMPTE management TLV received on ingest (R79). -/
  smpteTlv : Option Bytes
  /-- Gearbox and lane-deskew phase of each ingest port in ps, measured at its bring-up (R89). -/
  ingestPhase : List Nat
  /-- Offsets of R88 not yet paired, West and East, and the running average. -/
  dirWest : Option Int
  dirEast : Option Int
  dirSum : Int
  dirCount : Nat
  dirBad : Nat
  /-- Offset of the partner's time per Withy port (R83). -/
  pairOffset : List (Option Int)
  /-- Since when |PAIR_TIME_OFFSET| has exceeded its limit (R83). -/
  pairBeyond : Option Time
  /-- Since when the partner has announced clockClass 248 (R433). -/
  partnerFreerunSince : Option Time
  /-- Pdelay: egress stamp of the request in flight and the last 16 link delays, per port, in ps. -/
  pdelayOut : List (Option (Nat × Nat))
  pdelayHist : List (List Nat)
  pdelaySeq : List Nat
  syncSeq : List Nat
  announceSeq : List Nat
  /-- Consecutive time-base checks beyond 200 ppm (R519). -/
  ppmBad : Nat
  baseBad : Bool
  deriving DecidableEq, Repr

/-- A capture input: the FIFO of stamps, the opening edge not yet closed (R103, R106), and the level behind the glitch
filter, once an edge has shown it (R102). -/
structure Capture where
  fifo : List Nat
  openAt : Option Time
  level : Option Bool := none
  deriving DecidableEq, Repr

/-- A trigger output: when its mode was last written, the instant its TRIGn_START named then by signed difference (R78),
whether a Once pulse has fired, and the end of the pulse in progress (R107, R108). -/
structure Trigger where
  writtenAt : Time
  base : Int := 0
  fired : Bool
  pulseEnd : Option Time
  deriving DecidableEq, Repr

/-! ### Source ingest (04_ingest.md) -/

/-- Stored octets of a picture, newest first: line, byte offset in the line, octets (R121). -/
abbrev Rows := List (Nat × Nat × Bytes)

/-- A frame in a ring (R126 to R131). -/
structure InFrame where
  /-- r of R129, in ns since the PTP epoch. -/
  r : Nat
  /-- Arrival delay d in ns. -/
  delay : Int
  stamp : Nat
  /-- Sequence number of the frame's first packet, the one with the first sample of the picture (R130). -/
  first : Option Nat
  seqs : List Nat
  marker : Option Nat
  /-- The earlier of the marker packet and the first packet of a later time-stamp (R130). -/
  endAt : Option Time
  completeAt : Option Time
  closed : Bool
  rows : Rows
  deriving DecidableEq, Repr

/-- A stream slot: its ring, oldest frame first, and the merging of its legs. -/
structure StreamSt where
  frames : List InFrame
  /-- r of the frame selected at the latest selection instant. -/
  selected : Option Nat
  /-- First copies of the last second: sequence number, leg, arrival (R128). -/
  seen : List (Nat × Nat × Time)
  /-- Highest sequence number per leg among first copies that are older. -/
  aged : List (Option Nat)
  legAt : List (Option Time)
  /-- Time-stamps of the frames discarded or overwritten in the last 2 s, with when: their packets are placed nowhere. -/
  dropped : List (Nat × Time)
  /-- First packet of each time-stamp of the last 2 s, with its arrival (R130). -/
  firsts : List (Nat × Time)
  /-- Discards in succession for the second reason of R131. -/
  backDiscards : Nat
  /-- d of the last 1,000 frames, newest first, with Λ of those that became complete (R129). -/
  history : List (Int × Option Int)
  deriving DecidableEq, Repr

/-- A still buffer (R123 to R125, R162, R163). -/
structure StillSt where
  rows : Rows
  /-- Storage is taken from the ingest region. -/
  stored : Bool
  /-- A capture in progress: slot and W. -/
  capture : Option (Nat × Time)
  releasing : Bool
  deriving DecidableEq, Repr

/-! ### Layers (05_layers.md) -/

/-- What a layer contributes to the facet in composition. -/
inductive LayerShow where
  | nothing
  /-- The frame of its stream slot with this r. -/
  | frame (r : Nat)
  /-- Its still buffer or solid fill. -/
  | still
  /-- `LAYn_FALLBACK_COLOUR` (R160). -/
  | fallback
  deriving DecidableEq, Repr

/-- What a layer shows, and the run of repeats of its source (R158 to R161). -/
structure LayerRun where
  /-- The source the run below belongs to. -/
  source : Nat
  /-- r of the frame last used. -/
  frame : Option Nat
  repeats : Nat
  shows : LayerShow
  /-- r of the frame last used of the slot that is the matte. -/
  matte : Option Nat := none
  deriving DecidableEq, Repr
/-- A drive before its flags: grey count and range bit (R246, R285). -/
structure SlotWord where
  count : Nat
  low : Bool
  deriving DecidableEq, Repr

/-! ### Lamp Driver Link (09_lamp_driver_link.md) -/

/-- A spread plan (R282): segments, multiplex, G, dead time and W_det. -/
structure Plan where
  segs : Nat
  mux : Nat
  g : Nat
  dead : Nat
  det : Nat
  deriving DecidableEq, Repr

/-- A FLIP a driver holds, with the instant it was received whole (R291). -/
structure FlipCmd where
  exchange : Bool
  plan : Bool
  na0 : Nat
  nfc : Nat
  at' : Time
  deriving DecidableEq, Repr

/-- An armed test (R310): row, channel mask, START and W. -/
structure ArmedTest where
  row : Nat
  mask : Nat
  start : Nat
  width : Nat
  deriving DecidableEq, Repr

/-- Flags of a driver row: SEEN, OPEN and SHORT, channel 0 in bit 47 (R282, R309). -/
structure RowFlags where
  row : Nat
  seen : Nat
  opens : Nat
  shorts : Nat
  deriving DecidableEq, Repr

/-- A column driver (R286 to R310). -/
structure Driver where
  addr : Option Nat
  blanked : Bool
  /-- A BLANK with B = 0 waits for the next mark (R308). -/
  unblank : Bool
  /-- The two banks by row; an unlisted row is zero. -/
  bank0 : List (Nat × List Nat)
  bank1 : List (Nat × List Nat)
  /-- Index of the front bank. -/
  front : Nat
  /-- Written bits of the back bank, and rows of the front bank shown dark (R287), bit r for row r. -/
  written : Nat
  dark : Nat
  plan : Option Plan
  staged : Option Plan
  /-- FLIPs received and not yet in effect, and the one in effect since the last mark. -/
  flips : List FlipCmd
  flip : Option FlipCmd
  /-- The FLIP whose exchange is due at count N_FC after the last mark (R291). -/
  due : Option FlipCmd
  /-- The last mark, from which GCLK edges are counted (R289); none since power-on. -/
  markAt : Option Time
  ratio : Nat
  armed : List ArmedTest
  running : List ArmedTest
  flags : List RowFlags
  /-- Rows shown dark, and CRC failures, since the last STATUS read (R311). -/
  darkSeen : Nat
  crcErrors : Nat
  deriving DecidableEq, Repr

/-- What the tile keeps of a strand. -/
structure Strand where
  /-- Packets that have not returned, oldest first, with whether each is a repeat (R303, R304). -/
  sent : List (LdlPkt × Bool)
  /-- Failures in succession. -/
  fails : Nat
  /-- Latest STATUS read that reported dark rows (R302). -/
  darkAt : Option Time
  /-- End of the last bring-up (R313). -/
  upAt : Time
  bringing : Bool
  /-- End of the last packet sent, and packets that wait for room between the wale loads (R305), in the order of their
  opcodes, with whether each is a repeat. -/
  busyTill : Time
  waiting : List (LdlPkt × Bool)
  /-- Its bring-up has sent a SET_PLAN whose FLIP with P = 1 is still to come (R300). -/
  planDue : Bool
  /-- Its drivers are blanked by its own bring-up, and the BLANK with B = 0 that ends this at the next mark has been sent
  (R304). -/
  dark : Bool
  wakes : Bool
  /-- The last probe, and the dark gap in which the strand is brought up again (R304). -/
  probedAt : Option Time
  again : Option Time
  deriving DecidableEq, Repr

/-- The facet the drivers show: its mark, N_A0, the plan in force, and the test slots after the mark as row and START
(R291, R296, R310). -/
structure Showing where
  mark : Time
  na0 : Option Nat
  plan : Option Plan
  tests : List (Nat × Nat)
  deriving DecidableEq, Repr

/-- A test slot armed in the pass in progress: row, START, and the channel masks by strand and driver. -/
structure TestSlot where
  row : Nat
  start : Nat
  masks : List (Nat × List Nat)
  deriving DecidableEq, Repr

structure LdlSt where
  strands : List Strand
  /-- Column drivers by strand × 24 + position, keys rising; an unlisted driver is as at power-on. -/
  drivers : List (Nat × Driver)
  /-- Bring-up has begun since the power came up, so GCLK and SCAN are driven (R551). -/
  driven : Bool
  /-- A new plan has been sent for the next flip, and its FLIP with P = 1 has not (R233). -/
  planDue : Bool
  /-- The FLIP sent for the coming boundary: the boundary, N_A0, and whether it brings the plan sent into force. -/
  flip : Option (Time × Nat × Bool)
  /-- The facet the drivers show. -/
  showing : Option Showing
  /-- The drivers are blanked by the tile. -/
  blanked : Bool
  /-- Lamp states 2 to 5 by lamp index, unlisted Unverified or Absent (R313, R314). -/
  lamps : Store
  /-- Last verification by lamp index, in ns since the PTP epoch. -/
  verified : Store
  /-- Readings in succession with OPEN, and with SHORT. -/
  openRun : Store
  shortRun : Store
  /-- Last ROW_FLAGS read by driver row ((strand × 24 + driver) × 32 + row). -/
  lastRead : Store
  /-- Lamps loaded with MASK in the pass in progress (R315). -/
  masked : List Nat
  /-- First row of the next test turn, the facet number for which tests have been settled, the slots armed for it, and
  the rows tested in the facet on show (R317). -/
  nextRow : Nat
  armedFor : Option Nat
  armed : List TestSlot
  tested : List Nat
  /-- The last DIAG_READ (R312). -/
  diagAt : Option Time
  deriving DecidableEq, Repr


/-! ### The Wale codec (06_wale_codec.md) -/

/-- A reference wale (R179, R180). -/
structure RefWale where
  facet : Nat
  index : Nat
  tag : Nat
  blocks : List Block
  flags : List Bool
  deriving DecidableEq, Repr

/-- The encoder of one tile region on one Withy port of a sender. -/
structure EncRegion where
  port : PortId
  uid : Nat
  w16 : Nat
  h16 : Nat
  x : Nat
  y : Nat
  /-- e_base per facet index (R198). -/
  eBase : List Nat
  refs : List RefWale
  /-- The facet being coded, the next wale, the bits spent and e. -/
  facet : Option Nat
  next : Nat
  spent : Nat
  e : Nat
  deriving DecidableEq, Repr

/-- A wale emitted in the last second, for the means of R212's table. -/
structure EncHist where
  port : PortId
  time : Time
  bits : Nat
  pixels : Nat
  eSum : Nat
  eBlocks : Nat
  deriving DecidableEq, Repr

/-- A wale of the facet in composition that has left composition: canvas position, width, and whether it was late. -/
structure PassedWale where
  x : Nat
  y : Nat
  w : Nat
  late : Bool
  deriving DecidableEq, Repr

structure EncState where
  /-- The facet in composition, by its number in the mode in force. -/
  composing : Option Nat
  /-- A selection instant D that is not over, with the facet index: the slots select when it is (R134). -/
  selectAt : Option (Time × Nat) := none
  /-- RECON_CRC last sent: port, unique ID, facet index, wale index, value (R192). -/
  crcs : List (PortId × Nat × Nat × Nat × Nat) := []
  regions : List EncRegion
  history : List EncHist
  passed : List PassedWale
  /-- Check rectangles of this facet have reported (R336). -/
  checked : Bool
  /-- The mode last found in force, and since when (R63, R236). -/
  modeAt : Nat × Time
  deriving DecidableEq, Repr
/-! ### The tile's facet pipeline (06_wale_codec.md, 07_facet_scanout.md) -/

/-- A wale being assembled on a path (R588). -/
structure PixAsm where
  path : Nat
  frame : Nat
  facet : Nat
  wale : Nat
  total : Nat
  /-- Fragments by offset. -/
  parts : List (Nat × Bytes)
  /-- A fragment carried a different TOTAL. -/
  clash : Bool
  deriving DecidableEq, Repr

/-- Outcomes of R205. -/
inductive WaleOutcome where
  | pass | partial' | failed | lost
  deriving DecidableEq, Repr

/-- A wale of the facet in the pass, decoded on a path. -/
structure DecWale where
  path : Nat
  wale : Nat
  outcome : WaleOutcome
  blocks : List Block
  valid : List Bool
  deriving DecidableEq, Repr

/-- A wale of the pass after path selection has closed: the pixel words of path selection, those leaving source selection
and those leaving the overlay, and what Prism gave. -/
structure SelWale where
  wale : Nat
  picked : List PixWord
  src : List PixWord
  shown : List PixWord
  prism : Option (List SlotWord)
  /-- Loaded, or replaced by the load image (R224). -/
  loaded : Bool
  missed : Bool
  deriving DecidableEq, Repr

/-- Pixels or drive words of one wale of one facet index (R220). -/
structure DispRow where
  facet : Nat
  wale : Nat
  px : List PixWord
  deriving DecidableEq, Repr

/-- Drive words of one wale of one facet index (R220, R315). -/
structure LoadRow where
  facet : Nat
  wale : Nat
  words : List Nat
  /-- Its range bits count for the range choice: the facet count has not changed since (R257). -/
  counts : Bool
  deriving DecidableEq, Repr

/-- A flip packet (R227). -/
structure Flp where
  kind : Nat
  facet : Nat
  mode : Nat
  fraction : Nat
  f : Nat
  frame : Nat
  paramGen : Nat
  claim : Nat
  fader : Nat
  ceiling : Nat
  fNew : Nat
  off0 : Nat
  off1 : Nat
  off2 : Nat
  off3 : Nat
  deriving DecidableEq, Repr

/-- The FLP a tile held at the latch point of a boundary, and the paths that held one (R229, R231, R432). -/
structure LatchFlp where
  boundary : Time
  flp : Option Flp
  /-- West and East. -/
  held : List Bool
  deriving DecidableEq, Repr

structure TileSt where
  /-- The facet number whose pass is in progress, and the boundary at which the pass began. -/
  pass : Option (Nat × Time)
  /-- The pass shows the loss end state (R240). -/
  endShow : Bool
  asm : List PixAsm
  /-- References of the West and East paths (R179). -/
  refs : List (List RefWale)
  decs : List DecWale
  sel : List SelWale
  /-- Wales of the pass abandoned under R465, R531 or R536. -/
  abandoned : List Nat
  disp : List DispRow
  image : List LoadRow
  /-- The drive words loaded since the last flip, as they were sent (R315). -/
  back : List LoadRow
  /-- The drive words in the drivers' front banks, with their facet index. -/
  front : Option (Nat × List LoadRow)
  /-- The instant at which the present scan state was entered. -/
  entered : Time
  /-- Lost facets in succession. -/
  lostRun : Nat
  /-- In Unlocked, the loss end state that the drivers go on showing (R242). -/
  lossEnd : Option Nat
  /-- The facet number latched at L, and whether the tile flips at its boundary. -/
  latched : Option (Nat × Bool)
  atL : Option LatchFlp
  /-- The position has been taken at an enumeration, and the last PARAM_GEN of an FLP applied (R444). -/
  posSet : Bool
  paramGen : Option Nat
  /-- The plan last sent to the drivers. -/
  plan : Option Plan
  /-- The device was in power state Dark after the last command (R554). -/
  dark : Bool
  deriving DecidableEq, Repr


/-! ### Prism (08_prism.md) -/

/-- What corrections Prism uses (R269, R272). -/
inductive CalUse where
  | none | copyA | copyB | nominal
  deriving DecidableEq, Repr

structure PrismSt where
  use : CalUse
  /-- The image in use, its drive curves and its pixel matrices. -/
  image : Bytes
  sect1 : Bytes
  sect2 : Bytes
  /-- Canvas colorimetry of the derived matrices, and whether a derivation is in progress (R265, R266). -/
  colorimetry : Nat
  derivePending : Bool
  /-- Pixels whose correction record is being rebuilt from flash (the table of poisoned reads). -/
  rebuilding : List Nat
  /-- Ageing gains by lamp index, those of 0x8000 left out: the staging copy and the snapshot (R260, R261). -/
  ageStage : Store
  ageSnap : Store
  /-- c_t of the snapshot (R344). -/
  tileCeiling : Nat
  deriving DecidableEq, Repr

/-! ### Protected overlay (10_overlay_checks.md) -/

/-- An accepted ACTIVATE (2), DEACTIVATE (3) or DEACTIVATE_ALL (5) that has not applied (R328). -/
structure OvlCmd where
  cmd : Nat
  slot : Nat
  seq : Nat
  x : Nat
  y : Nat
  w : Nat
  h : Nat
  crc : Nat
  /-- APPLY_AT as an instant, 0 for none, and when the command was accepted (R328). -/
  applyAt : Time
  taken : Time
  /-- Its time had passed at a start: it waits for scan-out to enter Running (R331). -/
  held : Bool
  deriving DecidableEq, Repr
/-! ### Lamp wear ledger (11_wear_ledger.md) -/

/-- A journal record as it stands in flash (R351): the fields of its header, the header's complement as one 128-bit
number, and its entries as value and complement. -/
structure JRecord where
  ty : Nat
  version : Nat
  seq : Nat
  first : Nat
  count : Nat
  comp : Nat
  entries : List (Nat × Nat)
  deriving DecidableEq, Repr

/-- A journal block that has been erased and given its header (R350), with its records in order. -/
structure JBlock where
  no : Nat
  magic : Nat
  erases : Nat
  erasesComp : Nat
  ringSeq : Nat
  ringSeqComp : Nat
  uid : Nat
  recs : List JRecord
  deriving DecidableEq, Repr

/-- The journal region, and the lists of blocks that the settings keep. -/
structure Journal where
  blocks : List JBlock
  ring : List Nat
  spares : List Nat
  retired : List Nat
  /-- Blocks whose erase, program or read-back fails, each with the number of records it takes before (R360). -/
  failing : List (Nat × Nat)
  /-- d of R360, and whether Read-only has been entered (R361). -/
  doublings : Nat
  readOnly : Bool
  deriving DecidableEq, Repr

/-- A checkpoint: its sequence, SNAP_TIME in wall ns, and whether a CLOSE follows (R352, R355). -/
structure Ckpt where
  seq : Nat
  snapTime : Nat
  close : Bool
  deriving DecidableEq, Repr

structure LedgerSt where
  /-- Accumulators A and working sums V by lamp index, zeros left out. -/
  acc : Store
  work : Store
  /-- A at the previous snapshot, and the snapshot buffer. -/
  prev : Store
  snap : Store
  ckpt : Option Ckpt
  /-- The checkpoint whose PROJECTION record has been written and whose snapshot instant is still to come (R352). -/
  next : Option Ckpt
  /-- Luminance and needed gain of the latest update, those of 0x8000 left out. -/
  lums : Store
  gains : Store
  journal : Journal
  /-- When the tile's wall request was last sent (R348). -/
  requestAt : Option Time
  /-- Requests a sender has received: tile, value, time (R349). -/
  requests : List (Nat × Nat × Time)
  deriving DecidableEq, Repr


/-! ### Sense (12_sense.md) -/

/-- The step of a calibration run in progress (R369), or of the start calibration (R373). -/
inductive CalPhase where
  | idle
  | starting
  | spare
  | toSpare (c : Nat)
  | zero (c : Nat)
  | refer (c : Nat)
  | back (c : Nat)
  deriving DecidableEq, Repr

/-- What the sense block keeps of an input. -/
structure SenseInput where
  /-- Sum and number of valid samples of the thermal window in progress (R365). -/
  sum : Int
  count : Nat
  absent : Bool
  /-- Cycles in succession outside the limits, and whether the fault has been logged (R366). -/
  outside : Nat
  logged : Bool
  /-- A dark capture in progress: its start, sum of v and number of samples (R380). -/
  dark : Option (Time × Nat × Nat)
  /-- A baseline capture waits for a window (R380). -/
  baseline : Bool
  /-- The 60 s window: sum and number of values, sum of lit counts and number of apertures (R379). -/
  pdSum : Int
  pdCount : Nat
  litSum : Nat
  litCount : Nat
  /-- Windows in succession beyond the tolerance (R381). -/
  pdBad : Nat
  /-- The fault of R381 has been logged in this succession. -/
  pdLogged : Bool
  deriving DecidableEq, Repr

structure SenseSt where
  phase : CalPhase
  /-- Conversion periods of the present step. -/
  periods : Nat
  /-- z of the converter in calibration. -/
  zero : Int
  inputs : List SenseInput
  /-- Die temperature at the start of the run in progress. -/
  startTemp : Int
  lastEnd : Option Time
  /-- A run starts at the next conversion period (R371). -/
  due : Bool
  /-- Since when every input of a slot has been absent (R375), by slot. -/
  absentSince : List (Option Time)
  /-- R378 has set the gains without the slew limit. -/
  settled : Bool
  deriving DecidableEq, Repr

/-! ### Withy (13_withy.md) -/

/-- A hello block (R394). -/
structure Hello where
  pers : Nat
  dieRev : Nat
  verPhy : Nat
  uid : Nat
  port : Nat
  rateNow : Nat
  rateMask : Nat
  step : Nat
  next : Nat
  cableClass : Nat
  claim : Nat
  genSeen : Nat
  attempt : Nat
  deriving DecidableEq, Repr

/-- What a port in Training or Dark is doing (R395 to R399). -/
inductive LinkPhase where
  /-- Lanes powered down, or Up. -/
  | idle
  /-- Exchanging hellos at the present rate. -/
  | hello
  /-- A Request for the next index has been sent. -/
  | request (next : Nat)
  /-- Switched to a new rate; lock is due within 2 ms. -/
  | locking (prev : Nat)
  /-- Verifying at a new rate for 1 ms. -/
  | verify (prev : Nat)
  /-- Waiting after a failed attempt. -/
  | backoff
  /-- Dark, between beacons or in one. -/
  | dark
  deriving DecidableEq, Repr

/-- A control column of a link (R385): its type, with what its blocks hold. -/
inductive Col where
  | idle
  | slack
  /-- ALIGN, with the rate index. -/
  | align (rate : Nat)
  /-- GRANT, with the number of IDLE columns that follow. -/
  | grant (n : Nat)
  deriving DecidableEq, Repr

/-- A port of the Withy link. -/
structure Port where
  lanes : List Bool
  /-- What the ALIGN columns of each lane show: the port lane it carries, and its arrival in ps against the others (R387). -/
  align : List (Nat × Nat)
  /-- Columns in a tile's forwarding FIFO towards this port (R390). -/
  fifo : Nat
  rate : Nat
  agreed : Nat
  phase : LinkPhase
  partner : Option Hello
  intact : Nat
  errors : Nat
  beacon : Bool
  failedStepUps : Nat
  /-- A step-up of an Up port is in progress (R402). -/
  steppingUp : Bool
  chkSeq : Nat
  chkLast : Option Nat
  /-- Packets sent, and packet starts received, since the last CHK (R413). -/
  sent : Nat
  started : Nat
  /-- Sync header errors and packet CRC errors of the last millisecond. -/
  rxErrors : Nat
  ctlSeq : Nat
  /-- The device's own packets waiting for a grant run (R416). -/
  own : List Packet
  /-- Ingress stamps in ps of the Pdelay_Reqs whose answers wait among them, in order (R89, R411). -/
  respIn : List Int
  lastGrant : Option Time
  /-- This tile opens grant runs into the port (R417). -/
  grants : Bool
  /-- An ENUM is due at once because the port has just come Up (R420). -/
  lastEnum : Option Time
  /-- Gearbox and lane-deskew phase in ps, measured at the bring-up (R89). -/
  phasePs : Nat
  /-- When the present phase began, or the last valid hello of a port that waits for one came: what the times of R396 to
  R402 run from.  Of a Dark port, when it became Dark or its last beacon began (R399). -/
  since : Time
  deriving DecidableEq, Repr

/-- A record of an ENUM (R422). -/
structure EnumRec where
  uid : Nat
  ingress : Nat
  rates : Nat
  w16 : Nat
  h16 : Nat
  lamps : Nat
  held : Nat
  deriving DecidableEq, Repr

/-- What a tile knows of enumeration on one port (R422, R423, R425): the distance at which it last wrote a record in the
sender's ENUM, and HOPS + 1 of the ENUM that came last. -/
structure TileEnum where
  dist : Nat
  hops : Nat
  sender : Nat
  lastAt : Option Time
  deriving DecidableEq, Repr

/-- What a sender knows of the hoop on one port (R424). -/
structure HoopList where
  tiles : List EnumRec
  closed : Bool
  partner : Nat
  lastPartner : Option Time
  slowest : Nat
  deriving DecidableEq, Repr

structure Withy where
  ports : List Port
  tileEnum : List TileEnum
  /-- N of the last enumeration in which the hoop was closed, and its end-0 sender (R425). -/
  closedN : Option (Nat × Nat)
  hoops : List HoopList
  /-- The equalisation table in force since the start; none where every lane has the default entry (R393). -/
  eq : Option Bytes
  deriving DecidableEq, Repr

/-! ### Flip packets and hoops (07_facet_scanout.md, 14_hoops.md) -/

/-- A sender's part in its pair (R426 to R440). -/
structure Pair where
  /-- Since when no valid partner claim has been read. -/
  quietSince : Time
  /-- The rank clash of R427 has been logged in this start. -/
  clashLogged : Bool
  /-- The partner's wall parameters, to be adopted at the FLP's boundary (R438). -/
  adopt : Option Flp
  adopted : Bool
  /-- The own generation has been brought below the partner's since Rejoining was entered, or was there already (R438). -/
  settled : Bool
  /-- FLP and PIX are being sent (R437 to R439). -/
  sending : Bool
  /-- The digest that the last write of `PAIR_STATE_CONFIRM` was compared with (R440). -/
  confirmed : Nat
  deriving DecidableEq, Repr

/-- A path of a tile (R429 to R432). -/
structure PathSt where
  /-- Valid FLPs received on the path, newest first. -/
  flps : List Flp
  /-- Wales of the facet in progress with outcome Failed or Lost. -/
  bad : Nat
  /-- Facets in succession outside Faulty since the last entry into it; 4 when a new entry is logged. -/
  clean : Nat
  deriving DecidableEq, Repr

/-! ### Stacked memory (15_dram.md) -/

/-- A DRAM channel. -/
structure DramCh where
  /-- Due refreshes not issued, by bank (R467). -/
  debts : List Nat
  /-- Highest debts of the last second, newest first, falling with age left out (`CHc_DEBT_MAX`). -/
  debtHist : List (Time × Nat)
  /-- End of the last epoch, and the start of one that replaces a discarded epoch (R454, R457). -/
  epochEnd : Time
  epochAgain : Option Time
  /-- Epochs in succession beyond the limits of R455. -/
  driftRun : Nat
  /-- Bursts read in the present pass of the patrol scrub (R466). -/
  scrub : Nat
  /-- The oscillator count of training at set points 0, 1 and 2: the baselines of R450 and R454. -/
  base : List Nat
  deriving DecidableEq, Repr

structure DramSt where
  chans : List DramCh
  /-- A set-point change that waits for epochs to end (R457). -/
  waiting : Option Nat
  /-- Reads of range 1, and of range 2 or lower, in succession by die (R469, R471). -/
  normalReads : List Nat
  coolReads : List Nat
  /-- When each die's refresh-rate field was last read (R468). -/
  rangeAt : List (Option Time)
  /-- The memory was derated when it entered self-refresh (R471, R474). -/
  derated : Bool
  /-- Channels to be retired at the next start (R455). -/
  retireNext : List Nat
  deriving DecidableEq, Repr
/-! ### Flash (02_control.md, 10_overlay_checks.md, 17_update.md) -/

/-- A boot record (R497). -/
structure BootRec where
  seq : Nat
  active : Nat
  trial : Nat
  left : Nat
  reason : Nat
  markA : Nat
  markB : Nat
  secMin : Nat
  trialEnd : Nat
  deriving DecidableEq, Repr

/-- Where a large blob lies in the pool of a settings region: its key, its first block and its blocks (R513). -/
structure PoolEntry where
  key : Nat
  first : Nat
  count : Nat
  deriving DecidableEq, Repr

/-- The contents of a settings directory with its blobs (R513). -/
structure Directory where
  schema : Nat
  gen : Nat
  store : Store
  blobs : BlobStore
  pool : List PoolEntry
  deriving DecidableEq, Repr

/-- A settings region: its valid directories, the newer and the older (R513, R514). -/
structure Region where
  newest : Option Directory
  older : Option Directory
  deriving DecidableEq, Repr

structure Flash where
  /-- Density in MiB and JEDEC identity of the part. -/
  sizeMiB : Nat
  jedec : Nat
  /-- Bytes of the two copies of the boot record (R497); empty: erased. -/
  boot0 : Bytes
  boot1 : Bytes
  /-- Bytes of firmware slots A and B; empty: erased. -/
  slotA : Bytes
  slotB : Bytes
  /-- Settings regions A and B, of the images in slots A and B (R488). -/
  regA : Region
  regB : Region
  /-- Objects applied and not yet written (R28, R29), and those that the present command writes at once (R243, R327). -/
  dirty : List Nat
  urgent : List Nat
  /-- Overlay commands accepted and pending; they are in flash from their acceptance on (R327, R331). -/
  ovl : List OvlCmd
  /-- Region width, height and lamp count at the latest start (R219). -/
  region : Nat × Nat × Nat
  /-- The two copies of the calibration image; empty: erased (R269). -/
  calA : Bytes
  calB : Bytes
  deriving DecidableEq, Repr

/-- The update engine. -/
structure UpdSt where
  /-- Bytes received, their total, the session and the last chunk's time (R493 to R495). -/
  image : Bytes
  total : Nat
  session : Nat
  lastChunk : Time
  /-- The slot to be activated, and W of the activation; 0: at the end of preparation (R501 to R504). -/
  slot : Nat
  w : Nat
  /-- TRIAL_END had passed when the device started (R512). -/
  startedLate : Bool
  /-- Settings migrated for the slot (R503, R505). -/
  migrated : Option Directory
  /-- The target boundary has been latched: the change is made at it (R505). -/
  handed : Bool
  /-- A write of UPD_ABORT in Trial waits for a boundary (R511). -/
  abort : Bool
  /-- The running image, and the previous one in the spare context. -/
  running : Nat
  previous : Option Nat
  /-- A wall-wide change at this boundary: no pass begins at it (R508). -/
  skipPass : Option Time
  /-- What UPD_STATE was when the device stopped, until the boot ROM has loaded a slot; 0: taken (R517). -/
  was : Nat
  /-- The trial begins with this start, after a change with a restart (R507, R516). -/
  restarted : Bool
  deriving DecidableEq, Repr


/-! ### Integrity (18_integrity.md) -/

/-- One fault log entry (R521); its CRC is a function of the other fields. -/
structure FaultEntry where
  seq : Nat
  cls : Nat
  severity : Nat
  index : Nat
  sub : Nat
  time : Nat
  subject : Nat
  detail : Nat
  deriving DecidableEq, Repr

/-- A record of the persistent fault log: the entry, and the 32 bytes behind it, which are its complement in a whole record
(R523). -/
structure FlogRec where
  entry : FaultEntry
  comp : Bytes
  deriving DecidableEq, Repr

/-- A cause of the safe state that has not been cleared (R538, R541). -/
inductive SafeCause where
  | overTemp
  | dramRange4
  | rail (input : Nat)
  | complement (value : Kept)
  | stalls (stage : Nat)
  deriving DecidableEq, Repr

structure Integ where
  /-- The log in DRAM, oldest first, at most 256 entries (R522). -/
  log : List FaultEntry
  nextSeq : Nat
  /-- Entries per class 0 to 16 since start (`FLOG_CLASS_COUNTS`). -/
  classCounts : List Nat
  /-- Entries that R523 still has to write to flash, oldest first. -/
  toPersist : List FaultEntry
  /-- The two persistent blocks in flash (R523): records oldest first. -/
  blocks : List (List FlogRec)
  /-- The block in use. -/
  block : Nat
  /-- Instants of the persistent log's writes in the last second (R523). -/
  persistTimes : List Time
  /-- Mismatches of R526 by value, with their times (R527). -/
  mismatches : List (Kept × Time)
  /-- Values that differ from their complements and await their next check (R526). -/
  upset : List Kept
  /-- Stalls by stage, with their times (R532). -/
  stalls : List (Nat × Time)
  causes : List SafeCause
  /-- Instants since which each ending condition of R541 has held, by cause. -/
  okSince : List (SafeCause × Time)
  /-- Start of a control restart in progress (R537). -/
  restart : Option Time
  /-- End of the last control restart (R537). -/
  lastRestart : Option Time
  /-- Since when PACE_RATE has been above 1.10 × the target (R533). -/
  fastSince : Option Time
  /-- Since when the low rate at 0.80 V, and the wrong voltage, of R534 have lasted, and whether that is logged. -/
  slowSince : Option (Time × Bool)
  voltOffSince : Option (Time × Bool)
  /-- The last wale ready less than 10 µs before its deadline. -/
  lastLateWale : Option Time
  avsFails : Nat
  /-- Core voltage request in mV (R533). -/
  vreq : Nat
  /-- Least margins of the last second in ns, newest first (`PACE_SLACK_MIN`). -/
  slacks : List (Time × Int)
  /-- Start of the present pass of the configuration scrub (R535). -/
  scrubAt : Time
  /-- Stores whose reload has not ended (R535, R536). -/
  reloading : List Nat
  deriving DecidableEq, Repr

/-! ### Start-up and power states (19_startup.md) -/

/-- Where the device stands between power-off and Armed. -/
inductive Run where
  /-- No power. -/
  | off
  /-- RST_N low. -/
  | inReset
  /-- Step n of the start sequence in progress (R548). -/
  | step (n : Nat)
  /-- Armed: step 9 has been completed (R549). -/
  | armed
  /-- Entering Standby (R556). -/
  | toStandby
  | standby
  /-- Step n of a Standby exit (R558). -/
  | fromStandby (n : Nat)
  /-- Preparing for Off (R559). -/
  | toOff
  | offReady
  | recovery
  | startFailed
  /-- R539, R547. -/
  | halted
  deriving DecidableEq, Repr


/-- Start sequence, straps and power pins (R545 to R559). -/
structure Start where
  run : Run
  straps : Straps
  /-- Start of the present step. -/
  stepAt : Time
  /-- STBY_REQ_N and OFF_REQ_N are held low. -/
  stbyLow : Bool
  offLow : Bool
  /-- Where the device stood when the preparation for Off began (R559). -/
  offFrom : Run
  /-- Step 4 has ended since the reset: the TRIG outputs follow their settings (R552). -/
  trigOn : Bool
  /-- Step 9 has been reached but waits (R219, R272). -/
  step9Held : Bool
  /-- Copies of the calibration image that the flash cannot read, as the last start step found (R269). -/
  calFail : List Nat
  deriving DecidableEq, Repr

/-! ### What leaves the device, and the device -/

/-- Something a command makes the device send or drive. -/
inductive Output where
  /-- A Pliuk message on a carrier. -/
  | pliuk (c : Carrier) (m : Msg)
  /-- A datagram from the relay port with its prefix (R40). -/
  | relayed (dst : Carrier) (tile : Nat) (m : Msg)
  /-- Status of an entry-level write to an object. -/
  | entry (sid : Nat) (key : Nat) (status : Nat)
  /-- Bytes the SPI target port returns (R43). -/
  | spi (bytes : Bytes)
  /-- A Withy packet into a port. -/
  | withy (port : PortId) (p : Packet)
  /-- A control column into a port (R385). -/
  | column (port : PortId) (c : Col)
  /-- A Delay_Req on an ingest port: sequence, unicast (R79). -/
  | delayReq (port : Nat) (seq : Nat) (unicast : Bool)
  /-- The SMPTE management TLV received on an ingest port (R79). -/
  | smpteTlv (port : Nat) (tlv : Bytes)
  /-- An edge of a trigger output: its level at the ball and the pulse width. -/
  | trig (n : Nat) (level : Bool) (width : Nat)
  /-- An ARP reply, an ICMP echo reply, an IGMPv3 membership report. -/
  | arpReply (port : Nat) (target : Nat) (mac : Nat)
  | icmpReply (port : Nat) (dst : Nat) (data : Bytes)
  | igmpReport (port : Nat) (groups : List (Nat × Nat))
  /-- A packet on a strand (R279). -/
  | ldl (strand : Nat) (p : LdlPkt)
  /-- A GCLK mark on the outputs of a mask (R276, R288). -/
  | gclkMark (mask : Nat)
  /-- A packet leaving a driver, towards the next driver or SRET. -/
  | driver (strand : Nat) (pos : Nat) (p : LdlPkt)
  /-- A voltage request to the core regulator in mV (R533). -/
  | avs (mv : Nat)
  deriving DecidableEq, Repr

/-- An event the notification sweep turns into NOTIFY messages (R72). -/
inductive Event where
  | fault (e : FaultEntry)
  | rule (reason : Nat)
  deriving DecidableEq, Repr

/-- The device: everything but the queue of waiting commands. -/
structure Dev where
  fix : Fixed
  /-- The instant of the latest command. -/
  now : Time
  dict : Store
  blobs : BlobStore
  start : Start
  time : TimeBase
  caps : List Capture
  trigs : List Trigger
  streams : List StreamSt
  stills : List StillSt
  layers : List LayerRun
  enc : EncState
  /-- Check rectangles whose state has been applied since their last result (R337). -/
  chkFresh : List Bool
  prism : PrismSt
  sense : SenseSt
  withy : Withy
  pair : Pair
  paths : List PathSt
  tile : TileSt
  ldl : LdlSt
  ledger : LedgerSt
  pliuk : Pliuk
  integ : Integ
  dram : DramSt
  /-- The session that holds each check unit (R481). -/
  cuHolder : List (Option Nat)
  flash : Flash
  update : UpdSt
  /-- How many free values have been drawn (the model's own field, DESIGN CHOICE, log entry 3). -/
  free : Nat
  /-- Outputs of the latest command. -/
  out : List Output
  /-- Events of the latest command that the sweep has not sent yet; empty between commands. -/
  events : List Event
  deriving DecidableEq, Repr

/-! ### Reset -/

/-- A Withy port with its lanes powered down. -/
def Port.off : Port :=
  { lanes := [false, false, false, false], rate := 0, agreed := 0, phase := .idle, partner := none,
    intact := 0, errors := 0, beacon := false, failedStepUps := 0, steppingUp := false,
    chkSeq := 0, chkLast := none, sent := 0, started := 0, rxErrors := 0, ctlSeq := 0, own := [], respIn := [], fifo := 0,
    align := [(0, 0), (1, 0), (2, 0), (3, 0)],
    lastGrant := none, grants := false, lastEnum := none, phasePs := 0, since := 0 }

/-- A sense input before its first sample. -/
def SenseInput.off : SenseInput :=
  { sum := 0, count := 0, absent := true, outside := 0, logged := false, dark := none, baseline := false, pdSum := 0,
    pdCount := 0, litSum := 0, litCount := 0, pdBad := 0,
    pdLogged := false }

def Pliuk.fresh : Pliuk :=
  { sessions := [], txns := [], nextTxn := 1, halves := [], stages := [], shadow := [], bcasts := [], bcastSeen := [],
    lastBcast := 0, lastRefused := 0, lockouts := [], spiIn := [], spiOut := [], relays := [], rulesRaised := [],
    bootOld := [] }

def TimeBase.fresh : TimeBase :=
  { masters := [], selected := none, run := 0, stepDue := false, lastStepPs := 0, slewPs := 0, slewPpm := 0,
    frac := 0, slewAt := 0,
    awaiting := [], masterToSlave := 0, delayReq := none, delaySeq := 0, holdoverAt := none,
    lastSync := List.replicate 4 none, portClass := List.replicate 4 248,
    portGm := List.replicate 4 (0, 0, true), followed := none, domain := 127, everTimed := false, smpteTlv := none,
    ingestPhase := List.replicate 8 0, dirWest := none, dirEast := none,
    dirSum := 0, dirCount := 0, dirBad := 0, pairOffset := List.replicate 4 none, pairBeyond := none,
    partnerFreerunSince := none,
    pdelayOut := List.replicate 4 none, pdelayHist := List.replicate 4 [], pdelaySeq := List.replicate 4 0,
    syncSeq := List.replicate 4 0, announceSeq := List.replicate 4 0, ppmBad := 0, baseBad := false }

def StreamSt.fresh : StreamSt :=
  { frames := [], selected := none, seen := [], aged := [none, none], legAt := [none, none], dropped := [],
    firsts := [], backDiscards := 0, history := [] }

def TileSt.fresh : TileSt :=
  { pass := none, endShow := false, asm := [], refs := [[], []], decs := [], sel := [], abandoned := [], disp := [],
    image := [], back := [], front := none, entered := 0, lostRun := 0, lossEnd := none, latched := none, atL := none, posSet := false, paramGen := none,
    plan := none, dark := true }

def PrismSt.fresh : PrismSt :=
  { use := .none, image := [], sect1 := [], sect2 := [], colorimetry := 2, derivePending := false, rebuilding := [],
    ageStage := [], ageSnap := [], tileCeiling := 0x8000 }

def SenseSt.fresh : SenseSt :=
  { phase := .idle, periods := 0, zero := 0, inputs := List.replicate 16 .off, startTemp := 0, lastEnd := none,
    due := false, absentSince := List.replicate 4 none, settled := false }

def Strand.fresh : Strand :=
  { sent := [], fails := 0, darkAt := none, upAt := 0, bringing := false, busyTill := 0, waiting := [], planDue := false,
    dark := false, wakes := false, probedAt := none, again := none }

def LdlSt.fresh : LdlSt :=
  { strands := List.replicate 32 .fresh, drivers := [], driven := false, planDue := false, flip := none, showing := none,
    blanked := true, lamps := [], verified := [], openRun := [], shortRun := [], lastRead := [], masked := [],
    nextRow := 0, armedFor := none, armed := [], tested := [], diagAt := none }

def Journal.fresh : Journal :=
  { blocks := [], ring := [], spares := [], retired := [], failing := [], doublings := 0, readOnly := false }

def LedgerSt.fresh : LedgerSt :=
  { acc := [], work := [], prev := [], snap := [], ckpt := none, next := none, lums := [], gains := [], journal := .fresh,
    requestAt := none, requests := [] }

def Integ.fresh : Integ :=
  { log := [], nextSeq := 1, classCounts := List.replicate 17 0, toPersist := [], blocks := [[], []], block := 0,
    persistTimes := [], mismatches := [], upset := [], stalls := [], causes := [], okSince := [], restart := none,
    lastRestart := none, fastSince := none, slowSince := none, voltOffSince := none, lastLateWale := none,
    avsFails := 0, vreq := 750, slacks := [], scrubAt := 0, reloading := [] }

def UpdSt.fresh : UpdSt :=
  { image := [], total := 0, session := 0, lastChunk := 0, slot := 0, w := 0, startedLate := false, migrated := none,
    handed := false, abort := false, running := 0, previous := none, skipPass := none, was := 0, restarted := false }

/-- A flash part as delivered: 1 Gbit, erased (log entry 53). -/
def Flash.erased : Flash :=
  { sizeMiB := 128, jedec := 0, boot0 := [], boot1 := [], slotA := [], slotB := [],
    regA := { newest := none, older := none }, regB := { newest := none, older := none }, dirty := [], urgent := [], ovl := [],
    region := (0, 0, 0), calA := [], calB := [] }

/-- A device in reset, with these fuses, one-time storage and flash: everything volatile at its reset value.  Values
that the spec does not state are those of log entry 70. -/
def Dev.fresh (fix : Fixed) (flash : Flash) (now : Time) : Dev :=
  { fix := fix
    now := now
    dict := []
    blobs := []
    start :=
      { run := .inReset, straps := { recovery := false, xspiSafe := false, test := false }, stepAt := now,
        stbyLow := false, offLow := false, offFrom := .inReset, trigOn := false, step9Held := false, calFail := [] }
    time := .fresh
    caps := List.replicate 8 { fifo := [], openAt := none }
    trigs := List.replicate 8 { writtenAt := 0, fired := false, pulseEnd := none }
    streams := List.replicate 16 .fresh
    stills := List.replicate 16 { rows := [], stored := false, capture := none, releasing := false }
    layers := List.replicate 8 { source := 0, frame := none, repeats := 0, shows := .nothing }
    enc := { composing := none, regions := [], history := [], passed := [], checked := false, modeAt := (0, 0) }
    chkFresh := List.replicate 16 false
    prism := .fresh
    sense := .fresh
    withy :=
      { ports := List.replicate 4 .off
        tileEnum := List.replicate 2 { dist := 0, hops := 0, sender := 0, lastAt := none }
        closedN := none
        hoops := List.replicate 4 { tiles := [], closed := false, partner := 0, lastPartner := none, slowest := 3 }
        eq := none }
    pair := { quietSince := 0, clashLogged := false, adopt := none, adopted := false, settled := false, sending := false, confirmed := 0 }
    paths := List.replicate 2 { flps := [], bad := 0, clean := 4 }
    tile := .fresh
    ldl := .fresh
    ledger := .fresh
    pliuk := .fresh
    integ := .fresh
    dram :=
      { chans := List.replicate 8
          { debts := List.replicate 16 0, debtHist := [], epochEnd := 0, epochAgain := none, driftRun := 0, scrub := 0,
            base := [0, 0, 0] }
        waiting := none
        normalReads := List.replicate 4 0
        coolReads := List.replicate 4 0
        rangeAt := List.replicate 4 none
        derated := false
        retireNext := [] }
    cuHolder := List.replicate 4 none
    flash := flash
    update := .fresh
    free := 0
    out := []
    events := [] }

/-- Fuses and one-time storage of the device in `State.reset` (DESIGN CHOICE, log entry 1): a tile of die revision 1.0,
unique ID 1, no Safety key, no key revoked. -/
def Fixed.reset : Fixed :=
  { fuses := { pers := .tile, dieRev := 0x0100, uid := 1, mac := 0, verBootrom := 0, complementsAgree := true }
    otp := { safetyKey := none, revoked := 0 } }


/-- The block: the device and the commands that wait, first in, first out. -/
structure State where
  dev : Dev
  pending : List Instr
  deriving DecidableEq, Repr

/-- The block right after power-on, RST_N still low: the device of `Fixed.reset` with an erased flash part, and no
command waiting. -/
def State.reset : State := { dev := Dev.fresh Fixed.reset Flash.erased 0, pending := [] }

end Sys2Proof.Machine
end

