-- ==== Sys2Proof/Machine/Ops.lean ====
section
/-!
DEFINITION. Sys2Proof/Machine/Ops.lean: the operations every chapter uses: reading and writing objects, counters,
the fault log, outputs, and the free values.
-/
namespace Sys2Proof.Machine

/-! ### The object store -/

/-- A quotient rounded to the nearest integer; of a tie either is possible (log entry 40). -/
def nearestDiv (a : Int) (b : Nat) : Int :=
  if b ≠ 0 ∧ 2 * (a % b) = b then a / b + (if Config.tieUp a b then 1 else 0) else (2 * a + b) / (2 * b)

/-- A quotient as an integer where the spec does not say how it is rounded: exact, or either neighbour (log entry 40). -/
def unstatedDiv (a : Int) (b : Nat) : Int :=
  if b = 0 ∨ a % b = 0 then a / b else a / b + (if Config.roundsUp a b then 1 else 0)

/-! ### Exact rates

The commit estimates are sums of quotients, which the rules compare before any rounding. -/

/-- An exact quotient at or above 0: numerator and denominator. -/
structure Frac where
  num : Nat
  den : Nat
  deriving DecidableEq, Repr

/-- The exact sum. -/
def Frac.add (a b : Frac) : Frac :=
  if a.den = b.den then ⟨a.num + b.num, a.den⟩ else ⟨a.num * b.den + b.num * a.den, a.den * b.den⟩

/-- The exact sum of a list. -/
def Frac.sum : List Frac → Frac
  | [] => ⟨0, 1⟩
  | x :: xs => x.add (Frac.sum xs)

/-- A whole multiple. -/
def Frac.times (k : Nat) (a : Frac) : Frac := ⟨k * a.num, a.den⟩

/-- Is the quotient greater than `n`? -/
def Frac.above (a : Frac) (n : Nat) : Bool := decide (n * a.den < a.num)

/-- The quotient in units of `unit` as a reported integer (log entry 91). -/
def Frac.report (a : Frac) (unit : Nat) : Nat := (unstatedDiv (a.num : Nat) (a.den * unit)).toNat

/-- The entry of a key, if listed. -/
def Store.look (k : Nat) : Store → Option Nat
  | [] => none
  | (a, v) :: s => if a = k then some v else Store.look k s

/-- The store with `k` holding `v`, keys strictly rising. -/
def Store.put (k v : Nat) : Store → Store
  | [] => [(k, v)]
  | (a, w) :: s => if k < a then (k, v) :: (a, w) :: s else if k = a then (k, v) :: s else (a, w) :: Store.put k v s

/-- The store without `k`. -/
def Store.del (k : Nat) : Store → Store
  | [] => []
  | (a, w) :: s => if a = k then Store.del k s else (a, w) :: Store.del k s

/-- Are the keys strictly rising? -/
def Store.rising : Store → Bool
  | [] => true
  | [_] => true
  | (a, _) :: (b, w) :: s => decide (a < b) && Store.rising ((b, w) :: s)

/-- The bytes of a key, empty where unlisted. -/
def BlobStore.look (k : Nat) : BlobStore → Bytes
  | [] => []
  | (a, v) :: s => if a = k then v else BlobStore.look k s

/-- The blob store with `k` holding `v`. -/
def BlobStore.put (k : Nat) (v : Bytes) : BlobStore → BlobStore
  | [] => [(k, v)]
  | (a, w) :: s =>
    if k < a then (k, v) :: (a, w) :: s else if k = a then (k, v) :: s else (a, w) :: BlobStore.put k v s

/-- Is SEQUENCE `a` greater than `b` by the signed difference? -/
def seqAfter (a b : Nat) : Bool := decide (0 < toSigned 32 ((a + 2 ^ 32 - b) % 2 ^ 32))

/-- The instance of an indexed object that a key names: `base` is the key of instance 0, `n` the number of instances. -/
def instOf (base n k : Nat) : Option Nat :=
  if k % 256 = base % 256 ∧ base / 256 ≤ k / 256 ∧ k / 256 < base / 256 + n then some (k / 256 - base / 256) else none

/-- A bit mask from its bits, bit 0 first. -/
def maskOf : List Bool → Nat
  | [] => 0
  | b :: l => b2n b + 2 * maskOf l

/-- The row of the object tables that defines a key in a personality; none: the object does not exist (R3, R25). -/
def findDef (p : Pers) (k : Nat) : Option ObjDef :=
  match dictGroups.find? (fun g => g.1 == k / 65536) with
  | none => none
  | some g => g.2.find? (fun o => o.covers p k)

/-- The default of a key: what the store reads where nothing is listed. -/
def defaultOf (p : Pers) (k : Nat) : Nat :=
  match findDef p k with
  | none => 0
  | some o => o.dflt p

namespace Dev

def pers (d : Dev) : Pers := d.fix.fuses.pers
def isTile (d : Dev) : Bool := d.pers == .tile
def isSender (d : Dev) : Bool := d.pers == .sender

/-- Wall nanoseconds of the command's instant (R77). -/
def wall (d : Dev) : Nat := d.now % 2 ^ 48

/-- The raw value an object's store holds. -/
def obj (d : Dev) (k : Nat) : Nat :=
  match d.dict.look k with
  | some v => v
  | none => defaultOf d.pers k

/-- The object's value read as a signed container of `w` bits. -/
def objI (d : Dev) (w k : Nat) : Int := toSigned w (d.obj k)

/-- The object with a new raw value; the store stays canonical. -/
def setObj (k v : Nat) (d : Dev) : Dev :=
  { d with dict := if v = defaultOf d.pers k then Store.del k d.dict else Store.put k v d.dict }

/-- The object with a signed value saturated to `w` bits. -/
def setObjI (w k : Nat) (i : Int) (d : Dev) : Dev := d.setObj k (satSigned w i)

/-- Width in bits of an object's container. -/
def objBits (d : Dev) (k : Nat) : Nat :=
  match findDef d.pers k with
  | none => 32
  | some o => 8 * o.ty.width

/-- A saturating counter one higher. -/
def bump (k : Nat) (d : Dev) : Dev := d.setObj k (satInc (d.objBits k) (d.obj k))

/-- A saturating counter `n` higher. -/
def bumpBy (n k : Nat) (d : Dev) : Dev := d.setObj k (satAdd (d.objBits k) (d.obj k) n)

/-- A wrapping counter one higher. -/
def bumpWrap (k : Nat) (d : Dev) : Dev := d.setObj k ((d.obj k + 1) % 2 ^ d.objBits k)

/-- The bytes a BLOB's store holds. -/
def blob (d : Dev) (k : Nat) : Bytes := d.blobs.look k

def setBlob (k : Nat) (v : Bytes) (d : Dev) : Dev := { d with blobs := BlobStore.put k v d.blobs }

/-- The running value of a Boot object: the stored value unless a later one waits for the next start (R33). -/
def bootObj (d : Dev) (k : Nat) : Nat :=
  match d.pliuk.bootOld.look k with
  | some v => v
  | none => d.obj k

/-! ### Outputs -/

/-- Something leaves the device. -/
def emit (o : Output) (d : Dev) : Dev := { d with out := d.out ++ [o] }

/-- A list of outputs leaves the device, in order. -/
def emitAll (os : List Output) (d : Dev) : Dev := { d with out := d.out ++ os }

/-- A Pliuk message leaves on a carrier; on the SPI target port it waits to be read, and beyond the 8 places of R44 it
is lost. -/
def sendMsg (c : Carrier) (m : Msg) (d : Dev) : Dev :=
  match c with
  | .spi =>
    if d.pliuk.spiOut.length < 8 then { d with pliuk := { d.pliuk with spiOut := d.pliuk.spiOut ++ [m] } } else d
  | _ => d.emit (.pliuk c m)

/-! ### Free values -/

/-- A fresh free value of `w` bits: what the spec leaves open, in the order the device draws them. -/
def drawFree (w : Nat) (d : Dev) : Nat × Dev := (Config.freeValue d.free % 2 ^ w, { d with free := d.free + 1 })

/-! ### The fault log (R520 to R523) -/

/-- Does the device keep a log and answer to it?  Nothing is logged with no power or in reset. -/
def logFault (cls severity key subject detail : Nat) (d : Dev) : Dev :=
  let e : FaultEntry :=
    { seq := d.integ.nextSeq, cls := cls, severity := severity, index := key / 256, sub := key % 256,
      time := d.wall, subject := subject, detail := detail % 2 ^ 32 }
  let full := decide (256 ≤ d.integ.log.length)
  let keep := if full then d.integ.log.drop 1 else d.integ.log
  let d := if full then d.bump K.FLOG_OVERWRITTEN else d
  { d with
    integ := { d.integ with
      log := keep ++ [e]
      nextSeq := (d.integ.nextSeq + 1) % 2 ^ 32
      classCounts := upd cls (satInc 32) d.integ.classCounts
      toPersist := if 2 ≤ severity then d.integ.toPersist ++ [e] else d.integ.toPersist }
    events := d.events ++ [.fault e] }

/-- A fault whose DETAIL is the object's value after the event (R521). -/
def fault (cls key subject : Nat) (d : Dev) : Dev := d.logFault cls 2 key subject (d.obj key)

/-- A warning: a Note (R521). -/
def note (cls key subject : Nat) (d : Dev) : Dev := d.logFault cls 1 key subject (d.obj key)

/-- A counter one higher and a fault that names it. -/
def bumpFault (cls key subject : Nat) (d : Dev) : Dev := (d.bump key).fault cls key subject

/-! ### Persistence -/

/-- Is the object kept across starts (R28)? -/
def persists (d : Dev) (k : Nat) : Bool :=
  match findDef d.pers k with
  | none => false
  | some o => o.persist d.pers

/-- An applied persistent value waits for the settings write of R29. -/
def markDirty (k : Nat) (d : Dev) : Dev :=
  if d.persists k then
    { d with flash := { d.flash with dirty := if d.flash.dirty.contains k then d.flash.dirty else d.flash.dirty ++ [k] } }
  else d

/-- An object takes a value, and the value is kept if the object persists. -/
def keepObj (k v : Nat) (d : Dev) : Dev := (d.setObj k v).markDirty k

/-- Where the device stands for what it answers and runs: a device that prepares for Off, or has done so, stays where it was
(R559). -/
def baseRun (d : Dev) : Run :=
  match d.start.run with
  | .toOff | .offReady => d.start.offFrom
  | r => r

/-- May flash be written?  In Off ready it may not (R559). -/
def flashOpen (d : Dev) : Bool := d.start.run != .offReady

/-- An object's value goes to flash within this command. -/
def flashObj (k : Nat) (d : Dev) : Dev :=
  { d with flash := { d.flash with
      urgent := if d.flash.urgent.contains k then d.flash.urgent else d.flash.urgent ++ [k] } }

/-- A BLOB's bytes go to flash within this command. -/
def flashBlob (k : Nat) (d : Dev) : Dev := d.flashObj k

/-- An object takes a value that is in flash at once. -/
def putFlash (k v : Nat) (d : Dev) : Dev := (d.setObj k v).flashObj k

/-- A BLOB takes a value, and the value is kept if the object persists. -/
def keepBlob (k : Nat) (v : Bytes) (d : Dev) : Dev := (d.setBlob k v).markDirty k

end Dev

/-- Bytes of a fault log entry (R521). -/
def FaultEntry.bytes (e : FaultEntry) : Bytes :=
  let body := be 4 e.seq ++ be 1 e.cls ++ be 1 e.severity ++ be 2 e.index ++ be 1 e.sub ++ be 1 0 ++
    be 6 e.time ++ be 8 e.subject ++ be 4 e.detail
  body ++ be 4 (crc32c body)

/-- A Pliuk message with its length and trailer filled in (R45, R47). -/
def msgBytes (m : Msg) : Bytes :=
  be 1 m.version ++ be 1 m.flags ++ be 1 m.opcode ++ be 1 m.status ++ be 4 m.session ++ be 4 m.sequence ++
    be 4 m.txn ++ be 4 m.length ++ m.payload

/-- The trailer of R47. -/
def msgTrailer (m : Msg) : Nat := crc32c (msgBytes m)

/-- The message with LENGTH and trailer computed. -/
def sealMsg (m : Msg) : Msg :=
  let m := { m with length := m.payload.length }
  { m with crc := msgTrailer m }

end Sys2Proof.Machine
end

