-- ==== Sys2Proof/Machine/FacetTime.lean ====
section
/-!
DEFINITION. Sys2Proof/Machine/FacetTime.lean: base frames, facet boundaries and apertures in exact integer arithmetic
(R96 to R99, R213 to R217), and the boundary at which a change applies (R31).
-/
namespace Sys2Proof.Machine

/-- N and D of a base-rate code (the table above R96); 0 for a code that is not one. -/
def baseRate : Nat → Nat × Nat
  | 0x1 => (24000, 1001)
  | 0x2 => (24, 1)
  | 0x3 => (25, 1)
  | 0x4 => (30000, 1001)
  | 0x5 => (30, 1)
  | 0x6 => (48000, 1001)
  | 0x7 => (48, 1)
  | 0x8 => (50, 1)
  | 0x9 => (60000, 1001)
  | 0xA => (60, 1)
  | 0xB => (72, 1)
  | 0xC => (96, 1)
  | 0xD => (100, 1)
  | 0xE => (120000, 1001)
  | 0xF => (120, 1)
  | _ => (0, 1)

/-- Facet count c of a mode number (R213). -/
def facetCount (m : Nat) : Nat := m % 16

/-- Rate numerator N of a mode number. -/
def modeN (m : Nat) : Nat := (baseRate (m / 16)).1

/-- Rate denominator D of a mode number. -/
def modeD (m : Nat) : Nat := (baseRate (m / 16)).2

/-- Is a mode number valid (R213)? -/
def modeValid (m : Nat) : Bool :=
  decide (1 ≤ m / 16) && decide (m / 16 ≤ 15) && decide (1 ≤ facetCount m) && decide (facetCount m ≤ 4) &&
    decide (modeN m * facetCount m ≤ 240 * modeD m)

/-- Start B_k of base frame k (R96). -/
def baseStart (m k : Nat) : Nat := k * modeD m * 10 ^ 9 / modeN m

/-- The facet boundary of facet number q = k · c + j (R96). -/
def facetAt (m q : Nat) : Nat := q * modeD m * 10 ^ 9 / (modeN m * facetCount m)

/-- The number of the last facet whose boundary is at or before `t`. -/
def facetNo (m t : Nat) : Nat := ((t + 1) * (modeN m * facetCount m) - 1) / (modeD m * 10 ^ 9)

/-- The number of the first facet whose boundary is after `t`. -/
def facetAfter (m t : Nat) : Nat := facetNo m t + 1

/-- The number of the first facet whose boundary is at or after `t`. -/
def facetFrom (m t : Nat) : Nat := if t = 0 then 0 else facetNo m (t - 1) + 1

/-- The number of the last base frame that starts at or before `t`. -/
def frameNo (m t : Nat) : Nat := ((t + 1) * modeN m - 1) / (modeD m * 10 ^ 9)

/-- Is `t` a facet boundary of the mode? -/
def isBoundary (m t : Nat) : Bool := facetAt m (facetNo m t) == t

/-- Percentage of R215. -/
def aperturePct : Nat → Nat
  | 1 => 50
  | 2 => 75
  | 3 => 90
  | _ => 0

/-- Aperture length a (R215). -/
def apertureLen (m fraction : Nat) : Nat :=
  aperturePct fraction * modeD m * 10 ^ 9 / (100 * modeN m * facetCount m)

/-- Shorter of the two facet periods of a mode: the floor of the mean. -/
def periodMin (m : Nat) : Nat := modeD m * 10 ^ 9 / (modeN m * facetCount m)

/-- A0 of facet number q with offset `o` (R97, R99). -/
def apertureOpen (m a o q : Nat) : Nat :=
  let c := facetCount m
  if o = 0xFFFFFFFF then facetAt m q + (facetAt m (q + 1) - facetAt m q - a) / 2
  else baseStart m (q / c) + o

/-- The condition of R98 for facet j of base frame k. -/
def offsetFitsAt (m a o j k : Nat) : Bool :=
  let c := facetCount m
  let b := baseStart m k
  decide (facetAt m (k * c + j) + 2000 ≤ b + o) && decide (b + o + a + 2000 ≤ facetAt m (k * c + j + 1))

/-- R98 for facet j, checked over `n` base frames from frame `k`. -/
def offsetFitsFrom (m a o j : Nat) : Nat → Nat → Bool
  | _, 0 => true
  | k, n + 1 => offsetFitsAt m a o j k && offsetFitsFrom m a o j (k + 1) n

/-- Boundaries repeat: `facetAt m (q + patternLen m)` is `facetAt m q` plus a constant, because the mean facet period is
a fraction whose reduced denominator is this number. R98 asked of every k is therefore asked of this many. -/
def patternLen (m : Nat) : Nat := modeN m * facetCount m / Nat.gcd (modeN m * facetCount m) (modeD m * 10 ^ 9)

/-- R98: an explicit offset fits facet j in every base frame. -/
def offsetFits (m fraction o j : Nat) : Bool :=
  o == 0xFFFFFFFF || offsetFitsFrom m (apertureLen m fraction) o j 0 (patternLen m)

namespace Dev

/-- May a mode be in force?  A sender applies its stored wall parameters at the end of step 8 (R548). -/
def modeOn (d : Dev) : Bool :=
  d.isTile || (match d.baseRun with
    | .step n => decide (9 ≤ n)
    | .fromStandby n => decide (9 ≤ n)
    | .armed | .toStandby => true
    | _ => false)

/-- The mode in force, 0x00 none (R214). -/
def mode (d : Dev) : Nat := if d.modeOn then d.obj K.MODE_NUMBER else 0

/-- The coming facet boundary: the first after the present instant. -/
def comingBoundary (d : Dev) : Time := facetAt d.mode (facetAfter d.mode d.now)

/-- The latch lead: L = F − 24 µs. -/
def latchLead : Nat := 24000

/-- The boundary at which a change accepted now applies (R31, R61): the coming one before its latch point, and the
following one otherwise. -/
def applyBoundary (d : Dev) : Time :=
  let q := facetAfter d.mode d.now
  let f := facetAt d.mode q
  if d.now + latchLead < f then f else facetAt d.mode (q + 1)

/-- The first boundary at or after an instant in the mode in force (R62). -/
def boundaryFrom (d : Dev) (w : Time) : Time := facetAt d.mode (facetFrom d.mode w)

end Dev

end Sys2Proof.Machine
end

