-- ==== Sys2Proof/Machine/DramOps.lean ====
section
/-!
DEFINITION. Sys2Proof/Machine/DramOps.lean: the stacked memory: set points, training, retraining epochs, refresh debt,
temperature, ECC, patrol scrub, address mapping, and self-refresh (R448 to R474).
-/
namespace Sys2Proof.Machine

/-! ### Address mapping (R458, R459, R461) -/

/-- Index in `l` of rank `n`. -/
def nthSet (mask : Nat) (n : Nat) : Nat := ((List.range 8).filter (fun c => bit c mask)).getD n 0

/-- Channel and channel-local address of the flat address `a`, with `count` channels of which `mask` are trained
(R458, R459). -/
def dramRoute (count mask grain a : Nat) : Nat × Nat :=
  if popCount 8 mask = count then
    let k := if count = 8 then 3 else 1
    (bits 8 k a ^^^ bits (8 + k) k a ^^^ bits (8 + 2 * k) k a, (a >>> (8 + k)) * 256 + a % 256)
  else
    let g := 256 * 2 ^ grain
    let ct := popCount 8 mask
    (nthSet mask (a / g % ct), a / (g * ct) * g + a % g)

/-- Row, bank and data burst of channel-local burst `u` (R461). -/
def dramPlace (order u : Nat) : Nat × Nat × Nat :=
  match order with
  | 1 => (u / 448, u / 28 % 16, u % 28)
  | 2 => (u / 448, 4 * (u % 4) + u / 112 % 4, u / 4 % 28)
  | _ => (u / 448, u % 16, u / 16 % 28)

/-- Data bursts of a channel: 1,344 MiB of 64 bytes. -/
def channelBursts : Nat := 22020096

/-- Pass margins of the training steps 1 to 4, in hundredths of a UI (R450). -/
def trainNeeds : List Nat := [30, 15, 25, 25]

/-- The first of the steps from number `n` on whose margin, in 1/64 UI, does not reach its figure; 0 where every step
passes (R450). -/
def stepFail : Nat → List Nat → List Nat → Nat
  | _, [], _ => 0
  | n, _ :: _, [] => n
  | n, need :: needs, m :: ms => if m * 100 < need * 64 then n else stepFail (n + 1) needs ms

/-- The step that fails a channel at the first set point at which one fails; 0 where it trains (R450, R452). -/
def trainFail : List (List Nat) → Nat
  | [] => 0
  | ms :: rest => if stepFail 1 trainNeeds ms = 0 then trainFail rest else stepFail 1 trainNeeds ms

end Sys2Proof.Machine

/-- The margin of step `n` at set point 1, where training comes that far; 0 where it does not (R450). -/
def Sys2Proof.TrainResult.marginOf (x : Sys2Proof.TrainResult) (n : Nat) : Nat :=
  let last := x.margins.getD 2 []
  let fail := Sys2Proof.Machine.stepFail 1 Sys2Proof.Machine.trainNeeds last
  if Sys2Proof.Machine.trainFail [x.margins.getD 0 [], x.margins.getD 1 []] = 0 ∧ (fail = 0 ∨ n ≤ fail) then last.getD (n - 1) 0 else 0

namespace Sys2Proof.Machine

/-- A channel as training leaves it. -/
def DramCh.fresh : DramCh :=
  { debts := List.replicate 16 0, debtHist := [], epochEnd := 0, epochAgain := none, driftRun := 0, scrub := 0,
    base := [0, 0, 0] }

namespace Dev

def setInteg (f : Integ → Integ) (d : Dev) : Dev := { d with integ := f d.integ }

def setDram (f : DramSt → DramSt) (d : Dev) : Dev := { d with dram := f d.dram }

def channelCount (d : Dev) : Nat := if d.isSender then 8 else 2

def dieCount (d : Dev) : Nat := if d.isSender then 4 else 1

def dramCh (d : Dev) (c : Nat) : DramCh := (d.dram.chans[c]?).getD .fresh

def setDramCh (c : Nat) (f : DramCh → DramCh) (d : Dev) : Dev := d.setDram (fun m => { m with chans := upd c f m.chans })

/-- Is the channel trained and serving: Ready or Retire pending? -/
def chServes (d : Dev) (c : Nat) : Bool :=
  decide (c < d.channelCount) && (d.obj (K.CH_STATE c) == 2 || d.obj (K.CH_STATE c) == 3)

/-- Does the controller run: Running or Derated? -/
def dramRuns (d : Dev) : Bool := d.obj K.DRAM_STATE == 2 || d.obj K.DRAM_STATE == 3

/-! ### Set points (R449, R456, R457) -/

/-- Data rate of a set point in MT/s (R449). -/
def dramRate (d : Dev) (sp : Nat) : Nat :=
  match sp with
  | 0 => 2133
  | 1 => if d.isSender then 8533 else 6400
  | _ => if d.isSender then 6400 else 4266

/-- Does what R554 names keep the device in power state Dark once it is Armed? -/
def darkCause (d : Dev) : Bool := d.mode == 0 || (d.isTile && (d.obj K.SCAN_ENABLE == 0 || d.obj K.INTEG_STATE == 2))

/-- Is the device Armed and in power state Dark (R554)? -/
def powerDark (d : Dev) : Bool := d.start.run == .armed && d.darkCause

/-- The set point that R456 calls for from the end of step 9 on; until then the one in force stays (R548).  DEDUCED, log
entry 58: derating in Dark stays at set point 0. -/
def setpointDue (d : Dev) : Nat :=
  if d.start.run ≠ .armed then d.obj K.DRAM_SETPOINT
  else if d.darkCause then 0
  else if d.obj K.DRAM_STATE = 3 then 2
  else 1

/-- Is the change that R456 calls for urgent: derating has begun at set point 1, and no change waits? -/
def setpointUrgent (d : Dev) : Bool := d.obj K.DRAM_SETPOINT == 1 && d.setpointDue == 2 && d.dram.waiting.isNone

/-- Has the device left Dark and not yet changed to the set point of Active, so that no pass begins (R555)? -/
def setpointWaits (d : Dev) : Bool :=
  d.dramRuns && d.start.run == .armed && !d.darkCause && d.obj K.DRAM_SETPOINT == 0

/-- Start of the channel's latest epoch: by wall time, or the one that replaces a discarded epoch (R454, R457). -/
def epochStart (d : Dev) (c : Nat) : Time :=
  let off := c * (100000000 / d.channelCount)
  let phase := (d.wall + 100000000 - off) % 100000000
  max (d.now - phase) ((d.dramCh c).epochAgain.getD 0)

/-- Is an epoch in progress: begun less than 2 ms ago and not ended?  DEDUCED, log entry 59. -/
def epochRuns (d : Dev) (c : Nat) : Bool :=
  d.chServes c && decide ((d.dramCh c).epochEnd < d.epochStart c) && decide (d.epochStart c ≤ d.now) &&
    decide (d.now < d.epochStart c + 2000000)

def anyEpoch (d : Dev) : Bool := (List.range d.channelCount).any (fun c => d.epochRuns c)

/-- Every trained channel switches. -/
def switchSetpoint (target : Nat) (d : Dev) : Dev :=
  (((d.setDram (fun m => { m with waiting := none })).setObj K.DRAM_SETPOINT target).setObj K.DRAM_RATE
    (d.dramRate target)).bumpWrap K.DRAM_FREQ_CHANGES

/-- An epoch in progress is discarded, and a new one starts when the switch ends, at most 15 µs later (R456, R457). -/
def discardEpoch (c : Nat) (d : Dev) : Dev :=
  if d.epochRuns c then
    (d.setDramCh c (fun x => { x with epochEnd := d.now, epochAgain := some (d.now + 15000) })).bump K.DRAM_EPOCHS_DISCARDED
  else d

/-- A set-point change is asked for (R456, R457). -/
def askSetpoint (target : Nat) (urgent : Bool) (d : Dev) : Dev :=
  if !d.dramRuns then d
  else if d.obj K.DRAM_SETPOINT = target then d.setDram (fun m => { m with waiting := none })
  else if urgent then ((List.range d.channelCount).foldl (fun d c => d.discardEpoch c) d).switchSetpoint target
  else if d.anyEpoch then d.setDram (fun m => { m with waiting := some target })
  else d.switchSetpoint target

/-- SETPOINT_CHANGE: the change that R456 calls for, urgent or not as its table says, if it is this one. -/
def setpointChange (target : Nat) (urgent : Bool) (d : Dev) : Dev :=
  if target = d.setpointDue ∧ urgent = d.setpointUrgent then d.askSetpoint target urgent else d

/-- A change that waits is made once no epoch is in progress. -/
def releaseSetpoint (d : Dev) : Dev :=
  match d.dram.waiting with
  | some target => if d.dramRuns && !d.anyEpoch then d.switchSetpoint target else d
  | none => d

/-! ### Epochs (R454, R455) -/

/-- The correction of an epoch: within 8/64 UI, and leaving the total within 16/64 UI (R455). -/
def driftAfter (total drift : Int) : Int := clampI (-16) 16 (total + clampI (-8) 8 drift)

/-- Is an epoch's correction beyond the limits of R455? -/
def driftBad (total drift : Int) : Bool :=
  decide (drift < -8) || decide (8 < drift) || decide (total + drift < -16) || decide (16 < total + drift)

/-- An epoch of channel `c` ends with the correction it computed. -/
def epochEnds (c : Nat) (drift : Int) (d : Dev) : Dev :=
  let total := d.objI 16 (K.CH_DRIFT c)
  let bad := driftBad total drift
  let d := (d.setObjI 16 (K.CH_DRIFT c) (driftAfter total drift)).bumpWrap (K.CH_RETRAINS c)
  let d := d.setDramCh c (fun x =>
    { x with epochEnd := d.now, epochAgain := none, driftRun := if bad then x.driftRun + 1 else 0 })
  let d := if bad then d.bumpFault 7 (K.CH_DRIFT_FAULTS c) c else d
  if decide (3 ≤ (d.dramCh c).driftRun) && d.obj (K.CH_STATE c) == 2 then
    (d.setObj (K.CH_STATE c) 3).setDram (fun m => { m with retireNext := m.retireNext ++ [c] })
  else d

/-- The drift of a channel whose oscillator count is `count`: a comparison with the baseline of the set point in force (R454),
of which the spec does not give the formula. -/
def driftOf (d : Dev) (c count : Nat) : Int :=
  Config.epochDrift ((d.dramCh c).base.getD (d.obj K.DRAM_SETPOINT) 0) count (d.objI 16 (K.CH_DRIFT c))

/-- RETRAIN_EPOCH: the channel's epoch in progress ends. -/
def retrainEpoch (c count : Nat) (d : Dev) : Dev :=
  if d.dramRuns && d.epochRuns c then (d.epochEnds c (d.driftOf c count)).releaseSetpoint else d

/-! ### Refresh (R467 to R470) -/

/-- The highest debt of a channel enters the last second's history. -/
def noteDebt (c : Nat) (d : Dev) : Dev :=
  d.setDramCh c (fun x =>
    let m := x.debts.foldl max 0
    { x with debtHist := (d.now, m) :: x.debtHist.filter (fun h => decide (m < h.2) && decide (d.now < h.1 + 1000000000)) })

/-- Highest bank debt of the last second (`CHc_DEBT_MAX`). -/
def debtMax (d : Dev) (c : Nat) : Nat :=
  max ((d.dramCh c).debts.foldl max 0)
    (((d.dramCh c).debtHist.filter (fun h => decide (d.now < h.1 + 1000000000))).foldl (fun m h => max m h.2) 0)

/-- PER_BANK_REFRESH: the bank's refresh falls due; `issued`: the bank has no traffic queued, so every due refresh is
issued.  DEDUCED, log entry 60. -/
def bankRefresh (c bank : Nat) (issued : Bool) (d : Dev) : Dev :=
  if d.dramRuns && d.chServes c && decide (bank < 16) then
    (d.setDramCh c (fun x => { x with debts := upd bank (fun b => if issued then 0 else min 8 (b + 1)) x.debts })).noteDebt c
  else d

/-- The doubled rate starts on a channel: the debt is doubled and paid ahead of all traffic (R470). -/
def startDoubled (c : Nat) (d : Dev) : Dev :=
  if d.obj (K.CH_REFRESH_RATE c) = 2 then d
  else
    let d := d.setObj (K.CH_REFRESH_RATE c) 2
    if !d.chServes c then d
    else
      let d := (d.setDramCh c (fun x => { x with debts := x.debts.map (fun b => 2 * b) })).noteDebt c
      let stall := (d.dramCh c).debts.foldl (· + ·) 0 * 90
      let d := (d.setObj (K.CH_STALL_MAX c) (max (d.obj (K.CH_STALL_MAX c)) stall)).bump (K.CH_RERATES c)
      d.setDramCh c (fun x => { x with debts := x.debts.map (fun _ => 0) })

/-- Successive reads that meet a condition. -/
def countRead (die : Nat) (met : Bool) (l : List Nat) : List Nat := upd die (fun n => if met then n + 1 else 0) l

/-- The rates that follow from a read of range `r` on a die (R468, R469). -/
def takeRange (die r : Nat) (d : Dev) : Dev :=
  let d := d.setDram (fun m => { m with normalReads := countRead die (r == 1) m.normalReads
                                        coolReads := countRead die (decide (r ≤ 2)) m.coolReads
                                        rangeAt := upd die (fun _ => some d.now) m.rangeAt })
  [2 * die, 2 * die + 1].foldl (fun d c =>
    let d := d.setObj (K.CH_TEMP_RANGE c) r
    if 2 ≤ r then d.startDoubled c
    else if 2 ≤ d.dram.normalReads.getD die 0 then d.setObj (K.CH_REFRESH_RATE c) 1
    else d) d

/-- Has every die reported range 2 or lower on four reads in succession (R471, R541)? -/
def diesCool (d : Dev) : Bool := (List.range d.dieCount).all (fun x => decide (4 ≤ d.dram.coolReads.getD x 0))

/-- Derating begins or ends at a read of range `r` (R471). -/
def derateState (r : Nat) (d : Dev) : Dev :=
  if r = 3 ∧ d.obj K.DRAM_DERATE_ENABLE = 1 ∧ d.obj K.DRAM_STATE = 2 then
    (d.setObj K.DRAM_STATE 3).bump K.DRAM_DERATE_EVENTS
  else if d.obj K.DRAM_STATE = 3 ∧ d.diesCool then d.setObj K.DRAM_STATE 2
  else d

/-- The same, with the change of set point that it calls for: urgent where derating begins (R456). -/
def derate (r : Nat) (d : Dev) : Dev :=
  let e := d.derateState r
  if e.obj K.DRAM_STATE = d.obj K.DRAM_STATE ∨ e.darkCause then e
  else e.askSetpoint e.setpointDue (e.obj K.DRAM_STATE == 3)

/-- Is a read of the die's field due (R468): on a sender at its wall times, on a tile every 16 ms from the first one on?
DEDUCED, log entry 191: R468 gives a tile's reads no wall time. -/
def rangeDue (d : Dev) (die : Nat) : Bool :=
  let last := d.dram.rangeAt.getD die none
  decide (die < d.dieCount) && last.all (fun t => decide (t < d.now)) &&
    (if d.isSender then d.wall % 16000000 == die * 4000000 else last.all (fun t => (d.now - t) % 16000000 == 0))

/-- The refresh-rate field of a die is read: rates, debt and derating.  Values other than 1 to 4 are never reported
(R468). -/
def mr4 (die r : Nat) (d : Dev) : Dev :=
  if decide (die < d.dieCount) && decide (1 ≤ r) && decide (r ≤ 4) then (d.takeRange die r).derate r else d

/-! ### ECC and patrol scrub (R464 to R466) -/

/-- A read finds an uncorrectable error (R465): class 7 of R518. -/
def uncorrectable (c u word : Nat) (d : Dev) : Dev :=
  let (r, b, x) := dramPlace (d.bootObj K.DRAM_ADDR_ORDER) u
  let d := d.bump (K.CH_ECC_UNCORRECTED c)
  let d := (d.setObj K.ECC_LAST_UE_LOC (c * 2 ^ 28 + b * 2 ^ 24 + r % 2 ^ 16 * 256 + x * 8 + word % 8)).setObj
    K.ECC_LAST_UE_TIME d.wall
  d.fault 7 (K.CH_ECC_UNCORRECTED c) c

/-- PATROL_SCRUB: the next burst of channel `e.ch`. -/
def patrolScrub (e : EccEvent) (d : Dev) : Dev :=
  let x := d.dramCh e.ch
  if !d.dramRuns || !d.chServes e.ch || decide (channelBursts ≤ x.scrub) then d
  else
    let d := e.words.foldl (fun d w =>
      match w.2 with
      | .none => d
      | .corrected => (d.bump (K.CH_ECC_CORRECTED e.ch)).bump K.SCRUB_CORRECTED
      | .uncorrectable => d.uncorrectable e.ch x.scrub w.1) d
    let d := d.setDramCh e.ch (fun x => { x with scrub := x.scrub + 1 })
    let live := (List.range d.channelCount).filter (fun c => d.chServes c)
    let sum := live.foldl (fun a c => a + (d.dramCh c).scrub) 0
    if live.all (fun c => decide (channelBursts ≤ (d.dramCh c).scrub)) then
      ((live.foldl (fun d c => d.setDramCh c (fun x => { x with scrub := 0 })) d).bumpWrap K.SCRUB_PASSES).setObj
        K.SCRUB_PROGRESS 0
    else d.setObj K.SCRUB_PROGRESS (sum * 1000 / (live.length * channelBursts))

/-! ### The mapping in force, and the reads of clients (R458 to R465, R535) -/

/-- Channel and channel-local address of a flat address under the mapping that training fixed (R460). -/
def route (a : Nat) (d : Dev) : Nat × Nat :=
  dramRoute d.channelCount (d.obj K.DRAM_TRAINED_MASK) (d.bootObj K.DRAM_FALLBACK_GRAIN) a

/-- Row, bank and byte of the row of a channel-local address (R461, R462). -/
def placeByte (a : Nat) (d : Dev) : Nat × Nat × Nat :=
  let (r, b, x) := dramPlace (d.bootObj K.DRAM_ADDR_ORDER) (a / 64)
  (r, b, x * 64 + a % 64)

/-- The byte of a row that holds the check byte of the word in which byte `n` of the row lies (R462). -/
def checkByteOf (n : Nat) : Nat := 1792 + n / 8

/-- Is the address one of the flat space: that of the trained channels, 1,409,286,144 bytes each? -/
def holdsAddr (d : Dev) (a : Nat) : Bool :=
  decide (a < popCount 8 (d.obj K.DRAM_TRAINED_MASK) * 64 * channelBursts)

/-- A client's read finds an uncorrectable error at a flat address (R465). -/
def poisonRead (x : PoisonAt) (d : Dev) : Dev :=
  if d.holdsAddr x.addr then
    let (c, a) := d.route x.addr
    d.uncorrectable c (a / 64) (a % 64 / 8)
  else d

/-- A client's read finds a single-bit error at a flat address (R464). -/
def correctedRead (a : Nat) (d : Dev) : Dev :=
  if d.holdsAddr a then d.bump (K.CH_ECC_CORRECTED (d.route a).1) else d

/-- Stores of R535: 0 microcode, 1 tables, 2 drive curves and canvas matrices, 3 lamp map and equalisation, 4 facet
control; 5 is a pixel's correction record. -/
def hasStore (d : Dev) (s : Nat) : Bool := s == 0 || s == 1 || s == 3 || s == 4 || (s == 2 && d.isTile)

/-- A word of a store has an uncorrectable error: the store reloads (R535), a fault of class 4 of R518. -/
def storeFails (s : Nat) (d : Dev) : Dev :=
  if d.integ.reloading.contains s then d
  else (d.setInteg (fun g => { g with reloading := g.reloading ++ [s] })).bumpFault 4 K.CSCRUB_RELOADS 0

/-- The errors that the reads of a wale's processing correct (R464, R535). -/
def readsCorrected (x : WaleRead) (d : Dev) : Dev :=
  let d := x.corrected.foldl (fun d a => d.correctedRead a) d
  x.fixed.foldl (fun d s => if d.hasStore s then d.bump K.CSCRUB_CORRECTED else d) d

/-! ### Training and self-refresh (R450 to R453, R472 to R474) -/

/-- One channel's outcome at start (R450, R452, R455). -/
def trainChannel (c : Nat) (x : TrainResult) (d : Dev) : Dev :=
  if bit c (d.bootObj K.DRAM_CHANNEL_DISABLE) then d.setObj (K.CH_STATE c) 5
  else
    let fail := trainFail [x.margins.getD 0 [], x.margins.getD 1 [], x.margins.getD 2 []]
    let d := d.setDramCh c (fun y => { y with base := [x.counts.getD 0 0, x.counts.getD 2 0, x.counts.getD 1 0] })
    let d := (d.setObj (K.CH_MARGIN_READ c) (x.marginOf 3)).setObj (K.CH_MARGIN_WRITE c) (x.marginOf 4)
    if fail ≠ 0 ∨ d.dram.retireNext.contains c then
      ((d.setObj (K.CH_TRAIN_FAIL_STEP c) fail).setObj (K.CH_STATE c) 4).fault 7 (K.CH_STATE c) c
    else d.setObj (K.CH_STATE c) 2

/-- Channels trained, by mask. -/
def trainedMask (d : Dev) : Nat :=
  (List.range d.channelCount).foldl (fun a c => if d.chServes c then a + 2 ^ c else a) 0

/-- DRAM training ends (step 5 of the start): does the start go on (R453)? -/
def dramTrain (rs : List TrainResult) (d : Dev) : Bool × Dev :=
  let d := d.setDram (fun m => { m with chans := List.replicate d.channelCount .fresh, waiting := none, derated := false,
                                        normalReads := List.replicate 4 0, coolReads := List.replicate 4 0,
                                        rangeAt := List.replicate 4 none })
  let d := (List.range d.channelCount).foldl (fun d c =>
    d.trainChannel c (rs.getD c { margins := [] })) d
  let n := popCount 8 d.trainedMask
  let d := (d.setObj K.DRAM_TRAINED_MASK d.trainedMask).setObj K.DRAM_USABLE_MIB (1344 * n)
  let d := d.setDram (fun m => { m with retireNext := [] })
  if n < (if d.isSender then 4 else 1) then (false, d.setObj K.DRAM_STATE 5)
  else (true, ((d.setObj K.DRAM_STATE 2).setObj K.DRAM_SETPOINT 1).setObj K.DRAM_RATE (d.dramRate 1))

/-- Would a value of `DRAM_CHANNEL_DISABLE` leave too few channels (R453)? -/
def disableBad (d : Dev) (v : Nat) : Bool :=
  decide (d.channelCount - popCount d.channelCount v < (if d.isSender then 4 else 1))

/-- SELF_REFRESH_ENTRY: no epoch in progress, every debt paid (R472). -/
def selfRefresh (d : Dev) : Dev :=
  if !d.dramRuns || d.anyEpoch then d
  else
    (d.setDram (fun m => { m with waiting := none, derated := d.obj K.DRAM_STATE == 3
                                  chans := m.chans.map (fun x => { x with debts := x.debts.map (fun _ => 0) }) })).setObj
      K.DRAM_STATE 4

/-- Steps 3 and 4 of training again on a channel, at the set point in force (R474); a step that fails retires it (R452).
DEDUCED, log entry 166. -/
def retrainSteps (c : Nat) (x : RetrainResult) (d : Dev) : Dev :=
  let sp := d.obj K.DRAM_SETPOINT
  let fail := stepFail 3 (trainNeeds.drop 2) [x.read, x.write]
  let d :=
    if sp ≠ 1 then d
    else (d.setObj (K.CH_MARGIN_READ c) x.read).setObj (K.CH_MARGIN_WRITE c) (if fail = 3 then 0 else x.write)
  if fail ≠ 0 then ((d.setObj (K.CH_TRAIN_FAIL_STEP c) fail).setObj (K.CH_STATE c) 4).fault 7 (K.CH_STATE c) c
  else
    ((d.setObjI 16 (K.CH_DRIFT c) 0).bumpWrap (K.CH_RETRAINS c)).setDramCh c (fun y =>
      { y with epochEnd := d.now, driftRun := 0, base := upd sp (fun _ => x.count) y.base })

/-- Every die's field has been read, and every serving channel's oscillator: what the exit from self-refresh needs (R474). -/
def exitReady (d : Dev) (ranges counts : List Nat) : Bool :=
  (List.range d.dieCount).all (fun x => decide (1 ≤ ranges.getD x 0) && decide (ranges.getD x 0 ≤ 4)) &&
    (List.range d.channelCount).all (fun c => !d.chServes c || decide (c < counts.length))

/-- The exit epoch of a channel (R474): one that would move its delays by more than 16/64 UI repeats steps 3 and 4. -/
def exitEpoch (c count : Nat) (x : RetrainResult) (d : Dev) : Dev :=
  let drift := d.driftOf c count
  if !d.chServes c then d
  else if drift < -16 ∨ 16 < drift then d.retrainSteps c x
  else d.epochEnds c drift

/-- The exit from self-refresh (R474): temperatures, then the set point, then one epoch on every channel.  Derating goes on
until R471 ends it.  Do enough channels serve on (R453)? -/
def selfRefreshExit (ranges counts : List Nat) (retrain : List RetrainResult) (d : Dev) : Bool × Dev :=
  let d := d.setObj K.DRAM_STATE (if d.dram.derated then 3 else 2)
  let d := (List.range d.dieCount).foldl (fun d x => (d.takeRange x (ranges.getD x 0)).derateState (ranges.getD x 0)) d
  let sp := if d.obj K.DRAM_STATE = 3 then 2 else 1
  let d := if d.obj K.DRAM_SETPOINT = sp then d else d.switchSetpoint sp
  let d := (List.range d.channelCount).foldl (fun d c =>
    d.exitEpoch c (counts.getD c 0) (retrain.getD c { read := 0, write := 0, count := 0 })) d
  if popCount 8 d.trainedMask < (if d.isSender then 4 else 1) then (false, d.setObj K.DRAM_STATE 5) else (true, d)

end Dev
end Sys2Proof.Machine
end

