-- ==== Sys2Proof/Machine/CheckRect.lean ====
section
/-!
DEFINITION. Sys2Proof/Machine/CheckRect.lean: results of check rectangles, common to both personalities (R334 to R337).
-/
namespace Sys2Proof.Machine
namespace Dev

/-- Does rectangle `r` take part in facet index `j` (R336)? -/
def chkIn (d : Dev) (r j : Nat) : Bool := d.obj (K.CHK_MODE r) != 0 && bit j (d.obj (K.CHK_FACET_MASK r))

/-- Pixel positions of a rectangle in raster order. -/
def chkPixels (d : Dev) (r : Nat) : List (Nat × Nat) :=
  (List.range (d.obj (K.CHK_H r))).flatMap (fun y =>
    (List.range (d.obj (K.CHK_W r))).map (fun x => (d.obj (K.CHK_X r) + x, d.obj (K.CHK_Y r) + y)))

/-- A result of rectangle `r` for the facet that flips at `f`: the CRC, none where the tap did not pass every pixel. -/
def chkReport (r : Nat) (crc : Option Nat) (f : Time) (d : Dev) : Dev :=
  let before := d.obj (K.CHK_RESULT r)
  let fresh := (d.chkFresh[r]?).getD true
  let d := d.setObj (K.CHK_LAST_FACET r) (f % 2 ^ 48)
  let d := { d with chkFresh := upd r (fun _ => false) d.chkFresh }
  match crc with
  | none => (d.setObj (K.CHK_RESULT r) 3).bump (K.CHK_SKIPPED r)
  | some c =>
    let d := d.setObj (K.CHK_LAST r) c
    if d.obj (K.CHK_MODE r) = 1 then d.setObj (K.CHK_RESULT r) 4
    else if c = d.obj (K.CHK_EXPECTED r) then (d.setObj (K.CHK_RESULT r) 1).bumpWrap (K.CHK_MATCHES r)
    else
      let d := (d.setObj (K.CHK_RESULT r) 2).bump (K.CHK_MISMATCHES r)
      if before ≠ 2 ∨ fresh then d.fault 1 (K.CHK_RESULT r) r else d

/-- New state of rectangle `r` has been applied. -/
def chkApplied (r : Nat) (enabled : Bool) (d : Dev) : Dev :=
  let d := { d with chkFresh := upd r (fun _ => true) d.chkFresh }
  if enabled then d.setObj (K.CHK_RESULT r) 0 else d

end Dev
end Sys2Proof.Machine
end

