-- ==== Sys2Proof/Machine/WithyOps.lean ====
section
/-!
DEFINITION. Sys2Proof/Machine/WithyOps.lean: Withy packets, forwarding, grant runs, link bring-up, link checks and
enumeration (13_withy.md).
-/
namespace Sys2Proof.Machine

/-! ### Packets (R403 to R406) -/

/-- START bytes 1 to 7 and the body: what the CRC of R404 covers. -/
def pktCovered (p : Packet) : Bytes :=
  be 1 p.cls ++ be 1 p.hops ++ be 1 p.target ++ be 1 p.flags ++ be 1 p.startZero ++ be 2 p.len ++ p.body

/-- The CRC of R404. -/
def pktCrc (p : Packet) : Nat := crc32c (pktCovered p)

/-- FLAGS bit 0, LINK. -/
def pktLink (p : Packet) : Bool := bit 0 p.flags

/-- FLAGS bit 1, TURNED. -/
def pktTurned (p : Packet) : Bool := bit 1 p.flags

/-- STOMP or ABORT is set. -/
def pktStomped (p : Packet) : Bool := bit 0 p.term || bit 1 p.term

/-- The packet passes every check of R404 other than STOMP and ABORT. -/
def pktSound (p : Packet) : Bool :=
  p.crc == pktCrc p && p.len == p.body.length && decide (1 ≤ p.len) && decide (p.len ≤ 1552) &&
    p.startZero == 0 && decide (p.flags < 4)

/-- The packet passes R404. -/
def pktPasses (p : Packet) : Bool := pktSound p && !pktStomped p

/-- A packet with its length and CRC filled in. -/
def mkPacket (cls target flags : Nat) (body : Bytes) : Packet :=
  let p : Packet := { cls := cls, hops := 0, target := target, flags := flags, startZero := 0, len := body.length,
                      body := body, crc := 0, term := 0 }
  { p with crc := pktCrc p }

/-- The 8-byte data blocks of a body, the last one padded with zeros. -/
def dataBlocks : Nat → Bytes → List Bytes
  | 0, _ => []
  | n + 1, b => (b.take 8 ++ zeros (8 - b.length)) :: dataBlocks n (b.drop 8)

/-- The blocks of a packet on the wire: START, its body, TERMINATE, each control block with its type in front (R385, R403,
R404). -/
def pktBlocks (p : Packet) : List Bytes :=
  (be 1 0x78 ++ (pktCovered p).take 7) :: dataBlocks (ceilDiv p.body.length 8) p.body ++
    [be 1 0xB4 ++ be 4 p.crc ++ be 1 p.term ++ zeros 2]

/-- Columns a packet takes, four blocks to a column. -/
def pktColumns (p : Packet) : Nat := ceilDiv (pktBlocks p).length 4

/-- Block types of R385: those of columns, and those of packets. -/
def columnTypes : List Nat := [0x1E, 0x2D, 0x4B, 0x55]
def packetTypes : List Nat := [0x78, 0xB4]

/-- The block of a control column on a lane (R385). -/
def Col.block (lane : Nat) : Col → Bytes
  | .idle => be 1 0x1E ++ zeros 7
  | .slack => be 1 0x2D ++ zeros 7
  | .align r => be 1 0x4B ++ be 1 lane ++ be 1 r ++ zeros 5
  | .grant n => be 1 0x55 ++ be 2 n ++ zeros 5

/-- The four blocks of a control column. -/
def Col.blocks (c : Col) : List Bytes := (List.range 4).map (fun lane => c.block lane)

/-- Is a received column a block error: a reserved type (R385), a mix of column types, or of a column type with packet blocks
(R386)?  none stands for a data block. -/
def columnBad (types : List (Option Nat)) : Bool :=
  types.any (fun x => x.any (fun v => !columnTypes.contains v && !packetTypes.contains v)) ||
    (types.any (fun x => x.any (fun v => columnTypes.contains v)) && types.any (fun x => x != types.headD none))

/-- Unit interval of a rate index in tenths of a picosecond (R89's table). -/
def unitInterval (rate : Nat) : Nat := [3200, 1600, 800, 388].getD rate 3200

/-- Time of a column at a rate index, 66 bits to a block, in tenths of a picosecond. -/
def columnTime (rate : Nat) : Nat := 66 * unitInterval rate

/-- Bitwise complement of a 32-bit value. -/
def inv32 (v : Nat) : Nat := 2 ^ 32 - 1 - v % 2 ^ 32

/-- Classes of R406. -/
def clsPix : Nat := 1
def clsCtl : Nat := 2
def clsTim : Nat := 3
def clsFlp : Nat := 4
def clsChk : Nat := 5
def clsHello : Nat := 6

/-- Are the lanes of a port deskewed by their ALIGN columns: each port lane on one of them, and no more than 40 ns between any
two?  `align` is the lane order that the receiver corrects (R387). -/
def Port.deskewed (q : Port) : Bool :=
  (List.range 4).all (fun l => q.align.any (fun a => a.1 == l)) &&
    q.align.all (fun a => q.align.all (fun b => decide (a.2 ≤ b.2 + 40000)))

/-- A port with its lanes down and nothing agreed. -/
def portInit : Port := .off

namespace Dev

/-- Number of Withy ports of the personality. -/
def nPorts (d : Dev) : Nat := if d.isSender then 4 else 2

def port (d : Dev) (h : PortId) : Port := (d.withy.ports[h]?).getD portInit

def setPort (h : PortId) (f : Port → Port) (d : Dev) : Dev :=
  { d with withy := { d.withy with ports := upd h f d.withy.ports } }

/-- State of a port (R394's table): 1 Disabled, 2 Training, 3 Up, 4 Dark. -/
def linkState (d : Dev) (h : PortId) : Nat := d.obj (K.WITHY_STATE h)

def portUp (d : Dev) (h : PortId) : Bool := decide (h < d.nPorts) && d.linkState h == 3

/-- The other port of a tile. -/
def otherPort (h : PortId) : PortId := if h = 0 then 1 else 0

/-- A packet goes into a port's transmitter and is counted for the next CHK (R413). -/
def transmit (h : PortId) (p : Packet) (d : Dev) : Dev :=
  (d.setPort h (fun q => { q with sent := q.sent + 1 })).emit (.withy h p)

/-- A packet of the device's own starts on the link.  A CHK takes the count of the packets sent since the one before as
it starts, so that its SENT covers the span the receiver compares (R413). -/
def launch (h : PortId) (p : Packet) (d : Dev) : Dev :=
  if p.cls = clsChk then
    (d.transmit h (mkPacket p.cls p.target p.flags (p.body.take 4 ++ be 4 (d.port h).sent ++ p.body.drop 8))).setPort h
      (fun q => { q with sent := 0 })
  else d.transmit h p

/-- A packet of the device's own for a port in Up: a sender sends it at once, a tile keeps it for a grant run (R416). -/
def sendOwn (h : PortId) (p : Packet) (d : Dev) : Dev :=
  if !d.portUp h then d
  else if d.isSender then d.launch h p
  else d.setPort h (fun q => { q with own := q.own ++ [p] })

/-- The next CTL packet of a port (R409, R410). -/
def ctlPacket (d : Dev) (h : PortId) (kind target uid : Nat) (payload : Bytes) : Packet :=
  mkPacket clsCtl target 0 (be 1 kind ++ zeros 3 ++ be 8 uid ++ be 4 (d.port h).ctlSeq ++ payload)

/-- A CTL packet of the device's own into a port. -/
def sendCtl (h : PortId) (kind target uid : Nat) (payload : Bytes) (d : Dev) : Dev :=
  if d.portUp h then
    (d.sendOwn h (d.ctlPacket h kind target uid payload)).setPort h
      (fun q => { q with ctlSeq := (q.ctlSeq + 1) % 2 ^ 32 })
  else d

/-- What a device counts of a packet it receives (R404, R405, R413). -/
def countRx (h : PortId) (p : Packet) (d : Dev) : Dev :=
  let d := d.setPort h (fun q => { q with started := q.started + 1 })
  if pktStomped p then d.bump (K.WITHY_STOMPED_RX h)
  else if pktSound p then d
  else (d.bump (K.WITHY_CRC_ERRORS h)).setPort h (fun q => { q with rxErrors := q.rxErrors + 1, errors := q.errors + 1 })

/-- The packet a tile sends on for one it received with the given body (R403, R405): HOPS one higher, the CRC of the
bytes sent, and every bit of it inverted with STOMP set where the received packet failed R404 or was stomped. -/
def onward (p : Packet) (body : Bytes) : Packet :=
  let q := { p with hops := min (p.hops + 1) 255, body := body, len := if pktSound p then body.length else p.len }
  let c := pktCrc q
  if pktStomped p then { q with crc := inv32 c }
  else if pktSound p then { q with crc := c }
  else { q with crc := inv32 c, term := 1 }

/-- A tile forwards a packet out of its other port, or ends it there when that port is not Up (R593). -/
def forward (h : PortId) (p : Packet) (body : Bytes) (d : Dev) : Dev :=
  if d.portUp (otherPort h) then d.transmit (otherPort h) (onward p body) else d

/-- Does TARGET name this tile (R403)? -/
def targetsMe (p : Packet) : Bool :=
  p.target == 255 || (p.target == min (p.hops + 1) 255 && decide (1 ≤ p.target) && decide (p.target ≤ 254))

/-- Is the packet this tile's own by LINK or, where R414 goes by TARGET (PIX and CTL of kind 0), by a TARGET that names the
tile (R405, R414)? -/
def isMine (p : Packet) : Bool :=
  pktLink p || (targetsMe p && (p.cls == clsPix || (p.cls == clsCtl && fieldAt 0 1 p.body == 0)))

/-- A packet in progress on the ingress of port `h` is aborted: a forwarded one ends with ABORT and STOMP (R386, R405). -/
def abortRx (h : PortId) (mid : Option Packet) (d : Dev) : Dev :=
  match mid with
  | none => d
  | some p =>
    let d := d.setPort h (fun q => { q with started := q.started + 1 })
    if d.isTile && !isMine p && d.portUp (otherPort h) then
      let q := onward p p.body
      d.transmit (otherPort h) { q with term := 3, crc := inv32 (pktCrc q) }
    else d

end Dev

/-! ### Hello blocks (R394) -/

/-- The hello block as bytes. -/
def helloBytes (x : Hello) : Bytes :=
  be 1 1 ++ be 1 x.pers ++ be 2 x.dieRev ++ be 4 x.verPhy ++ be 8 x.uid ++ be 1 x.port ++ be 1 x.rateNow ++
    be 1 x.rateMask ++ be 1 x.step ++ be 1 x.next ++ be 1 x.cableClass ++ zeros 2 ++ be 4 x.claim ++
    be 4 (inv32 x.claim) ++ be 4 x.genSeen ++ be 1 x.attempt ++ zeros 11

/-- The hello block a body spells, when it is valid under R394. -/
def parseHello (b : Bytes) : Option Hello :=
  if b.length = 48 ∧ fieldAt 0 1 b = 1 ∧ (fieldAt 1 1 b = 1 ∨ fieldAt 1 1 b = 2) ∧ fieldAt 22 2 b = 0 ∧
      fieldAt 37 11 b = 0 ∧ fieldAt 19 1 b ≤ 3 then
    some { pers := fieldAt 1 1 b, dieRev := fieldAt 2 2 b, verPhy := fieldAt 4 4 b, uid := fieldAt 8 8 b,
           port := fieldAt 16 1 b, rateNow := fieldAt 17 1 b, rateMask := fieldAt 18 1 b, step := fieldAt 19 1 b,
           next := fieldAt 20 1 b, cableClass := fieldAt 21 1 b, claim := fieldAt 24 4 b,
           genSeen := fieldAt 32 4 b, attempt := fieldAt 36 1 b }
  else none

/-- Does the claim of a hello block travel with its complement? -/
def helloClaimOk (b : Bytes) : Bool := fieldAt 28 4 b == inv32 (fieldAt 24 4 b)

/-- Highest index set in the low four bits of a mask; bit 0 is always set (R394). -/
def topRate (mask : Nat) : Nat :=
  if bit 3 mask then 3 else if bit 2 mask then 2 else if bit 1 mask then 1 else 0

namespace Dev

/-- RATE_MASK of a port (R394). -/
def rateMask (d : Dev) (h : PortId) : Nat := 2 ^ (d.obj (K.WITHY_RATE_MAX h) + 1) - 1

/-- The claim number a hello or an FLP carries (R426): generation in [31:8], rank in [7:0]; zero on a tile. -/
def claim (d : Dev) : Nat :=
  if d.isSender then d.obj K.PAIR_GENERATION * 256 + d.bootObj K.PAIR_RANK else 0

/-- The hello block of a port (R9, R394). -/
def helloOf (d : Dev) (h : PortId) (step next : Nat) : Hello :=
  { pers := if d.isSender then 1 else 2, dieRev := d.fix.fuses.dieRev, verPhy := d.obj K.VER_PHY,
    uid := d.fix.fuses.uid, port := h, rateNow := (d.port h).rate, rateMask := d.rateMask h, step := step,
    next := next, cableClass := d.obj (K.WITHY_CABLE_CLASS h), claim := d.claim,
    genSeen := if d.isSender then d.obj K.PAIR_GEN_SEEN else d.obj K.PATH_GEN_SEEN,
    attempt := d.obj (K.WITHY_ATTEMPTS h) }

def sendHello (h : PortId) (step next : Nat) (d : Dev) : Dev :=
  d.transmit h (mkPacket clsHello 0 1 (helloBytes (d.helloOf h step next)))

/-! ### Bring-up (R395 to R402) -/

/-- A port whose lanes turn to another rate has to lock again (R387). -/
def retune (r : Nat) (q : Port) : Port :=
  { q with rate := r, lanes := if q.rate = r then q.lanes else [false, false, false, false] }

/-- Attempt `a` starts at rate index 0 (R395). -/
def startAttempt (h : PortId) (a : Nat) (d : Dev) : Dev :=
  let now := d.now
  let d := d.setPort h (fun q =>
    { retune 0 q with agreed := 3, phase := .hello, partner := none, intact := 0, errors := 0,
                      beacon := false, steppingUp := false, own := [], respIn := [], since := now,
                      failedStepUps := if a = 1 then 0 else q.failedStepUps })
  ((d.setObj (K.WITHY_STATE h) 2).setObj (K.WITHY_RATE h) 255).setObj (K.WITHY_ATTEMPTS h) a

/-- The port enters Up at its rate (R398).  Its gearbox and lane-deskew phase is measured (R89): what that shows, the
spec cannot state, and it is a free value. -/
def enterUp (h : PortId) (d : Dev) : Dev :=
  let r := (d.port h).rate
  let (ph, d) := d.drawFree 32
  let now := d.now
  let d := d.setPort h (fun q =>
    { q with phasePs := ph, phase := .idle, chkLast := none, sent := 0, started := 0, rxErrors := 0, lastGrant := some now,
             grants := false, lastEnum := none, since := now,
             failedStepUps := if q.steppingUp && r == topRate (d.rateMask h &&& (q.partner.map (·.rateMask)).getD 1)
                              then 0 else q.failedStepUps,
             steppingUp := false })
  (d.setObj (K.WITHY_STATE h) 3).setObj (K.WITHY_RATE h) r

/-- The port enters Dark (R398, R400); its first beacon comes a second later. -/
def enterDark (h : PortId) (d : Dev) : Dev :=
  let now := d.now
  let d := d.setPort h (fun q =>
    { retune 0 q with phase := .dark, beacon := false, own := [], respIn := [], steppingUp := false, since := now })
  (d.setObj (K.WITHY_STATE h) 4).setObj (K.WITHY_RATE h) 255

/-- The port is Disabled: lanes powered down (R398's table). -/
def disablePort (h : PortId) (d : Dev) : Dev :=
  let d := d.setPort h (fun q =>
    { q with phase := .idle, lanes := [false, false, false, false], rate := 0, partner := none, beacon := false,
             own := [], respIn := [], steppingUp := false })
  (d.setObj (K.WITHY_STATE h) 1).setObj (K.WITHY_RATE h) 255

/-- The port and its partner switch to the next rate (R396). -/
def switchRate (h : PortId) (next : Nat) (d : Dev) : Dev :=
  let prev := (d.port h).rate
  let d := d.sendHello h 2 next
  let d := d.sendHello h 2 next
  let d := d.sendHello h 2 next
  let d := d.sendHello h 2 next
  let now := d.now
  d.setPort h (fun q => { retune next q with phase := .locking prev, intact := 0, errors := 0, since := now })

/-- A step that fails to lock or verify: the previous rate becomes the agreed rate of the attempt (R397, R402). -/
def stepFailed (h : PortId) (prev : Nat) (d : Dev) : Dev :=
  let now := d.now
  d.setPort h (fun q =>
    { retune prev q with agreed := prev, phase := .hello, since := now,
                         failedStepUps := if q.steppingUp then q.failedStepUps + 1 else q.failedStepUps })

/-- An attempt fails (R398). -/
def attemptFailed (h : PortId) (d : Dev) : Dev :=
  let now := d.now
  if d.obj (K.WITHY_ATTEMPTS h) < 8 then
    d.setPort h (fun q =>
      { retune 0 q with phase := .backoff, partner := none, steppingUp := false, since := now })
  else (d.enterDark h).fault 2 (K.WITHY_STATE h) h

/-- The time in ns that a port waits after failed attempt `a` (R398). -/
def backoffTime (a : Nat) : Nat := 10000000 * 2 ^ (a - 1)

/-- Has a time of `ns` passed since the port's present phase began, or its last valid hello? -/
def phaseLasted (d : Dev) (h : PortId) (ns : Nat) : Bool := decide ((d.port h).since + ns ≤ d.now)

/-- A Request for the next index is sent (R396). -/
def sendRequest (h : PortId) (d : Dev) : Dev :=
  let n := (d.port h).rate + 1
  (d.sendHello h 1 n).setPort h (fun q => { q with phase := .request n })

/-- The identity of the partner is reported (R9); a link whose ends run different PHY versions is a fault of R509, which the
table of R520 puts in class 16 (log entry 74). -/
def notePartner (h : PortId) (x : Hello) (d : Dev) : Dev :=
  let d := if (d.port h).partner.isNone && x.cableClass != d.obj (K.WITHY_CABLE_CLASS h)
           then d.fault 2 (K.WITHY_CABLE_CLASS h) h else d
  let first := (d.port h).partner.isNone
  let d := d.setPort h (fun q =>
    { q with partner := some x
             agreed := if first then topRate (d.rateMask h &&& x.rateMask) else q.agreed })
  let d := (d.setObj (K.WITHY_PARTNER_ID h) x.uid).setObj (K.WITHY_PARTNER_INFO h)
    (x.pers * 2 ^ 56 + x.dieRev * 2 ^ 40 + x.port * 2 ^ 32 + x.verPhy)
  if first && x.verPhy != d.obj K.VER_PHY then d.fault 16 (K.WITHY_PARTNER_INFO h) h else d

/-- A valid hello advances a port in Training (R395, R396, R398).  A port that enters Up by a hello exchange has sent its
own hello (R398, "a hello exchange at the agreed rate succeeds"); DEDUCED, log entry 158. -/
def trainOn (h : PortId) (x : Hello) (d : Dev) : Dev :=
  let q := d.port h
  let n := q.rate + 1
  match q.phase with
  | .hello =>
    if x.step = 2 ∧ x.next = n then d.switchRate h n
    else if q.agreed ≤ q.rate then (d.sendHello h 0 0xFF).enterUp h
    else
      let d := d.sendRequest h
      if x.step = 1 ∧ x.next = n then d.switchRate h n else d
  | .request r =>
    if (x.step = 1 ∨ x.step = 2) ∧ x.next = r then d.switchRate h r else d
  | _ => d

/-- A port that waits for a hello waits anew from this instant (R397, R398). -/
def helloSeen (h : PortId) (d : Dev) : Dev :=
  let now := d.now
  d.setPort h (fun q =>
    match q.phase with
    | .hello | .request _ => { q with since := now }
    | _ => q)

/-- HELLO_RECEIVED (R394 to R400, R428, R593). -/
def helloRx (h : PortId) (p : Packet) (d : Dev) : Dev :=
  if d.linkState h = 1 ∨ d.nPorts ≤ h then d
  else
    let d := d.countRx h p
    if !pktPasses p then d
    else if !pktLink p then d.bump (K.WITHY_UNKNOWN h)
    else
      match parseHello p.body with
      | none => d
      | some x =>
        if (d.isSender && x.pers == 1) || x.uid == d.fix.fuses.uid then
          ((d.enterDark h).setObj (K.WITHY_PARTNER_ID h) x.uid).fault 14 (K.WITHY_STATE h) h
        else
          let d := if d.isSender then d.setObj K.PAIR_GEN_SEEN (max (d.obj K.PAIR_GEN_SEEN) (x.genSeen % 2 ^ 24)) else d
          match d.linkState h, (d.port h).phase with
          | 4, _ => ((d.startAttempt h 1).notePartner h x).trainOn h x
          | 3, _ =>
            if x.step = 1 ∧ x.next = (d.port h).rate + 1 then
              let now := d.now
              let d := d.setPort h (fun q => { q with
                steppingUp := true
                agreed := topRate (d.rateMask h &&& x.rateMask)
                phase := .hello
                since := now })
              ((d.setObj (K.WITHY_STATE h) 2).setObj (K.WITHY_RATE h) 255).trainOn h x
            else d
          | _, .backoff => ((d.startAttempt h 1).notePartner h x).trainOn h x
          | _, _ => ((d.notePartner h x).helloSeen h).trainOn h x

/-- The pseudo-random sequence of R413's pattern packet: `n` bits from the shift register, newest last. -/
def prbsBits : Nat → Nat → List Nat
  | 0, _ => []
  | n + 1, r =>
    let b := (bits 30 1 r + bits 27 1 r) % 2
    b :: prbsBits n ((r * 2 + b) % 2 ^ 31)

/-- Bits gathered into bytes, first bit most significant (log entry 21). -/
def gatherBytes : Nat → List Nat → Bytes
  | 0, _ => []
  | n + 1, l => BitVec.ofNat 8 ((l.take 8).foldl (fun a b => a * 2 + b) 0) :: gatherBytes n (l.drop 8)

/-- The body of a CHK pattern packet (R413). -/
def chkPattern : Bytes := gatherBytes 1024 (prbsBits 8192 (2 ^ 31 - 1))

/-- The port is locked: all four lanes are locked and deskewed (R387). -/
def portLocked (d : Dev) (h : PortId) : Bool := (d.port h).lanes.all id && (d.port h).deskewed

/-- Pattern packets that fit back to back into the 1 ms of a verification (R396). -/
def patternCount (rate : Nat) : Nat := 10 ^ 10 / (pktColumns (mkPacket clsChk 0 1 chkPattern) * columnTime rate)

/-- A verification sends pattern packets back to back for its millisecond (R396; log entry 160). -/
def sendPatterns (h : PortId) (d : Dev) : Dev :=
  let n := patternCount (d.port h).rate
  (d.setPort h (fun q => { q with sent := q.sent + n })).emitAll
    (List.replicate n (.withy h (mkPacket clsChk 0 1 chkPattern)))

/-- A lane gains block lock; with the fourth, a port that waits for lock starts to verify (R387, R396). -/
def laneGained (h lane : Nat) (a : LaneAlign) (d : Dev) : Dev :=
  if d.nPorts ≤ h ∨ d.linkState h = 1 ∨ 4 ≤ lane then d
  else
    let d := d.setPort h (fun q =>
      { q with lanes := upd lane (fun _ => true) q.lanes, align := upd lane (fun _ => (a.lane, a.skewPs)) q.align })
    let d := d.setObj K.LANE_RX_INVERTED (setBit (8 + 4 * h + lane) a.inverted (d.obj K.LANE_RX_INVERTED))
    match (d.port h).phase with
    | .locking prev =>
      if d.portLocked h then
        let now := d.now
        (d.setPort h (fun q => { q with phase := .verify prev, intact := 0, errors := 0, since := now })).sendPatterns h
      else d
    | _ => d

/-- An Up port that loses lock falls back (R401): a fault of the lanes, class 2 of R518. -/
def fallBack (h : PortId) (d : Dev) : Dev :=
  let r := (d.port h).rate - 1
  let now := d.now
  let d := d.setPort h (fun q =>
    { q with rate := r, agreed := r, phase := .hello, lanes := [false, false, false, false], own := [], respIn := [], since := now })
  let d := (d.setObj (K.WITHY_STATE h) 2).setObj (K.WITHY_RATE h) 255
  d.bumpFault 2 (K.WITHY_FALLBACKS h) h

/-- Sync header errors that the receiver of a port has found (R384, R413). -/
def countSync (h : PortId) (n : Nat) (d : Dev) : Dev :=
  (d.bumpBy n (K.WITHY_SYNC_ERRORS h)).setPort h
    (fun q => { q with rxErrors := q.rxErrors + n, errors := q.errors + n })

/-- LANE_LOCK_LOST (R387, R397, R401, R405), with the sync header errors found since they were last counted.  DEDUCED, log
entry 101: a port that waits for a hello at a rate above 0 takes the loss for its partner's return to the previous rate. -/
def laneLost (h lane : Nat) (mid : Option Packet) (sync : Nat) (d : Dev) : Dev :=
  if d.nPorts ≤ h ∨ d.linkState h = 1 ∨ 4 ≤ lane then d
  else
    let was := d.portLocked h
    let d := (d.countSync h sync).setPort h (fun q => { q with lanes := upd lane (fun _ => false) q.lanes })
    let d := if was then d.bump (K.WITHY_LOCK_LOSSES h) else d
    let d := d.abortRx h mid
    if d.linkState h = 3 then d.fallBack h
    else
      match (d.port h).phase with
      | .verify prev => d.stepFailed h prev
      | .hello | .request _ =>
        if was && decide (0 < (d.port h).rate) then d.stepFailed h ((d.port h).rate - 1) else d
      | _ => d

/-- STEP_VERIFY_END: 1 ms after the verification began, with the sync header errors of that millisecond (R396, R397). -/
def verifyEnd (h : PortId) (sync : Nat) (d : Dev) : Dev :=
  match (d.port h).phase with
  | .verify prev =>
    if !d.phaseLasted h 1000000 then d
    else
      let d := d.countSync h sync
      if 8 ≤ (d.port h).intact ∧ (d.port h).errors = 0 then
        let d := d.sendHello h 3 0xFF
        if (d.port h).agreed ≤ (d.port h).rate then d.enterUp h
        else
          let now := d.now
          (d.setPort h (fun q => { q with since := now })).sendRequest h
      else d.stepFailed h prev
  | _ => d

/-- The hoop of a port is seen from both ends in enumeration (R402). -/
def hoopClosed (d : Dev) (h : PortId) : Bool :=
  if d.isSender then ((d.withy.hoops[h]?).map (·.closed)).getD false
  else d.withy.tileEnum.all (fun e => e.hops != 0)

/-- STEP_UP_RETRY: WITHYh_RETRY_UP after the port came Up (R402). -/
def stepUp (h : PortId) (d : Dev) : Dev :=
  let q := d.port h
  match q.partner with
  | some x =>
    let top := topRate (d.rateMask h &&& x.rateMask)
    if d.portUp h && decide (q.rate < top) && decide (q.failedStepUps < 3) && d.hoopClosed h &&
        decide (d.fix.fuses.uid < x.uid) && d.phaseLasted h (d.obj (K.WITHY_RETRY_UP h) * 1000000) then
      let now := d.now
      let d := d.setPort h (fun q => { q with steppingUp := true, agreed := top, since := now })
      ((d.setObj (K.WITHY_STATE h) 2).setObj (K.WITHY_RATE h) 255).sendRequest h
    else d
  | none => d

/-! ### Link checks (R413) -/

/-- CHK_SEND, with the sync header errors of the last millisecond. -/
def chkTx (h : PortId) (sync : Nat) (d : Dev) : Dev :=
  if !d.portUp h then d
  else
    let d := d.countSync h sync
    let q := d.port h
    let p := mkPacket clsChk 0 1 (be 4 q.chkSeq ++ zeros 4 ++ be 4 q.rxErrors ++ zeros 4)
    (d.setPort h (fun q => { q with chkSeq := (q.chkSeq + 1) % 2 ^ 32, rxErrors := 0 })).sendOwn h p

/-- CHK_RECEIVED: SENT is compared with the packet starts received since the last CHK (R413); a difference is a fault of the
lanes, class 2 of R518. -/
def chkRx (h : PortId) (p : Packet) (d : Dev) : Dev :=
  if !d.portUp h then d
  else
    let starts := (d.port h).started
    let d := d.countRx h p
    if !pktPasses p then d
    else if !pktLink p then d.bump (K.WITHY_UNKNOWN h)
    else if p.body.length ≠ 16 then d
    else
      let seq := fieldAt 0 4 p.body
      let last := (d.port h).chkLast
      let d := d.setPort h (fun q => { q with chkLast := some seq, started := 0 })
      match last with
      | none => d
      | some l =>
        if seq ≠ (l + 1) % 2 ^ 32 ∨ fieldAt 4 4 p.body ≠ starts then d.bumpFault 2 (K.WITHY_CHK_MISMATCH h) h else d

/-- CHK_PATTERN_RECEIVED (R396). -/
def chkPatternRx (h : PortId) (p : Packet) (d : Dev) : Dev :=
  if d.nPorts ≤ h ∨ d.linkState h = 1 then d
  else
    let d := d.countRx h p
    if !pktPasses p then d
    else if !pktLink p then d.bump (K.WITHY_UNKNOWN h)
    else
      match (d.port h).phase with
      | .verify _ =>
        if p.body.length = 1024 then d.setPort h (fun q => { q with intact := q.intact + 1 }) else d
      | _ => d

/-! ### Enumeration (R420 to R425) -/

end Dev

def enumRecBytes (r : EnumRec) : Bytes :=
  be 8 r.uid ++ be 1 r.ingress ++ be 1 r.rates ++ be 1 r.w16 ++ be 1 r.h16 ++ be 1 r.lamps ++ be 1 r.held ++ zeros 2

def parseEnumRec (b : Bytes) : EnumRec :=
  { uid := fieldAt 0 8 b, ingress := fieldAt 8 1 b % 2, rates := fieldAt 9 1 b, w16 := fieldAt 10 1 b,
    h16 := fieldAt 11 1 b, lamps := fieldAt 12 1 b, held := fieldAt 13 1 b % 2 }

/-- The records of an ENUM payload, `n` of them. -/
def parseEnum : Nat → Bytes → List EnumRec
  | 0, _ => []
  | n + 1, b => parseEnumRec b :: parseEnum n (b.drop 16)

/-- The records written, without the unwritten ones behind them: a written record has a UNIQUE_ID. -/
def writtenRecs (l : List EnumRec) : List EnumRec := (l.reverse.dropWhile (fun r => r.uid == 0)).reverse

/-- A byte string with the bytes at `off` replaced. -/
def splice (off : Nat) (new old : Bytes) : Bytes := old.take off ++ new ++ old.drop (off + new.length)

namespace Dev

def tileEnumOf (d : Dev) (h : PortId) : TileEnum :=
  (d.withy.tileEnum[h]?).getD { dist := 0, hops := 0, sender := 0, lastAt := none }

/-- The enumerated position of R425, with the end-0 sender and N the tile has learnt. -/
def enumPosition (d : Dev) : Nat :=
  let w := d.tileEnumOf 0
  let e := d.tileEnumOf 1
  let pick : Nat :=
    match decide (w.sender = 0), decide (e.sender = 0) with
    | true, true => 0
    | false, false => if w.sender < e.sender then w.hops else if e.sender < w.sender then e.hops else w.hops
    | false, true =>
      match d.withy.closedN with
      | some (n, end0) => if end0 = w.sender then w.hops else n + 1 - w.hops
      | none => w.hops
    | true, false =>
      match d.withy.closedN with
      | some (n, end0) => if end0 = e.sender then e.hops else n + 1 - e.hops
      | none => e.hops
  min pick 255

/-- The tile's record (R422). -/
def enumRecord (d : Dev) (ingress : PortId) : EnumRec :=
  let eg := if d.portUp (otherPort ingress) then d.obj (K.WITHY_RATE (otherPort ingress)) else 0xF
  { uid := d.fix.fuses.uid, ingress := ingress, rates := (d.port ingress).rate * 16 + eg,
    w16 := d.bootObj K.REGION_W / 16, h16 := d.bootObj K.REGION_H / 16, lamps := d.bootObj K.REGION_LAMPS,
    held := d.obj K.ENUM_HELD_DARK }

/-- The objects of enumeration on a tile follow what it has learnt (R13, R423, R425). -/
def reportEnum (d : Dev) : Dev :=
  let w := d.tileEnumOf 0
  let e := d.tileEnumOf 1
  let d :=
    if w.sender ≠ 0 ∧ e.sender ≠ 0 ∧ w.sender ≠ e.sender then
      { d with withy := { d.withy with closedN := some (w.hops + e.hops - 1, min w.sender e.sender) } }
    else d
  let d := (d.setObj K.ENUM_DIST_WEST (min w.dist 255)).setObj K.ENUM_DIST_EAST (min e.dist 255)
  let d := (d.setObj K.ENUM_SENDER_WEST w.sender).setObj K.ENUM_SENDER_EAST e.sender
  let p := d.enumPosition
  (d.setObj K.ENUM_POSITION p).setObj K.ENUM_HELD_DARK (b2n (decide (96 < p)))

/-- ENUM_RECEIVED on a tile (R420, R421). -/
def enumRx (h : PortId) (p : Packet) (d : Dev) : Dev :=
  if !d.portUp h then d
  else
    let d := d.countRx h p
    if isMine p then d
    else if !pktPasses p || p.body.length != 1552 then d.forward h p p.body
    else if pktTurned p then d.forward h p p.body
    else
      let n := p.hops + 1
      let from' := fieldAt 4 8 p.body
      let d := { d with withy := { d.withy with
        tileEnum := upd h (fun e =>
          { dist := if n ≤ 96 then n else if e.sender = from' then e.dist else 0, hops := n, sender := from',
            lastAt := some d.now }) d.withy.tileEnum } }
      let d := d.reportEnum
      let body := if n ≤ 96 then splice (16 + 16 * (n - 1)) (enumRecBytes (d.enumRecord h)) p.body else p.body
      if d.portUp (otherPort h) then d.forward h p body
      else
        let q := { p with hops := min (p.hops + 1) 255, flags := p.flags + 2, body := body }
        d.sendOwn h { q with crc := pktCrc q }

/-- ENUM_PORT_TIMEOUT (R423). -/
def enumPortLost (h : PortId) (d : Dev) : Dev :=
  ({ d with withy := { d.withy with
      tileEnum := upd h (fun _ => { dist := 0, hops := 0, sender := 0, lastAt := none }) d.withy.tileEnum } }).reportEnum

def hoopOf (d : Dev) (h : PortId) : HoopList :=
  (d.withy.hoops[h]?).getD { tiles := [], closed := false, partner := 0, lastPartner := none, slowest := 3 }

def setHoop (h : PortId) (x : HoopList) (d : Dev) : Dev :=
  let d := { d with withy := { d.withy with hoops := upd h (fun _ => x) d.withy.hoops } }
  let d := (d.setObj (K.ENUM_TILES h) (min x.tiles.length 255)).setObj (K.ENUM_CLOSED h) (b2n x.closed)
  (d.setObj (K.ENUM_PARTNER_ID h) (if x.closed then x.partner else 0)).setObj (K.ENUM_SLOWEST h) x.slowest

/-- Slowest rate index of the links a list of records names (R419); 3 where there is none. -/
def slowestOf (l : List EnumRec) : Nat :=
  (l.flatMap (fun r => [r.rates / 16, r.rates % 16])).foldl (fun a r => if r < a then r else a) 3

/-- Does a sender take an ENUM that reached its port: its partner's, or its own turned one on an open hoop (R424)? -/
def enumTaken (d : Dev) (h : PortId) (p : Packet) : Bool :=
  let own := fieldAt 4 8 p.body == d.fix.fuses.uid
  d.portUp h && pktPasses p && p.body.length == 1552 &&
    ((!own && !pktTurned p) || (own && pktTurned p && !(d.hoopOf h).closed))

/-- ENUM_RECEIVED_SENDER (R424). -/
def enumRxSender (h : PortId) (p : Packet) (d : Dev) : Dev :=
  if !d.portUp h then d
  else
    let took := d.enumTaken h p
    let d := d.countRx h p
    if !took then d
    else
      let recs := writtenRecs (parseEnum 96 (p.body.drop 16))
      let x := d.hoopOf h
      if pktTurned p then d.setHoop h { x with tiles := recs, slowest := slowestOf recs }
      else
        d.setHoop h { tiles := recs.reverse, closed := true, partner := fieldAt 4 8 p.body, lastPartner := some d.now,
                      slowest := slowestOf recs }

/-- ENUM_SEND on a sender (R420). -/
def enumTx (h : PortId) (d : Dev) : Dev :=
  if d.portUp h then
    (d.sendCtl h 3 0xFF d.fix.fuses.uid (zeros 1536)).setPort h (fun q => { q with lastEnum := some d.now })
  else d

/-- The distance and port of a tile in the sender's lists (R424). -/
def findTileIn (uid : Nat) : Nat → List EnumRec → Option Nat
  | _, [] => none
  | n, r :: rs => if r.uid = uid then some n else findTileIn uid (n + 1) rs

/-- The port and distance at which a tile is enumerated. -/
def findTile (d : Dev) (uid : Nat) : Option (PortId × Nat) :=
  (List.range 4).findSome? (fun h => (findTileIn uid 1 (d.hoopOf h).tiles).map (fun n => (h, n)))

end Dev

end Sys2Proof.Machine
end

