-- ==== Sys2Proof/Machine/TimeOps.lean ====
section
/-!
DEFINITION. Sys2Proof/Machine/TimeOps.lean: the boundary clock, the transparent clock, the time states, the capture
inputs and the trigger outputs (03_wall_time.md).
-/
namespace Sys2Proof.Machine

/-! ### Time states (the table above R90) -/

def tsUnlocked : Nat := 1
def tsAcquiring : Nat := 2
def tsLocked : Nat := 3
def tsHoldover : Nat := 4
def tsFreerun : Nat := 5

/-- 8 Sync intervals of 2^-13 s, rounded up to whole ns (R86, R93). -/
def eightSyncs : Nat := 976563

/-- Division of integers rounded to the nearest, ties away from zero (R84). -/
def roundAway (a : Int) (b : Nat) : Int :=
  if 0 ≤ a then (2 * a + b) / (2 * b) else -((2 * (-a) + b) / (2 * b))

/-- Picoseconds as units of 2^-16 ns (R84). -/
def psToCorr (ps : Int) : Int := roundAway (ps * 65536) 1000

/-- Units of 2^-16 ns as picoseconds, rounded to the nearest. -/
def corrToPs (c : Int) : Int := roundAway (c * 1000) 65536

/-- Median of a list of measurements: the middle one, or the mean of the middle two.  DESIGN CHOICE, log entry 125: a half
picosecond is rounded down; the spec states no rounding. -/
def medianOf (l : List Int) : Int :=
  let s := sortInt l
  let n := s.length
  if n % 2 = 1 then s.getD (n / 2) 0 else (s.getD (n / 2 - 1) 0 + s.getD (n / 2) 0) / 2

/-- Best master comparison of IEEE 1588-2019 between two Announce data sets, true when the first is better (R79): of one
grandmaster's, the fewer steps, then the identity of the sender, then the receiving port (R592). -/
def betterMaster (a b : ForeignMaster) : Bool :=
  if a.gm = b.gm then
    if a.stepsRemoved ≠ b.stepsRemoved then decide (a.stepsRemoved < b.stepsRemoved)
    else if a.source.1 ≠ b.source.1 then decide (a.source.1 < b.source.1)
    else if a.source.2 ≠ b.source.2 then decide (a.source.2 < b.source.2)
    else decide (a.port < b.port)
  else if a.priority1 ≠ b.priority1 then decide (a.priority1 < b.priority1)
  else if a.clockClass ≠ b.clockClass then decide (a.clockClass < b.clockClass)
  else if a.accuracy ≠ b.accuracy then decide (a.accuracy < b.accuracy)
  else if a.variance ≠ b.variance then decide (a.variance < b.variance)
  else if a.priority2 ≠ b.priority2 then decide (a.priority2 < b.priority2)
  else decide (a.gm < b.gm)

/-- announceReceiptTimeout is 3 announce intervals (R79, R92). -/
def ForeignMaster.timedOut (m : ForeignMaster) (now : Time) : Bool := decide (m.lastAt + 3 * m.interval ≤ now)

/-- The best of a list of qualified masters. -/
def bestMaster : List ForeignMaster → Option ForeignMaster
  | [] => none
  | m :: ms =>
    match bestMaster ms with
    | none => some m
    | some b => if betterMaster m b then some m else some b

/-- A fraction of a nanosecond in units of 2^-32 ns, after the time base moves by `ps` (R76); what is carried into the
nanoseconds leaves it. -/
def fracAfter (frac : Nat) (ps : Int) : Nat := (((frac : Int) + ps * 2 ^ 32 / 1000) % 2 ^ 32).toNat

/-- How far the slew in progress has moved the time base at `now`, in ps, towards its source (R91). -/
def TimeBase.slewed (b : TimeBase) (now : Time) : Int :=
  let m := min b.slewPs.natAbs (b.slewPpm * (now - b.slewAt) / 1000)
  if 0 ≤ b.slewPs then -(m : Int) else (m : Int)

namespace Dev

def tstate (d : Dev) : Nat := d.obj K.TIME_STATE

/-- The 32-bit fraction of a nanosecond of the time base now (R76); no object shows it.  DESIGN CHOICE, log entry 179: the
spec gives the fraction and not the law that moves it. -/
def timeFraction (d : Dev) : Nat := fracAfter d.time.frac (d.time.slewed d.now)

/-- May the time base follow a source: its PLL is locked at the right rate (R519), and no entry into Standby has begun
(R557)?  DEDUCED, log entry 183. -/
def steered (d : Dev) : Bool := !d.time.baseBad && d.start.run != .toStandby

def setTb (f : TimeBase → TimeBase) (d : Dev) : Dev := { d with time := f d.time }

/-! ### Time-stamps at the medium (R89) -/

/-- Transmit and receive latency of a Withy rate in ps. -/
def txLatency (rate : Nat) : Nat := [41600, 22400, 12800, 8900].getD rate 0
def rxLatency (rate : Nat) : Nat := [67200, 36500, 21100, 14600].getD rate 0

/-- Latencies of ingest in ps: 25G TX, 25G RX, 100G TX, 100G RX. -/
def ingestLatency (i : Nat) : Nat := [31000, 112400, 28500, 96800].getD i 0

/-- Time-stamp of a packet that crosses the serialiser of a Withy port at `raw` ps. -/
def txStamp (d : Dev) (h : PortId) (raw : Nat) : Nat := raw + txLatency (d.port h).rate + (d.port h).phasePs

/-- Time-stamp of a packet that crosses the deserialiser of a Withy port at `raw` ps. -/
def rxStamp (d : Dev) (h : PortId) (raw : Nat) : Int :=
  (raw : Int) - ((rxLatency (d.port h).rate + (d.port h).phasePs : Nat) : Int)

/-- Time-stamps of an ingest port; the lane mode gives its rate. -/
def ingestTxStamp (d : Dev) (p raw : Nat) : Nat :=
  raw + ingestLatency (2 * d.obj K.INGEST_LANE_MODE) + d.time.ingestPhase.getD p 0
def ingestRxStamp (d : Dev) (p raw : Nat) : Int :=
  (raw : Int) - ((ingestLatency (2 * d.obj K.INGEST_LANE_MODE + 1) + d.time.ingestPhase.getD p 0 : Nat) : Int)

/-! ### Time states -/

/-- The clockClass of R82: a sender's own, or on a tile the class last announced on the path it follows, in Holdover the
path it followed last. -/
def classNow (d : Dev) : Nat :=
  if d.isSender then
    if d.tstate = tsLocked ∨ d.tstate = tsAcquiring then (d.time.selected.map (·.clockClass)).getD 248
    else if d.tstate = tsHoldover then 7 else 248
  else if d.tstate = tsUnlocked then 248
  else (d.time.followed.bind (fun h => d.time.portClass[h]?)).getD 248

/-- What a tile reports of the grandmaster: the data of the latest Announce on the path it follows (R76). -/
def reportGm (d : Dev) : Dev :=
  match d.time.followed.bind (fun h => d.time.portGm[h]?) with
  | some g =>
    if d.isTile then
      ((d.setObj K.GM_IDENTITY g.1).setObj K.UTC_OFFSET g.2.1).setObj K.PTP_TIMESCALE (b2n g.2.2)
    else d
  | none => d

def reportClass (d : Dev) : Dev := (d.setObj K.CLOCK_CLASS d.classNow).reportGm

def trigOf (d : Dev) (n : Nat) : Trigger := (d.trigs[n]?).getD { writtenAt := 0, fired := false, pulseEnd := none }

def setTrig (n : Nat) (f : Trigger → Trigger) (d : Dev) : Dev := { d with trigs := upd n f d.trigs }

/-- Is a pulse in progress at the output? -/
def trigActive (d : Dev) (n : Nat) : Bool :=
  match (d.trigOf n).pulseEnd with
  | some e => decide (d.now < e)
  | none => false

/-- Entry into Unlocked: an output in mode 3 or 4 goes inactive, also in the middle of a pulse (R110). -/
def trigHold (d : Dev) : Dev :=
  (List.range 8).foldl (fun d n =>
    if (d.obj (K.TRIG_MODE n) == 3 || d.obj (K.TRIG_MODE n) == 4) && d.trigActive n then
      (d.setTrig n (fun t => { t with pulseEnd := none })).emit (.trig n (d.obj (K.TRIG_INVERT n) == 1) 0)
    else d) d

/-- A change of time state, with the loss count of Locked and the outputs that Unlocked holds inactive. -/
def setTimeState (s : Nat) (d : Dev) : Dev :=
  let old := d.tstate
  if old = s then d
  else
    let d := if old = tsLocked then d.bump K.LOCK_LOSS_COUNT else d
    let d := if s = tsUnlocked then d.trigHold else d
    let d := (d.setObj K.TIME_STATE s).setTb (fun b => { b with
      holdoverAt := if s = tsHoldover then some d.now else none, run := 0,
      everTimed := b.everTimed || s != tsUnlocked })
    d.reportClass

/-- Acquiring: the time is stepped once on leaving Unlocked, and after that only while no mode is in force (R91). -/
def enterAcquiring (d : Dev) : Dev :=
  let step := d.tstate == tsUnlocked || d.mode == 0
  (d.setTimeState tsAcquiring).setTb (fun b => { b with stepDue := step })

/-- Loss of the source: Holdover, with the class 3 fault of a loss of time lock (R92, R93, R518). -/
def enterHoldover (d : Dev) : Dev :=
  (d.setTimeState tsHoldover).fault 3 K.TIME_STATE 0

/-- The device follows no source any more (R92, R93). -/
def loseSource (d : Dev) : Dev :=
  let d := d.setObj K.TIME_SOURCE 255
  if d.isSender then
    if d.tstate = tsLocked ∨ d.tstate = tsAcquiring then d.enterHoldover else d
  else if d.tstate = tsLocked then d.enterHoldover
  else if d.tstate = tsAcquiring then d.setTimeState tsUnlocked
  else d

/-- Limit of R90 in ps, and the run of Syncs it asks. -/
def lockLimitPs (d : Dev) : Nat := if d.isSender then 100000 else 2000
def lockRun (d : Dev) : Nat := if d.isSender then 16 else 64

/-- A measured offset steers the time base: a step, or a slew at the limit of R87 and R91, and the run of R90.  The
fraction of R76 is brought to the instant first. -/
def steer (offset : Int) (d : Dev) : Dev :=
  let d := d.setTb (fun b => { b with frac := d.timeFraction, slewAt := d.now })
  let d := d.setObjI 32 K.OFFSET_FROM_SOURCE offset
  let inLimit := decide (offset.natAbs ≤ d.lockLimitPs)
  if d.time.stepDue || (d.tstate == tsAcquiring && d.mode == 0 && !inLimit) then
    (d.setTb (fun b => { b with
      stepDue := false, lastStepPs := offset, slewPs := 0, run := 0, frac := fracAfter b.frac (-offset) })).setObjI 32
      K.OFFSET_FROM_SOURCE 0
  else
    let d := d.setTb (fun b => { b with
      slewPs := offset, slewPpm := if d.isSender then 50 else 10, run := if inLimit then b.run + 1 else 0 })
    if d.isSender && d.tstate == tsLocked && !inLimit then d.setTimeState tsAcquiring else d

/-- TIME_LOCKED (R90): the run is complete. -/
def lockIfRun (d : Dev) : Dev :=
  if d.steered = true ∧ d.tstate = tsAcquiring ∧ d.lockRun ≤ d.time.run then d.setTimeState tsLocked else d

/-! ### Ingest PTP (R79, R592) -/

/-- Is the port one of the enabled PTP ports, and the message inside the profile of R79?  DESIGN CHOICE, log entry 180: a
message of another domain in 0–127 than `PTP_DOMAIN`, or on a port outside `PTP_PORT_MASK`, counts as outside the table. -/
def ptpInProfile (d : Dev) (port : Nat) (m : PtpMsg) (lo hi : Int) : Bool :=
  m.transportOk && m.domain == d.bootObj K.PTP_DOMAIN && bit port (d.bootObj K.PTP_PORT_MASK) &&
    decide (lo ≤ m.logInterval) && decide (m.logInterval ≤ hi)

/-- Masters that qualify: heard twice in the window, and fewer than 255 steps away (log entry 18). -/
def qualified (d : Dev) : List ForeignMaster :=
  d.time.masters.filter (fun m => decide (2 ≤ m.heard) && decide (m.stepsRemoved < 255) && !m.timedOut d.now)

/-- The best master clock algorithm selects, and the reports follow (R592, R92). -/
def selectMaster (d : Dev) : Dev :=
  let best := bestMaster d.qualified
  let old := d.time.selected
  match best with
  | none =>
    let d := d.setTb (fun b => { b with selected := none })
    if old.isSome then d.loseSource else d
  | some m =>
    let second := bestMaster (d.qualified.filter (fun x => x.gm != m.gm))
    let changed := (old.map (fun o => o.gm != m.gm)).getD false
    let d := d.setTb (fun b => { b with selected := some m, run := if changed then 0 else b.run })
    let d := if changed then d.bump K.GM_CHANGES else d
    let d := ((d.setObj K.TIME_SOURCE m.port).setObj K.GM_IDENTITY m.gm).setObj K.UTC_OFFSET (satSigned 16 m.utcOffset)
    let d := (d.setObj K.PTP_TIMESCALE (b2n m.ptpTimescale)).setObj K.GM_SECOND_IDENTITY ((second.map (·.gm)).getD 0)
    let d := if d.tstate = tsLocked ∨ d.tstate = tsAcquiring ∨ d.steered = false then d else d.enterAcquiring
    d.reportClass

/-- PTP_ANNOUNCE_RECEIVED. -/
def ptpAnnounce (port : Nat) (m : PtpMsg) (d : Dev) : Dev :=
  if !d.ptpInProfile port m (-3) 1 then d.bump K.PTP_FOREIGN_COUNT
  else
    let old := d.time.masters.find? (fun x => x.port == port && x.source == m.source)
    let interval := 10 ^ 9 * 2 ^ (m.logInterval + 3).toNat / 8
    let heard := match old with
      | some o => if d.now ≤ o.lastAt + 4 * interval then o.heard + 1 else 1
      | none => 1
    let x : ForeignMaster :=
      { port := port, gm := m.gm, priority1 := m.priority1, clockClass := m.clockClass, accuracy := m.accuracy,
        variance := m.variance, priority2 := m.priority2, stepsRemoved := m.stepsRemoved, source := m.source,
        utcOffset := m.utcOffset, ptpTimescale := m.ptpTimescale, heard := heard, lastAt := d.now,
        interval := interval }
    (d.setTb (fun b => { b with
      masters := b.masters.filter (fun y => !(y.port == port && y.source == m.source)) ++ [x] })).selectMaster

/-- ANNOUNCE_RECEIPT_TIMEOUT (R92): the masters of a port whose Announces have timed out are dropped, and the best of
those left is selected.  Nothing happens where none has timed out. -/
def announceTimeout (port : Nat) (d : Dev) : Dev :=
  let late := fun (m : ForeignMaster) => m.port == port && m.timedOut d.now
  if d.time.masters.any late then
    ((d.bump K.ANNOUNCE_TIMEOUTS).setTb (fun b => { b with masters := b.masters.filter (fun m => !late m) })).selectMaster
  else d

/-- The SMPTE management TLV of a message is received and reported (R79); it steers nothing.  DESIGN CHOICE, log entry 126:
the spec names no object that reports it, and the model keeps the latest and puts it out. -/
def smpteRx (port : Nat) (m : PtpMsg) (d : Dev) : Dev :=
  match m.smpte with
  | some b =>
    if m.transportOk && m.domain == d.bootObj K.PTP_DOMAIN && bit port (d.bootObj K.PTP_PORT_MASK) then
      (d.setTb (fun t => { t with smpteTlv := some b })).emit (.smpteTlv port b)
    else d
  | none => d

/-- Does a message come from the selected master on the slave port? -/
def fromSelected (d : Dev) (port : Nat) (m : PtpMsg) : Bool :=
  match d.time.selected with
  | some s => s.port == port && s.source == m.source
  | none => false

/-- A Sync of the slave port measures the offset (R79). -/
def ptpOffset (ingress : Int) (origin : Nat) (corr : Int) (d : Dev) : Dev :=
  let ms := ingress - (origin : Int) - corrToPs corr
  let d := d.setTb (fun b => { b with masterToSlave := ms })
  if d.steered then d.steer (ms - (d.obj K.MEAN_PATH_DELAY : Int)) else d

/-- PTP_SYNC_RECEIVED: one-step at once, two-step with its Follow_Up. -/
def ptpSync (port : Nat) (m : PtpMsg) (d : Dev) : Dev :=
  if !d.ptpInProfile port m (-7) (-1) then d.bump K.PTP_FOREIGN_COUNT
  else if !d.fromSelected port m then d
  else if m.twoStep then
    d.setTb (fun b => { b with
      awaiting := (b.awaiting.filter (fun a => a.1 != port)) ++
        [(port, m.sequence, d.ingestRxStamp port m.ingressPs, m.correction)] })
  else d.ptpOffset (d.ingestRxStamp port m.ingressPs) m.stampPs m.correction

/-- PTP_FOLLOW_UP_RECEIVED. -/
def ptpFollowUp (port : Nat) (m : PtpMsg) (d : Dev) : Dev :=
  if !d.ptpInProfile port m (-7) (-1) then d.bump K.PTP_FOREIGN_COUNT
  else if !d.fromSelected port m then d
  else
    match d.time.awaiting.find? (fun a => a.1 == port && a.2.1 == m.sequence) with
    | none => d
    | some a =>
      let d := d.setTb (fun b => { b with awaiting := b.awaiting.filter (fun x => x.1 != port) })
      d.ptpOffset a.2.2.1 m.stampPs (a.2.2.2 + m.correction)

/-- PTP_DELAY_RESP_RECEIVED: the mean of the two directions; a half picosecond is rounded down (log entry 125). -/
def ptpDelayResp (port : Nat) (m : PtpMsg) (d : Dev) : Dev :=
  if !d.ptpInProfile port m (-7) 0 then d.bump K.PTP_FOREIGN_COUNT
  else
    match d.time.delayReq with
    | some (q, seq, t3) =>
      if q = port ∧ seq = m.sequence ∧ m.forMe ∧ d.fromSelected port m then
        let sm := (m.stampPs : Int) - (t3 : Int) - corrToPs m.correction
        let mean := (d.time.masterToSlave + sm) / 2
        (d.setTb (fun b => { b with delayReq := none })).setObj K.MEAN_PATH_DELAY
          (clampI 0 ((2 ^ 32 : Nat) - 1 : Int) mean).toNat
      else d
    | none => d

/-- DELAY_REQ_SEND (R79): into the slave port. -/
def delayReqTx (port egress : Nat) (d : Dev) : Dev :=
  match d.time.selected with
  | some s =>
    if s.port = port then
      let seq := (d.time.delaySeq + 1) % 2 ^ 16
      (d.setTb (fun b => { b with delaySeq := seq, delayReq := some (port, seq, d.ingestTxStamp port egress) })).emit
        (.delayReq port seq (d.bootObj K.PTP_DELAY_UNICAST == 1))
    else d
  | none => d

/-- HOLDOVER_LIMIT_EXPIRY (R92, R93): HOLDOVER_LIMIT has passed in Holdover. -/
def holdoverEnd (d : Dev) : Dev :=
  match d.time.holdoverAt with
  | some u =>
    if d.tstate = tsHoldover ∧ u + d.obj K.HOLDOVER_LIMIT * 1000000 ≤ d.now then
      d.setTimeState (if d.isSender then tsFreerun else tsUnlocked)
    else d
  | none => d

/-- A failed check of the time base is a loss of time lock: Holdover, or Unlocked from Acquiring on a tile (R93, R519). -/
def baseLost (d : Dev) : Dev :=
  if d.tstate = tsLocked ∨ (d.isSender = true ∧ d.tstate = tsAcquiring) then d.setTimeState tsHoldover
  else if d.isTile && d.tstate == tsAcquiring then d.setTimeState tsUnlocked
  else d

/-- TIME_BASE_CHECK (R519).  While the checks fail the time base follows no source (`steered`); the loss is logged once
(DEDUCED, log entry 183).  Once they pass, the next Announce of a qualified master or the next Sync on a tile's path starts
Acquiring again. -/
def baseCheck (pll : Bool) (ppm : Int) (d : Dev) : Dev :=
  let bad := if ppm.natAbs > 200 then d.time.ppmBad + 1 else 0
  let fail := !pll || decide (8 ≤ bad)
  let was := d.time.baseBad
  let d := d.setTb (fun b => { b with ppmBad := bad, baseBad := fail })
  if fail then (if was then d.baseLost else d.baseLost.fault 3 K.TIME_STATE 0)
  else d

end Dev

/-! ### IEEE 1588 messages in TIM packets (R81, R411) -/

/-- The common header with a message's own bytes (log entry 19). -/
def timBytes (mtype domain flags seq : Nat) (corr : Int) (clock port : Nat) (logInt : Int) (own : Bytes) : Bytes :=
  be 1 mtype ++ be 1 2 ++ be 2 (34 + own.length) ++ be 1 domain ++ zeros 1 ++ be 2 flags ++ be 8 (ofSigned 64 corr) ++
    zeros 4 ++ be 8 clock ++ be 2 port ++ be 2 seq ++ zeros 1 ++ be 1 (ofSigned 8 logInt) ++ own

/-- A PTP timestamp: 48-bit seconds and 32-bit nanoseconds, from picoseconds. -/
def stampBytes (ps : Nat) : Bytes := be 6 (ps / 10 ^ 12) ++ be 4 (ps % 10 ^ 12 / 1000)

def timType (b : Bytes) : Nat := fieldAt 0 1 b % 16
def timDomain (b : Bytes) : Nat := fieldAt 4 1 b
def timCorr (b : Bytes) : Int := toSigned 64 (fieldAt 8 8 b)
def timClock (b : Bytes) : Nat := fieldAt 20 8 b
def timSeq (b : Bytes) : Nat := fieldAt 30 2 b

/-- The timestamp of a Sync or of a Pdelay_Resp, in ps. -/
def timStamp (b : Bytes) : Nat := fieldAt 34 6 b * 10 ^ 12 + fieldAt 40 4 b * 1000

/-- The clockClass of an Announce, and its grandmaster, UTC offset and timescale flag (R76). -/
def timClass (b : Bytes) : Nat := fieldAt 48 1 b
def timGm (b : Bytes) : Nat × Nat × Bool := (fieldAt 53 8 b, fieldAt 44 2 b, bit 3 (fieldAt 7 1 b))

namespace Dev

/-- Mean delay of a port's link in ps (R84). -/
def linkDelay (d : Dev) (h : PortId) : Nat :=
  if d.isSender then d.obj (K.LINK_DELAY_PORT h)
  else if h = 0 then d.obj K.LINK_DELAY_WEST else d.obj K.LINK_DELAY_EAST

def setLinkDelay (h : PortId) (v : Nat) (d : Dev) : Dev :=
  d.setObj (if d.isSender then K.LINK_DELAY_PORT h else if h = 0 then K.LINK_DELAY_WEST else K.LINK_DELAY_EAST) v

/-- Does the sender transmit Sync and Announce now (R80)?  Not while Unlocked, not in Silent or Halted, and not from the
first step of the entry into Standby on (R556) until the exit. -/
def serving (d : Dev) : Bool :=
  d.isSender && d.tstate != tsUnlocked && d.obj K.INTEG_STATE == 1 && d.start.run != .toStandby &&
    d.start.run != .standby

/-- WITHY_SYNC_SEND (R81, R89): the origin timestamp is that of the instant the packet crosses the serialiser, to 1 UI; what
it has below a nanosecond goes into the correction (PRESUMED, log entry 19). -/
def syncTx (h : PortId) (egress : Nat) (d : Dev) : Dev :=
  if d.serving && d.portUp h then
    let seq := d.time.syncSeq.getD h 0
    let ps := d.txStamp h egress
    let b := timBytes 0 (d.bootObj K.PTP_DOMAIN) 0 seq (psToCorr ((ps % 1000 : Nat) : Int)) d.fix.fuses.uid (h + 1) (-13)
      (stampBytes ps)
    (d.transmit h (mkPacket clsTim 0xFF 0 b)).setTb
      (fun t => { t with syncSeq := upd h (fun s => (s + 1) % 2 ^ 16) t.syncSeq })
  else d

/-- WITHY_ANNOUNCE_SEND (R81, R82). -/
def announceTx (h : PortId) (d : Dev) : Dev :=
  if d.serving && d.portUp h then
    let seq := d.time.announceSeq.getD h 0
    let g := d.time.selected
    let own := stampBytes 0 ++ be 2 (d.obj K.UTC_OFFSET) ++ zeros 1 ++ be 1 ((g.map (·.priority1)).getD 128) ++
      be 1 d.classNow ++ be 1 ((g.map (·.accuracy)).getD 0xFE) ++ be 2 ((g.map (·.variance)).getD 0xFFFF) ++
      be 1 ((g.map (·.priority2)).getD 128) ++ be 8 (d.obj K.GM_IDENTITY) ++
      be 2 ((g.map (fun x => x.stepsRemoved + 1)).getD 0) ++ be 1 0x20
    let b := timBytes 0xB (d.bootObj K.PTP_DOMAIN) (8 * d.obj K.PTP_TIMESCALE) seq 0 d.fix.fuses.uid (h + 1) (-4) own
    (d.transmit h (mkPacket clsTim 0xFF 0 b)).setTb
      (fun t => { t with announceSeq := upd h (fun s => (s + 1) % 2 ^ 16) t.announceSeq })
  else d

/-- A tile's own packet leaves in a grant run, at `egress` ps (R416).  A Pdelay_Req is stamped as it leaves, and a Pdelay_Resp
takes its turnaround into its correction (R89, R411). -/
def launchOwn (h : PortId) (egress : Nat) (p : Packet) (d : Dev) : Dev :=
  if p.cls = clsTim ∧ timType p.body = 2 then
    (d.transmit h p).setTb (fun t => { t with
      pdelayOut := upd h (fun _ => some (timSeq p.body, d.txStamp h egress)) t.pdelayOut })
  else if p.cls = clsTim ∧ timType p.body = 3 then
    match (d.port h).respIn with
    | r :: rest =>
      let corr := timCorr p.body + psToCorr ((d.txStamp h egress : Int) - r)
      (d.setPort h (fun q => { q with respIn := rest })).transmit h
        (mkPacket p.cls p.target p.flags (splice 8 (be 8 (ofSigned 64 corr)) p.body))
    | [] => d.transmit h p
  else d.launch h p

/-! ### Grant runs (R416, R417) -/

/-- A grant run passes from port `h` towards the other port: a pending packet that fits takes its first columns. -/
def grantPass (h : PortId) (g : GrantRun) (d : Dev) : Dev :=
  let e := otherPort h
  let d := d.setPort h (fun q => { q with lastGrant := some d.now })
  let d := d.setPort e (fun q => { q with grants := false })
  if !d.portUp e then d
  else
    match (d.port e).own with
    | p :: rest =>
      if pktColumns p ≤ g.n then
        ((d.setPort e (fun q => { q with own := rest })).launchOwn e g.egressPs p).emit
          (.column e (.grant (g.n - pktColumns p)))
      else d.emit (.column e (.grant g.n))
    | [] => d.emit (.column e (.grant g.n))

/-- A device that opens grant runs into port `h` opens one of 192 columns, with a pending packet of its own in front. -/
def grantOpen (h : PortId) (egress : Nat) (d : Dev) : Dev :=
  match (d.port h).own with
  | p :: rest =>
    if pktColumns p ≤ 191 then
      ((d.setPort h (fun q => { q with own := rest })).launchOwn h egress p).emit (.column h (.grant (191 - pktColumns p)))
    else d.emit (.column h (.grant 191))
  | [] => d.emit (.column h (.grant 191))

/-! ### Pdelay (R80, R84, R411) -/

/-- May Pdelay messages go out: from a sender once its time state has first left Unlocked (R80)? -/
def pdelayOpen (d : Dev) : Bool := d.isTile || d.time.everTimed

/-- PDELAY_REQ_SEND (R80, R81, R84): on every Up port, link-local; from a sender once its time state has left Unlocked, and
from a tile inside a grant run (R416). -/
def pdelayTx (h : PortId) (egress : Nat) (d : Dev) : Dev :=
  if d.portUp h && d.pdelayOpen then
    let seq := (d.time.pdelaySeq.getD h 0 + 1) % 2 ^ 16
    let b := timBytes 2 (if d.isSender then d.bootObj K.PTP_DOMAIN else d.time.domain) 0 seq 0 d.fix.fuses.uid (h + 1) (-3)
      (stampBytes 0 ++ zeros 10)
    let d := d.setTb (fun t => { t with pdelaySeq := upd h (fun _ => seq) t.pdelaySeq })
    if d.isTile then d.sendOwn h (mkPacket clsTim 0 1 b) else d.launchOwn h egress (mkPacket clsTim 0 1 b)
  else d

/-- PDELAY_REQ_RECEIVED (R411): the answer carries the turnaround in its correction, as a one-step responder (log entry 19);
a tile's waits for a grant run (R416). -/
def pdelayReqRx (h : PortId) (p : Packet) (ingress egress : Nat) (d : Dev) : Dev :=
  if !d.portUp h then d
  else
    let d := d.countRx h p
    if !pktPasses p || !pktLink p || !d.pdelayOpen then d
    else
      let own := stampBytes 0 ++ be 8 (timClock p.body) ++ slice 28 2 p.body
      let b := timBytes 3 (timDomain p.body) 0 (timSeq p.body) (timCorr p.body) d.fix.fuses.uid (h + 1) 0x7F own
      let d := d.setPort h (fun q => { q with respIn := q.respIn ++ [d.rxStamp h ingress] })
      if d.isTile then d.sendOwn h (mkPacket clsTim 0 1 b) else d.launchOwn h egress (mkPacket clsTim 0 1 b)

/-- PDELAY_RESP_RECEIVED: one measurement into the median of the last 16 (R84).  DESIGN CHOICE, log entry 125: a half
picosecond is rounded down. -/
def pdelayRespRx (h : PortId) (p : Packet) (ingress : Nat) (d : Dev) : Dev :=
  if !d.portUp h then d
  else
    let d := d.countRx h p
    if !pktPasses p || !pktLink p then d
    else
      match d.time.pdelayOut.getD h none with
      | some (seq, t1) =>
        if timSeq p.body = seq ∧ fieldAt 44 8 p.body = d.fix.fuses.uid then
          let turn := corrToPs (timCorr p.body)
          let m := ((d.rxStamp h ingress - (t1 : Int) - turn) / 2).toNat
          let hist := ((d.time.pdelayHist.getD h []) ++ [m]).drop ((d.time.pdelayHist.getD h []).length - 15)
          let d := d.setTb (fun t => { t with
            pdelayOut := upd h (fun _ => none) t.pdelayOut, pdelayHist := upd h (fun _ => hist) t.pdelayHist })
          d.setLinkDelay h ((medianOf (hist.map Int.ofNat)).toNat)
        else d
      | none => d

/-- The averages of R88: one difference of a West and an East offset, 64 of them to a result. -/
def dirPair (d : Dev) : Dev :=
  match d.time.dirWest, d.time.dirEast with
  | some w, some e =>
    let sum := d.time.dirSum + (w - e)
    let n := d.time.dirCount + 1
    if n = 64 then
      let avg := unstatedDiv sum 64
      let beyond := decide (d.obj K.DIR_CHECK_LIMIT * 1000 < avg.natAbs)
      (d.setTb (fun b => { b with dirWest := none, dirEast := none, dirSum := 0, dirCount := 0,
                                  dirBad := if beyond then b.dirBad + 1 else 0 })).setObjI 32 K.DIR_DIFF avg
    else d.setTb (fun b => { b with dirWest := none, dirEast := none, dirSum := sum, dirCount := n })
  | _, _ => d

/-- Has a port delivered no valid Sync for 8 Sync intervals (R86, R93)? -/
def pathSilent (d : Dev) (h : PortId) : Bool :=
  match d.time.lastSync.getD h none with
  | some u => decide (u + eightSyncs ≤ d.now)
  | none => true

/-- Does the tile take time from this port now (R86)?  From the active path, and from the other where the active path has
been silent for 8 intervals; from any port while no path carries a claim (log entry 17). -/
def followsPort (d : Dev) (h : PortId) : Bool :=
  let a := d.obj K.PATH_ACTIVE
  let s := d.obj K.TIME_SOURCE
  if a = 255 then s == 255 || s == h || d.pathSilent s else a == h || d.pathSilent a

/-- The tile follows the Syncs of a port. -/
def followPath (h : PortId) (d : Dev) : Dev := (d.setTb (fun b => { b with followed := some h })).setObj K.TIME_SOURCE h

/-- A Sync is used by the tile it passes (R86, R88, R90). -/
def useSync (h : PortId) (p : Packet) (ingress : Nat) (d : Dev) : Dev :=
  let raw := d.rxStamp h ingress - ((timStamp p.body : Int) + corrToPs (timCorr p.body))
  let d := d.setTb (fun b => { b with lastSync := upd h (fun _ => some d.now) b.lastSync, domain := timDomain p.body })
  let d := if h = 0 then (d.setTb (fun b => { b with dirWest := some raw })).setObjI 32 K.DIR_OFFSET_WEST raw
           else (d.setTb (fun b => { b with dirEast := some raw })).setObjI 32 K.DIR_OFFSET_EAST raw
  let d := d.dirPair
  if d.steered && d.followsPort h then
    let d := (d.followPath h).setObj K.MEAN_PATH_DELAY (d.linkDelay h)
    let d := if d.tstate = tsUnlocked ∨ d.tstate = tsHoldover then d.enterAcquiring else d
    (d.steer (raw - (d.linkDelay h : Int))).reportClass
  else d

/-- TIM_SYNC_RECEIVED on a tile (R84, R85). -/
def timSyncRx (h : PortId) (p : Packet) (ingress egress : Nat) (d : Dev) : Dev :=
  if !d.portUp h then d
  else
    let d := d.countRx h p
    if pktLink p then d
    else
      let d := if pktPasses p then d.useSync h p ingress else d
      let e := otherPort h
      let d := if d.portUp e then
          d.setObj (K.WITHY_RESIDENCE_MAX e)
            (clampN (d.obj (K.WITHY_RESIDENCE_MAX e)) 65535
              (ceilDiv ((d.txStamp e egress : Int) - d.rxStamp h ingress).toNat 1000))
        else d
      let corr := timCorr p.body + psToCorr ((d.txStamp e egress : Int) - d.rxStamp h ingress + (d.linkDelay h : Int))
      d.forward h p (if pktPasses p then splice 8 (be 8 (ofSigned 64 corr)) p.body else p.body)

/-- TIM_ANNOUNCE_RECEIVED on a tile (R76, R82). -/
def timAnnounceRx (h : PortId) (p : Packet) (d : Dev) : Dev :=
  if !d.portUp h then d
  else
    let d := d.countRx h p
    if pktLink p then d
    else
      let d := if pktPasses p then
          (d.setTb (fun b => { b with
            portClass := upd h (fun _ => timClass p.body) b.portClass, portGm := upd h (fun _ => timGm p.body) b.portGm,
            domain := timDomain p.body })).reportClass
        else d
      d.forward h p p.body

/-- A TIM packet of a type Withy does not use (R411). -/
def timUnknown (h : PortId) (d : Dev) : Dev := d.bump (K.WITHY_UNKNOWN h)

/-- Is |PAIR_TIME_OFFSET| beyond its limit (R83)? -/
def pairApart (d : Dev) : Bool := decide (d.obj K.PAIR_OFFSET_LIMIT * 1000 < (d.objI 32 K.PAIR_TIME_OFFSET).natAbs)

/-- Since when the pair has been beyond its limit (R83). -/
def watchPair (d : Dev) : Dev :=
  d.setTb (fun b => { b with pairBeyond := if d.pairApart then some (b.pairBeyond.getD d.now) else none })

/-- PAIR_SYNC_RECEIVED on a sender (R82's text, R83): the median over the hoops shared with the partner.  DESIGN CHOICE, log
entry 181: `PAIR_TIME_OFFSET` is the partner's time less the sender's own; the spec gives no sign. -/
def pairSyncRx (h : PortId) (p : Packet) (ingress : Nat) (d : Dev) : Dev :=
  if !d.portUp h then d
  else
    let d := d.countRx h p
    if !pktPasses p then d
    else if timType p.body = 0xB then
      let cls := timClass p.body
      d.setTb (fun b => { b with
        portClass := upd h (fun _ => cls) b.portClass
        partnerFreerunSince := if cls = 248 then (match b.partnerFreerunSince with
          | some t => some t
          | none => some d.now) else none })
    else
      let raw := d.rxStamp h ingress - ((timStamp p.body : Int) + corrToPs (timCorr p.body)) - (d.linkDelay h : Int)
      let d := d.setTb (fun b => { b with
        lastSync := upd h (fun _ => some d.now) b.lastSync, pairOffset := upd h (fun _ => some (-raw)) b.pairOffset })
      let live := (List.range 4).filterMap (fun k => if d.hoopClosed k then d.time.pairOffset.getD k none else none)
      if live.isEmpty then d else (d.setObjI 32 K.PAIR_TIME_OFFSET (medianOf live)).watchPair

/-- PAIR_OFFSET_FAULT (R83): the offset has been beyond its limit for 1 s; a further second beyond it logs again. -/
def pairOffsetCheck (d : Dev) : Dev :=
  match d.time.pairBeyond with
  | some u =>
    if d.isSender && d.pairApart && decide (u + 10 ^ 9 ≤ d.now) then
      (d.setTb (fun b => { b with pairBeyond := some d.now })).fault 3 K.PAIR_TIME_OFFSET 0
    else d
  | none => d

/-- DIR_CHECK_FAULT (R88). -/
def dirCheck (d : Dev) : Dev :=
  if d.isTile && decide (128 ≤ d.time.dirBad) then
    (d.setTb (fun b => { b with dirBad := 0 })).bumpFault 3 K.DIR_CHECK_FAULTS 0
  else d

/-- SYNC_LOSS_TIMEOUT (R93): neither path has delivered a valid Sync for 8 intervals. -/
def syncLoss (d : Dev) : Dev := if d.isTile && d.pathSilent 0 && d.pathSilent 1 then d.loseSource else d

/-- TIME_SOURCE_SWITCH (R86, R87): the active path has delivered no valid Sync for 8 intervals, and the other has. -/
def sourceSwitch (d : Dev) : Dev :=
  let a := d.obj K.PATH_ACTIVE
  if d.isTile && decide (a ≤ 1) && d.pathSilent a && !d.pathSilent (otherPort a) then (d.followPath (otherPort a)).reportClass
  else d

/-! ### Capture inputs (R101 to R106) -/

def cap (d : Dev) (n : Nat) : Capture := (d.caps[n]?).getD { fifo := [], openAt := none }

def setCap (n : Nat) (f : Capture → Capture) (d : Dev) : Dev := { d with caps := upd n f d.caps }

/-- A stamp enters the FIFO, or is discarded and counted (R106). -/
def capPush (n stamp : Nat) (d : Dev) : Dev :=
  if (d.cap n).fifo.length < 64 then d.setCap n (fun c => { c with fifo := c.fifo ++ [stamp] })
  else d.bump (K.CAP_FIFO_OVERFLOW n)

/-- Base frame period, rounded up to whole ns. -/
def baseFrame (d : Dev) : Nat := ceilDiv (modeD d.mode * 10 ^ 9) (modeN d.mode)

/-- A0 of facet `j` of base frame `k` under the offsets in force (R97, R99). -/
def apertureOpenOf (d : Dev) (k j : Nat) : Nat :=
  let m := d.mode
  apertureOpen m (apertureLen m (d.obj K.APERTURE_FRACTION)) (d.obj (K.APERTURE_OFFSET j)) (k * facetCount m + j)

/-- The element of a list nearest to `x`; the first of equals. -/
def nearest (x : Int) : List Nat → Nat
  | [] => 0
  | a :: as => as.foldl (fun (b c : Nat) => if (Int.ofNat c - x).natAbs < (Int.ofNat b - x).natAbs then c else b) a

/-- The base frames around an instant. -/
def framesAround (d : Dev) (t : Nat) : List Nat :=
  let k := frameNo d.mode t
  if k = 0 then [k, k + 1] else [k - 1, k, k + 1]

/-- An exposure from `o` to `c` is compared with its facet's aperture (R103). -/
def checkExposure (n o c : Nat) (d : Dev) : Dev :=
  let a0 := nearest o ((d.framesAround o).map (fun k => d.apertureOpenOf k (d.obj (K.CAP_FACET n))))
  let a1 := a0 + apertureLen d.mode (d.obj K.APERTURE_FRACTION)
  let mo : Int := (o : Int) - (a0 : Int)
  let mc : Int := (a1 : Int) - (c : Int)
  let d := (d.setObjI 32 (K.CAP_MARGIN_OPEN n) mo).setObjI 32 (K.CAP_MARGIN_CLOSE n) mc
  let lim := d.objI 32 (K.CAP_MARGIN_MIN n)
  if mo < lim ∨ mc < lim then d.bumpFault 9 (K.CAP_OUTSIDE_COUNT n) n else d

/-- The shutter monitor on an edge at `s` (R103, R104).  DESIGN CHOICE, log entry 127: with no facet mode in force there is
no base frame and no aperture, and the monitor lets the edge pass. -/
def shutterEdge (n s : Nat) (opening : Bool) (d : Dev) : Dev :=
  if d.mode = 0 then d
  else if opening then
    let late := match (d.cap n).openAt with
      | some o => decide (o + d.baseFrame ≤ s)
      | none => false
    (if late then d.bump (K.CAP_OUTSIDE_COUNT n) else d).setCap n (fun c => { c with openAt := some s })
  else
    match (d.cap n).openAt with
    | none => d
    | some o =>
      let d := d.setCap n (fun c => { c with openAt := none })
      if s - o < d.baseFrame then d.checkExposure n o s else d.bump (K.CAP_OUTSIDE_COUNT n)

/-- The frame-sync monitor on an edge at `s` (R105).  DESIGN CHOICE, log entry 127: with no facet mode in force no base
frame begins, and CAPn_SYNC_PHASE and the count stay as they are. -/
def syncEdge (n s : Nat) (d : Dev) : Dev :=
  if d.mode = 0 then d
  else
    let b := nearest s ((d.framesAround s).map (baseStart d.mode))
    let phase : Int := (s : Int) - (b : Int)
    let d := d.setObjI 32 (K.CAP_SYNC_PHASE n) phase
    if d.obj (K.CAP_PHASE_LIMIT n) < phase.natAbs then d.bumpFault 9 (K.CAP_OUTSIDE_COUNT n) n else d

/-- The wall time of an edge at a capture input, less CAPn_DELAY_COMP (R101). -/
def capStamp (d : Dev) (n : Nat) : Nat := ((d.now : Int) - d.objI 32 (K.CAP_DELAY_COMP n)).toNat

/-- CAPTURE_EDGE (R101 to R106): an edge after which the level lasts `width` ns.  The glitch filter lets it pass where that
is 20 ns or more and its own level changes, so neither edge of a shorter pulse is stamped (R102).  Before the first edge
that it sees, its level is the one that edge leaves. -/
def captureEdge (n : Nat) (rising : Bool) (width : Nat) (d : Dev) : Dev :=
  let level := (d.cap n).level.getD (!rising)
  if 8 ≤ n then d
  else if width < 20 ∨ level = rising then d.setCap n (fun c => { c with level := some level })
  else
    let d := d.setCap n (fun c => { c with level := some rising })
    let mode := d.obj (K.CAP_MODE n)
    let s := d.capStamp n
    let sel := d.obj (K.CAP_EDGE n)
    let wanted := sel == 2 || (sel == 0 && rising) || (sel == 1 && !rising)
    if mode = 0 then d
    else
      let d := if wanted then
          (d.setObj (K.CAP_LAST_EDGE n) (s % 2 ^ 48)).capPush n (b2n rising * 2 ^ 63 + s % 2 ^ 48)
        else d
      if mode = 2 then d.shutterEdge n s (rising != (d.obj (K.CAP_INVERT n) == 1))
      else if mode = 3 && wanted then d.syncEdge n s
      else d

/-- SHUTTER_OPEN_TIMEOUT (R104): one base frame has passed since the opening edge.  DESIGN CHOICE, log entry 182: an
exposure that was open when CAPn_MODE left the shutter monitor is counted too. -/
def shutterTimeout (n : Nat) (d : Dev) : Dev :=
  match (d.cap n).openAt with
  | none => d
  | some o =>
    if d.mode ≠ 0 ∧ o + d.baseFrame ≤ d.capStamp n then
      (d.setCap n (fun c => { c with openAt := none })).bump (K.CAP_OUTSIDE_COUNT n)
    else d

/-! ### Trigger outputs (R107 to R110) -/

/-- Is the output running, the owning block of its Idle objects (R107)? -/
def trigRunning (d : Dev) (n : Nat) : Bool := d.obj (K.TRIG_MODE n) != 0 || d.trigActive n

/-- The period R109 takes for a mode; none where it has none.  DESIGN CHOICE, log entry 128: modes 3 and 4 have none while
no facet mode is in force, and every width is then accepted. -/
def trigPeriod (d : Dev) (n mode : Nat) : Option Nat :=
  match mode with
  | 2 => some (d.obj (K.TRIG_PERIOD n))
  | 3 => if d.mode = 0 then none else some (modeD d.mode * 10 ^ 9 / modeN d.mode)
  | 4 => if d.mode = 0 then none else some (periodMin d.mode)
  | _ => none

/-- The checks of R108 and R109 on a write of TRIGn_MODE: 0 where the write is accepted, else its status. -/
def trigModeCheck (d : Dev) (n mode : Nat) : Nat :=
  let bad := match d.trigPeriod n mode with
    | some p => decide (p ≤ d.obj (K.TRIG_WIDTH n) + 20)
    | none => false
  if bad then 0x23
  else if mode = 1 ∧ wallDiff (d.obj (K.TRIG_START n)) d.wall < 10000 then 0x35
  else 0

/-- The instant that TRIGn_START names now, by signed difference. -/
def trigStart (d : Dev) (n : Nat) : Int := (d.now : Int) + wallDiff (d.obj (K.TRIG_START n)) d.wall

/-- TRIGn_MODE takes a value (R107).  The start is held as the instant it names now, so that no compare value grows older
than 2^47 ns (R78). -/
def trigModeSet (n mode : Nat) (d : Dev) : Dev :=
  (d.keepObj (K.TRIG_MODE n) mode).setTrig n (fun t =>
    { t with writtenAt := d.now, base := d.trigStart n, fired := false })

/-- Is an edge programmed for this instant (the mode table, R108, R110)? -/
def trigDue (d : Dev) (n : Nat) : Bool :=
  let g := d.trigOf n
  let at_ : Int := (d.now : Int) - d.objI 32 (K.TRIG_OFFSET n)
  let t0 := at_.toNat
  match d.obj (K.TRIG_MODE n) with
  | 1 => !g.fired && decide ((d.now : Int) = g.base)
  | 2 =>
    let dt := (d.now : Int) - g.base
    decide (0 ≤ dt) && dt.toNat % d.obj (K.TRIG_PERIOD n) == 0 && decide (g.writtenAt + 10000 ≤ d.now)
  | 3 => d.mode != 0 && d.tstate != tsUnlocked && decide (0 ≤ at_) && baseStart d.mode (frameNo d.mode t0) == t0
  | 4 =>
    d.mode != 0 && d.tstate != tsUnlocked && decide (0 ≤ at_) && isBoundary d.mode t0 &&
      bit (facetNo d.mode t0 % facetCount d.mode) (d.obj (K.TRIG_FACET_MASK n))
  | _ => false

/-- TRIGGER_EDGE (R107, R110). -/
def trigFire (n : Nat) (d : Dev) : Dev :=
  if decide (n < 8) && d.trigDue n then
    let w := d.obj (K.TRIG_WIDTH n)
    let d := d.setTrig n (fun t => { t with fired := true, pulseEnd := some (d.now + w) })
    ((d.bumpWrap (K.TRIG_FIRED_COUNT n)).setObj (K.TRIG_LAST_EDGE n) d.wall).emit
      (.trig n (d.obj (K.TRIG_INVERT n) == 0) w)
  else d

end Dev

end Sys2Proof.Machine
end

