-- ==== Sys2Proof/Machine/FlpOps.lean ====
section
/-!
DEFINITION. Sys2Proof/Machine/FlpOps.lean: flip packets as bytes and their validity (R227, R228, R412).
-/
namespace Sys2Proof.Machine

/-- Bitwise complement of an `n`-byte value. -/
def invN (n v : Nat) : Nat := 256 ^ n - 1 - v % 256 ^ n

/-- The 88 bytes of an FLP body (R412). -/
def flpBytes (x : Flp) : Bytes :=
  be 1 x.kind ++ be 1 x.facet ++ be 1 x.mode ++ be 1 (invN 1 x.mode) ++ be 1 x.fraction ++ be 1 (invN 1 x.fraction) ++
    be 2 0 ++ be 6 x.f ++ be 6 (invN 6 x.f) ++ be 4 x.frame ++ be 4 x.paramGen ++ be 4 x.claim ++
    be 4 (invN 4 x.claim) ++ be 2 x.fader ++ be 2 (invN 2 x.fader) ++ be 2 x.ceiling ++ be 2 (invN 2 x.ceiling) ++
    be 6 x.fNew ++ be 6 (invN 6 x.fNew) ++ be 4 x.off0 ++ be 4 x.off1 ++ be 4 x.off2 ++ be 4 x.off3 ++
    be 4 (invN 4 x.off0) ++ be 4 (invN 4 x.off1) ++ be 4 (invN 4 x.off2) ++ be 4 (invN 4 x.off3)

/-- The fields of an FLP body, complements aside. -/
def flpFields (b : Bytes) : Flp :=
  { kind := fieldAt 0 1 b, facet := fieldAt 1 1 b, mode := fieldAt 2 1 b, fraction := fieldAt 4 1 b,
    f := fieldAt 8 6 b, frame := fieldAt 20 4 b, paramGen := fieldAt 24 4 b, claim := fieldAt 28 4 b,
    fader := fieldAt 36 2 b, ceiling := fieldAt 40 2 b, fNew := fieldAt 44 6 b, off0 := fieldAt 56 4 b,
    off1 := fieldAt 60 4 b, off2 := fieldAt 64 4 b, off3 := fieldAt 68 4 b }

/-- The FLP a body spells when its length, reserved bytes and complements are right (R228, R412). -/
def parseFlp (b : Bytes) : Option Flp :=
  if b = flpBytes (flpFields b) then some (flpFields b) else none

/-- The four aperture offsets in order. -/
def flpOffsets (x : Flp) : List Nat := [x.off0, x.off1, x.off2, x.off3]

/-- Every offset of a mode is 0xFFFF_FFFF or meets R98; R98 says nothing of a facet the mode does not have.
DEDUCED, log entry 31. -/
def offsetsFit (m fraction : Nat) : Nat → List Nat → Bool
  | _, [] => true
  | j, o :: os =>
    (o == 0xFFFFFFFF || decide (facetCount m ≤ j) || offsetFits m fraction o j) && offsetsFit m fraction (j + 1) os

/-- The k and j of R96 at a boundary of a mode. -/
def facetNames (m f frame facet : Nat) : Bool :=
  let q := facetNo m f
  facetAt m q == f && frame == (q / facetCount m) % 2 ^ 32 && facet == q % facetCount m

/-- R228 for a device whose mode in force is `cur` (0 none) at the instant `now`. -/
def flpValidFor (cur : Nat) (now : Time) (x : Flp) : Bool :=
  let f := wallToAbs now x.f
  decide (x.kind ≤ 1) && decide (1 ≤ x.fraction) && decide (x.fraction ≤ 3) &&
  (x.mode == 0 || offsetsFit x.mode x.fraction 0 (flpOffsets x)) &&
  (if x.kind = 0 then modeValid x.mode && facetNames x.mode f x.frame x.facet && x.fNew == 0
   else
    (cur == 0 || isBoundary cur f) &&
    (if x.mode = 0 then x.fNew == 0 && x.frame == 0 && x.facet == 0
     else
      modeValid x.mode &&
      (let q := facetFrom x.mode f + 1
       facetAt x.mode q % 2 ^ 48 == x.fNew && facetNames x.mode (facetAt x.mode q) x.frame x.facet)))

/-- The FLP of a body that is valid on the device (R228). -/
def Dev.validFlp (d : Dev) (b : Bytes) : Option Flp :=
  match parseFlp b with
  | some x => if flpValidFor d.mode d.now x then some x else none
  | none => none

/-- The FLP a device would send for boundary `f` from the values in its dictionary (R226, R227). -/
def Dev.flpOf (d : Dev) (kind mode : Nat) (f fNew : Time) (frame facet : Nat) : Flp :=
  { kind := kind, facet := facet, mode := mode, fraction := d.obj K.APERTURE_FRACTION, f := f % 2 ^ 48,
    frame := frame % 2 ^ 32, paramGen := d.obj K.PARAM_GENERATION, claim := d.claim,
    fader := d.obj K.FADER_STOPS, ceiling := d.obj K.WALL_CEILING, fNew := fNew % 2 ^ 48,
    off0 := d.obj (K.APERTURE_OFFSET 0), off1 := d.obj (K.APERTURE_OFFSET 1), off2 := d.obj (K.APERTURE_OFFSET 2),
    off3 := d.obj (K.APERTURE_OFFSET 3) }

end Sys2Proof.Machine
end

