-- ==== Sys2Proof/Machine/HoopOps.lean ====
section
/-!
DEFINITION. Sys2Proof/Machine/HoopOps.lean: claim numbers, the roles of a sender, take-over, and the paths of a tile
(14_hoops.md).
-/
namespace Sys2Proof.Machine

/-- Generation of a claim (R426). -/
def claimGen (c : Nat) : Nat := c / 256

/-- Rank of a claim (R426). -/
def claimRank (c : Nat) : Nat := c % 256

namespace Dev

def role (d : Dev) : Nat := d.obj K.PAIR_ROLE

def setPair (f : Pair → Pair) (d : Dev) : Dev := { d with pair := f d.pair }

/-- The sender's generation takes a value, kept in flash (R29, R434). -/
def setGeneration (g : Nat) (d : Dev) : Dev :=
  let d := d.keepObj K.PAIR_GENERATION g
  d.setObj K.PAIR_GEN_SEEN (max (d.obj K.PAIR_GEN_SEEN) g)

/-- Active or Standby by the two claims (R435); a sender that does not transmit yet stays Rejoining (R437, R438; log entry
164). -/
def compareRole (d : Dev) : Dev :=
  let p := d.obj K.PAIR_PARTNER_CLAIM
  if d.role = 5 then d else if p < d.claim then d.setObj K.PAIR_ROLE 2 else if d.claim < p then d.setObj K.PAIR_ROLE 3 else d

/-- Entry into Rejoining, and its generation rule: once, and as soon as the partner's generation is at least 1 (R438). -/
def rejoin (c : Nat) (d : Dev) : Dev :=
  if d.pair.settled || claimGen c == 0 then d
  else
    let d := if c < d.claim then d.setGeneration (claimGen c - 1) else d
    d.setPair (fun p => { p with settled := true })

/-- A sender reads a valid FLP of its partner (R427, R428, R435, R437, R438). -/
def readPartnerFlp (x : Flp) (d : Dev) : Dev :=
  let c := x.claim
  let d := (d.setObj K.PAIR_PARTNER_CLAIM c).setObj K.PAIR_GEN_SEEN (max (d.obj K.PAIR_GEN_SEEN) (claimGen c))
  let clash := claimRank c == d.bootObj K.PAIR_RANK && !d.pair.clashLogged
  let d := d.setPair (fun p => { p with quietSince := d.now, clashLogged := p.clashLogged || clash })
  let d := if clash then d.fault 14 K.PAIR_RANK 0 else d
  if d.role = 1 ∨ d.role = 5 then
    let d := (d.setObj K.PAIR_ROLE 5).rejoin c
    if d.pair.settled then d.setPair (fun p => { p with adopt := some x }) else d
  else d.compareRole

/-- PARTNER_FLP_RECEIVED (R414, R428): the packet is discarded after its claim is read. -/
def partnerFlpRx (h : PortId) (p : Packet) (d : Dev) : Dev :=
  if !d.portUp h then d
  else
    let d := d.countRx h p
    if !pktPasses p then d
    else
      match d.validFlp p.body with
      | some x => d.readPartnerFlp x
      | none => d

/-- A take-over with its cause (R433, R434). -/
def takeOver (cause : Nat) (d : Dev) : Dev :=
  let d := d.setGeneration (min (d.obj K.PAIR_GEN_SEEN + 1) 0xFFFFFF)
  let d := d.bump K.PAIR_FAILOVERS
  let d := (d.setObj K.PAIR_LAST_CAUSE cause).setObj K.PAIR_LAST_FAILOVER d.wall
  (d.fault 1 K.PAIR_FAILOVERS 0).compareRole

/-- Is the sender's claim below its partner's (R433)? -/
def claimBelow (d : Dev) : Bool := decide (d.claim < d.obj K.PAIR_PARTNER_CLAIM)

/-- Cause 1: no Sync of the partner for 8 intervals on the closed ports, of which there is one (R433). -/
def partnerSilent (d : Dev) : Dev :=
  let closed := (List.range 4).filter (fun h => d.obj (K.ENUM_CLOSED h) == 1)
  if d.isSender && d.role != 1 && d.obj K.PAIR_AUTO_TAKEOVER == 1 && d.claimBelow && !closed.isEmpty &&
      closed.all (fun h => d.pathSilent h) then d.takeOver 1
  else d

/-- Cause 2: the partner has announced clockClass 248 for 1 s, and this sender is Locked or in Holdover (R433). -/
def partnerFreerun (d : Dev) : Dev :=
  let long := match d.time.partnerFreerunSince with
    | some t => decide (t + 10 ^ 9 ≤ d.now)
    | none => false
  if d.isSender && d.role != 1 && d.obj K.PAIR_AUTO_TAKEOVER == 1 && d.claimBelow && long &&
      (d.tstate == tsLocked || d.tstate == tsHoldover) then d.takeOver 2
  else d

/-- Cause 3: the command, in every role other than Starting; without effect where the claim is not below (R433). -/
def takeoverCommand (d : Dev) : Dev := if d.role ≠ 1 ∧ d.claimBelow then d.takeOver 3 else d

/-- May a sender send pictures, Sync, Announce and FLP: it is in no safe state (R436)? -/
def mayServe (d : Dev) : Bool := d.obj K.INTEG_STATE == 1

/-- PAIR_JOIN_WAIT_EXPIRY: no valid partner claim has been read for PAIR_JOIN_WAIT (R437, R439); in a safe state nothing is
sent (R436). -/
def joinWaitEnd (d : Dev) : Dev :=
  if d.isSender ∧ (d.role = 1 ∨ d.role = 3) ∧ d.pair.quietSince + d.obj K.PAIR_JOIN_WAIT * 1000000 ≤ d.now then
    let d := if d.obj K.PAIR_GENERATION = 0 then d.setGeneration 1 else d
    ((d.setObj K.PAIR_ROLE 4).setObj K.PAIR_PARTNER_CLAIM 0).setPair (fun p => { p with sending := d.mayServe })
  else d

/-- A sender starts or resynchronises: references empty, every block unestablished, e_base at e_min, and no RECON_CRC yet
emitted (R192, R210). -/
def resetEncoders (d : Dev) : Dev :=
  { d with enc := { composing := none, selectAt := none, crcs := [], regions := [], history := d.enc.history, passed := [],
                    checked := false, modeAt := d.enc.modeAt } }

/-- A sender becomes Starting, to resynchronise: at a start, and whenever it leaves a safe state or Standby (R210, R437, R541,
R558). -/
def pairStart (d : Dev) : Dev :=
  if d.isSender then
    ((((d.setObj K.PAIR_ROLE 1).setObj K.PAIR_PARTNER_CLAIM 0).setObj K.PAIR_GEN_SEEN
      (max (d.obj K.PAIR_GEN_SEEN) (d.obj K.PAIR_GENERATION))).setPair
      (fun p => { p with quietSince := d.now, adopt := none, adopted := false, settled := false, sending := false })).resetEncoders
  else d

/-- A wall parameter applied at this boundary changes the generation of the wall parameters (R227). -/
def bumpParamGen (d : Dev) : Dev := d.bumpWrap K.PARAM_GENERATION

/-- The wall parameters of an FLP become the values in force (R216, R238, R438), a FADER and a CEILING out of range clamped
(R256). -/
def takeParams (x : Flp) (d : Dev) : Dev :=
  let d := (d.setObj K.APERTURE_FRACTION x.fraction).setObj (K.APERTURE_OFFSET 0) x.off0
  let d := ((d.setObj (K.APERTURE_OFFSET 1) x.off1).setObj (K.APERTURE_OFFSET 2) x.off2).setObj
    (K.APERTURE_OFFSET 3) x.off3
  ((d.setObj K.FADER_STOPS (min x.fader 768)).setObj K.WALL_CEILING (min x.ceiling 0x8000)).setObj K.PARAM_GENERATION x.paramGen

/-- Has F come of the FLP whose wall parameters a Rejoining sender adopts (R438)? -/
def adoptDue (d : Dev) : Bool := d.pair.adopt.any (fun x => decide (wallToAbs d.now x.f ≤ d.now))

/-- At a boundary a Rejoining sender adopts, and starts sending once it is Locked and has adopted (R438), in no safe state
(R436). -/
def pairBoundary (d : Dev) : Dev :=
  let d :=
    match d.pair.adopt with
    | some x =>
      if wallToAbs d.now x.f ≤ d.now then
        let d := d.takeParams x
        let d := (d.setObj K.MODE_NUMBER x.mode).setPair (fun p => { p with adopt := none, adopted := true })
        [K.MODE_NUMBER, K.APERTURE_FRACTION, K.APERTURE_OFFSET 0, K.APERTURE_OFFSET 1, K.APERTURE_OFFSET 2,
          K.APERTURE_OFFSET 3, K.FADER_STOPS, K.WALL_CEILING].foldl (fun d k => d.markDirty k) d
      else d
    | none => d
  if d.isSender && d.mayServe && d.role == 5 && d.pair.adopted && d.tstate == tsLocked then
    ((d.setObj K.PAIR_ROLE 3).compareRole).setPair (fun p => { p with sending := true })
  else d

/-! ### The paths of a tile (R428 to R432) -/

def path (d : Dev) (p : Nat) : PathSt := (d.paths[p]?).getD { flps := [], bad := 0, clean := 4 }

def setPath (p : Nat) (f : PathSt → PathSt) (d : Dev) : Dev := { d with paths := upd p f d.paths }

/-- Is the FLP for the coming boundary or the one just passed (R429)? -/
def flpCurrent (d : Dev) (x : Flp) : Bool :=
  let m := if d.mode = 0 then x.mode else d.mode
  if !modeValid m then false
  else
    let q := facetNo m d.now
    x.f == facetAt m q % 2 ^ 48 || x.f == facetAt m (q + 1) % 2 ^ 48

/-- Claim of a path at this instant (R429). -/
def pathClaim (d : Dev) (p : Nat) : Nat :=
  match (d.path p).flps.find? d.flpCurrent with
  | some x => x.claim
  | none => 0

/-- The active path follows the claims (R429): with none on either path `PATH_ACTIVE` is 255, and West is active, as for any
equal claims. -/
def reportPaths (d : Dev) : Dev :=
  let w := d.pathClaim 0
  let e := d.pathClaim 1
  let a := if w = 0 ∧ e = 0 then 255 else if e ≤ w then 0 else 1
  let d := (d.setObj K.PATH_CLAIM_WEST w).setObj K.PATH_CLAIM_EAST e
  let old := d.obj K.PATH_ACTIVE
  let d := d.setObj K.PATH_ACTIVE a
  if (old == 1) != (a == 1) then d.bump K.PATH_SWITCHES else d

/-- A valid FLP is held on its path (R428, R429). -/
def holdFlp (p : Nat) (x : Flp) (d : Dev) : Dev :=
  let d := d.setPath p (fun s => { s with flps := (x :: s.flps.filter (fun y => y.f != x.f)).take 4 })
  (d.setObj K.PATH_GEN_SEEN (max (d.obj K.PATH_GEN_SEEN) (claimGen x.claim))).reportPaths

/-- Did the path hold a valid FLP for the boundary `f`? -/
def pathHolds (d : Dev) (p : Nat) (f : Time) : Bool := (d.path p).flps.any (fun x => x.f == f % 2 ^ 48)

/-- The FLP a path holds for a boundary. -/
def flpOn (d : Dev) (p : Nat) (f : Time) : Option Flp := (d.path p).flps.find? (fun x => x.f == f % 2 ^ 48)

/-- The FLP the tile uses for a boundary: that of the path with the higher claim (R229). -/
def flpFor (d : Dev) (f : Time) : Option Flp :=
  match d.flpOn 0 f, d.flpOn 1 f with
  | some a, some b => if a.claim < b.claim then some b else some a
  | some a, none => some a
  | none, b => b

/-- Do both paths hold FLPs for the boundary that differ beside the claim? -/
def flpsDiffer (d : Dev) (f : Time) : Bool :=
  match d.flpOn 0 f, d.flpOn 1 f with
  | some a, some b => { a with claim := b.claim } != b
  | _, _ => false

/-- Did the path hold a valid FLP for the boundary `f` at its latch point (R432)? -/
def heldAtL (d : Dev) (p : Nat) (f : Time) : Bool :=
  match d.tile.atL with
  | some x => x.boundary == f && x.held.getD p false
  | none => false

/-- The FLP used for boundary `f`: what the tile held at its latch point (R229, R231). -/
def flpAtL (d : Dev) (f : Time) : Option Flp :=
  match d.tile.atL with
  | some x => if x.boundary = f then x.flp else none
  | none => none

/-- What the tile holds at the latch point of boundary `f` (R229, R231, R432). -/
def holdAtL (f : Time) (d : Dev) : Dev :=
  let x : LatchFlp := { boundary := f, flp := d.flpFor f, held := [d.pathHolds 0 f, d.pathHolds 1 f] }
  { d with tile := { d.tile with atL := some x } }

/-- The state of a path is evaluated at boundary `f` (R432), and a fault of the picture path is detected: class 1 of R518. -/
def evalPath (p : Nat) (f : Time) (d : Dev) : Dev :=
  let s := d.path p
  let old := d.obj (K.PATH_STATE p)
  let new :=
    if !d.portUp p || !d.heldAtL p f then 1
    else if s.bad ≠ 0 then 3
    else if d.obj (K.DEC_AWAITING p) ≠ 0 then 4
    else 2
  let d := d.setObj (K.PATH_STATE p) new
  let d :=
    if new = 3 then
      let d := d.bump (K.PATH_FAULT_FACETS p)
      let d := if old ≠ 3 then d.setObj (K.PATH_LAST_FAULT p) d.wall else d
      if old ≠ 3 ∧ 4 ≤ s.clean then d.logFault 1 2 (K.PATH_STATE p) p (s.bad + 65536 * b2n (d.obj K.PATH_ACTIVE == p))
      else d
    else d
  d.setPath p (fun s => { s with bad := 0, clean := if new = 3 then 0 else s.clean + 1 })

end Dev

/-! ### Placement (R441 to R443) -/

/-- Entries of a placement table: UNIQUE_ID, x, y, reserved. -/
def placeEntries : Nat → Bytes → List (Nat × Nat × Nat × Nat)
  | 0, _ => []
  | n + 1, b => (fieldAt 0 8 b, fieldAt 8 2 b, fieldAt 10 2 b, fieldAt 12 4 b) :: placeEntries n (b.drop 16)

/-- No UNIQUE_ID twice. -/
def noTwice : List Nat → Bool
  | [] => true
  | a :: as => !as.contains a && noTwice as

/-- R442: no UNIQUE_ID twice and every reserved byte zero. -/
def placeOk (b : Bytes) : Bool :=
  let es := placeEntries (b.length / 16) b
  noTwice (es.map (·.1)) && es.all (fun e => e.2.2.2 == 0)

namespace Dev

/-- Canvas position of a tile in the placement table in force. -/
def placeOf (d : Dev) (uid : Nat) : Option (Nat × Nat) :=
  let b := d.blob K.PLACE_TABLE
  ((placeEntries (b.length / 16) b).find? (fun e => e.1 == uid)).map (fun e => (e.2.1, e.2.2.1))

/-- Tiles enumerated on every hoop, each once. -/
def allTiles (d : Dev) : List EnumRec :=
  (List.range 4).foldl (fun acc h =>
    (d.hoopOf h).tiles.foldl (fun acc r => if acc.any (fun x => x.uid == r.uid) then acc else acc ++ [r]) acc) []

/-- Unplaced tiles are counted, and logged at an enumeration in which they appear (R443). -/
def countUnplaced (h : PortId) (d : Dev) : Dev :=
  let un := d.allTiles.filter (fun r => (d.placeOf r.uid).isNone)
  let d := d.setObj K.PLACE_UNPLACED un.length
  (un.filter (fun r => (d.hoopOf h).tiles.any (fun x => x.uid == r.uid))).foldl
    (fun d r => d.fault 14 K.PLACE_UNPLACED r.uid) d

end Dev

end Sys2Proof.Machine
end

