-- ==== Sys2Proof/Machine/Status.lean ====
section
/-!
DEFINITION. Sys2Proof/Machine/Status.lean: the status codes of R51.
-/
namespace Sys2Proof.Machine.Status

abbrev OK : Nat := 0x00
abbrev OK_PENDING : Nat := 0x01
abbrev OK_BOOT : Nat := 0x02
abbrev VERSION : Nat := 0x10
abbrev OPCODE : Nat := 0x11
abbrev LENGTH : Nat := 0x12
abbrev SESSION : Nat := 0x13
abbrev SEQUENCE : Nat := 0x14
abbrev AUTH : Nat := 0x15
abbrev ROLE : Nat := 0x16
abbrev NO_OBJECT : Nat := 0x20
abbrev ACCESS : Nat := 0x21
abbrev TYPE : Nat := 0x22
abbrev RANGE : Nat := 0x23
abbrev NOT_IDLE : Nat := 0x24
abbrev LOCKED : Nat := 0x25
abbrev PAIR_EXPIRED : Nat := 0x26
abbrev NO_TXN : Nat := 0x30
abbrev TXN_OPEN : Nat := 0x31
abbrev LIMIT : Nat := 0x32
abbrev TIMEOUT : Nat := 0x33
abbrev RULE : Nat := 0x34
abbrev TOO_LATE : Nat := 0x35
abbrev TOO_FAR : Nat := 0x36
abbrev ARMED : Nat := 0x37
abbrev BUSY : Nat := 0x40
abbrev DEVICE : Nat := 0x41

end Sys2Proof.Machine.Status
end

