-- ==== Sys2Proof/Machine/IngestOps.lean ====
section
/-!
DEFINITION. Sys2Proof/Machine/IngestOps.lean: ingest ports, the buffer rings with the merging of ST 2022-7 legs, frame
selection, and the still buffers (04_ingest.md).
-/
namespace Sys2Proof.Machine

/-! ### Formats and sizes -/

/-- Bits per pixel of a format (R115); 0 for a reserved one. -/
def formatBits : Nat → Nat
  | 1 => 20 | 2 => 24 | 3 => 30 | 4 => 36 | 5 => 48 | 6 => 30 | 7 => 36 | 8 => 48
  | _ => 0

/-- Is the sampling 4:2:2, with an even width (R115)? -/
def format422 (f : Nat) : Bool := f == 1 || f == 2

/-- Is the sampling RGB? -/
def formatRgb (f : Nat) : Bool := f == 6 || f == 7 || f == 8

/-- Bits per sample. -/
def formatDepth : Nat → Nat
  | 1 | 3 | 6 => 10
  | 2 | 4 | 7 => 12
  | _ => 16

/-- Bytes of a stored line: padded to 64 (R121). -/
def lineBytes (fmt w : Nat) : Nat := ceilDiv (ceilDiv (w * formatBits fmt) 8) 64 * 64

/-- Bytes of a stored frame (R121). -/
def frameBytes (fmt w h : Nat) : Nat := lineBytes fmt w * h

/-- Bytes of a ring: rounded up to 2 MiB (R121). -/
def ringBytes (fmt w h depth : Nat) : Nat := ceilDiv (depth * frameBytes fmt w h) 2097152 * 2097152

/-- R116 and the width rule of R115. -/
def streamFits (fmt w h rate : Nat) : Bool :=
  let (n, den) := baseRate rate
  decide (64 ≤ w) && decide (w ≤ 8192) && decide (64 ≤ h) && decide (h ≤ 4320) &&
    decide (w * h * n ≤ 2123366400 * den) &&
    (decide (n ≤ 60 * den) || (decide (w ≤ 4096) && decide (h ≤ 2160))) &&
    (!format422 fmt || w % 2 == 0)

/-- T_f of R129: the frame period rounded up to whole ns. -/
def framePeriod (rate : Nat) : Nat :=
  let (n, den) := baseRate rate
  ceilDiv (den * 10 ^ 9) n

/-- One byte of a stored picture; what no packet wrote is a free value. -/
def rowByte (rows : Rows) (line off : Nat) : Nat :=
  match rows.find? (fun s => s.1 == line && decide (s.2.1 ≤ off) && decide (off < s.2.1 + s.2.2.length)) with
  | some s => (s.2.2.getD (off - s.2.1) 0).toNat
  | none => Config.unwritten line off % 256

/-- The number spelt by `n` bits of a line from bit `pos` on, first bit most significant. -/
def rowBits (rows : Rows) (line pos : Nat) : Nat → Nat
  | 0 => 0
  | n + 1 =>
    rowBits rows line pos n * 2 + b2n (bit (7 - (pos + n) % 8) (rowByte rows line ((pos + n) / 8)))

namespace Dev

def stream (d : Dev) (n : Nat) : StreamSt := (d.streams[n]?).getD .fresh

def setStream (n : Nat) (f : StreamSt → StreamSt) (d : Dev) : Dev := { d with streams := upd n f d.streams }

def stillSt (d : Dev) (n : Nat) : StillSt :=
  (d.stills[n]?).getD { rows := [], stored := false, capture := none, releasing := false }

def setStill (n : Nat) (f : StillSt → StillSt) (d : Dev) : Dev := { d with stills := upd n f d.stills }

/-- A slot's ring empty and its merging at the beginning, as in a slot that leaves Dark (R118). -/
def resetStream (n : Nat) (d : Dev) : Dev :=
  (d.setStream n (fun _ => .fresh)).setObj (K.STR_LEG_STATE n) 0

/-! ### Legs and ports -/

/-- Does the lane mode have the port (R112)? -/
def portExists (d : Dev) (p : Nat) : Bool :=
  if d.obj K.INGEST_LANE_MODE = 0 then decide (p < 8) else decide (p < 2)

/-- A leg of a slot: group, source, UDP port, ingest port. -/
def leg (d : Dev) (n l : Nat) : Nat × Nat × Nat × Nat :=
  if l = 0 then
    (d.obj (K.STR_A_GROUP n), d.obj (K.STR_A_SOURCE n), d.obj (K.STR_A_UDP n), d.obj (K.STR_A_PORT n))
  else (d.obj (K.STR_B_GROUP n), d.obj (K.STR_B_SOURCE n), d.obj (K.STR_B_UDP n), d.obj (K.STR_B_PORT n))

/-- A leg is enabled when its slot is and its group is not 0.0.0.0. -/
def legEnabled (d : Dev) (n l : Nat) : Bool := d.obj (K.STR_ENABLE n) == 1 && (d.leg n l).1 != 0

/-- Does a packet on a port match an enabled leg (R114)? A source of 0.0.0.0 accepts any. -/
def legMatches (d : Dev) (port : Nat) (p : RtpPkt) (n l : Nat) : Bool :=
  let (g, s, u, q) := d.leg n l
  d.legEnabled n l && g == p.dst && (s == 0 || s == p.src) && u == p.udp && q == port

/-- All legs, slot by slot. -/
def allLegs : List (Nat × Nat) := (List.range 16).flatMap (fun n => [(n, 0), (n, 1)])

def findLeg (d : Dev) (port : Nat) (p : RtpPkt) : Option (Nat × Nat) :=
  allLegs.find? (fun nl => d.legMatches port p nl.1 nl.2)

/-- Groups and sources of the enabled legs on a port. -/
def groupsOf (d : Dev) (port : Nat) : List (Nat × Nat) :=
  (allLegs.filter (fun nl => d.legEnabled nl.1 nl.2 && (d.leg nl.1 nl.2).2.2.2 == port)).map
    (fun nl => ((d.leg nl.1 nl.2).1, (d.leg nl.1 nl.2).2.1))

/-- What a port does with a frame that arrives: `f`, where the lane mode has the port, unless the frame carries a VLAN tag
or is longer than 1,522 bytes (R112, R113). -/
def onFrame (a : IngestFrame) (f : Dev → Dev) (d : Dev) : Dev :=
  if !d.portExists a.port then d
  else if a.vlan || decide (1522 < a.length) then d.bump (K.ING_DROPPED a.port)
  else f d

/-- An ARP request: the port answers for its own address (R113). -/
def arpRx (port target sender senderMac : Nat) (d : Dev) : Dev :=
  if target == d.obj (K.ING_IPV4_ADDR port) && target != 0 then d.emit (.arpReply port sender senderMac) else d

/-- An ICMP echo request is answered for the port's own address (R113). -/
def icmpRx (port dst src : Nat) (data : Bytes) (d : Dev) : Dev :=
  if dst == d.obj (K.ING_IPV4_ADDR port) && dst != 0 then d.emit (.icmpReply port src data) else d

/-- Membership reports for the groups of the enabled legs on a port. -/
def igmpTx (port : Nat) (d : Dev) : Dev :=
  if d.portExists port && !(d.groupsOf port).isEmpty then d.emit (.igmpReport port (d.groupsOf port)) else d

/-- The links of ports that the lane mode does not have read as down (R113). -/
def linksFollow (d : Dev) : Dev :=
  (List.range 8).foldl (fun d p => if d.portExists p then d else d.setObj (K.ING_LINK p) 0) d

/-- An ingest link comes up or goes down; in mode 1, ports 2 to 7 read as link down. -/
def ingestLink (port : Nat) (up : Bool) (d : Dev) : Dev :=
  if port < 8 then
    let on := up && d.portExists port
    let (ph, d) := if on then d.drawFree 32 else (d.time.ingestPhase.getD port 0, d)
    ({ d with time := { d.time with ingestPhase := upd port (fun _ => ph) d.time.ingestPhase } }).setObj (K.ING_LINK port)
      (b2n on)
  else d

end Dev

/-! ### Frames -/

/-- Is sequence number or time-stamp `a` later than `b`, modulo 2^32? -/
def serialAfter (a b : Nat) : Bool :=
  let x := (a + 2 ^ 32 - b % 2 ^ 32) % 2 ^ 32
  decide (0 < x) && decide (x < 2 ^ 31)

/-- The 90 kHz count nearest to an instant that is the time-stamp modulo 2^32 (R129). -/
def mediaCount (now stamp : Nat) : Int :=
  let c : Nat := (now * 90000 + 500000000) / 10 ^ 9
  (c : Int) + toSigned 32 ((stamp + 2 ^ 32 - c % 2 ^ 32) % 2 ^ 32)

/-- r of R129. -/
def frameR (now stamp : Nat) : Nat := ((mediaCount now stamp) * 10 ^ 9 / 90000).toNat

namespace Dev

def strFmt (d : Dev) (n : Nat) : Nat := d.obj (K.STR_FORMAT n)

/-- T_f of a slot. -/
def strPeriod (d : Dev) (n : Nat) : Nat := framePeriod (d.obj (K.STR_RATE n))

/-- Has every sequence number from the frame's first packet to its marker packet arrived (R130)?  The first packet is the one
with the first sample of the picture (PRESUMED, log entry 29: ST 2110-20 sends a picture's samples in order). -/
def frameWhole (f : InFrame) : Bool :=
  match f.first, f.marker with
  | some a, some m =>
    let span := (m + 2 ^ 32 - a) % 2 ^ 32
    (f.seqs.filter (fun s => decide ((s + 2 ^ 32 - a) % 2 ^ 32 ≤ span))).length == span + 1
  | _, _ => false

/-- The frame the slot would select at an instant: the greatest r that is old enough (R133). -/
def candidate (d : Dev) (n : Nat) (at' : Time) : Option InFrame :=
  ((d.stream n).frames.filter (fun f => decide (f.r + d.strPeriod n + d.obj (K.STR_MARGIN n) ≤ at'))).foldl
    (fun acc f => match acc with
      | none => some f
      | some g => if g.r < f.r then some f else some g) none

/-- Has every wale of the facet been passed or emitted late? -/
def facetPassed (d : Dev) (q : Nat) : Bool :=
  d.enc.regions.all (fun g => !d.portUp g.port || (g.facet == some q && g.next == g.h16))

/-- Is a facet in flight: its composition has begun and its last wale has not been passed to the encoder? -/
def inFlight (d : Dev) : Bool :=
  match d.enc.composing with
  | none => false
  | some q => !d.facetPassed q

/-- At a selection instant: is the frame the one the slot selects for the facet that begins, or, where it selects none, one
that a layer repeats?  The facet before it has been composed (DEDUCED, log entry 184). -/
def frameChosen (d : Dev) (n : Nat) (at' : Time) (f : InFrame) : Bool :=
  match (d.candidate n at').filter (fun g => g.completeAt.isSome) with
  | some g => g.r == f.r
  | none => (List.range 8).any (fun l =>
      match d.layers[l]? with
      | none => false
      | some x => (x.source == 0x10 + n && x.frame == some f.r) || (d.obj (K.LAY_MATTE l) == 0x10 + n && x.matte == some f.r))

/-- Is the frame selected for the facet that is being composed, by its slot or by a layer that repeats it (R159)? -/
def frameComposed (d : Dev) (n : Nat) (f : InFrame) : Bool :=
  d.inFlight && ((d.stream n).selected == some f.r ||
    (List.range 8).any (fun l =>
      match d.layers[l]? with
      | none => false
      | some x =>
        (x.source == 0x10 + n && x.shows == .frame f.r) ||
          (d.obj (K.LAY_MATTE l) == 0x10 + n && x.matte == some f.r)))

/-- Is the frame selected for a facet whose composition has not ended, or held for a still capture (R122)? -/
def frameInUse (d : Dev) (n : Nat) (f : InFrame) : Bool :=
  (match d.enc.selectAt with
    | some (a, _) => d.frameChosen n a f
    | none => d.frameComposed n f) ||
    d.stills.any (fun x =>
      match x.capture with
      | none => false
      | some (s, w) => s == n && (match d.candidate n w with
        | none => false
        | some g => g.r == f.r))

/-- Record d of a frame, with Λ where it became complete, and report the extremes of the last 1,000 (R129). -/
def recordFrame (n : Nat) (delay : Int) (late : Option Int) (d : Dev) : Dev :=
  let h := ((delay, late) :: (d.stream n).history).take 1000
  let d := (d.setStream n (fun s => { s with history := h })).setObjI 32 (K.STR_ARRIVAL_MIN n)
    (h.foldl (fun a x => if x.1 < a then x.1 else a) delay)
  match h.filterMap (·.2) with
  | [] => d
  | x :: l => d.setObjI 32 (K.STR_LATENESS_MAX n) (l.foldl (fun a y => if a < y then y else a) x)

/-- A capture copies the frame selection would choose at W, once that frame is complete (R125). -/
def tryCapture (i : Nat) (d : Dev) : Dev :=
  match (d.stillSt i).capture with
  | none => d
  | some (n, w) =>
    if d.now < w then d
    else match d.candidate n w with
      | none => d
      | some f =>
        match f.completeAt with
        | none => d
        | some _ =>
          (d.setStill i (fun s => { s with rows := f.rows, capture := none })).setObj (K.STILL_STATE i) 2

/-- Every capture of a slot is tried. -/
def tryCaptures (d : Dev) : Dev := (List.range 16).foldl (fun d i => d.tryCapture i) d

/-- Mark the frame with a time-stamp complete if it is (R130). -/
def completeIf (n stamp : Nat) (d : Dev) : Dev :=
  match (d.stream n).frames.find? (fun f => f.stamp == stamp) with
  | none => d
  | some f =>
    if f.completeAt.isNone && !f.closed && frameWhole f then
      let d := d.setStream n (fun s =>
        { s with frames := s.frames.map (fun g => if g.stamp == stamp then { g with completeAt := some d.now } else g) })
      let late : Int := (d.now : Int) - ((f.r + d.strPeriod n : Nat) : Int)
      ((d.bumpWrap (K.STR_FRAMES_COMPLETE n)).recordFrame n f.delay (some late)).tryCaptures
    else d

/-- The newest complete frame's r. -/
def newestComplete (d : Dev) (n : Nat) : Option Nat :=
  ((d.stream n).frames.filter (fun f => f.completeAt.isSome)).foldl
    (fun acc f => match acc with
      | none => some f.r
      | some r => some (max r f.r)) none

/-- Packets of a time-stamp are placed nowhere from now on. -/
def dropFrame (n stamp : Nat) (d : Dev) : Dev :=
  d.setStream n (fun s => { s with dropped := (stamp, d.now) :: s.dropped.filter (fun x => decide (d.now < x.2 + 2000000000)) })

/-- An open frame ends incomplete (R130). -/
def endIncomplete (n : Nat) (f : InFrame) (d : Dev) : Dev :=
  (d.bump (K.STR_FRAMES_INCOMPLETE n)).recordFrame n f.delay none

/-- Room for a new frame: a free place, or that of the oldest frame that nothing uses (R122).  A frame overwritten before it
was complete or closed counts as incomplete.  none: no place. -/
def ringRoom (n : Nat) (d : Dev) : Option Dev :=
  let fs := (d.stream n).frames
  if fs.length < d.obj (K.STR_RING_DEPTH n) then some d
  else match fs.find? (fun f => !d.frameInUse n f) with
    | none => none
    | some f =>
      let d := if f.completeAt.isNone && !f.closed then d.endIncomplete n f else d
      some ((d.setStream n (fun s => { s with frames := s.frames.filter (fun g => g.stamp != f.stamp) })).dropFrame n f.stamp)

/-- The ring is emptied: a frame that was still open counts as incomplete (R131). -/
def emptyRing (n : Nat) (d : Dev) : Dev :=
  let d := (d.stream n).frames.foldl (fun d f =>
    (if f.completeAt.isNone && !f.closed then d.endIncomplete n f else d).dropFrame n f.stamp) d
  d.setStream n (fun s => { s with frames := [], selected := none, backDiscards := 0 })

/-- The first packet of a time-stamp arrives: it starts the wait for earlier frames (R130). -/
def firstPacket (n stamp : Nat) (d : Dev) : Dev :=
  d.setStream n (fun s =>
    { s with
      firsts := (stamp, d.now) :: s.firsts.filter (fun x => decide (d.now < x.2 + 2000000000))
      frames := s.frames.map (fun f =>
        if f.endAt.isNone && f.completeAt.isNone && serialAfter stamp f.stamp then { f with endAt := some d.now } else f) })

/-- Arrival of the earliest first packet of a later time-stamp (R130). -/
def laterFirst (d : Dev) (n stamp : Nat) : Option Time :=
  ((d.stream n).firsts.filter (fun x => serialAfter x.1 stamp)).foldl (fun acc x => match acc with
    | none => some x.2
    | some t => some (min t x.2)) none

/-- A frame whose first packet arrives (R122, R129, R131), or that is discarded.  One whose wait is over already is closed
(R130).  DESIGN CHOICE, log entry 187: the d of a frame discarded here is not among the last 1,000. -/
def openFrame (n stamp : Nat) (d : Dev) : Dev :=
  let r := frameR d.now stamp
  let delay : Int := (d.now : Int) - ((mediaCount d.now stamp) * 10 ^ 9 / 90000)
  let d := d.firstPacket n stamp
  if delay < -1000000 ∨ 1000000000 < delay then
    ((d.bump (K.STR_FRAMES_MALFORMED n)).dropFrame n stamp).setStream n (fun s => { s with backDiscards := 0 })
  else
    let back := match d.newestComplete n with
      | none => false
      | some r0 => decide (r ≤ r0)
    if back then
      let d := (d.bump (K.STR_FRAMES_MALFORMED n)).dropFrame n stamp
      let k := (d.stream n).backDiscards + 1
      if 8 ≤ k then d.emptyRing n
      else d.setStream n (fun s => { s with backDiscards := k })
    else
      let d := d.setStream n (fun s => { s with backDiscards := 0 })
      match d.ringRoom n with
      | none => (d.bump (K.STR_RING_FULL n)).dropFrame n stamp
      | some d =>
        let e := d.laterFirst n stamp
        let late := (e.map (fun t => decide (t + 20000000 ≤ d.now))).getD false
        let f : InFrame := { r := r, delay := delay, stamp := stamp, first := none, seqs := [], marker := none,
                             endAt := e, completeAt := none, closed := late, rows := [] }
        let d := d.setStream n (fun s => { s with frames := s.frames ++ [f] })
        if late then d.endIncomplete n f else d

/-- R127: the field bit is set, or a segment lies outside the frame. -/
def segmentBad (d : Dev) (n : Nat) (s : RowSegment) : Bool :=
  let bpp := formatBits (d.strFmt n)
  s.field || decide (d.obj (K.STR_HEIGHT n) ≤ s.line) ||
    decide (d.obj (K.STR_WIDTH n) * bpp < s.offset * bpp + 8 * s.octets.length)

/-- A packet's samples and sequence number go into its frame. -/
def placePacket (n seq : Nat) (p : RtpPkt) (d : Dev) : Dev :=
  let bpp := formatBits (d.strFmt n)
  let rows : Rows := p.segments.reverse.map (fun s => (s.line, s.offset * bpp / 8, s.octets))
  let begins := p.segments.any (fun s => s.line == 0 && s.offset == 0)
  let d := d.setStream n (fun st =>
    { st with
      frames := st.frames.map (fun f =>
        if f.stamp == p.timestamp && f.completeAt.isNone && !f.closed then
          { f with
            first := if begins then some seq else f.first
            seqs := seq :: f.seqs
            rows := rows ++ f.rows
            marker := if p.marker then some seq else f.marker
            endAt := if p.marker && f.endAt.isNone then some d.now else f.endAt }
        else f) })
  d.completeIf n p.timestamp

/-- Records of first copies older than 1 s are folded into the highest number per leg.  Such a number is forgotten once the
numbers of the last second are 2^30 past it, before their order modulo 2^32 could turn round (DEDUCED, log entry 185). -/
def ageSeen (n : Nat) (d : Dev) : Dev :=
  let st := d.stream n
  let old := st.seen.filter (fun x => decide (x.2.2 + 1000000000 < d.now))
  let aged := old.foldl (fun a x => upd x.2.1 (fun o => match o with
    | none => some x.1
    | some b => if serialAfter x.1 b then some x.1 else some b) a) st.aged
  let aged := aged.map (fun o => o.filter (fun b => !st.seen.any (fun x =>
    serialAfter x.1 b && decide (2 ^ 30 ≤ (x.1 + 2 ^ 32 - b) % 2 ^ 32))))
  d.setStream n (fun s => { s with seen := s.seen.filter (fun x => decide (d.now ≤ x.2.2 + 1000000000)), aged := aged })

/-- R128: a higher number arrived first on the other leg more than 20 ms ago. -/
def skewed (d : Dev) (n l seq : Nat) : Bool :=
  let st := d.stream n
  d.legEnabled n 0 && d.legEnabled n 1 &&
    (st.seen.any (fun x => x.2.1 != l && serialAfter x.1 seq && decide (x.2.2 + 20000000 < d.now)) ||
      (match (st.aged.getD (1 - l) none) with
        | none => false
        | some b => serialAfter b seq))

/-- A packet on an enabled leg (R126 to R131).  DESIGN CHOICE, log entry 185: the first copy of a number alone is used in a
one-leg slot too, and a number may come again after 1 s.  DESIGN CHOICE, log entry 186: a packet that is then discarded
has been delivered by its leg. -/
def legPacket (n l : Nat) (p : RtpPkt) (d : Dev) : Dev :=
  let d := d.setStream n (fun s => { s with legAt := upd l (fun _ => some d.now) s.legAt })
  let d := (d.setObj (K.STR_LEG_STATE n) (setBit l true (d.obj (K.STR_LEG_STATE n)))).ageSeen n
  if p.version ≠ 2 ∨ 3 < p.segments.length then d
  else
    let seq := (p.extended % 65536) * 65536 + p.sequence % 65536
    if p.segments.any (d.segmentBad n) then d.bump (K.STR_PKT_MALFORMED n)
    else if d.skewed n l seq then d.bump (K.STR_SKEW_EXCEEDED n)
    else if (d.stream n).seen.any (fun x => x.1 == seq) then d
    else
      let d := d.setStream n (fun s => { s with seen := (seq, l, d.now) :: s.seen })
      let known := (d.stream n).frames.any (fun f => f.stamp == p.timestamp)
      let dropped := (d.stream n).dropped.any (fun x => x.1 == p.timestamp && decide (d.now < x.2 + 2000000000))
      let d := if known || dropped then d else d.openFrame n p.timestamp
      d.placePacket n seq p

/-- A UDP packet on an ingest port (R114, R126). -/
def rtpRx (port : Nat) (p : RtpPkt) (d : Dev) : Dev :=
  match d.findLeg port p with
  | none => d.bump (K.ING_DROPPED port)
  | some (n, l) => d.legPacket n l p

/-- Frames of a slot that have waited 20 ms are closed as incomplete (R130). -/
def closeFrames (n : Nat) (d : Dev) : Dev :=
  let due := fun (f : InFrame) => f.completeAt.isNone && !f.closed &&
    (match f.endAt with
      | none => false
      | some e => decide (e + 20000000 ≤ d.now))
  let late := (d.stream n).frames.filter due
  late.foldl (fun d f => d.endIncomplete n f)
    (d.setStream n (fun s => { s with frames := s.frames.map (fun f => if due f then { f with closed := true } else f) }))

/-- A leg silent for 10 ms is reported as lost. -/
def legLost (n l : Nat) (d : Dev) : Dev :=
  match ((d.stream n).legAt.getD l none) with
  | none => d
  | some a =>
    if a + 10000000 ≤ d.now then
      (d.setStream n (fun s => { s with legAt := upd l (fun _ => none) s.legAt })).setObj (K.STR_LEG_STATE n)
        (setBit l false (d.obj (K.STR_LEG_STATE n)))
    else d

/-- Frame selection of an enabled slot at D (R133, R134): true when a frame was selected. -/
def selectFrame (n : Nat) (d : Dev) : Bool × Dev :=
  let none' := d.setStream n (fun s => { s with selected := none })
  match d.candidate n d.now with
  | none => (false, none')
  | some f =>
    match f.completeAt with
    | none => (false, none'.bump (K.STR_LATE_AT_SELECT n))
    | some _ =>
      (true, (d.setStream n (fun s => { s with selected := some f.r })).setObj (K.STR_LAST_SELECTED n) (f.r % 2 ^ 48))

/-! ### Still buffers -/

def stillState (d : Dev) (n : Nat) : Nat := d.obj (K.STILL_STATE n)

def stillBytes (d : Dev) (n : Nat) : Nat :=
  frameBytes (d.obj (K.STILL_FORMAT n)) (d.obj (K.STILL_WIDTH n)) (d.obj (K.STILL_HEIGHT n))

/-- Bytes of the ingest region (R120). -/
def ingestRegion (d : Dev) : Nat := d.obj K.DRAM_USABLE_MIB * 1048576 - 2684354560

/-- Bytes taken by the rings of the enabled slots and the stored still buffers (R120). -/
def ingestUsed (d : Dev) : Nat :=
  (List.range 16).foldl (fun a n => a +
    (if d.obj (K.STR_ENABLE n) = 1 then
      ringBytes (d.strFmt n) (d.obj (K.STR_WIDTH n)) (d.obj (K.STR_HEIGHT n)) (d.obj (K.STR_RING_DEPTH n)) else 0) +
    (if (d.stillSt n).stored then d.stillBytes n else 0)) 0

/-- May content be written into the buffer (R123)? -/
def stillWritable (d : Dev) (n : Nat) : Nat :=
  if d.stillState n = 3 then Status.LOCKED else if d.stillState n = 1 then Status.BUSY else Status.OK

/-- Is there storage for the buffer (R124)? -/
def stillRoom (d : Dev) (n : Nat) : Bool :=
  (d.stillSt n).stored || decide (d.ingestUsed + d.stillBytes n ≤ d.ingestRegion)

/-- The checks of a first chunk (R123, R124). -/
def stillFirst (n total : Nat) (d : Dev) : Nat :=
  if d.stillWritable n ≠ Status.OK then d.stillWritable n
  else if total ≠ d.stillBytes n then Status.LENGTH
  else if d.stillRoom n then Status.OK else Status.BUSY

/-- An upload begins. -/
def stillBegin (n : Nat) (d : Dev) : Dev :=
  (d.setStill n (fun s => { s with stored := true, rows := [] })).setObj (K.STILL_STATE n) 1

/-- An upload or a capture fails.  DESIGN CHOICE, log entry 188: the storage returns with `STILLn_RELEASE`. -/
def stillFail (n : Nat) (d : Dev) : Dev :=
  (d.setStill n (fun s => { s with rows := [], capture := none })).setObj (K.STILL_STATE n) 4

/-- The last chunk has arrived (R124). -/
def stillDone (n : Nat) (data : Bytes) (d : Dev) : Dev :=
  let lb := lineBytes (d.obj (K.STILL_FORMAT n)) (d.obj (K.STILL_WIDTH n))
  let rows : Rows := (List.range (d.obj (K.STILL_HEIGHT n))).map (fun y => (y, 0, slice (y * lb) lb data))
  (d.setStill n (fun s => { s with stored := true, rows := rows })).setObj (K.STILL_STATE n) 2

/-- The slot's format equals the buffer's (R125). -/
def stillSame (d : Dev) (n s : Nat) : Bool :=
  (List.range 7).all (fun i => d.obj (K.STILL_FORMAT n + i) == d.obj (K.STR_FORMAT s + i))

/-- The status of a write of `STILLn_CAPTURE` (R123, R125). -/
def captureCheck (n v : Nat) (d : Dev) : Nat :=
  if d.stillWritable n ≠ Status.OK then d.stillWritable n
  else if v / 2 ^ 52 ≠ 0 ∨ !d.stillSame n (v / 2 ^ 48) then Status.RANGE
  else if d.stillRoom n then Status.OK else Status.BUSY

def captureStart (n v : Nat) (d : Dev) : Dev :=
  ((d.setStill n (fun s =>
    { s with stored := true, rows := [], capture := some (v / 2 ^ 48 % 16, wallToAbs d.now (v % 2 ^ 48)) })).setObj
      (K.STILL_STATE n) 1).tryCapture n

/-- W + 1 s has passed with no complete frame. -/
def captureTimeout (n : Nat) (d : Dev) : Dev :=
  match (d.stillSt n).capture with
  | none => d
  | some (_, w) => if w + 1000000000 ≤ d.now then d.stillFail n else d

/-- The buffer becomes Empty and its storage returns. -/
def stillEmpty (n : Nat) (d : Dev) : Dev :=
  (d.setStill n (fun _ => { rows := [], stored := false, capture := none, releasing := false })).setObj
    (K.STILL_STATE n) 0

/-- A write of `STILLn_RELEASE` (R163): the status, and the effect. -/
def releaseCheck (n : Nat) (d : Dev) : Nat := if d.stillState n = 1 then Status.BUSY else Status.OK

def stillRelease (n : Nat) (d : Dev) : Dev :=
  if d.stillState n = 3 then d.setStill n (fun s => { s with releasing := true })
  else if d.stillState n = 2 ∨ d.stillState n = 4 then d.stillEmpty n
  else d

/-- Does a committed layer name the buffer as source or matte? -/
def stillNamed (d : Dev) (n : Nat) : Bool :=
  (List.range 8).any (fun l => d.obj (K.LAY_SOURCE l) == 0x20 + n || d.obj (K.LAY_MATTE l) == 0x20 + n)

/-- Ready and Held follow the committed layers at a boundary (R162, R163). -/
def stillBoundary (d : Dev) : Dev :=
  (List.range 16).foldl (fun d n =>
    if d.stillState n = 2 ∧ d.stillNamed n then d.setObj (K.STILL_STATE n) 3
    else if d.stillState n = 3 ∧ !d.stillNamed n then
      if (d.stillSt n).releasing then d.stillEmpty n else d.setObj (K.STILL_STATE n) 2
    else d) d

end Dev

end Sys2Proof.Machine
end

