-- ==== Sys2Proof/Machine/LayerOps.lean ====
section
/-!
DEFINITION. Sys2Proof/Machine/LayerOps.lean: layers ready and stale, the conversion, scaling and blending of a canvas
pixel, and the commit estimates (05_layers.md).
-/
namespace Sys2Proof.Machine

/-- A picture component value clamped to 16 bits. -/
def clamp16 (x : Int) : Nat := (clampI 0 65535 x).toNat

/-- A picture in store: its octets and its format. -/
structure Picture where
  rows : Rows
  fmt : Nat
  w : Nat
  h : Nat
  colorimetry : Nat
  tcs : Nat
  range : Nat
  deriving DecidableEq, Repr

/-- An RGB value of 16 bits each with its alpha. -/
structure Rgba where
  r : Nat
  g : Nat
  b : Nat
  a : Nat
  deriving DecidableEq, Repr

/-- R, G and B of a colour object (R140). -/
def colourOf (v a : Nat) : Rgba := { r := bits 48 16 v, g := bits 32 16 v, b := bits 16 16 v, a := a }

/-! ### Conversion (R143) -/

/-- Step 1: a sample widened to 16 bits. -/
def widen (depth v : Nat) : Nat :=
  if depth = 16 then v else v <<< (16 - depth) ||| v >>> (2 * depth - 16)

namespace Picture

def depth (p : Picture) : Nat := formatDepth p.fmt

/-- Component `c` (0 Y, 1 Cb, 2 Cr, or R, G, B) as stored in its pixel or pixel pair, widened.  PRESUMED, log entry 30:
the octet order of ST 2110-20. -/
def stored (p : Picture) (x y c : Nat) : Nat :=
  let n := p.depth
  let pos :=
    if format422 p.fmt then
      (x / 2) * (4 * n) + (if c = 1 then 0 else if c = 2 then 2 * n else if x % 2 = 0 then n else 3 * n)
    else if formatRgb p.fmt then x * (3 * n) + c * n
    else x * (3 * n) + (if c = 1 then 0 else if c = 0 then n else 2 * n)
  widen n (rowBits p.rows y pos n)

/-- Steps 1 and 2. -/
def component (p : Picture) (x y c : Nat) : Nat :=
  if format422 p.fmt && c != 0 && x % 2 == 1 then
    if x + 1 < p.w then (p.stored (x - 1) y c + p.stored (x + 1) y c + 1) / 2 else p.stored (x - 1) y c
  else p.stored x y c

/-- An entry of the conversion tables, read from the bytes behind `COMP_CONV_TABLES`. -/
def convEntry (kind : Nat) (which : List Nat) : Nat :=
  let at' := Config.convPlace kind which
  fieldAt at'.1 at'.2 (Config.tabBlob K.COMP_CONV_TABLES)

/-- Step 3: an s3.13 coefficient for output `o` and input `i`, and a 16-bit offset, of a colorimetry, range and sampling. -/
def convMatrix (col range : Nat) (rgb : Bool) (o i : Nat) : Int :=
  toSigned 17 (convEntry 0 [col, range, b2n rgb, o, i] % 2 ^ 17)
def convOffset (col range : Nat) (rgb : Bool) (i : Nat) : Int := (convEntry 1 [col, range, b2n rgb, i] % 2 ^ 16 : Nat)

/-- Step 4: entry `i` of the u24 decode table of a transfer. -/
def convDecode (tcs i : Nat) : Int := (convEntry 2 [tcs, i] % 2 ^ 24 : Nat)

/-- Step 5: an s2.13 coefficient from source to canvas primaries. -/
def convPrimaries (src canvas o i : Nat) : Int := toSigned 16 (convEntry 3 [src, canvas, o, i] % 2 ^ 16)

/-- Step 6: entry `i` of the u16 encode table of a canvas transfer. -/
def convEncode (tcs i : Nat) : Int := (convEntry 4 [tcs, i] % 2 ^ 16 : Nat)

/-- Step 3: the matrix, skipped by RGB in full range. -/
def matrixed (p : Picture) (x y o : Nat) : Nat :=
  let rgb := formatRgb p.fmt
  if rgb && p.range == 2 then p.component x y o
  else
    let term := fun i => convMatrix p.colorimetry p.range rgb o i *
      ((p.component x y i : Int) - convOffset p.colorimetry p.range rgb i)
    clamp16 ((term 0 + term 1 + term 2 + 4096) / 8192)

/-- Step 4: the transfer decoded to u24. -/
def decoded (p : Picture) (x y i : Nat) : Int :=
  let v := p.matrixed x y i
  let t0 := convDecode p.tcs (v / 16)
  let t1 := convDecode p.tcs (v / 16 + 1)
  t0 + ((t1 - t0) * ((v % 16 : Nat) : Int) + 8) / 16

end Picture

/-- Whole square root, by bits from the highest. -/
def sqrtFrom (v : Nat) : Nat → Nat → Nat
  | 0, q => q
  | n + 1, q => let t := q + 2 ^ n; sqrtFrom v n (if t * t ≤ v then t else q)

/-- ⌊√v⌋ for v below 2^24. -/
def sqrt24 (v : Nat) : Nat := sqrtFrom v 12 0

/-- Step 6: a linear value as a code value of the canvas transfer. -/
def encodeCode (tcs y : Nat) : Nat :=
  let q := sqrt24 y
  let e0 := Picture.convEncode tcs q
  let e1 := Picture.convEncode tcs (q + 1)
  (e0 + Int.tdiv ((e1 - e0) * ((y - q * q : Nat) : Int)) (((2 * q + 1 : Nat)) : Int)).toNat

/-- A source pixel as RGB in the canvas colour space (R143). -/
def Picture.pixel (p : Picture) (colorimetry tcs x y : Nat) : Nat × Nat × Nat :=
  if p.colorimetry = colorimetry ∧ p.tcs = tcs then (p.matrixed x y 0, p.matrixed x y 1, p.matrixed x y 2)
  else
    let u := fun i => p.decoded x y i
    let lin := fun o =>
      (clampI 0 (2 ^ 24 - 1) ((Picture.convPrimaries p.colorimetry colorimetry o 0 * u 0 +
        Picture.convPrimaries p.colorimetry colorimetry o 1 * u 1 +
        Picture.convPrimaries p.colorimetry colorimetry o 2 * u 2 + 4096) / 8192)).toNat
    (encodeCode tcs (lin 0), encodeCode tcs (lin 1), encodeCode tcs (lin 2))

/-- The matte sample: Y, or G of an RGB source, after step 1 (R143). -/
def Picture.matte (p : Picture) (x y : Nat) : Nat := p.stored x y (if formatRgb p.fmt then 1 else 0)

/-! ### Scaling (R145 to R147) -/

/-- Position of output index `i` in units of 2^-16 source pixels. -/
def scalePos (wc wd i : Nat) : Int :=
  let step := (wc * 65536 + wd / 2) / wd
  (((2 * i + 1 : Nat) : Int) * (step : Int) - 65536) / 2

/-- Band of an axis scale: 0 for s ≥ 1 down to 3 for s < 1/4. -/
def scaleBand (wc wd : Nat) : Nat :=
  if wc ≤ wd then 0 else if wc ≤ 2 * wd then 1 else if wc ≤ 4 * wd then 2 else 3

/-- Index of a coefficient in the blob of `COMP_SCALER_COEF`. -/
def coefIndex (filter band taps : Nat) (horizontal : Bool) (phase tap : Nat) : Nat :=
  let before := if horizontal then 0 else match taps with
    | 2 => 8
    | 3 => 10
    | 4 => 13
    | 5 => 17
    | _ => 22
  (((filter - 1) * 4 + band) * 28 + before) * 64 + phase * taps + tap

/-- The sets of coefficients in the order of R147: filter kind, band, tap count, with whether it is the horizontal one. -/
def scalerSets : List (Nat × Nat × Nat × Bool) :=
  ([1, 2, 3] : List Nat).flatMap (fun f => (List.range 4).flatMap (fun b =>
    (f, b, 8, true) :: ([2, 3, 4, 5, 6] : List Nat).map (fun t => (f, b, t, false))))

/-- A coefficient in a blob of coefficients, in s1.14. -/
def coefOf (blob : Bytes) (filter band taps : Nat) (horizontal : Bool) (phase tap : Nat) : Int :=
  toSigned 16 (fieldAt (2 * coefIndex filter band taps horizontal phase tap) 2 blob)

/-- Are the bytes what R147 says of `COMP_SCALER_COEF`: 43,008 of them, and the coefficients of every phase summing to
16,384? -/
def scalerSound (blob : Bytes) : Bool :=
  blob.length == 43008 && scalerSets.all (fun s => (List.range 64).all (fun ph =>
    ((List.range s.2.2.1).foldl (fun a t => a + coefOf blob s.1 s.2.1 s.2.2.1 s.2.2.2 ph t) 0) == 16384))

/-- A blob that R147 allows: full weight on the tap at the position. -/
def scalerUnit : Bytes :=
  scalerSets.flatMap (fun s => (List.range 64).flatMap (fun _ => (List.range s.2.2.1).flatMap (fun t =>
    be 2 (if t = (s.2.2.1 - 1) / 2 then 16384 else 0))))

/-- The bytes of `COMP_SCALER_COEF`: those of the TAB part, which are what R147 says; were they not, bytes that are. -/
def scalerBlob : Bytes :=
  if scalerSound (Config.tabBlob K.COMP_SCALER_COEF) then Config.tabBlob K.COMP_SCALER_COEF else scalerUnit

/-- The coefficient of a set, in s1.14. -/
def scalerCoef (filter band taps : Nat) (horizontal : Bool) (phase tap : Nat) : Int :=
  coefOf scalerBlob filter band taps horizontal phase tap

/-- An index clamped to the crop (R146). -/
def clampIdx (n : Nat) (i : Int) : Nat := (clampI 0 ((n : Int) - 1) i).toNat

/-- One axis of the scaler over samples `f` of a crop of `wc` (R146, R147); filter 4 is Nearest. -/
def scaleAxis (filter taps : Nat) (horizontal : Bool) (wc wd i : Nat) (f : Nat → Nat) : Nat :=
  let p := scalePos wc wd i
  if filter = 4 then f (clampIdx wc ((p + 32768) / 65536))
  else
    let k := p / 65536
    let phase := ((p / 1024) % 64).toNat
    let first := k - (((taps - 1) / 2 : Nat) : Int)
    let terms := (List.range taps).map (fun t =>
      scalerCoef filter (scaleBand wc wd) taps horizontal phase t * ((f (clampIdx wc (first + (t : Int))) : Nat) : Int))
    clamp16 ((terms.foldl (· + ·) 0 + 8192) / 16384)

namespace Dev

def stillPicture (d : Dev) (n : Nat) : Picture :=
  { rows := (d.stillSt n).rows, fmt := d.obj (K.STILL_FORMAT n), w := d.obj (K.STILL_WIDTH n),
    h := d.obj (K.STILL_HEIGHT n), colorimetry := d.obj (K.STILL_COLORIMETRY n), tcs := d.obj (K.STILL_TCS n),
    range := d.obj (K.STILL_RANGE n) }

def streamPicture (d : Dev) (n r : Nat) : Picture :=
  { rows := (((d.stream n).frames.find? (fun f => f.r == r)).map (·.rows)).getD [], fmt := d.strFmt n,
    w := d.obj (K.STR_WIDTH n), h := d.obj (K.STR_HEIGHT n), colorimetry := d.obj (K.STR_COLORIMETRY n),
    tcs := d.obj (K.STR_TCS n), range := d.obj (K.STR_RANGE n) }

/-- Size of a source by its code (R139): width, height, format; none for None and the solid fill. -/
def sourceSize (d : Dev) (v : Nat) : Option (Nat × Nat × Nat) :=
  if 0x10 ≤ v ∧ v ≤ 0x1F then
    some (d.obj (K.STR_WIDTH (v - 0x10)), d.obj (K.STR_HEIGHT (v - 0x10)), d.obj (K.STR_FORMAT (v - 0x10)))
  else if 0x20 ≤ v ∧ v ≤ 0x2F then
    some (d.obj (K.STILL_WIDTH (v - 0x20)), d.obj (K.STILL_HEIGHT (v - 0x20)), d.obj (K.STILL_FORMAT (v - 0x20)))
  else none

def layer (d : Dev) (n : Nat) : LayerRun :=
  (d.layers[n]?).getD { source := 0, frame := none, repeats := 0, shows := .nothing }

def setLayer (n : Nat) (f : LayerRun → LayerRun) (d : Dev) : Dev := { d with layers := upd n f d.layers }

/-- Is the layer enabled with a source? -/
def layerOn (d : Dev) (n : Nat) : Bool := d.obj (K.LAY_ENABLE n) == 1 && d.obj (K.LAY_SOURCE n) != 0

/-- Does the layer take part in facet `j`? -/
def layerIn (d : Dev) (n j : Nat) : Bool := d.layerOn n && bit j (d.obj (K.LAY_FACET_MASK n))

/-- Does the layer's latest selection repeat (R158)? `got`: its slot selected a frame at D. -/
def layerRepeats (d : Dev) (s : Nat) (got : Bool) : Bool :=
  !got ||
    (match (d.stream s).selected with
      | none => true
      | some r => decide (r + d.strPeriod s + d.obj (K.STR_MARGIN s) + d.strPeriod s ≤ d.now))

/-- A layer repeats its frame, and after `LAYn_STALE_REPEATS` repeats takes its policy (R159 to R161). -/
def layerRepeat (n : Nat) (d : Dev) : Dev :=
  let run := d.layer n
  let k := run.repeats + 1
  let d := d.bump (K.LAY_REPEATS n)
  let held : LayerShow := match run.frame with
    | none => .nothing
    | some r => .frame r
  if k ≤ d.obj (K.LAY_STALE_REPEATS n) then
    (d.setLayer n (fun x => { x with repeats := k, shows := held })).setObj (K.LAY_STATE n) 2
  else
    let shows : LayerShow := match d.obj (K.LAY_STALE_POLICY n) with
      | 0 => held
      | 1 => .fallback
      | _ => .nothing
    let entering := d.obj (K.LAY_STATE n) != 3
    let d := (d.setLayer n (fun x => { x with repeats := k, shows := shows })).setObj (K.LAY_STATE n) 3
    if entering then d.bumpFault 10 (K.LAY_STALE_EVENTS n) n else d

/-- A layer follows its objects as they come to apply: one that is not enabled or has no source is Off and has no previous
frame, nor has one after enable or after a change of source (R159, R160). -/
def layerFollow (n : Nat) (d : Dev) : Dev :=
  let src := if d.layerOn n then d.obj (K.LAY_SOURCE n) else 0
  let d := if (d.layer n).source = src then d
    else d.setLayer n (fun _ => { source := src, frame := none, repeats := 0, shows := .nothing })
  if src = 0 then d.setObj (K.LAY_STATE n) 0
  else if d.obj (K.LAY_STATE n) = 0 then d.setObj (K.LAY_STATE n) 1 else d

/-- The slot that is a layer's matte, if one is. -/
def matteSlot (d : Dev) (n : Nat) : Option Nat :=
  let m := d.obj (K.LAY_MATTE n)
  if 0x10 ≤ m ∧ m ≤ 0x1F then some (m - 0x10) else none

/-- A layer takes the frame that its matte's slot selected, and keeps the one it used last where that selected nothing
(DESIGN CHOICE, log entry 134: R159 speaks of the source). -/
def takeMatte (n : Nat) (d : Dev) : Dev :=
  match (d.matteSlot n).bind (fun s => (d.stream s).selected) with
  | some r => d.setLayer n (fun x => { x with matte := some r })
  | none => d

/-- A layer of the facet that begins to be composed; `got` names the slots that selected a frame. -/
def layerStart (got : List Nat) (j n : Nat) (d : Dev) : Dev :=
  let src := d.obj (K.LAY_SOURCE n)
  let d := (d.layerFollow n).takeMatte n
  if !d.layerOn n then d
  else
    if !d.layerIn n j then d.setLayer n (fun x => { x with shows := .nothing })
    else if 0x10 ≤ src ∧ src ≤ 0x1F then
      let s := src - 0x10
      if d.layerRepeats s (got.contains s) then d.layerRepeat n
      else
        match (d.stream s).selected with
        | none => d
        | some r =>
          ((d.setLayer n (fun x => { x with frame := some r, repeats := 0, shows := .frame r })).setObj (K.LAY_STATE n)
            1).setObj (K.LAY_LAST_R n) (r % 2 ^ 48)
    else (d.setLayer n (fun x => { x with shows := .still })).setObj (K.LAY_STATE n) 1

/-- Composition of the facet with index `j` begins: every enabled slot selects, and every layer is settled
(R133, R158, R167). -/
def startComposition (j : Nat) (d : Dev) : Dev :=
  let (got, d) := (List.range 16).foldl (fun (acc : List Nat × Dev) n =>
    if acc.2.obj (K.STR_ENABLE n) = 1 then
      let (ok, d') := acc.2.selectFrame n
      (if ok then n :: acc.1 else acc.1, d')
    else acc) ([], d)
  let d := (List.range 8).foldl (fun d n => d.layerStart got j n) d
  d.bumpWrap K.COMP_FACETS_COMPOSED

/-- A selection instant that is over by `t`: the slots select, with every frame that became complete at it (R134). -/
def settleSelection (t : Time) (d : Dev) : Dev :=
  match d.enc.selectAt with
  | none => d
  | some (at', j) =>
    if at' < t then
      let d' := ({ d with now := at', enc := { d.enc with selectAt := none } }).startComposition j
      { d' with now := d.now }
    else d

/-- Alpha before scaling (R150) of a converted pixel. -/
def alphaOf (d : Dev) (n : Nat) (rgb : Nat × Nat × Nat) (matte : Nat) : Nat :=
  let c := d.obj (K.LAY_ALPHA n)
  match d.obj (K.LAY_ALPHA_MODE n) with
  | 0 => 0xFFFF
  | 1 => c
  | 2 => (matte * (c + c / 32768) + 32768) / 65536
  | _ =>
    let k := colourOf (d.obj (K.LAY_KEY_COLOUR n)) 0
    let tol := d.obj (K.LAY_KEY_TOL n)
    let near := fun (a b : Nat) => decide (a ≤ b + tol) && decide (b ≤ a + tol)
    if near rgb.1 k.r && near rgb.2.1 k.g && near rgb.2.2 k.b then 0 else c

/-- The matte picture of a layer: none where it names none, or a slot of which it has used no frame. -/
def mattePicture (d : Dev) (n : Nat) : Option Picture :=
  match d.matteSlot n with
  | some s => ((d.layer n).matte).map (fun r => d.streamPicture s r)
  | none =>
    let m := d.obj (K.LAY_MATTE n)
    if 0x20 ≤ m ∧ m ≤ 0x2F then some (d.stillPicture (m - 0x20)) else none

/-- A pixel of a layer's picture at destination offset (i, k), scaled (R145 to R147). -/
def layerScaled (d : Dev) (n : Nat) (p : Picture) (i k : Nat) : Rgba :=
  let cx := d.obj (K.LAY_CROP_X n)
  let cy := d.obj (K.LAY_CROP_Y n)
  let wc := d.obj (K.LAY_CROP_W n)
  let hc := d.obj (K.LAY_CROP_H n)
  let wd := d.obj (K.LAY_DST_W n)
  let hd := d.obj (K.LAY_DST_H n)
  let filter := d.obj (K.LAY_FILTER n)
  let col := d.obj K.COMP_COLORIMETRY
  let tcs := d.obj K.COMP_TCS
  let m := d.mattePicture n
  let at' := fun (c x y : Nat) =>
    let rgb := p.pixel col tcs (cx + x) (cy + y)
    match c with
    | 0 => rgb.1
    | 1 => rgb.2.1
    | 2 => rgb.2.2
    | _ => d.alphaOf n rgb (match m with
      | none => 0
      | some q => q.matte (cx + x) (cy + y))
  let axis := fun (c : Nat) =>
    scaleAxis filter 8 true wc wd i (fun x => scaleAxis filter (d.obj (K.LAY_TAPS_V n)) false hc hd k (fun y => at' c x y))
  { r := axis 0, g := axis 1, b := axis 2, a := axis 3 }

/-- What a layer contributes at a canvas pixel of the facet in composition: none outside its destination rectangle, outside
the canvas (R142), and where its matte has shown no frame yet (log entry 134). -/
def layerPixel (d : Dev) (n : Nat) (x y : Nat) : Option Rgba :=
  let i := (x : Int) - d.objI 16 (K.LAY_DST_X n)
  let k := (y : Int) - d.objI 16 (K.LAY_DST_Y n)
  if i < 0 ∨ k < 0 ∨ (d.obj (K.LAY_DST_W n) : Int) ≤ i ∨ (d.obj (K.LAY_DST_H n) : Int) ≤ k ∨
      d.obj K.COMP_CANVAS_W ≤ x ∨ d.obj K.COMP_CANVAS_H ≤ y then none
  else
    let noMatte := d.obj (K.LAY_ALPHA_MODE n) == 2 && (d.mattePicture n).isNone
    let i := i.toNat
    let k := k.toNat
    let src := d.obj (K.LAY_SOURCE n)
    let px : Option Rgba := match (d.layer n).shows with
      | .nothing => none
      | .fallback =>
        some (colourOf (d.obj (K.LAY_FALLBACK_COLOUR n))
          (if d.obj (K.LAY_ALPHA_MODE n) = 0 then 0xFFFF else d.obj (K.LAY_ALPHA n)))
      | .frame r => if noMatte then none else some (d.layerScaled n (d.streamPicture (src - 0x10) r) i k)
      | .still =>
        if noMatte then none
        else if src = 0x30 then
          let f := colourOf (d.obj (K.LAY_FILL_COLOUR n)) 0
          some { f with a := d.alphaOf n (f.r, f.g, f.b) 0 }
        else some (d.layerScaled n (d.stillPicture (src - 0x20)) i k)
    let inside := decide (d.obj (K.LAY_OPAQUE_X n) ≤ i) &&
      decide (i < d.obj (K.LAY_OPAQUE_X n) + d.obj (K.LAY_OPAQUE_W n)) && decide (d.obj (K.LAY_OPAQUE_Y n) ≤ k) &&
      decide (k < d.obj (K.LAY_OPAQUE_Y n) + d.obj (K.LAY_OPAQUE_H n))
    px.map (fun v => if inside then { v with a := 0xFFFF } else v)

end Dev

/-- One component blended over what lies beneath (R154). -/
def blend (a s out : Nat) : Nat :=
  let w := a + a / 32768
  (w * s + (65536 - w) * out + 32768) / 65536

namespace Dev

/-- Layers of facet `j` from the lowest (R153). -/
def layerOrder (d : Dev) (j : Nat) : List Nat :=
  sortBy (fun n => d.obj (K.LAY_PRIORITY n) * 8 + n) ((List.range 8).filter (fun n => d.layerIn n j))

/-- A canvas pixel of facet `j` (R154). -/
def composePixel (d : Dev) (j x y : Nat) : Nat × Nat × Nat :=
  let bg := colourOf (d.obj K.COMP_BACKGROUND) 0
  (d.layerOrder j).foldl (fun (out : Nat × Nat × Nat) n =>
    match d.layerPixel n x y with
    | none => out
    | some s => (blend s.a s.r out.1, blend s.a s.g out.2.1, blend s.a s.b out.2.2)) (bg.r, bg.g, bg.b)

end Dev

/-- A composed component as the encoder receives it (R155). -/
def code12 (v : Nat) : Nat := min ((v + 8) / 16) 4095

/-! ### Commit estimates -/

/-- Leg rate of R117 in bits per second, exact. -/
def legRate (w h fmt rate : Nat) : Frac :=
  let (n, den) := baseRate rate
  ⟨w * h * formatBits fmt * n * 102, 100 * den⟩

namespace Dev

/-- Estimated rate of a slot's leg in bits per second (R117). -/
def slotLegRate (d : Dev) (n : Nat) : Frac :=
  legRate (d.obj (K.STR_WIDTH n)) (d.obj (K.STR_HEIGHT n)) (d.strFmt n) (d.obj (K.STR_RATE n))

/-- Line-buffer need of R148 in pixel-lines. -/
def lineNeed (d : Dev) (n : Nat) : Nat :=
  let hc := d.obj (K.LAY_CROP_H n)
  let hd := d.obj (K.LAY_DST_H n)
  let t := if d.obj (K.LAY_FILTER n) = 4 then 1 else d.obj (K.LAY_TAPS_V n)
  let l := if hc ≤ hd then t else t + ceilDiv hc hd - 1
  d.obj (K.LAY_CROP_W n) * l * (if d.obj (K.LAY_ALPHA_MODE n) = 2 then 2 else 1)

/-- Canvas rectangles of the placed tile regions: x, y, width, height in blocks of 16. -/
def placedRegions (d : Dev) : List (Nat × Nat × Nat × Nat) :=
  d.allTiles.filterMap (fun r => (d.placeOf r.uid).map (fun p => (p.1 / 16, p.2 / 16, r.w16, r.h16)))

/-- The opaque area of a layer on the canvas: x0, y0, x1, y1 (R156). -/
def opaqueArea (d : Dev) (n : Nat) : Int × Int × Int × Int :=
  let x := d.objI 16 (K.LAY_DST_X n)
  let y := d.objI 16 (K.LAY_DST_Y n)
  let cut := fun (v m : Int) => clampI 0 m v
  let cw : Int := d.obj K.COMP_CANVAS_W
  let ch : Int := d.obj K.COMP_CANVAS_H
  let (x0, y0, x1, y1) :=
    if d.obj (K.LAY_ALPHA_MODE n) = 0 then (x, y, x + d.obj (K.LAY_DST_W n), y + d.obj (K.LAY_DST_H n))
    else (x + d.obj (K.LAY_OPAQUE_X n), y + d.obj (K.LAY_OPAQUE_Y n),
      x + d.obj (K.LAY_OPAQUE_X n) + d.obj (K.LAY_OPAQUE_W n), y + d.obj (K.LAY_OPAQUE_Y n) + d.obj (K.LAY_OPAQUE_H n))
  (cut x0 cw, cut y0 ch, cut x1 cw, cut y1 ch)

/-- Is block (bx, by) culled for layer `n` in facet `j` (R157), every layer taken as Live? -/
def blockCulled (d : Dev) (j n bx by' : Nat) : Bool :=
  let above := (d.layerOrder j).dropWhile (fun m => m != n)
  (above.drop 1).any (fun m =>
    let (x0, y0, x1, y1) := d.opaqueArea m
    decide (x0 ≤ 16 * bx) && decide (y0 ≤ 16 * by') && decide ((16 * bx + 16 : Int) ≤ x1) &&
      decide ((16 * by' + 16 : Int) ≤ y1))

/-- Does a block intersect a layer's destination rectangle? -/
def blockTouches (d : Dev) (n bx by' : Nat) : Bool :=
  let x := d.objI 16 (K.LAY_DST_X n)
  let y := d.objI 16 (K.LAY_DST_Y n)
  decide (x < 16 * bx + 16) && decide (y < 16 * by' + 16) && decide ((16 * bx : Int) < x + d.obj (K.LAY_DST_W n)) &&
    decide ((16 * by' : Int) < y + d.obj (K.LAY_DST_H n))

/-- Blocks of the canvas that some tile region covers, each once. -/
def regionBlocks (d : Dev) : List (Nat × Nat) :=
  let rs := d.placedRegions
  (List.range (d.obj K.COMP_CANVAS_H / 16)).flatMap (fun y =>
    (List.range (d.obj K.COMP_CANVAS_W / 16)).filterMap (fun x =>
      if rs.any (fun r => decide (r.1 ≤ x) && decide (x < r.1 + r.2.2.1) && decide (r.2.1 ≤ y) &&
        decide (y < r.2.1 + r.2.2.2)) then some (x, y) else none))

/-- V_j of R171. -/
def fetchBlocks (d : Dev) (blocks : List (Nat × Nat)) (j n : Nat) : Nat :=
  (blocks.filter (fun b => d.blockTouches n b.1 b.2 && !d.blockCulled j n b.1 b.2)).length

/-- Bits per pixel a layer fetches (R171). -/
def fetchBits (d : Dev) (n : Nat) : Nat :=
  let b := fun v => match d.sourceSize v with
    | none => 0
    | some s => formatBits s.2.2
  b (d.obj (K.LAY_SOURCE n)) + (if d.obj (K.LAY_ALPHA_MODE n) = 2 then b (d.obj (K.LAY_MATTE n)) else 0)

/-- Fetch term of a layer in bytes per second (R171), exact; 0 while no facet mode gives a facet rate. -/
def layerFetch (d : Dev) (mode n : Nat) (blocks : List (Nat × Nat)) : Frac :=
  if mode = 0 ∨ !d.layerOn n ∨ d.obj (K.LAY_SOURCE n) = 0x30 then ⟨0, 1⟩
  else
    let v := (List.range (facetCount mode)).foldl (fun a j =>
      a + (if d.layerIn n j then d.fetchBlocks blocks j n else 0)) 0
    ⟨modeN mode * v * 256 * (d.obj (K.LAY_CROP_W n) * d.obj (K.LAY_CROP_H n)) * d.fetchBits n * 5,
      modeD mode * (d.obj (K.LAY_DST_W n) * d.obj (K.LAY_DST_H n)) * 32⟩

/-- Ingest term (R119) in bytes per second, exact. -/
def ingestTerm (d : Dev) : Frac :=
  Frac.sum ((List.range 16).filterMap (fun n =>
    if d.obj (K.STR_ENABLE n) = 1 then
      let (nn, den) := baseRate (d.obj (K.STR_RATE n))
      some ⟨d.obj (K.STR_WIDTH n) * d.obj (K.STR_HEIGHT n) * formatBits (d.strFmt n) * nn, 8 * den⟩
    else none))

/-- Pixels of the tile regions that a list of records holds. -/
def regionPixelsOf (rs : List EnumRec) : Nat := rs.foldl (fun a r => a + r.w16 * 16 * (r.h16 * 16)) 0

/-- Pixels of a hoop's tile regions: every tile enumerated on it (R18, R171, R197).  DEDUCED, log entry 62. -/
def hoopPixels (d : Dev) (h : PortId) : Nat := regionPixelsOf (d.hoopOf h).tiles

/-- Those of the tiles that count for R17: a tile that no placement entry places does not (R443). -/
def placedPixels (d : Dev) (h : PortId) : Nat :=
  regionPixelsOf ((d.hoopOf h).tiles.filter (fun r => (d.placeOf r.uid).isSome))

/-- Pixels × facet rate, in pixels per second, exact; 0 while no facet mode gives a facet rate. -/
def facetRateOf (mode pixels : Nat) : Frac :=
  if mode = 0 then ⟨0, 1⟩ else ⟨pixels * modeN mode * facetCount mode, modeD mode⟩

/-- Pixels per second of a hoop in a mode. -/
def hoopRate (d : Dev) (mode : Nat) (h : PortId) : Frac := facetRateOf mode (d.hoopPixels h)

/-- The sum of R17 in pixels per second. -/
def pixelRate (d : Dev) (mode : Nat) : Frac :=
  facetRateOf mode ((List.range 4).foldl (fun a h => a + d.placedPixels h) 0)

/-- Reference term (R171): hoops in refresh mode (`ENCh_MODE` 1). -/
def referenceTerm (d : Dev) (mode : Nat) : Frac :=
  Frac.sum ((List.range 4).filterMap (fun h =>
    if d.obj (K.ENC_MODE h) = 1 then some ((d.hoopRate mode h).times 9) else none))

/-- The DRAM budget estimate in bytes per second (R171), exact. -/
def budgetEst (d : Dev) (mode : Nat) : Frac :=
  let blocks := d.regionBlocks
  (d.ingestTerm.add (Frac.sum ((List.range 8).map (fun n => d.layerFetch mode n blocks)))).add (d.referenceTerm mode)

/-- A layer that names a still buffer loses its sources at step 9 of the start (R172). -/
def clearStillLayers (d : Dev) : Dev :=
  (List.range 8).foldl (fun d n =>
    let isStill := fun v => decide (0x20 ≤ v) && decide (v ≤ 0x2F)
    if isStill (d.obj (K.LAY_SOURCE n)) || isStill (d.obj (K.LAY_MATTE n)) then
      (((d.keepObj (K.LAY_SOURCE n) 0).keepObj (K.LAY_MATTE n) 0).layerFollow n).fault 10 (K.LAY_SOURCE n) n
    else d) d

end Dev

end Sys2Proof.Machine
end

