-- ==== Sys2Proof/Machine/EncodeOps.lean ====
section
/-!
DEFINITION. Sys2Proof/Machine/EncodeOps.lean: the sender's encoder: references, mode decisions, rate control, and the
PIX packets of a wale (06_wale_codec.md; R221, R407, R408, R419, R443).
-/
namespace Sys2Proof.Machine

/-- Guaranteed wale payload in b/s per rate index (R383). -/
def payloadRate : Nat → Nat
  | 0 => 11150000000
  | 1 => 22300000000
  | 2 => 44610000000
  | _ => 92000000000

/-- β of R197 in 1/256 bit per pixel. -/
def budgetBeta (cap pixels mode payload : Nat) : Nat :=
  if pixels = 0 then cap else min cap (payload * 256 * modeD mode / (pixels * modeN mode * facetCount mode))

/-- A reference that was never written: black and without flags. -/
def emptyRef (j i nc : Nat) : RefWale :=
  { facet := j, index := i, tag := 0, blocks := List.replicate nc (List.replicate 256 .black),
    flags := List.replicate nc false }

/-- The reference of facet index `j`, wale `i`, with the flags that frame `k` leaves it (R180). -/
def refFor (refs : List RefWale) (j i k nc : Nat) : RefWale :=
  let r := (refs.find? (fun r => r.facet == j && r.index == i)).getD (emptyRef j i nc)
  if r.tag = (k + 2 ^ 32 - 1) % 2 ^ 32 then r else { r with flags := List.replicate nc false }

/-- A reference wale replaced. -/
def putRef (x : RefWale) (refs : List RefWale) : List RefWale :=
  x :: refs.filter (fun r => !(r.facet == x.facet && r.index == x.index))

/-- One coded wale as the encoder emits it. -/
structure WaleOut where
  raw : Bool
  trunc : Bool
  payload : Bytes
  recon : List Block
  flags : List Bool
  fbSkip : Nat
  fbMax : Nat
  eSum : Nat
  eBlocks : Nat
  deriving DecidableEq, Repr

/-- Inputs of a wale's blocks. -/
def blockInputs (ref : RefWale) (refresh : Option Nat) (src : List Block) : List BlockIn :=
  (List.range src.length).map (fun c =>
    { src := src.getD c [], ref := ref.blocks.getD c [], established := ref.flags.getD c false,
      refresh := refresh == some c })

/-- The predicted form from its blocks. -/
def predicted (ins : List BlockIn) (cs : List Coded) (fbFrom : Option Nat) : WaleOut :=
  let bs := cs.flatMap (·.bits)
  let fb := match fbFrom with
    | none => []
    | some k => cs.drop k
  let coded := cs.filter (fun c => c.mode != 0)
  { raw := false, trunc := false, payload := packBits bs.length bs, recon := cs.map (·.recon),
    flags := (ins.zip cs).map (fun p => p.2.mode == 2 || p.1.established),
    fbSkip := (fb.filter (fun c => c.mode == 0)).length, fbMax := (fb.filter (fun c => c.mode != 0)).length,
    eSum := coded.foldl (fun a c => a + c.e) 0, eBlocks := coded.length }

/-- The raw form (R191). -/
def rawForm (src : List Block) : WaleOut :=
  { raw := true, trunc := false, payload := rawPayload src, recon := src, flags := src.map (fun _ => true),
    fbSkip := 0, fbMax := 0, eSum := 0, eBlocks := 0 }

/-- The truncated form: the reference wale again (R189). -/
def truncForm (ref : RefWale) : WaleOut :=
  { raw := false, trunc := true, payload := [], recon := ref.blocks, flags := ref.flags,
    fbSkip := 0, fbMax := 0, eSum := 0, eBlocks := 0 }

/-- A wale coded within `room` bits: normal coding, else the fallback (R193, R194, R198, R199). -/
def codeWale (band : Bool) (e eMax : Nat) (ref : RefWale) (refresh : Option Nat) (src : List Block) (room : Nat) :
    WaleOut :=
  let ins := blockInputs ref refresh src
  let norm := normalBlocks band e ins .start
  let nbits := paddedBits (totalBits norm)
  let rawBits := src.length * 1152 * 8
  let first := if nbits ≤ rawBits then predicted ins norm none else rawForm src
  if 8 * first.payload.length ≤ room then first
  else
    let k := blocksWithin room norm
    let one := fallbackBlocks band e eMax k ins .start
    if paddedBits (totalBits one) ≤ room then predicted ins one (some k)
    else
      let two := fallbackBlocks band e eMax 0 ins .start
      if paddedBits (totalBits two) ≤ room then predicted ins two (some 0)
      else truncForm ref

/-- e after wale `i` of `n` (R198). -/
def nextE (b n i s e eMin eMax : Nat) : Nat :=
  let t := b * (i + 1) / n
  if t + b / (8 * n) < s ∧ e < eMax then e + 1
  else if s + b / (4 * n) < t ∧ eMin < e then e - 1
  else e

/-- Fragments of 1,024 bytes with their offsets (R408); `fuel` bounds their number. -/
def fragments : Nat → Nat → Bytes → List (Nat × Bytes)
  | 0, _, _ => []
  | fuel + 1, off, b => if b.isEmpty then [] else (off, b.take 1024) :: fragments fuel (off + 1024) (b.drop 1024)

/-- A PIX body (R407). -/
def pixBody (uid frame facet wale off total : Nat) (data : Bytes) : Bytes :=
  be 4 (uid % 2 ^ 32) ++ be 4 frame ++ be 1 facet ++ be 1 0 ++ be 2 wale ++ be 2 off ++ be 2 total ++ data

namespace Dev

def setEnc (f : EncState → EncState) (d : Dev) : Dev := { d with enc := f d.enc }

/-- Is the hoop coded in band mode? -/
def bandMode (d : Dev) (h : PortId) : Bool := d.obj (K.ENC_MODE h) == 2

/-- Tiles of a port that receive wales: listed, placed and not held Dark (R443). -/
def servedTiles (d : Dev) (h : PortId) : List EnumRec :=
  (d.hoopOf h).tiles.filter (fun r => r.uid != 0 && r.held == 0 && (d.placeOf r.uid).isSome)

/-- The region of a tile on a port, fresh where it is new or its size or position has changed (R210). -/
def regionOf (d : Dev) (h : PortId) (r : EnumRec) : EncRegion :=
  let (x, y) := (d.placeOf r.uid).getD (0, 0)
  match d.enc.regions.find? (fun g => g.port == h && g.uid == r.uid && g.w16 == r.w16 && g.h16 == r.h16 && g.x == x &&
      g.y == y) with
  | some g => g
  | none =>
    { port := h, uid := r.uid, w16 := r.w16, h16 := r.h16, x := x, y := y,
      eBase := List.replicate 4 (d.obj (K.ENC_E_MIN h)), refs := [],
      facet := none, next := 0, spent := 0, e := 0 }

/-- The encoder at a facet boundary: regions follow the enumeration, references of removed facet indexes go, band mode
keeps none, e_base stays within its range, and β is taken (R195, R197, R210, R419). -/
def encodeBoundary (d : Dev) : Dev :=
  let c := facetCount d.mode
  let regions := (List.range 4).flatMap (fun h =>
    (d.servedTiles h).map (fun r =>
      let g := d.regionOf h r
      { g with
        refs := if d.bandMode h then [] else g.refs.filter (fun x => decide (x.facet < c))
        eBase := g.eBase.map (clampN (d.obj (K.ENC_E_MIN h)) (d.obj (K.ENC_E_MAX h))) }))
  let d := d.setEnc (fun s => { s with regions := regions, passed := [], checked := false })
  (List.range 4).foldl (fun d h =>
    if d.mode = 0 then d
    else d.setObj (K.ENC_BPP_BUDGET h)
      (budgetBeta (d.obj (K.ENC_BPP_CAP h)) (d.hoopPixels h) d.mode (payloadRate (d.hoopOf h).slowest))) d

/-- Pixels of wale `i` of a region as the encoder receives them, block by block (R155). -/
def composedWale (d : Dev) (j : Nat) (g : EncRegion) (i : Nat) : List Block :=
  (List.range g.w16).map (fun c => (List.range 256).map (fun p =>
    let v := d.composePixel j (g.x + 16 * c + p % 16) (g.y + 16 * i + p / 16)
    { r := code12 v.1, g := code12 v.2.1, b := code12 v.2.2 }))

/-- A wale leaves composition. -/
def notePassed (g : EncRegion) (i : Nat) (late : Bool) (d : Dev) : Dev :=
  d.setEnc (fun s => { s with passed := s.passed ++ [{ x := g.x, y := g.y + 16 * i, w := 16 * g.w16, late := late }] })

/-- The result of a sender's rectangle for facet index `j` (R334, R336): none where a pixel of it did not pass. -/
def senderChk (d : Dev) (j r : Nat) : Option Nat :=
  let ps := d.chkPixels r
  let inside := fun (p : Nat × Nat) (w : PassedWale) =>
    decide (w.x ≤ p.1) && decide (p.1 < w.x + w.w) && decide (w.y ≤ p.2) && decide (p.2 < w.y + 16)
  if ps.all (fun p => d.enc.passed.any (inside p) && !(d.enc.passed.any (fun w => w.late && inside p w))) then
    some (crc32c (ps.flatMap (fun p =>
      let v := d.composePixel j p.1 p.2
      be 2 (code12 v.1) ++ be 2 (code12 v.2.1) ++ be 2 (code12 v.2.2))))
  else none

/-- The facet's last wale has passed, or its boundary has come: every rectangle of it reports. -/
def senderChecks (q : Nat) (d : Dev) : Dev :=
  if d.enc.checked then d
  else
    let j := q % facetCount d.mode
    let f := facetAt d.mode q
    let d := (List.range 16).foldl (fun d r =>
      if d.chkIn r j && d.obj (K.CHK_TAP r) == 4 then d.chkReport r (d.senderChk j r) f else d) d
    d.setEnc (fun s => { s with checked := true })

/-- A region's record replaced. -/
def putRegion (g : EncRegion) (d : Dev) : Dev :=
  d.setEnc (fun s => { s with regions := s.regions.map (fun x => if x.port == g.port && x.uid == g.uid then g else x) })

/-- E_i of R221 for a region of `n` wales in the facet that flips at boundary number `q`. -/
def encodeDeadline (d : Dev) (q n i : Nat) : Time :=
  let a := facetAt d.mode (q - 1)
  a + (i + 1) * (facetAt d.mode q - a - 200000) / n

/-- Does the sender send pictures (R436 to R439)? -/
def sendsPictures (d : Dev) : Bool := d.isSender && d.pair.sending && d.mayServe

/-- The PIX packets of a wale leave the port (R407, R408). -/
def sendWale (h dist : Nat) (g : EncRegion) (x : Wale) (d : Dev) : Dev :=
  let b := waleBytes x
  (fragments b.length 0 b).foldl (fun d f =>
    d.transmit h (mkPacket clsPix dist 0 (pixBody g.uid x.frame x.facet x.index f.1 b.length f.2))) d

/-- Counters of an emitted wale (R200 and the table of R212). -/
def countWale (h : PortId) (g : EncRegion) (o : WaleOut) (d : Dev) : Dev :=
  let d := d.bumpWrap (K.ENC_WALES_CODED h)
  let d := if o.raw then d.bump (K.ENC_WALES_RAW h) else d
  let d := if o.trunc then d.bump (K.ENC_FB_TRUNC_WALES h) else d
  let d := (d.bumpBy o.fbSkip (K.ENC_FB_SKIP_BLOCKS h)).bumpBy o.fbMax (K.ENC_FB_EMAX_BLOCKS h)
  d.setEnc (fun s =>
    { s with history :=
        (s.history.filter (fun x => decide (d.now < x.time + 1000000000))) ++
          [{ port := h, time := d.now, bits := 8 * o.payload.length, pixels := g.w16 * 256,
             eSum := if o.raw || o.trunc then 0 else o.eSum, eBlocks := if o.raw || o.trunc then 0 else o.eBlocks }] })

/-- A wale is emitted: its packets, its reference and tag, and the region's running state (R180, R192, R195, R198). -/
def emitWale (h dist q i : Nat) (g : EncRegion) (ref : RefWale) (o : WaleOut) (d : Dev) : Dev :=
  let c := facetCount d.mode
  let j := q % c
  let k := (q / c) % 2 ^ 32
  let band := d.bandMode h
  let same := fun (x : PortId × Nat × Nat × Nat × Nat) => x.1 == h && x.2.1 == g.uid && x.2.2.1 == j && x.2.2.2.1 == i
  let old := ((d.enc.crcs.find? same).map (·.2.2.2.2)).getD 0
  let crc := if o.trunc then old else reconCrc o.recon
  let bits := 8 * o.payload.length
  let b := g.w16 * 16 * (g.h16 * 16) * d.obj (K.ENC_BPP_BUDGET h) / 256
  let s := g.spent + bits
  let e := nextE b g.h16 i s g.e (d.obj (K.ENC_E_MIN h)) (d.obj (K.ENC_E_MAX h))
  let have' := g.refs.any (fun x => x.facet == j && x.index == i)
  let refs :=
    if band then []
    else if o.trunc && !have' then g.refs
    else putRef { ref with tag := k, blocks := o.recon, flags := o.flags } g.refs
  let g' :=
    { g with
      refs := refs
      facet := some q, next := i + 1, spent := s, e := e
      eBase := if i + 1 = g.h16 then upd j (fun _ => e) g.eBase else g.eBase }
  let w : Wale :=
    { band := band, raw := o.raw, trunc := o.trunc, facet := j, eMax := d.obj (K.ENC_E_MAX h), index := i,
      refreshCol := if band then 0xFFFF else (q / c) % g.w16, w := g.w16 * 16, h := g.h16 * 16, frame := k, crc := crc,
      payload := o.payload }
  let d := d.setEnc (fun s => { s with crcs := (h, g.uid, j, i, crc) :: s.crcs.filter (fun x => !same x) })
  ((d.putRegion g').countWale h g o).sendWale h dist g w

/-- The region of a served tile at its next wale of the facet in composition; a tile that is held Dark gets none (R443). -/
def regionAt (d : Dev) (h dist i : Nat) : Option (Nat × EncRegion) :=
  match d.enc.composing with
  | none => none
  | some q =>
    if !d.sendsPictures || !d.portUp h || dist = 0 then none
    else match (d.hoopOf h).tiles[dist - 1]? with
      | none => none
      | some r =>
        if r.held ≠ 0 then none else
        match d.enc.regions.find? (fun g => g.port == h && g.uid == r.uid) with
        | none => none
        | some g =>
          let j := q % facetCount d.mode
          let g := if g.facet == some q then g
            else { g with facet := some q, next := 0, spent := 0, e := g.eBase.getD j 0 }
          if g.next = i ∧ i < g.h16 then some (q, g) else none

/-- A wale that composition did not pass in time is emitted truncated and counted (R221). -/
def lateWale (h dist i : Nat) (d : Dev) : Dev :=
  match d.regionAt h dist i with
  | none => d
  | some (q, g) =>
    if d.now < d.encodeDeadline q g.h16 i then d
    else
      let c := facetCount d.mode
      let ref := refFor g.refs (q % c) i ((q / c) % 2 ^ 32) g.w16
      let d := ((d.bump K.COMP_WALES_LATE).notePassed g i true).emitWale h dist q i g ref (truncForm ref)
      if d.facetPassed q then d.senderChecks q else d

/-- A wale whose processing cannot be used is emitted truncated (R465, R531, R536), counted as under R221.
DEDUCED, log entry 61. -/
def brokenWale (h dist i : Nat) (d : Dev) : Dev :=
  match d.regionAt h dist i with
  | none => d
  | some (q, g) =>
    let c := facetCount d.mode
    let ref := refFor g.refs (q % c) i ((q / c) % 2 ^ 32) g.w16
    let d := ((d.bump K.COMP_WALES_LATE).notePassed g i true).emitWale h dist q i g ref (truncForm ref)
    if d.facetPassed q then d.senderChecks q else d

/-- A reference block loses its flag. -/
def dropFlag (j i col : Nat) (refs : List RefWale) : List RefWale :=
  refs.map (fun r => if r.facet == j && r.index == i then { r with flags := upd col (fun _ => false) r.flags } else r)

/-- An encoder's poisoned reference block loses its flag (the table of poisoned reads). -/
def poisonEncRef (h dist i col : Nat) (d : Dev) : Dev :=
  match d.regionAt h dist i with
  | none => d
  | some (q, g) => d.putRegion { g with refs := dropFlag (q % facetCount d.mode) i col g.refs }

/-- Composition passes a wale to the encoder (R198): by E_i it is coded within its room. -/
def encodeWale (h dist i : Nat) (d : Dev) : Dev :=
  match d.regionAt h dist i with
  | none => d
  | some (q, g) =>
    if d.encodeDeadline q g.h16 i < d.now then d.lateWale h dist i
    else
      let c := facetCount d.mode
      let j := q % c
      let ref := refFor g.refs j i ((q / c) % 2 ^ 32) g.w16
      let band := d.bandMode h
      let refresh := if band then none else some ((q / c) % g.w16)
      let b := g.w16 * 16 * (g.h16 * 16) * d.obj (K.ENC_BPP_BUDGET h) / 256
      let lim := b - (g.h16 - 1 - i) * (b / (16 * g.h16))
      let o := codeWale band g.e (d.obj (K.ENC_E_MAX h)) ref refresh (d.composedWale j g i) (lim - g.spent)
      let d := (d.notePassed g i false).emitWale h dist q i g ref o
      if d.facetPassed q then d.senderChecks q else d

/-- ENCODE_WALE with what the wale's reads met (R464, R465, R535, R536). -/
def encodeMet (h dist i : Nat) (met : WaleRead) (d : Dev) : Dev :=
  let d := d.readsCorrected met
  match met.fault with
  | .sound | .correction _ _ => d.encodeWale h dist i
  | .poisoned a => (d.poisonRead a).brokenWale h dist i
  | .reference a col => ((d.poisonRead a).poisonEncRef h dist i col).encodeWale h dist i
  | .failing s => if d.hasStore s then (d.storeFails s).brokenWale h dist i else d.encodeWale h dist i

/-- Blocks unestablished on a hoop, over the facet indexes of the mode in force. -/
def unestablished (d : Dev) (h : PortId) : Nat :=
  d.enc.regions.foldl (fun a g =>
    if g.port == h then
      a + (List.range (facetCount d.mode)).foldl (fun a j =>
        a + (List.range g.h16).foldl (fun a i =>
          a + (match g.refs.find? (fun x => x.facet == j && x.index == i) with
            | none => g.w16
            | some x => (x.flags.filter (fun f => !f)).length)) 0) 0
    else a) 0

/-- Mean payload in 1/256 bit per pixel and mean e over the last second. -/
def encMeans (d : Dev) (h : PortId) : Nat × Nat :=
  let hs := d.enc.history.filter (fun x => x.port == h && decide (d.now < x.time + 1000000000))
  let sum := fun (f : EncHist → Nat) => hs.foldl (fun a x => a + f x) 0
  let px := sum (·.pixels)
  let eb := sum (·.eBlocks)
  ((unstatedDiv (sum (·.bits) * 256 : Nat) px).toNat, (unstatedDiv (sum (·.eSum) * 256 : Nat) eb).toNat)

end Dev

end Sys2Proof.Machine
end

