-- ==== Sys2Proof/Machine/Transfer.lean ====
section
/-!
DEFINITION. Sys2Proof/Machine/Transfer.lean: the transfer tables of Prism (R250), computed in fixed point.  The two
standards' constants are PRESUMED (log entry 38): the spec names the standards and not their numbers.
-/
namespace Sys2Proof.Machine

/-- 1.0 in the fixed point of this file. -/
def fxOne : Int := 2 ^ 120

/-- Product of two fixed-point numbers. -/
def fxMul (a b : Int) : Int := a * b / fxOne

/-- Quotient of two fixed-point numbers. -/
def fxDiv (a b : Int) : Int := a * fxOne / b

/-- 2·artanh(z) by its series: the sum of 2 z^(2j+1) / (2j+1) over n terms. -/
def fxArtanh2 (z : Int) (n : Nat) : Int :=
  ((List.range n).foldl (fun (s : Int × Int) (j : Nat) =>
    (s.1 + 2 * s.2 / (2 * (j : Int) + 1), fxMul (fxMul s.2 z) z)) (0, z)).1

/-- ln 2. -/
def fxLn2 : Int := fxArtanh2 (fxOne / 3) 40

/-- ln of a positive number: x = m · 2^k with m in [1, 2), so ln x = k ln 2 + 2 artanh((m − 1)/(m + 1)). -/
def fxLn (x : Int) : Int :=
  let k : Int := (x.toNat.log2 : Int) - 120
  let m := if k < 0 then x * 2 ^ (-k).toNat else x / 2 ^ k.toNat
  k * fxLn2 + fxArtanh2 (fxDiv (m - fxOne) (m + fxOne)) 40

/-- e^y: y = k ln 2 + r with r in [0, ln 2), and 30 terms of the series of e^r. -/
def fxExp (y : Int) : Int :=
  let k := y / fxLn2
  let r := y - k * fxLn2
  let e := ((List.range 36).foldl (fun (s : Int × Int) (j : Nat) =>
    (s.1 + s.2, fxMul s.2 r / ((j : Int) + 1))) (0, fxOne)).1
  if k < 0 then e / 2 ^ (-k).toNat else e * 2 ^ k.toNat

/-- x^(n/d) for x at or above 0. -/
def fxPow (x : Int) (n d : Nat) : Int := if x ≤ 0 then 0 else fxExp (fxLn x * n / d)

/-- The EOTF of SMPTE ST 2084, 1.0 at 10,000 cd/m².  PRESUMED, log entry 38: its constants. -/
def pqEotf (e : Int) : Int :=
  let p := fxPow e 32 2523
  let num := p - 3424 * fxOne / 4096
  let den := (2413 * 32 * fxOne - 2392 * 32 * p) / 4096
  if num ≤ 0 then 0 else fxPow (fxDiv num den) 16384 2610

/-- The inverse OETF of BT.2100 HLG.  PRESUMED, log entry 38: a = 0.17883277, b = 1 − 4a, c = 0.5 − a ln 4a. -/
def hlgInverse (e : Int) : Int :=
  let a := 17883277 * fxOne / 100000000
  let c := fxOne / 2 - fxMul a (fxLn (4 * a))
  if 2 * e ≤ fxOne then fxMul e e / 3 else (fxExp (fxDiv (e - c) a) + (fxOne - 4 * a)) / 12

/-- The EOTF of BT.2100 HLG with the reference OOTF, gamma 1.2, 1.0 at the nominal peak of 1,000 cd/m².  The table has one
input, so the OOTF's luminance is the component's own.  PRESUMED, log entry 38. -/
def hlgEotf (e : Int) : Int := fxPow (hlgInverse e) 6 5

/-- Entry i of the transfer table T of R250: PQ (1), HLG (2), LINEAR (3). -/
def tfEntry (tcs i : Nat) : Nat :=
  let e : Int := (min (16 * i) 65535 : Nat) * fxOne / 65535
  let entry := fun (l : Int) => min ((l * (2 ^ 24 - 1) + fxOne / 2) / fxOne).toNat (2 ^ 24 - 1)
  if tcs = 3 then min (4096 * i) (2 ^ 24 - 1)
  else if tcs = 2 then entry (hlgEotf e) else entry (pqEotf e)

end Sys2Proof.Machine
end

