-- ==== Sys2Proof/Machine/PrismOps.lean ====
section
/-!
DEFINITION. Sys2Proof/Machine/PrismOps.lean: the calibration image, correction load, and the arithmetic that turns a
pixel into counts and range bits (08_prism.md).
-/
namespace Sys2Proof.Machine

/-- The fader table of R255: entry f is 32,768 × 2^(−f/64) rounded to the nearest integer, u1.15. -/
def faderTable : List Nat :=
  [32768, 32415, 32066, 31720, 31379, 31041, 30706, 30376, 30048, 29725, 29405, 29088, 28774, 28464, 28158, 27855] ++
  [27554, 27258, 26964, 26674, 26386, 26102, 25821, 25543, 25268, 24995, 24726, 24460, 24196, 23936, 23678, 23423] ++
  [23170, 22921, 22674, 22430, 22188, 21949, 21713, 21479, 21247, 21019, 20792, 20568, 20347, 20127, 19911, 19696] ++
  [19484, 19274, 19066, 18861, 18658, 18457, 18258, 18061, 17867, 17674, 17484, 17296, 17109, 16925, 16743, 16562]

/-- Entry f of the fader table. -/
def ft (f : Nat) : Nat := faderTable.getD f 0

/-! ### The calibration image (R267, R268) -/

/-- Section entries of a body: type, offset, length. -/
def calSections (body : Bytes) : List (Nat × Nat × Nat) :=
  (List.range (fieldAt 0 2 body)).map (fun i =>
    (fieldAt (4 + 12 * i) 2 body, fieldAt (8 + 12 * i) 4 body, fieldAt (12 + 12 * i) 4 body))

/-- The bytes of a section of an image. -/
def calSection (img : Bytes) (ty : Nat) : Bytes :=
  let body := img.drop 64
  match (calSections body).find? (fun s => s.1 == ty) with
  | none => []
  | some s => slice s.2.1 s.2.2 body

/-- Length a section must have (R268, R341); none for a reserved type. -/
def calSectionLen (l w h : Nat) : Nat → Option Nat
  | 1 => some (l * 16384)
  | 2 => some (w * h * 48)
  | 3 => some (l * 128)
  | 4 => some (l * 64)
  | _ => none

/-- Cause 6: types 1 to 4 appear exactly once, lie in the body and have their length. -/
def calSectionsBad (img : Bytes) (l w h : Nat) : Bool :=
  let body := img.drop 64
  let ss := calSections body
  decide (body.length < 4 + 12 * fieldAt 0 2 body) || ([1, 2, 3, 4] : List Nat).any (fun t =>
    match ss.filter (fun s => s.1 == t) with
    | [s] => decide (body.length < s.2.1 + s.2.2) || calSectionLen l w h t != some s.2.2
    | _ => true)

/-- A sequence of U16 values that decreases somewhere. -/
def decreases : List Nat → Bool
  | a :: b :: rest => decide (b < a) || decreases (b :: rest)
  | _ => false

/-- U16 values of a byte string. -/
def u16s (n : Nat) (b : Bytes) : List Nat := (List.range n).map (fun i => fieldAt (2 * i) 2 b)

/-- Cause 7: a drive curve decreases somewhere. -/
def calCurveBad (img : Bytes) (l : Nat) : Bool :=
  let s := calSection img 1
  (List.range (2 * l)).any (fun i => decreases (u16s 4096 (s.drop (8192 * i))))

/-- The first cause of R269 that an image meets on a tile with this identity and region; 0 for none. -/
def calCause (uid w h l : Nat) (img : Bytes) : Nat :=
  if img.length < 64 ∨ fieldAt 60 4 img ≠ crc32c (img.take 60) then 1
  else if fieldAt 0 4 img ≠ 0x5643414C ∨ fieldAt 4 2 img ≠ 1 ∨ fieldAt 7 1 img ≠ 0 ∨ fieldAt 26 2 img ≠ 0 ∨
      !allZero (slice 48 12 img) ∨ (slice 20 4 img).any (fun b => decide (6 < b.toNat)) then 2
  else if fieldAt 8 8 img ≠ uid then 3
  else if fieldAt 16 2 img ≠ w ∨ fieldAt 18 2 img ≠ h ∨ fieldAt 6 1 img ≠ l then 4
  else if img.length ≠ 64 + fieldAt 40 4 img ∨ fieldAt 44 4 img ≠ crc32c (img.drop 64) then 5
  else if calSectionsBad img l w h then 6
  else if calCurveBad img l then 7
  else 0

namespace Dev

def regionW (d : Dev) : Nat := d.bootObj K.REGION_W
def regionH (d : Dev) : Nat := d.bootObj K.REGION_H
/-- Lamps per pixel L. -/
def lampsPer (d : Dev) : Nat := d.bootObj K.REGION_LAMPS
/-- Wales n of the region. -/
def wales (d : Dev) : Nat := d.regionH / 16
/-- Pixels of the region. -/
def regionPixels (d : Dev) : Nat := d.regionW * d.regionH

def setPrism (f : PrismSt → PrismSt) (d : Dev) : Dev := { d with prism := f d.prism }

/-- CAL_FRACTION of the image in use; 0 with none. -/
def calFraction (d : Dev) : Nat := fieldAt 24 2 d.prism.image

/-- Does slot `p` have a lamp (R247)?  Under nominal correction every slot below L counts as present. DEDUCED, log entry 37. -/
def slotPresent (d : Dev) (p : Nat) : Bool :=
  decide (p < d.lampsPer) && (d.prism.use == .nominal || d.obj (K.PRIM_KIND p) != 0)

/-- Entry of a K matrix: colorimetry, row and column (R265). -/
def xyzEntry (b : Bytes) (col row c : Nat) : Int := toSigned 32 (fieldAt (4 * ((col - 1) * 9 + row * 3 + c)) 4 b)

/-- Are the bytes what R265 says of `PRISM_CANVAS_TO_XYZ`: two matrices, RGB (1, 1, 1) giving Y = 1 in s2.29? -/
def xyzSound (b : Bytes) : Bool :=
  b.length == 72 && ([1, 2] : List Nat).all (fun col =>
    xyzEntry b col 1 0 + xyzEntry b col 1 1 + xyzEntry b col 1 2 == 2 ^ 29)

/-- Bytes that R265 allows: Y is G. -/
def xyzUnit : Bytes :=
  (List.range 18).flatMap (fun n => be 4 (if n % 9 = 4 then 2 ^ 29 else 0))

/-- The bytes of `PRISM_CANVAS_TO_XYZ`: those of the TAB part, which are what R265 says; were they not, bytes that are. -/
def xyzBlob : Bytes :=
  if xyzSound (Config.tabBlob K.PRISM_CANVAS_TO_XYZ) then Config.tabBlob K.PRISM_CANVAS_TO_XYZ else xyzUnit

/-- Entry of the K matrix of R265 for a colorimetry, from the TAB part. -/
def canvasToXyz (col row c : Nat) : Int := xyzEntry xyzBlob col row c

/-- Calibration coefficient M of a pixel: range set (0 high, 1 low), slot, X Y Z component. -/
def calMatrix (d : Dev) (px set p k : Nat) : Int :=
  toSigned 16 (fieldAt (px * 48 + set * 24 + p * 6 + k * 2) 2 d.prism.sect2)

/-- A derived canvas coefficient before its clamp (R265). -/
def derivedRaw (d : Dev) (px set p c : Nat) : Int :=
  ((List.range 3).foldl (fun a k => a + d.calMatrix px set p k * canvasToXyz d.prism.colorimetry k c) 0 + 2 ^ 28) / 2 ^ 29

/-- A canvas matrix coefficient in s2.13 (R249, R265, R272). -/
def matrixAt (d : Dev) (px set p c : Nat) : Int :=
  match d.prism.use with
  | .none => 0
  | .nominal => if p = c then 6963 else 0
  | _ => if p < d.lampsPer then clampI (-32768) 32767 (d.derivedRaw px set p c) else 0

/-- Coefficients that the derivation clamps (R265). -/
def derivedClamps (d : Dev) : Nat :=
  (List.range d.regionPixels).foldl (fun a px =>
    (List.range 2).foldl (fun a set => (List.range d.lampsPer).foldl (fun a p => (List.range 3).foldl (fun a c =>
      let v := d.derivedRaw px set p c
      if v < -32768 ∨ 32767 < v then a + 1 else a) a) a) a) 0

/-- The canvas matrices are derived anew (R265, R266). -/
def deriveCanvas (d : Dev) : Dev :=
  let d := d.setPrism (fun s => { s with colorimetry := d.obj K.PRISM_IN_COLORIMETRY, derivePending := false })
  match d.prism.use with
  | .copyA | .copyB => d.bumpBy d.derivedClamps K.PRISM_PARAM_CLAMPED
  | _ => d

/-- An image takes effect: its kinds, curves and matrices. -/
def useImage (use : CalUse) (img : Bytes) (d : Dev) : Dev :=
  let d := d.setPrism (fun s => { s with use := use, image := img, sect1 := calSection img 1, sect2 := calSection img 2 })
  let d := (List.range 4).foldl (fun d p =>
    d.setObj (K.PRIM_KIND p) (if use == .copyA || use == .copyB then fieldAt (20 + p) 1 img else 0)) d
  d.deriveCanvas

/-- The cause found in copy `n` of the calibration with these bytes (R269): a copy that the flash cannot read has cause 1. -/
def copyCause (d : Dev) (n : Nat) (img : Bytes) : Nat :=
  if d.start.calFail.contains n then 1 else calCause d.fix.fuses.uid d.regionW d.regionH d.lampsPer img

/-- Correction load (R269, R270, R272): true when it succeeds. -/
def loadCorrections (d : Dev) : Bool × Dev :=
  let a := d.flash.calA
  let b := d.flash.calB
  let uncal := fun (state : Nat) (d : Dev) =>
    let d := d.setObj K.PRISM_CAL_STATE state
    if d.bootObj K.PRISM_UNCAL_POLICY = 2 then (true, (d.useImage .nominal []).logFault 8 2 K.PRISM_STATE 0 3)
    else (false, d.useImage .none [])
  if a.isEmpty && b.isEmpty && d.start.calFail.isEmpty then
    uncal 6 ((d.setObj K.PRISM_CAL_CAUSE_A 0).setObj K.PRISM_CAL_CAUSE_B 0)
  else
    let ca := d.copyCause 0 a
    let cb := d.copyCause 1 b
    let d := (d.setObj K.PRISM_CAL_CAUSE_A ca).setObj K.PRISM_CAL_CAUSE_B cb
    if ca = 0 ∧ cb = 0 then (true, (d.setObj K.PRISM_CAL_STATE 1).useImage .copyA a)
    else if ca = 0 then (true, ((d.setObj K.PRISM_CAL_STATE 2).fault 8 K.PRISM_CAL_CAUSE_B 0).useImage .copyA a)
    else if cb = 0 then (true, ((d.setObj K.PRISM_CAL_STATE 3).fault 8 K.PRISM_CAL_CAUSE_A 0).useImage .copyB b)
    else uncal 4 d

/-- `PRISM_STATE`: nominal, raw drive, corrected, or not loaded. -/
def prismState (d : Dev) : Nat :=
  match d.prism.use with
  | .none => 4
  | .nominal => 3
  | _ => if d.obj K.PRISM_MODE = 2 then 2 else 1

/-! ### The arithmetic -/

/-- Headroom ceiling H. -/
def headroom (d : Dev) : Nat := d.obj K.PRISM_HEADROOM % 65536

/-- White ceiling in force c_w: the lesser of the wall's and the tile's (R255). -/
def whiteCeiling (d : Dev) : Nat := min (d.obj K.WALL_CEILING) d.prism.tileCeiling

/-- H_t of R345. -/
def headroomNow (d : Dev) : Nat :=
  let cw := d.whiteCeiling
  if cw = 0 then 0xFFFF else if cw < 0x8000 then min (d.headroom * 32768 / cw) 0xFFFF else d.headroom

/-- Ageing gain of a lamp in the snapshot in force, 0x8000 where none was supplied (R249). -/
def ageGain (d : Dev) (lamp : Nat) : Nat := (d.prism.ageSnap.look lamp).getD 0x8000

/-- Stage 1 (R250): the working linear value of one component. -/
def prismLinear (d : Dev) (v : Nat) : Nat :=
  let tcs := d.obj K.PRISM_IN_TCS
  let i := v / 16
  let t0 : Int := tfEntry tcs i
  let t1 : Int := tfEntry tcs (i + 1)
  let u := (t0 + ((t1 - t0) * ((v % 16 : Nat) : Int) + 8) / 16).toNat
  min ((u * d.obj K.PRISM_IN_SCALE + 32768) / 65536) (2 ^ 28 - 1)

/-- Stages 3 to 5 (R252, R254, R255) on one drive. -/
def prismGains (d : Dev) (lamp p v : Nat) : Nat :=
  let ga := clampN 0x8000 d.headroomNow (d.ageGain lamp)
  let v := min ((v * ga + 16384) / 32768) (2 ^ 28 - 1)
  let v := min ((v * d.obj (K.PRIM_THERMAL_GAIN p) + 16384) / 32768) (2 ^ 28 - 1)
  let s := d.obj K.FADER_STOPS
  let v := (v * ft (s % 64) + 16384) / 32768
  let v := (v * d.whiteCeiling + 16384) / 32768
  if s / 64 = 0 then v else (v + 2 ^ (s / 64 - 1)) / 2 ^ (s / 64)

/-- Entry of a drive curve: set 0 high, 1 low. -/
def curveAt (d : Dev) (set p i : Nat) : Nat :=
  match d.prism.use with
  | .copyA | .copyB => fieldAt (p * 16384 + set * 8192 + 2 * i) 2 d.prism.sect1
  | _ => 16 * i

/-- The count of input e (R258). -/
def curveCount (d : Dev) (set p e : Nat) : Nat :=
  if e = 0 then 0
  else
    let c0 : Int := d.curveAt set p (e / 4096)
    let c1 : Int := if e / 4096 < 4095 then (d.curveAt set p (e / 4096 + 1) : Int) else 65535
    clampN 0 65535 (c0 + ((c1 - c0) * ((e % 4096 : Nat) : Int) + 2048) / 4096).toNat

end Dev

/-- What Prism gives one lamp slot: count, range bit, and whether it was clipped at 0 or at full. -/
structure SlotOut where
  count : Nat
  low : Bool
  clipNeg : Bool
  clipFull : Bool
  deriving DecidableEq, Repr

def SlotOut.dark : SlotOut := { count := 0, low := false, clipNeg := false, clipFull := false }

namespace Dev

/-- One slot of one pixel in corrected drive (R251 to R259); `prevLow` is the range bit of the load image. -/
def prismSlot (d : Dev) (px p : Nat) (x : List Nat) (prevLow : Bool) : SlotOut :=
  let sum := fun set => ((List.range 3).foldl (fun a c => a + d.matrixAt px set p c * ((x.getD c 0 : Nat) : Int)) 0 + 4096) / 8192
  let d0 := fun set => (clampI 0 (2 ^ 28 - 1) (sum set)).toNat
  let hi := d.prismGains (4 * px + p) p (d0 0)
  let lo := d.prismGains (4 * px + p) p (d0 1)
  let eHi := min hi (2 ^ 24 - 1)
  let eLo := min (lo * 16) (2 ^ 24 - 1)
  let th := d.obj (K.PRIM_RANGE_THRESHOLD p)
  if eLo ≤ th ∨ (eLo ≤ th + d.obj (K.PRIM_RANGE_HYST p) ∧ prevLow) then
    { count := d.curveCount 1 p eLo, low := true, clipNeg := decide (sum 1 < 0), clipFull := false }
  else
    { count := d.curveCount 0 p eHi, low := false, clipNeg := decide (sum 0 < 0), clipFull := eHi == 2 ^ 24 - 1 }

/-- One slot in raw drive (R263). -/
def rawSlot (d : Dev) (p : Nat) (v : Nat × Nat × Nat) : SlotOut :=
  if bit p (d.obj K.PRISM_RAW_MASK) then
    { count := (match p with
        | 0 => v.1
        | 1 => v.2.1
        | 2 => v.2.2
        | _ => v.2.1), low := d.obj K.PRISM_RAW_RANGE == 1, clipNeg := false, clipFull := false }
  else .dark

/-- A pixel through Prism (R245 to R263): four slots. -/
def prismPixel (d : Dev) (px : Nat) (v : Nat × Nat × Nat) (prevLow : Nat → Bool) : List SlotOut :=
  let x := [d.prismLinear v.1, d.prismLinear v.2.1, d.prismLinear v.2.2]
  (List.range 4).map (fun p =>
    if !d.slotPresent p || d.prism.rebuilding.contains px then .dark
    else if d.obj K.PRISM_MODE = 2 then d.rawSlot p v
    else d.prismSlot px p x (prevLow p))

/-- Lamps that the headroom ceiling limits in the snapshot in force (R253, R345). -/
def headroomLimited (d : Dev) : Nat := (d.prism.ageSnap.filter (fun x => decide (d.headroomNow < x.2))).length

/-- The snapshot at the start of a pass for facet index 0 (R260, R261, R344). -/
def prismSnapshot (d : Dev) : Dev :=
  let d := d.setPrism (fun s => { s with ageSnap := s.ageStage, tileCeiling := d.obj K.LEDG_TILE_CEILING })
  let d := (List.range 4).foldl (fun d p => d.setObj (K.PRIM_THERMAL_GAIN p) (d.obj (K.THERM_GAIN p))) d
  d.setObj K.PRISM_HEADROOM_LIMITED d.headroomLimited

/-! ### Writing and erasing (R273, R274) -/

/-- Both copies have been written or erased, and hold these bytes (log entry 145). -/
def setCopies (img : Bytes) (d : Dev) : Dev :=
  { d with flash := { d.flash with calA := img, calB := img }, start := { d.start with calFail := [] } }

/-- The conditions of every chunk of `PRISM_CAL_IMAGE`, the role aside. -/
def calImageFirst (d : Dev) : Nat :=
  if d.obj K.SCAN_STATE ≠ 1 ∨ d.obj K.PRISM_CAL_STATE ≠ 6 then Status.NOT_IDLE else Status.OK

/-- The checks of a whole image: its length, then the causes of R269. -/
def calImageCheck (d : Dev) (img : Bytes) : Nat :=
  if img.length ≠ 64 + fieldAt 40 4 img then Status.LENGTH
  else if calCause d.fix.fuses.uid d.regionW d.regionH d.lampsPer img ≠ 0 then Status.RANGE
  else Status.OK

/-- The last chunk of an image: the status, and the device after it. -/
def calImageDone (img : Bytes) (readBackOk : Bool) (d : Dev) : Nat × Dev :=
  if d.calImageCheck img ≠ Status.OK then (d.calImageCheck img, d)
  else if !readBackOk then (Status.DEVICE, d)
  else (Status.OK, ((d.setCopies img).loadCorrections).2)

/-- Both copies are erased. -/
def calErase (d : Dev) : Dev := ((d.setCopies []).loadCorrections).2

end Dev

end Sys2Proof.Machine
end

