-- ==== Sys2Proof/Machine/SenseOps.lean ====
section
/-!
DEFINITION. Sys2Proof/Machine/SenseOps.lean: conversions, calibration runs, and the thermal loop (12_sense.md).
-/
namespace Sys2Proof.Machine

/-- A mean rounded to the nearest integer. -/
def meanOf (l : List Int) : Int := nearestDiv (l.foldl (· + ·) 0) l.length

/-- Points of a table of `n`-byte x values and `m`-byte y values, read with these signednesses. -/
def tablePoints (n m : Nat) (sx sy : Bool) (b : Bytes) : List (Int × Int) :=
  (List.range (b.length / (n + m))).map (fun i =>
    let x := fieldAt ((n + m) * i) n b
    let y := fieldAt ((n + m) * i + n) m b
    (if sx then toSigned (8 * n) x else (x : Int), if sy then toSigned (8 * m) y else (y : Int)))

/-- Linear interpolation between points with rising x, the end points beyond them (R364). -/
def interpolate (x : Int) : List (Int × Int) → Int
  | [] => 0
  | [p] => p.2
  | p :: q :: rest =>
    if x ≤ p.1 then p.2
    else if x ≤ q.1 then p.2 + nearestDiv ((q.2 - p.2) * (x - p.1)) (q.1 - p.1).toNat
    else interpolate x (q :: rest)

/-- Do x values rise strictly? -/
def risesStrictly : List Int → Bool
  | a :: b :: rest => decide (a < b) && risesStrictly (b :: rest)
  | _ => true

/-- R364: 128 bytes, voltages rising or falling strictly. -/
def senseTableOk (b : Bytes) : Bool :=
  let xs := (tablePoints 4 4 false true b).map (·.1)
  b.length == 128 && (risesStrictly xs || risesStrictly xs.reverse)

/-- R376: 64 bytes, temperatures rising strictly, gains 0x4000 to 0xFFFF. -/
def thermTableOk (b : Bytes) : Bool :=
  let ps := tablePoints 2 2 true false b
  b.length == 64 && risesStrictly (ps.map (·.1)) && ps.all (fun p => decide (0x4000 ≤ p.2))

/-- The default of `SNSi_TABLE`: 0 µV to 1,250,000 µV in 16 points, value 0.  DESIGN CHOICE, log entry 42: equal steps. -/
def senseTableDefault : Bytes := (List.range 16).flatMap (fun i => be 4 (1250000 * i / 15) ++ be 4 0)

/-- The default of `THERMp_TABLE`: −20 °C to +130 °C in 10 °C steps, gain 0x8000. -/
def thermTableDefault : Bytes :=
  (List.range 16).flatMap (fun i => be 2 (ofSigned 16 (160 * Int.ofNat i - 320)) ++ be 2 0x8000)

/-- A corrected sample (R363): µV, and whether it is valid. -/
def correctCode (zero : Int) (gain : Nat) (code : Int) (rail : Bool) : Nat × Bool :=
  let y := ((code - zero) * gain + 2 ^ 21) / 2 ^ 22
  let c := (clampI 0 (2 ^ 24 - 1) y).toNat
  ((c * 1250000 + 2 ^ 23) / 2 ^ 24, !rail && decide (0 ≤ y) && decide (y ≤ 2 ^ 24 - 1))

/-- z and ρ of R367: the mean of the last 120 conversions of a phase, rounded to nearest. -/
def phaseMean (codes : List Int) : Int := meanOf (codes.drop (codes.length - 120))

/-- R367: does a calibration with zero code `z` and reference code `r` fail? -/
def calFails (z r : Int) : Bool :=
  decide (65536 < z.natAbs) || decide (r - z < 13153338) || decide (13690208 < r - z)

/-- The gain of R367. -/
def calGain (z r : Int) : Nat := (nearestDiv (13421773 * 2 ^ 22) (r - z).toNat).toNat

def SenseInput.fresh : SenseInput :=
  { sum := 0, count := 0, absent := true, outside := 0, logged := false, dark := none, baseline := false, pdSum := 0,
    pdCount := 0, litSum := 0, litCount := 0, pdBad := 0, pdLogged := false }

namespace Dev

def setSense (f : SenseSt → SenseSt) (d : Dev) : Dev := { d with sense := f d.sense }

def senseIn (d : Dev) (i : Nat) : SenseInput := (d.sense.inputs[i]?).getD .fresh

def setSenseIn (i : Nat) (f : SenseInput → SenseInput) (d : Dev) : Dev :=
  d.setSense (fun s => { s with inputs := upd i f s.inputs })

def adcState (d : Dev) (c : Nat) : Nat := d.obj (K.ADC_STATE c)

/-- Table of an input, the default where none was written. -/
def senseTable (d : Dev) (i : Nat) : Bytes :=
  let b := d.blob (K.SNS_TABLE i)
  if b.isEmpty then senseTableDefault else b

def thermTable (d : Dev) (p : Nat) : Bytes :=
  let b := d.blob (K.THERM_TABLE p)
  if b.isEmpty then thermTableDefault else b

/-- The value of a sample by the input's kind. -/
def senseConvert (d : Dev) (i v : Nat) : Int :=
  match d.obj (K.SNS_KIND i) with
  | 1 => nearestDiv ((v * d.obj (K.SNS_SCALE i) : Nat) : Int) 65536
  | 2 =>
    let ps := tablePoints 4 4 false true (d.senseTable i)
    interpolate v (if risesStrictly (ps.map (·.1)) then ps else ps.reverse)
  | 3 => (v : Int) - d.obj (K.SNS_PD_DARK i)
  | _ => 0

/-- A converter's sample of an input among the readings of a period. -/
def sampleOf (d : Dev) (rs : List SenseReading) (c i : Nat) : Option (Nat × Bool) :=
  (rs.find? (fun r => r.conv == c && r.input == i)).map (fun r =>
    correctCode (d.objI 32 (K.ADC_ZERO c)) (d.obj (K.ADC_GAIN c)) r.code r.rail)

/-- The converters that serve an input in the present period: one, or two with the period of their crossfade. -/
def serversOf (d : Dev) (i : Nat) : Option (Nat × Option (Nat × Nat)) :=
  let c := i / 2
  match d.sense.phase with
  | .starting => none
  | .toSpare a => if a = c then some (c, some (8, min d.sense.periods 64)) else some (c, none)
  | .zero a | .refer a => if a = c then some (8, none) else some (c, none)
  | .back a => if a = c then some (8, some (c, min d.sense.periods 64)) else some (c, none)
  | _ =>
    if d.adcState c ≠ 5 then some (c, none)
    else if d.obj K.SNS_SPARE_FOR = c ∧ d.adcState 8 ≠ 5 then some (8, none) else none

/-- The sample of an input in the present period: µV, valid. -/
def inputSample (d : Dev) (rs : List SenseReading) (i : Nat) : Option (Nat × Bool) :=
  match d.serversOf i with
  | none => none
  | some (a, none) => d.sampleOf rs a i
  | some (a, some (b, k)) =>
    match d.sampleOf rs a i, d.sampleOf rs b i with
    | some va, some vb => some (((64 - k) * va.1 + k * vb.1 + 32) / 64, va.2 && vb.2)
    | _, _ => none

/-- One input in one conversion period. -/
def takeSample (rs : List SenseReading) (i : Nat) (d : Dev) : Dev :=
  if d.obj (K.SNS_KIND i) = 0 then d
  else match d.inputSample rs i with
    | none => d
    | some (_, false) => d.bump (K.SNS_SATURATED i)
    | some (v, true) =>
      let x := d.senseConvert i v
      (d.setSenseIn i (fun s =>
        { s with sum := s.sum + x, count := s.count + 1,
                 dark := s.dark.map (fun (t, a, n) => (t, a + v, n + 1)) })).setObj (K.SNS_VOLTAGE i) v

/-- A run ends (R369, R370). -/
def calRunEnd (complete : Bool) (d : Dev) : Dev :=
  let d := d.setSense (fun s => { s with phase := .idle, periods := 0, lastEnd := some d.now })
  let d := (d.setObj K.SNS_CAL_LAST d.wall).bumpWrap K.SNS_CAL_RUNS
  if complete then (d.setObjI 16 K.SNS_CAL_TEMP d.sense.startTemp).setObj K.SNS_STATE 2 else d

/-- A converter is retired (R370, R372). -/
def retireConverter (c : Nat) (d : Dev) : Dev :=
  let had := (List.range 9).any (fun k => d.adcState k == 5)
  let d := (d.setObj (K.ADC_STATE c) 5).fault 13 (K.ADC_STATE c) c
  if had then d.setObj K.SNS_STATE 5
  else
    let d := d.setObj K.SNS_STATE 4
    if c = 8 then d else (d.setObj K.SNS_SPARE_FOR c).setObj (K.ADC_STATE 8) 1

/-- A run starts at a conversion period (R369, R371). -/
def calRunStart (d : Dev) : Dev :=
  let d := d.setSense (fun s =>
    { s with phase := .spare, periods := 0, due := false, startTemp := d.objI 16 K.SNS_DIE_TEMP })
  (d.setObj K.SNS_STATE 3).setObj (K.ADC_STATE 8) 3

/-- In the first period of a return crossfade the two converters must agree (R370). -/
def handoverCheck (rs : List SenseReading) (d : Dev) : Dev :=
  match d.sense.phase with
  | .back c =>
    if d.sense.periods ≠ 1 then d
    else
      let far := [2 * c, 2 * c + 1].any (fun i =>
        match d.sampleOf rs 8 i, d.sampleOf rs c i with
        | some a, some b => decide (d.obj K.SNS_HANDOVER_TOL < ((a.1 : Int) - (b.1 : Int)).natAbs)
        | _, _ => false)
      if far then (d.retireConverter c).calRunEnd false else d
  | _ => d

/-- A conversion period begins (R371, R373): a run that is due starts with it, and the start calibration takes the die
temperature of its first period. -/
def periodBegin (d : Dev) : Dev :=
  let d := if d.sense.due && d.sense.phase == .idle then d.calRunStart else d
  d.setSense (fun s =>
    { s with periods := s.periods + 1
             startTemp := if s.phase = .starting ∧ s.periods = 0 then d.objI 16 K.SNS_DIE_TEMP else s.startTemp })

/-- SENSE_CONVERSION_TRIGGER, at wall nanoseconds that are a multiple of 500,000 (R362, R363, R368). -/
def convert (rs : List SenseReading) (dieTemp : Int) (d : Dev) : Dev :=
  if d.wall % 500000 ≠ 0 then d
  else (List.range 16).foldl (fun d i => d.takeSample rs i)
    (((d.setObjI 16 K.SNS_DIE_TEMP dieTemp).periodBegin).handoverCheck rs)

/-- The step in progress has run its periods. -/
def calStepRun (d : Dev) : Bool :=
  match d.sense.phase with
  | .idle | .starting => false
  | .spare => decide (128 ≤ d.sense.periods)
  | _ => decide (64 ≤ d.sense.periods)

def calPhaseTo (p : CalPhase) (d : Dev) : Dev := d.setSense (fun s => { s with phase := p, periods := 0 })

/-- New corrections of a converter. -/
def setCorrections (c : Nat) (z r : Int) (d : Dev) : Dev :=
  (d.setObjI 32 (K.ADC_ZERO c) z).setObj (K.ADC_GAIN c) (calGain z r)

/-- A step of a calibration run ends, with what it measured (R367, R369, R370). -/
def calStepEnd (m : CalMeasure) (d : Dev) : Dev :=
  let z := phaseMean m.zeros
  let r := phaseMean m.refs
  if !d.calStepRun then d
  else match d.sense.phase with
    | .spare =>
      if calFails z r then (((d.bump (K.ADC_CAL_FAILS 8)).retireConverter 8).calRunEnd false)
      else (((d.setCorrections 8 z r).setObj (K.ADC_STATE 8) 6).setObj (K.ADC_STATE 0) 2).calPhaseTo (.toSpare 0)
    | .toSpare c =>
      ((((d.setObj (K.ADC_STATE c) 3).setObj (K.ADC_STATE 8) 1).setObj K.SNS_SPARE_FOR c)).calPhaseTo (.zero c)
    | .zero c => (d.setSense (fun s => { s with zero := z })).calPhaseTo (.refer c)
    | .refer c =>
      if calFails d.sense.zero r then (((d.bump (K.ADC_CAL_FAILS c)).retireConverter c).calRunEnd false)
      else ((d.setCorrections c d.sense.zero r).setObj (K.ADC_STATE c) 4).calPhaseTo (.back c)
    | .back c =>
      let d := ((d.setObj (K.ADC_STATE c) 1).setObj (K.ADC_STATE 8) 6).setObj K.SNS_SPARE_FOR 255
      if c < 7 then (d.setObj (K.ADC_STATE (c + 1)) 2).calPhaseTo (.toSpare (c + 1)) else d.calRunEnd true
    | _ => d

/-- Every thermal window begins anew (R365). -/
def windowsBegin (d : Dev) : Dev :=
  (List.range 16).foldl (fun d i => d.setSenseIn i (fun s => { s with sum := 0, count := 0 })) d

/-- The sense block starts (R373). -/
def senseStart (d : Dev) : Dev :=
  let d := d.windowsBegin
  let d := d.setSense (fun s =>
    { s with phase := .starting, periods := 0, due := false, startTemp := d.objI 16 K.SNS_DIE_TEMP, settled := false })
  (List.range 9).foldl (fun d c => d.setObj (K.ADC_STATE c) 3) ((d.setObj K.SNS_STATE 1).setObj K.SNS_SPARE_FOR 255)

/-- The start calibration ends after its 128 periods, with what converters 0 to 8 measured (R373). A converter that fails is
retired.  DEDUCED, log entry 41. -/
def senseStartDone (ms : List CalMeasure) (d : Dev) : Dev :=
  if d.sense.phase ≠ .starting ∨ d.sense.periods < 128 then d
  else
    let d := (List.range 9).foldl (fun d c => d.setObj (K.ADC_STATE c) (if c = 8 then 6 else 1)) d
    let d := (((d.setSense (fun s => { s with phase := .idle, periods := 0, lastEnd := some d.now })).setObj K.SNS_STATE
      2).setObjI 16 K.SNS_CAL_TEMP d.sense.startTemp)
    ([8, 0, 1, 2, 3, 4, 5, 6, 7] : List Nat).foldl (fun d c =>
      match ms[c]? with
      | none => d
      | some m =>
        let z := phaseMean m.zeros
        let r := phaseMean m.refs
        if calFails z r then (d.bump (K.ADC_CAL_FAILS c)).retireConverter c else d.setCorrections c z r) d

/-- Is a run in progress or any converter retired (R372)? -/
def calStartCheck (d : Dev) : Nat :=
  if (List.range 9).any (fun k => d.adcState k == 5) then Status.DEVICE
  else if d.sense.phase ≠ .idle ∨ d.sense.due then Status.BUSY
  else Status.OK

/-! ### The thermal loop -/

/-- The mean of the window in progress, and the window begins anew (R365). -/
def closeWindow (i : Nat) (d : Dev) : Dev :=
  let s := d.senseIn i
  let d := d.setSenseIn i (fun s => { s with sum := 0, count := 0, absent := decide (s.count < 100) })
  if d.obj (K.SNS_KIND i) = 0 then d.setObj (K.SNS_VALUE i) 0
  else if s.count < 100 then d
  else
    let v := unstatedDiv s.sum s.count
    (d.setObjI 32 (K.SNS_VALUE i) v).setSenseIn i (fun s => { s with pdSum := s.pdSum + v, pdCount := s.pdCount + 1 })

/-- Limits of an input (R366): the third cycle in succession outside them counts an event.  A cycle without a value breaks the
succession (DEDUCED, log entry 156). -/
def checkLimits (i : Nat) (d : Dev) : Dev :=
  let k := d.obj (K.SNS_KIND i)
  let s := d.senseIn i
  if (k ≠ 1 ∧ k ≠ 2) ∨ s.absent then d.setSenseIn i (fun s => { s with outside := 0 })
  else
    let v := d.objI 32 (K.SNS_VALUE i)
    if d.objI 32 (K.SNS_LOW i) ≤ v ∧ v ≤ d.objI 32 (K.SNS_HIGH i) then
      d.setSenseIn i (fun s => { s with outside := 0, logged := false })
    else
      let n := s.outside + 1
      let d := d.setSenseIn i (fun s => { s with outside := n })
      if 3 ≤ n ∧ !s.logged then
        (d.setSenseIn i (fun s => { s with logged := true })).bumpFault 13 (K.SNS_LIMIT_EVENTS i) i
      else d

/-- Inputs assigned to a slot (R374). -/
def slotInputs (d : Dev) (p : Nat) : List Nat :=
  (List.range 16).filter (fun i => d.obj (K.SNS_KIND i) == 2 && bit p (d.obj (K.SNS_PRIMARY_MASK i)))

/-- φ of a slot at a temperature (R341, R342). -/
def tempFactor (d : Dev) (p : Nat) (temp : Int) : Nat :=
  if d.obj (K.LEDG_CURVE_VALID p) = 0 then 0x1000
  else (interpolate temp (tablePoints 2 2 true false (slice (64 * p) 64 (calSection d.prism.image 4)))).toNat

/-- T_p of a slot is published, with the φ the ledger takes from it (R341, R374). -/
def publishTemp (p : Nat) (temp : Int) (d : Dev) : Dev :=
  let d := d.setObjI 16 (K.LEDG_TEMP p) temp
  d.setObj (K.LEDG_TEMP_FACTOR p) (d.tempFactor p temp)

/-- The gain of a slot moves toward its target (R376, R377); `jump`: it takes it at once (R378). -/
def moveGain (jump : Bool) (p : Nat) (d : Dev) : Dev :=
  let temp := d.objI 16 (K.LEDG_TEMP p)
  let target := (interpolate temp (tablePoints 2 2 true false (d.thermTable p))).toNat
  let g := d.obj (K.THERM_GAIN p)
  let stepMax := max 1 (g * 1048 / 2 ^ 20)
  let d := d.setObj (K.THERM_TARGET p) target
  if jump then d.setObj (K.THERM_GAIN p) target
  else if g ≤ target then d.setObj (K.THERM_GAIN p) (g + min (target - g) stepMax)
  else d.setObj (K.THERM_GAIN p) (g - min (g - target) stepMax)

/-- Once every input of a slot has been absent for 10 s, T_p is `THERM_FAIL_TEMP` (R375). -/
def thermFail (p : Nat) (d : Dev) : Dev :=
  match (d.sense.absentSince[p]?).getD none with
  | none => d
  | some t0 => if t0 + 10000000000 ≤ d.now then d.publishTemp p (d.objI 16 K.THERM_FAIL_TEMP) else d

/-- One slot in a thermal cycle (R374 to R377). -/
def thermSlot (jump : Bool) (p : Nat) (d : Dev) : Dev :=
  let ins := d.slotInputs p
  let present := ins.filter (fun i => !(d.senseIn i).absent)
  let d := d.setObj (K.THERM_INPUTS p) present.length
  let back := d.setSense (fun s => { s with absentSince := upd p (fun _ => none) s.absentSince })
  let off := d.objI 16 (K.THERM_OFFSET p)
  if ins.isEmpty then (back.publishTemp p (d.objI 16 K.SNS_DIE_TEMP + off)).moveGain jump p
  else if present.isEmpty then
    match (d.sense.absentSince[p]?).getD none with
    | none => (d.setSense (fun s => { s with absentSince := upd p (fun _ => some d.now) s.absentSince })).fault 13
        (K.THERM_INPUTS p) p
    | some _ => d.thermFail p
  else (back.publishTemp p (meanOf (present.map (fun i => d.objI 32 (K.SNS_VALUE i))) + off)).moveGain jump p

/-- Has every slot below the lamps per pixel an assigned input that is not absent, or none assigned (R378)? -/
def slotsReady (d : Dev) : Bool :=
  (List.range d.lampsPer).all (fun p =>
    (d.slotInputs p).isEmpty || (d.slotInputs p).any (fun i => !(d.senseIn i).absent))

/-- The loop on a tile: the first cycle after the start calibration at which every slot is ready takes the targets at once
(R374 to R378). -/
def thermLoop (d : Dev) : Dev :=
  let jump := d.slotsReady && !d.sense.settled && d.sense.phase != .starting
  let d := ((List.range d.lampsPer).foldl (fun d p => d.thermSlot jump p) d).bumpWrap K.THERM_CYCLES
  if jump then d.setSense (fun s => { s with settled := true }) else d

/-- Does the automatic condition of R371 hold? -/
def calAutoDue (d : Dev) : Bool :=
  d.obj K.SNS_CAL_AUTO == 1 &&
    decide (d.obj K.SNS_CAL_DELTA_T < (d.objI 16 K.SNS_DIE_TEMP - d.objI 16 K.SNS_CAL_TEMP).natAbs) &&
    (match d.sense.lastEnd with
      | none => true
      | some e => decide (e + d.obj K.SNS_CAL_MIN_GAP * 1000000000 ≤ d.now))

/-- A trigger while the control processors restart: the loop holds (R537), and the window, which lasts 100 ms, passes unread
(R365). -/
def windowPasses (d : Dev) : Dev := if d.wall % 100000000 = 0 then d.windowsBegin else d

/-- THERMAL_LOOP_TRIGGER, at wall nanoseconds that are a multiple of 100,000,000: windows close, limits are judged, and on a
tile the loop runs (R365, R366, R371, R374 to R378). -/
def thermalCycle (d : Dev) : Dev :=
  if d.wall % 100000000 ≠ 0 then d
  else
    let d := (List.range 16).foldl (fun d i => (d.closeWindow i).checkLimits i) d
    let d := if d.isTile then d.thermLoop else d
    if d.calStartCheck = Status.OK ∧ d.calAutoDue then d.setSense (fun s => { s with due := true }) else d

/-! ### Photodiode captures (R380) -/

/-- A dark capture is accepted in Dark alone. -/
def pdDarkStart (i : Nat) (d : Dev) : Dev := d.setSenseIn i (fun s => { s with dark := some (d.now, 0, 0) })

/-- The 1 s of a dark capture has passed. -/
def pdDarkEnd (i : Nat) (d : Dev) : Dev :=
  match (d.senseIn i).dark with
  | none => d
  | some (t0, sum, n) =>
    if t0 + 1000000000 ≤ d.now then
      let d := d.setSenseIn i (fun s => { s with dark := none })
      if n = 0 then d else d.keepObj (K.SNS_PD_DARK i) (unstatedDiv (sum : Int) n).toNat
    else d

end Dev

end Sys2Proof.Machine
end

