-- ==== Sys2Proof/Machine/ScanFig.lean ====
section
/-!
DEFINITION. Sys2Proof/Machine/ScanFig.lean: board scan properties, the figures derived from them, and the lamp map
(R217, R222, R225, R290 to R299, R306, R307, R316).
-/
namespace Sys2Proof.Machine

/-- Scan multiplex m of a code. -/
def muxOf : Nat → Nat
  | 1 => 8
  | 2 => 16
  | 3 => 24
  | _ => 32

/-- GCLK rate in MHz of a code. -/
def gclkOf : Nat → Nat
  | 1 => 80
  | 2 => 120
  | _ => 160

/-- GCLK spread in per mille of a code. -/
def spreadOf : Nat → Nat
  | 1 => 5
  | 2 => 10
  | 3 => 20
  | _ => 0

/-- Segments S of a code of `LDL_SEGMENTS`. -/
def segsOf : Nat → Nat
  | 1 => 16
  | 2 => 32
  | 3 => 64
  | _ => 128

/-- G of R217 for an aperture of `a` ns. -/
def gCountOf (a f s m : Nat) : Nat := a * f * (2000 - s) / (2000000 * m)

/-- Lit counts t of a grey count (R295). -/
def litCount (g u : Nat) : Nat := min u ((g * u + 32768) / 65536)

/-- log2 of a segment count. -/
def log2Segs (s : Nat) : Nat := if s = 16 then 4 else if s = 32 then 5 else if s = 64 then 6 else 7

/-- Lit counts n(s) of segment period `s` (R296). -/
def segCount (segs t s : Nat) : Nat :=
  let b := t / segs
  if reflect (log2Segs segs) s < t % segs then b + 1 else b

/-- GCLK counts from wall nanosecond 0 to `w` in units of 1/31,250,000,000 count: the triangular spread of R290. -/
def gclkPhase (f s w : Nat) : Nat :=
  let half := fun (u : Nat) => f * (31250000 * u - s * (u * u))
  let period := 2 * half 15625
  let u := w % 31250
  (w / 31250) * period + (if u ≤ 15625 then half u else period - half (31250 - u))

/-- Count of the first GCLK rising edge at or after `len` ns from a mark at wall nanosecond `w` (R292). -/
def gclkCountAt (f s w len : Nat) : Nat := ceilDiv (gclkPhase f s (w + len) - gclkPhase f s w) 31250000000

/-- Nanoseconds of `n` counts at the lowest frequency of the spread, rounded up (R316). -/
def slowNs (f s n : Nat) : Nat := ceilDiv (n * 1000000) (f * (1000 - s))

namespace Dev

def mux (d : Dev) : Nat := muxOf (d.obj K.SCAN_MULTIPLEX)
def gclk (d : Dev) : Nat := gclkOf (d.obj K.GCLK_RATE)
def gspread (d : Dev) : Nat := spreadOf (d.obj K.GCLK_SPREAD)
def segs (d : Dev) : Nat := segsOf (d.obj K.LDL_SEGMENTS)

/-- Aperture length under the mode in force. -/
def apertureNow (d : Dev) : Nat := if d.mode = 0 then 0 else apertureLen d.mode (d.obj K.APERTURE_FRACTION)

/-- G for a mode and aperture fraction. -/
def gCount (d : Dev) (mode fraction : Nat) : Nat := gCountOf (apertureLen mode fraction) d.gclk d.gspread d.mux

/-- Row slot Q (R295). -/
def rowSlot (d : Dev) (mode fraction : Nat) : Nat := d.gCount mode fraction / d.segs

/-- Lit counts U available (R295). -/
def litAvail (d : Dev) (mode fraction : Nat) : Nat := d.segs * (d.rowSlot mode fraction - d.obj K.LDL_DEAD_TIME)

/-- W_det. -/
def detCounts (d : Dev) : Nat := ceilDiv (40 * d.gclk) 1000

/-- W of a test pulse (R316). -/
def testCounts (d : Dev) : Nat := max (ceilDiv (d.obj K.DIAG_TEST_WIDTH * d.gclk) 1000) d.detCounts

/-- Counts of a test slot: 2 × D_t + W. -/
def testSlot (d : Dev) : Nat := 2 * d.obj K.LDL_DEAD_TIME + d.testCounts

/-! ### The lamp map -/

/-- A used entry: pixel x, y and slot (R306). -/
structure MapEntry where
  x : Nat
  y : Nat
  slot : Nat
  deriving DecidableEq, Repr

/-- The entry of a map word; none where USED is clear. -/
def mapEntry (w : Nat) : Option MapEntry :=
  if bit 31 w then some { x := bits 11 9 w, y := bits 2 9 w, slot := w % 4 } else none

/-- Map words of a driver row, channel 0 first. -/
def mapRow (map : Bytes) (s p r : Nat) : List Nat :=
  let b := slice (192 * ((s * 24 + p) * 32 + r)) 192 map
  (List.range 48).map (fun ch => fieldAt (4 * ch) 4 b)

/-- Driver rows that the tile writes: strand, driver, row (log entry 43). -/
def driverRows (d : Dev) : List (Nat × Nat × Nat) :=
  (List.range 32).flatMap (fun s =>
    if bit s (d.obj K.LDL_STRAND_MASK) then
      (List.range (d.obj (K.STR_DRIVERS_EXPECTED s))).flatMap (fun p => (List.range d.mux).map (fun r => (s, p, r)))
    else [])

/-- The wale whose load writes a driver row: that of its lamps, or row modulo n where it has none (log entry 43). -/
def waleOfRow (d : Dev) (s p r : Nat) : Nat :=
  match (mapRow (d.blob K.LDL_LAMP_MAP) s p r).filterMap mapEntry with
  | e :: _ => e.y / 16
  | [] => r % max 1 d.wales

/-- The WRITE_ROW packets of a wale: strand, row, and the run of drivers, first and number (log entry 43). -/
def waleWrites (d : Dev) (i : Nat) : List (Nat × Nat × Nat × Nat) :=
  (List.range 32).flatMap (fun s =>
    if bit s (d.obj K.LDL_STRAND_MASK) then
      (List.range d.mux).flatMap (fun r =>
        let ps := (List.range (d.obj (K.STR_DRIVERS_EXPECTED s))).filter (fun p => d.waleOfRow s p r == i)
        (ps.foldl (fun (acc : List (Nat × Nat)) p =>
          match acc with
          | (a, n) :: rest => if a + n = p then (a, n + 1) :: rest else (p, 1) :: acc
          | [] => [(p, 1)]) []).reverse.map (fun x => (s, r, x.1, x.2)))
    else [])

/-- Nanoseconds a packet of `words` words takes on a strand, its gap included: mean SCK rate under spread. -/
def ldlTime (d : Dev) (words : Nat) : Nat :=
  let rate := if d.obj K.LDL_BIT_RATE = 1 then 125 else 250
  ceilDiv (words * 16 * 1000 * 2000) (rate * (2000 - d.gspread)) + 40

/-- t_w: the longest load of one wale on any strand (R305). -/
def waleLoadTime (d : Dev) : Nat :=
  (List.range d.wales).foldl (fun acc i =>
    let ws := d.waleWrites i
    (List.range 32).foldl (fun acc s =>
      max acc (ws.foldl (fun a w => if w.1 = s then a + d.ldlTime (3 + 60 * w.2.2.2) else a) 0)) acc) 0

/-- R307 on the map alone: every condition it breaks makes it invalid. -/
def lampMapOk (d : Dev) : Bool :=
  let map := d.blob K.LDL_LAMP_MAP
  let rows := if map.isEmpty then [] else
    (List.range 32).flatMap (fun s => (List.range 24).flatMap (fun p => (List.range 32).map (fun r => (s, p, r))))
  let used := rows.flatMap (fun x =>
    ((mapRow map x.1 x.2.1 x.2.2).filterMap mapEntry).map (fun e => (x, (e.y * d.regionW + e.x) * 4 + e.slot, e)))
  let lamps := (List.range d.regionPixels).flatMap (fun px =>
    ((List.range 4).filter (fun p => d.slotPresent p)).map (fun p => 4 * px + p))
  used.all (fun u => decide (u.2.2.x < d.regionW) && decide (u.2.2.y < d.regionH) && d.slotPresent u.2.2.slot) &&
  noTwice (used.map (fun u => u.2.1)) && used.length == lamps.length &&
  used.all (fun u => bit u.1.1 (d.obj K.LDL_STRAND_MASK) &&
    decide (u.1.2.1 < d.obj (K.STR_DRIVERS_EXPECTED u.1.1)) && decide (u.1.2.2 < d.mux)) &&
  rows.all (fun x =>
    let es := (mapRow map x.1 x.2.1 x.2.2).filterMap mapEntry
    es.all (fun e => e.y / 16 == (es.head?.map (fun h => h.y / 16)).getD 0))

/-- R306: unused entries and bits 30 to 20 are zero. -/
def mapWordsOk (map : Bytes) : Bool :=
  map.length == 4718592 && (List.range 1179648).all (fun i =>
    let w := fieldAt (4 * i) 4 map
    if bit 31 w then bits 20 11 w == 0 else w == 0)

/-! ### Fit (R219, R225, R299) -/

/-- Does the tile's scan-out fit a mode and fraction? -/
def fits (d : Dev) (mode fraction : Nat) : Bool :=
  let n := d.wales
  let tw := d.waleLoadTime
  let p := periodMin mode
  mode != 0 && n != 0 && d.regionW != 0 && d.lampsPer != 0 && decide (tw ≤ 136000) &&
    decide (n * tw + ceilDiv (p - 200000) n ≤ p - 64000) &&
    decide (d.obj K.LDL_DEAD_TIME + 2 ≤ d.rowSlot mode fraction)

/-- `SCAN_FIT`. -/
def scanFit (d : Dev) : Bool := d.fits d.mode (d.obj K.APERTURE_FRACTION)

/-- K_i of wale i for the facet of boundary `f` (R222). -/
def waleDue (d : Dev) (f : Time) (i : Nat) : Time := f - latchLead - (d.wales - i) * d.waleLoadTime

/-- The plan of a mode and fraction (R282). -/
def planOf (d : Dev) (mode fraction : Nat) : Plan :=
  { segs := d.segs, mux := d.mux, g := d.gCount mode fraction, dead := d.obj K.LDL_DEAD_TIME, det := d.detCounts }

end Dev
end Sys2Proof.Machine
end

