-- ==== Sys2Proof/Machine/DriverOps.lean ====
section
/-!
DEFINITION. Sys2Proof/Machine/DriverOps.lean: LDL packets and the column drivers that receive them (R278 to R298, R301,
R308 to R311).
-/
namespace Sys2Proof.Machine

/-! ### Packets (R279, R281, R282) -/

/-- The header word W0. -/
def ldlHead (p : LdlPkt) : Nat := p.opcode * 4096 + p.addr * 128 + p.count

/-- The CRC word of a packet: CRC-16/CCITT-FALSE of the words before it, high byte first. -/
def ldlCrc (p : LdlPkt) : Nat := crc16 ((ldlHead p :: p.words).flatMap (fun w => be 2 w))

/-- A packet with its CRC word. -/
def mkLdl (opcode addr count : Nat) (words : List Nat) : LdlPkt :=
  let p : LdlPkt := { opcode := opcode, addr := addr, count := count, words := words, crc := 0 }
  { p with crc := ldlCrc p }

/-- All words of a packet as sent. -/
def ldlWords (p : LdlPkt) : List Nat := ldlHead p :: (p.words ++ [p.crc])

/-- Placeholder words of a READ_DIAG item (R311). -/
def diagWords (item : Nat) : Nat := if item = 1 then 9 else if item = 2 ∨ item = 3 then 4 else 0

/-- Words between W0 and the CRC that the opcode and COUNT define; none for a reserved opcode. -/
def ldlLength (p : LdlPkt) : Option Nat :=
  match p.opcode with
  | 1 => some (1 + 60 * p.count)
  | 2 => some 3
  | 3 => some 4
  | 4 | 5 => some 1
  | 6 => some (3 + 3 * p.count)
  | 7 => some (1 + diagWords (p.words.headD 0 / 256))
  | 8 => some 1
  | _ => none

/-- The packet passes the CRC and length checks of R283; a reserved opcode has no length. -/
def ldlSound (p : LdlPkt) : Bool :=
  p.crc == ldlCrc p && (match ldlLength p with
    | some n => p.words.length == n
    | none => true)

/-- A 20-bit drive word packed into bits (R285). -/
def driveBits (w : Nat) : List Bool := bitsOf 20 w

/-- 16-bit words from bits, most significant first. -/
def wordsOfBits : Nat → List Bool → List Nat
  | 0, _ => []
  | n + 1, bs => (bs.take 16).foldl (fun a b => 2 * a + b2n b) 0 :: wordsOfBits n (bs.drop 16)

/-- The 60 words of a WRITE_ROW block (R285). -/
def packDrive (ws : List Nat) : List Nat := wordsOfBits 60 (ws.flatMap driveBits)

/-- Drive words from bits. -/
def driveOfBits : Nat → List Bool → List Nat
  | 0, _ => []
  | n + 1, bs => (bs.take 20).foldl (fun a b => 2 * a + b2n b) 0 :: driveOfBits n (bs.drop 20)

/-- The 48 drive words of a block. -/
def unpackDrive (ws : List Nat) : List Nat := driveOfBits 48 (ws.flatMap (bitsOf 16))

/-- A 48-bit mask as three words, channel 0 in bit 15 of the first. -/
def maskWords (m : Nat) : List Nat := [m / 2 ^ 32 % 2 ^ 16, m / 2 ^ 16 % 2 ^ 16, m % 2 ^ 16]

/-- The mask bit of a channel. -/
def chanBit (ch : Nat) : Nat := 2 ^ (47 - ch)

def wordsMask (ws : List Nat) : Nat := ws.foldl (fun a w => a * 2 ^ 16 + w) 0

/-! ### The column driver -/

/-- A driver at power-on (R308). -/
def Driver.powerOn : Driver :=
  { addr := none, blanked := true, unblank := false, bank0 := [], bank1 := [], front := 0, written := 0, dark := 0,
    plan := none, staged := none, flips := [], flip := none, due := none, markAt := none, ratio := 0, armed := [],
    running := [], flags := [], darkSeen := 0, crcErrors := 0 }

/-- Does a packet address the driver (R283)? -/
def Driver.hears (v : Driver) (p : LdlPkt) : Bool := p.addr == 31 || (decide (p.addr < 24) && v.addr == some p.addr)

/-- The block of a packet addressed to the driver (R282). -/
def Driver.blockOf (v : Driver) (p : LdlPkt) : Option Nat :=
  match v.addr with
  | none => none
  | some a => if p.addr ≤ a ∧ p.addr < 24 ∧ a < p.addr + p.count ∧ p.count ≤ 24 then some (a - p.addr) else none

/-- A CRC or length failure is counted, and nothing of the packet is acted on (R283). -/
def Driver.refuse (v : Driver) : Driver := { v with crcErrors := min (v.crcErrors + 1) 0xFFFF }

/-- A driver that counts unsound packets and acts on sound ones. -/
def Driver.take (p : LdlPkt) (act : Driver → Driver) (v : Driver) : Driver := if ldlSound p then act v else v.refuse

def putRow (r : Nat) (ws : List Nat) (bank : List (Nat × List Nat)) : List (Nat × List Nat) :=
  (r, ws) :: bank.filter (fun x => x.1 != r)

/-- WRITE_ROW into the back bank (R286, R287). -/
def Driver.writeRow (p : LdlPkt) (v : Driver) : Driver :=
  match v.blockOf p with
  | none => v
  | some b =>
    let r := p.words.headD 0 % 32
    let ws := unpackDrive ((p.words.drop (1 + 60 * b)).take 60)
    let v := { v with written := setBit r true v.written }
    if v.front = 0 then { v with bank1 := putRow r ws v.bank1 } else { v with bank0 := putRow r ws v.bank0 }

/-- SET_PLAN stages a plan (R308). -/
def Driver.setPlan (p : LdlPkt) (v : Driver) : Driver :=
  if p.addr = 31 then
    let w := fun i => p.words.getD i 0
    let q : Plan :=
      { segs := 16 * 2 ^ (w 0 / 2 ^ 14), mux := bits 9 5 (w 0) + 1, g := (w 0 % 16) * 65536 + w 1, dead := w 2 / 256,
        det := w 2 % 256 }
    { v with staged := some q }
  else v

/-- A FLIP is held for a mark (R291). -/
def Driver.takeFlip (now : Time) (p : LdlPkt) (v : Driver) : Driver :=
  if p.addr = 31 then
    let w := fun i => p.words.getD i 0
    let x : FlipCmd :=
      { exchange := bit 15 (w 0), plan := bit 14 (w 0), na0 := (w 0 % 256) * 65536 + w 1,
        nfc := (w 2 % 16) * 65536 + w 3, at' := now }
    { v with flips := v.flips ++ [x] }
  else v

/-- SET_RANGE (R298). -/
def Driver.setRange (p : LdlPkt) (v : Driver) : Driver := if v.hears p then { v with ratio := p.words.headD 0 } else v

/-- BLANK: bit 0 of W1 is B (R282, R308). -/
def Driver.blank (p : LdlPkt) (v : Driver) : Driver :=
  if !v.hears p then v
  else if bit 0 (p.words.headD 0) then { v with blanked := true, unblank := false, armed := [], running := [] }
  else { v with unblank := true }

/-- A TEST arms a pulse (R310); none while blanked, and one beyond 32 is counted as a CRC error. -/
def Driver.test (p : LdlPkt) (v : Driver) : Driver :=
  match v.blockOf p with
  | none => v
  | some b =>
    let w := fun i => p.words.getD i 0
    if v.blanked then v
    else if 32 ≤ v.armed.length then v.refuse
    else
      let x : ArmedTest :=
        { row := w 0 % 32, mask := wordsMask ((p.words.drop (3 + 3 * b)).take 3), start := (w 1 % 16) * 65536 + w 2,
          width := w 0 / 256 }
      { v with armed := v.armed ++ [x] }

/-- ENUMERATE: the address taken (R301). -/
def Driver.enumerate (p : LdlPkt) (v : Driver) : Driver :=
  let n := p.words.headD 0
  if p.addr = 31 then
    { v with addr := if n < 24 then some n else none, blanked := true, unblank := false, written := 0, armed := [],
             running := [] }
  else v

/-- W1 that a driver forwards in an ENUMERATE. -/
def enumForward (p : LdlPkt) : LdlPkt :=
  if ldlSound p ∧ p.addr = 31 then mkLdl p.opcode p.addr p.count [min (p.words.headD 0 + 1) 0xFFFF] else p

/-- The flags of a row. -/
def Driver.rowFlags (v : Driver) (r : Nat) : RowFlags :=
  (v.flags.find? (fun f => f.row == r)).getD { row := r, seen := 0, opens := 0, shorts := 0 }

/-- Is a READ_DIAG answered by the driver? -/
def Driver.answers (v : Driver) (p : LdlPkt) : Bool := ldlSound p && decide (p.addr < 24) && v.addr == some p.addr

/-- The answer of a driver: RESP set, the data words, a new CRC (R284, R311). -/
def diagAnswer (p : LdlPkt) (data : List Nat) : LdlPkt :=
  mkLdl p.opcode p.addr p.count ((p.words.headD 0 ||| 0x80) :: data)

/-- Data words of ROW_FLAGS. -/
def flagWords (f : RowFlags) : List Nat := maskWords f.opens ++ maskWords f.shorts ++ maskWords f.seen

/-- Data words of STATUS; the over-temperature bit is the driver's own measurement. -/
def Driver.statusWords (v : Driver) (hot : Nat) : List Nat :=
  [b2n v.blanked * 2 ^ 15 + b2n v.plan.isSome * 2 ^ 14 + v.front * 2 ^ 13 + hot * 2 ^ 12, v.darkSeen / 65536,
    v.darkSeen % 65536, v.crcErrors]

/-! ### Marks, exchange, apertures and tests -/

/-- Rows of `dark` that a plan shows. -/
def darkRows (plan : Option Plan) (dark : Nat) : Nat := dark % 2 ^ ((plan.map (·.mux)).getD 0)

/-- A mark (R289, R291, R308, R310): counting starts anew; the last FLIP received at least 1 µs before it takes effect,
a pending unblank too, and the armed tests that end before N_A0 run.  With no such FLIP the N_A0 of the last one stays,
and the rows that are dark are shown dark in another aperture (R287, R311). -/
def Driver.mark (now : Time) (v : Driver) : Driver :=
  let ready := v.flips.filter (fun f => decide (f.at' + 1000 ≤ now))
  let flip := match ready.getLast? with
    | some f => some f
    | none => v.flip
  let na0 := (flip.map (·.na0)).getD 0
  let dead := (v.plan.map (·.dead)).getD 0
  { v with
    blanked := v.blanked && !v.unblank
    unblank := false
    flips := v.flips.filter (fun f => !decide (f.at' + 1000 ≤ now))
    flip := flip
    due := ready.getLast?
    darkSeen := if ready.isEmpty && flip.isSome then v.darkSeen ||| darkRows v.plan v.dark else v.darkSeen
    markAt := some now
    running := v.armed.filter (fun x => decide (x.start + dead + x.width < na0))
    armed := [] }

/-- The exchange of a FLIP: the banks where X is set, the staged plan where P is (R287, R291).  Rows the plan then in
force does not show are not reported dark (R311). -/
def Driver.takeDue (f : FlipCmd) (v : Driver) : Driver :=
  let plan := if f.plan then v.staged.orElse (fun _ => v.plan) else v.plan
  let staged := if f.plan then none else v.staged
  if f.exchange then
    let dark := (2 ^ 32 - 1) - v.written % 2 ^ 32
    { v with front := 1 - v.front, dark := dark, written := 0, plan := plan, staged := staged, due := none,
             darkSeen := v.darkSeen ||| darkRows plan dark }
  else { v with plan := plan, staged := staged, due := none, darkSeen := v.darkSeen ||| darkRows plan v.dark }

/-- At GCLK count `c` after the mark: the exchange due, once the count has reached N_FC (R291, R293). -/
def Driver.exchange (c : Nat) (v : Driver) : Driver :=
  match v.due with
  | none => v
  | some f => if f.nfc ≤ c then v.takeDue f else v

/-- The drive words a row of the front bank shows (R287). -/
def Driver.frontRow (v : Driver) (r : Nat) : List Nat :=
  if bit r v.dark then []
  else ((if v.front = 0 then v.bank0 else v.bank1).find? (fun x => x.1 == r)).elim [] (·.2)

/-- May the driver light: it has an address and a plan in force, is unblanked, and a mark has come (R294, R308)? -/
def Driver.canLight (v : Driver) : Bool := v.addr.isSome && v.plan.isSome && !v.blanked && v.markAt.isSome

/-- Row slot Q of a plan (R295). -/
def Plan.slot (q : Plan) : Nat := q.g / q.segs

/-- Count at which row slot (s, r) begins, for an aperture from `na0` (R296). -/
def Plan.slotStart (q : Plan) (na0 s r : Nat) : Nat := na0 + (s * q.mux + r) * q.slot

/-- The row slot (s, r) in progress at count `c`, and the count inside it; none outside the aperture (R296). -/
def Plan.slotAt (q : Plan) (na0 c : Nat) : Option (Nat × Nat × Nat) :=
  let k := (c - na0) / q.slot
  if na0 ≤ c ∧ 0 < q.slot ∧ k < q.segs * q.mux then some (k / q.mux, k % q.mux, (c - na0) % q.slot) else none

/-- Counts a channel is lit in segment period `s` of a row (R295, R296); 0 with MASK set. -/
def Driver.litIn (v : Driver) (r s ch : Nat) : Nat :=
  match v.plan with
  | none => 0
  | some q =>
    let w := (v.frontRow r).getD ch 0
    if v.canLight && decide (r < q.mux) && !bit 18 w then
      segCount q.segs (litCount (w % 65536) (q.segs * (q.slot - q.dead))) s
    else 0

/-- The row a channel lights at count `c` after the mark (R291, R294, R296, R310): in a test pulse, or inside the aperture
from the dead time of a row slot on for its lit counts. -/
def Driver.lights (v : Driver) (ch c : Nat) : Option Nat :=
  let dead := (v.plan.map (·.dead)).getD 0
  match v.running.find? (fun x => decide (x.mask &&& chanBit ch ≠ 0) && decide (x.start + dead ≤ c) &&
      decide (c < x.start + dead + x.width)) with
  | some x => if v.canLight then some x.row else none
  | none =>
    match v.plan, v.flip with
    | some q, some f =>
      match q.slotAt f.na0 c with
      | some (s, r, n) => if q.dead ≤ n ∧ n < q.dead + v.litIn r s ch then some r else none
      | none => none
    | _, _ => none

/-- The current of a channel that lights at count `c`, as u0.16 of its high-range current: that of the last SET_RANGE in
low range, the whole in high range and in a test pulse (R298, R310). -/
def Driver.current (v : Driver) (ch c : Nat) : Nat :=
  let dead := (v.plan.map (·.dead)).getD 0
  let test := v.running.any (fun x => decide (x.mask &&& chanBit ch ≠ 0) && decide (x.start + dead ≤ c) &&
    decide (c < x.start + dead + x.width))
  match v.lights ch c with
  | none => 0
  | some r => if !test && bit 16 ((v.frontRow r).getD ch 0) then v.ratio else 65536

/-- One channel's judgement into the flags of a row (R309). -/
def judge (f : RowFlags) (x : LampVolt) : RowFlags :=
  { f with seen := f.seen ||| chanBit x.ch, opens := if x.lacked then f.opens ||| chanBit x.ch else f.opens,
           shorts := if x.shorted then f.shorts ||| chanBit x.ch else f.shorts }

def Driver.putFlags (f : RowFlags) (v : Driver) : Driver :=
  { v with flags := f :: v.flags.filter (fun x => x.row != f.row) }

/-- Count at which the lit interval of a channel in row slot (s, r) ends, and its length; none where it is not lit or no
aperture is set. -/
def Driver.interval (v : Driver) (r s ch : Nat) : Option (Nat × Nat) :=
  match v.plan, v.flip with
  | some q, some f =>
    let n := v.litIn r s ch
    if s < q.segs ∧ 0 < n then some (q.slotStart f.na0 s r + q.dead + n, n) else none
  | _, _ => none

/-- A lit interval ends: channels with DET whose interval has ended by count `c` and lasted at least W_det counts are
judged (R309). -/
def Driver.litEnd (c r s : Nat) (xs : List LampVolt) (v : Driver) : Driver :=
  let det := (v.plan.map (·.det)).getD 0
  let ok := fun (x : LampVolt) =>
    decide (x.ch < 48) && bit 17 ((v.frontRow r).getD x.ch 0) &&
      (v.interval r s x.ch).any (fun i => decide (i.1 ≤ c) && decide (det ≤ i.2))
  match xs.filter ok with
  | [] => v
  | ys => v.putFlags (ys.foldl judge (v.rowFlags r))

/-- The first running test pulse has ended by count `c`: its channels are judged whatever their DET flag, where the pulse
lasted at least W_det counts (R309, R310). -/
def Driver.testEnd (c : Nat) (xs : List LampVolt) (v : Driver) : Driver :=
  match v.running with
  | [] => v
  | x :: rest =>
    let dead := (v.plan.map (·.dead)).getD 0
    let det := (v.plan.map (·.det)).getD 0
    if c < x.start + dead + x.width then v
    else
      let w := { v with running := rest }
      if v.canLight && decide (det ≤ x.width) then
        w.putFlags ((xs.filter (fun y => decide (y.ch < 48) && decide (x.mask &&& chanBit y.ch ≠ 0))).foldl judge
          (w.rowFlags x.row))
      else w

namespace Dev

/-- The driver at a position of a strand. -/
def driver (d : Dev) (s p : Nat) : Driver := ((d.ldl.drivers.find? (fun x => x.1 == s * 24 + p)).map (·.2)).getD .powerOn

/-- GCLK rising edges from a mark until now: the mark is count 0 (R289, R290). -/
def gclkEdges (d : Dev) (mark : Time) : Nat :=
  (gclkPhase d.gclk d.gspread (mark % 2 ^ 48 + (d.now - mark)) - gclkPhase d.gclk d.gspread (mark % 2 ^ 48)) / 31250000000

/-- A driver's GCLK count: edges since its last mark (R289, R293). -/
def driverCount (d : Dev) (v : Driver) : Nat := (v.markAt.map d.gclkEdges).getD 0

def setLdl (f : LdlSt → LdlSt) (d : Dev) : Dev := { d with ldl := f d.ldl }

/-- Driver states by key with one replaced, keys rising. -/
def putDriver (k : Nat) (v : Driver) : List (Nat × Driver) → List (Nat × Driver)
  | [] => [(k, v)]
  | (a, w) :: l => if k < a then (k, v) :: (a, w) :: l else if k = a then (k, v) :: l else (a, w) :: putDriver k v l

/-- A driver changes. -/
def onDriver (s p : Nat) (f : Driver → Driver) (d : Dev) : Dev :=
  if s < 32 ∧ p < 24 then d.setLdl (fun l => { l with drivers := putDriver (s * 24 + p) (f (d.driver s p)) l.drivers })
  else d

/-- A packet reaches a driver, which acts on it and forwards a packet (R284). -/
def ldlReach (s p : Nat) (pkt : LdlPkt) (f : Driver → Driver) (onward : LdlPkt) (d : Dev) : Dev :=
  if s < 32 ∧ p < 24 then (d.onDriver s p (Driver.take pkt f)).emit (.driver s p onward) else d

/-- The packet as one of the row's opcode. -/
def asOpcode (n : Nat) (p : LdlPkt) : LdlPkt := { p with opcode := n }

/-- The packet as a BLANK with bit 0 of W1 equal to B (R282). -/
def asBlank (b : Bool) (p : LdlPkt) : LdlPkt :=
  { p with opcode := 5, words := match p.words with
      | [] => []
      | w :: l => (w / 2 * 2 + b2n b) :: l }

/-- The packet as a READ_DIAG of an item. -/
def asItem (n : Nat) (p : LdlPkt) : LdlPkt :=
  { p with opcode := 7, words := (n * 256 + p.words.headD 0 % 256) :: p.words.drop 1 }

/-- READ_DIAG of ROW_FLAGS: the flags of the row are returned and cleared (R309, R311). -/
def readFlags (s p : Nat) (pkt : LdlPkt) (d : Dev) : Dev :=
  let v := d.driver s p
  if v.answers pkt then
    let r := pkt.words.headD 0 % 32
    d.ldlReach s p pkt (fun v => { v with flags := v.flags.filter (fun f => f.row != r) })
      (diagAnswer pkt (flagWords (v.rowFlags r)))
  else d.ldlReach s p pkt id pkt

/-- READ_DIAG of STATUS: words 2 to 4 are cleared by it; the over-temperature bit is a free value (log entry 44). -/
def readStatus (s p : Nat) (pkt : LdlPkt) (d : Dev) : Dev :=
  let v := d.driver s p
  if v.answers pkt then
    let (hot, d) := d.drawFree 1
    d.ldlReach s p pkt (fun v => { v with darkSeen := 0, crcErrors := 0 }) (diagAnswer pkt (v.statusWords hot))
  else d.ldlReach s p pkt id pkt

/-- READ_DIAG of IDENT: the contract version is 1, the rest the part's own (log entry 44). -/
def readIdent (s p : Nat) (pkt : LdlPkt) (d : Dev) : Dev :=
  let v := d.driver s p
  let word := fun i => Config.driverIdent (s * 24 + p) i
  if v.answers pkt then
    d.ldlReach s p pkt id (diagAnswer pkt [word 0 % 65536, word 1 % 65536, word 2 % 256 * 256, 1])
  else d.ldlReach s p pkt id pkt

/-- DRIVER_POWER_ON (R308). -/
def driverPowerOn (s p : Nat) (d : Dev) : Dev :=
  d.setLdl (fun l => { l with drivers := l.drivers.filter (fun x => x.1 != s * 24 + p || decide (24 ≤ p)) })

end Dev
end Sys2Proof.Machine
end

