-- ==== Sys2Proof/Machine/LdlOps.lean ====
section
/-!
DEFINITION. Sys2Proof/Machine/LdlOps.lean: the tile's side of the Lamp Driver Link: bring-up, echoes and retries,
blanking, FLIPs, lamp states and test pulses (R276, R292, R300 to R305, R312 to R319).
-/
namespace Sys2Proof.Machine

namespace Dev

def strand (d : Dev) (s : Nat) : Strand := (d.ldl.strands[s]?).getD .fresh

def setStrand (s : Nat) (f : Strand → Strand) (d : Dev) : Dev := d.setLdl (fun l => { l with strands := upd s f l.strands })

/-- Strands whose bit of `LDL_STRAND_MASK` is set. -/
def strandsOn (d : Dev) : List Nat := (List.range 32).filter (fun s => bit s (d.obj K.LDL_STRAND_MASK))

/-- Strands in service: used, and not Incompatible (R302). -/
def strandsLive (d : Dev) : List Nat := d.strandsOn.filter (fun s => d.obj (K.STR_STATE s) != 5)

/-- Words of a packet on the wire. -/
def pktWords (p : LdlPkt) : Nat := p.words.length + 2

/-- The instant at which a packet that leaves a strand now has been sent. -/
def sentBy (d : Dev) (s : Nat) (p : LdlPkt) : Time := max d.now (d.strand s).busyTill + d.ldlTime (pktWords p)

/-- A packet goes out on a strand and is awaited on SRET (R303). -/
def sendLdl (s : Nat) (p : LdlPkt) (again : Bool) (d : Dev) : Dev :=
  (d.setStrand s (fun x => { x with sent := x.sent ++ [(p, again)], busyTill := d.sentBy s p })).emit (.ldl s p)

/-- A packet to every strand in service. -/
def sendAll (p : LdlPkt) (d : Dev) : Dev := d.strandsLive.foldl (fun d s => d.sendLdl s p false) d

/-! ### Room between wale loads (R305) -/

/-- Does the pass belong to a facet that no sender composes: the FLP that the tile uses for it is of kind 1 (R229, R236)? -/
def passUncomposed (d : Dev) (q : Nat) : Bool :=
  (d.flpFor (facetAt d.mode q)).any (fun x => x.kind == 1)

/-- The instant at which the next load packet of a strand is due: the first K_i of the wales of the pass that are not
loaded and write the strand (R222).  A facet that no sender composes has no loads. -/
def nextLoadDue (d : Dev) (s : Nat) : Option Time :=
  match d.tile.pass with
  | none => none
  | some (q, _) =>
    if d.passUncomposed q then none
    else
    let open' := (List.range d.wales).filter (fun i =>
      !(d.tile.sel.any (fun x => x.wale == i && (x.loaded || x.missed))) && (d.waleWrites i).any (fun w => w.1 == s))
    open'.head?.map (fun i => d.waleDue (facetAt d.mode q) i)

/-- May a FLIP, SET_PLAN, TEST or READ_DIAG packet start on a strand now: it ends before the next load packet is due. -/
def mayStart (d : Dev) (s : Nat) (p : LdlPkt) : Bool :=
  match d.nextLoadDue s with
  | none => true
  | some k => decide (d.sentBy s p ≤ k)

/-- Packets that wait on a strand start while they may, in the order in which they wait. -/
def flushStrand (s : Nat) : Nat → Dev → Dev
  | 0, d => d
  | fuel + 1, d =>
    match (d.strand s).waiting with
    | [] => d
    | (p, again) :: rest =>
      if d.mayStart s p then
        flushStrand s fuel ((d.setStrand s (fun x => { x with waiting := rest })).sendLdl s p again)
      else d

/-- A FLIP, SET_PLAN, TEST or READ_DIAG packet is to go out (R305).  Those that wait keep the order of their opcodes.
DESIGN CHOICE, log entry 146. -/
def sendLow (s : Nat) (p : LdlPkt) (again : Bool) (d : Dev) : Dev :=
  let d := d.setStrand s (fun x => { x with waiting := insertBy (·.1.opcode) (p, again) x.waiting })
  d.flushStrand s (d.strand s).waiting.length

/-! ### Blanking, plans and FLIPs -/

/-- BLANK to every driver (R308, R539): a BLANK with B = 0 that has not taken effect is cancelled, and armed tests are
discarded. -/
def blankDrivers (d : Dev) : Dev :=
  if d.isTile then
    (d.sendAll (mkLdl 5 31 0 [1])).setLdl (fun l =>
      { l with blanked := true, armed := [], strands := l.strands.map (fun x => { x with wakes := false }) })
  else d

/-- BLANK with B = 0 on a strand: its drivers light from the next mark (R308). -/
def wakeStrand (s : Nat) (d : Dev) : Dev :=
  (d.sendLdl s (mkLdl 5 31 0 [0]) false).setStrand s (fun x => { x with wakes := true })

/-- BLANK with B = 0 to every driver but those of strands in bring-up, which their bring-up unblanks. -/
def unblankDrivers (d : Dev) : Dev :=
  if d.ldl.blanked then
    ((d.strandsLive.filter (fun s => !(d.strand s).bringing)).foldl (fun d s => d.wakeStrand s) d).setLdl (fun l =>
      { l with blanked := false })
  else d

/-- SET_PLAN of a plan (R282). -/
def planPkt (q : Plan) : LdlPkt :=
  mkLdl 2 31 0
    [(if q.segs = 16 then 0 else if q.segs = 32 then 1 else if q.segs = 64 then 2 else 3) * 2 ^ 14 + (q.mux - 1) * 2 ^ 9 +
      q.g / 65536, q.g % 65536, q.dead * 256 + q.det]

/-- FLIP (R282, R292): N_FC is 0. -/
def flipPkt (x p : Bool) (na0 : Nat) : LdlPkt :=
  mkLdl 3 31 0 [b2n x * 2 ^ 15 + b2n p * 2 ^ 14 + na0 / 65536 % 256, na0 % 65536, 0, 0]

/-- A plan is staged in every driver when it differs from the last one sent (R233); it comes into force at the next flip. -/
def stagePlan (q : Plan) (d : Dev) : Dev :=
  if d.tile.plan = some q then d
  else
    let d := d.strandsLive.foldl (fun d s => d.sendLow s (planPkt q) false) d
    { d with tile := { d.tile with plan := some q } }.setLdl (fun l => { l with planDue := true })

/-- READ_DIAG of an item and row. -/
def diagPkt (a item r : Nat) : LdlPkt := mkLdl 7 a 0 ((item * 256 + r) :: List.replicate (diagWords item) 0)

/-! ### Bring-up (R300 to R302) -/

/-- Bring-up of a list of strands begins: BLANK and ENUMERATE.  Their lamps are dark from the first packet on (R304). -/
def ldlBringup (ss : List Nat) (d : Dev) : Dev :=
  let d := ss.foldl (fun d s =>
    ((d.setStrand s (fun x =>
      { x with fails := 0, bringing := true, waiting := [], planDue := false, dark := true, wakes := false,
               again := none })).sendLdl s (mkLdl 5 31 0 [1]) false).sendLdl s (mkLdl 8 31 0 [0]) false) d
  d.setLdl (fun l => { l with driven := true })

/-- A strand takes a state; a change is a link fault (R302). -/
def setStrandState (s v : Nat) (d : Dev) : Dev :=
  if d.obj (K.STR_STATE s) = v then d else (d.setObj (K.STR_STATE s) v).fault 2 (K.STR_STATE s) s

/-- Dark rows were reported within the last second. -/
def strandDark (d : Dev) (s : Nat) : Bool :=
  match (d.strand s).darkAt with
  | some t => decide (d.now < t + 1000000000)
  | none => false

/-- State of a strand after bring-up (R302): Degraded or Ready. -/
def strandGood (d : Dev) (s : Nat) : Nat :=
  if d.obj (K.STR_DRIVERS_FOUND s) < d.obj (K.STR_DRIVERS_EXPECTED s) ∨ d.strandDark s then 3 else 2

/-- The IDENT words of a strand as `STRs_IDENT` holds them. -/
def identBytes (ids : List (List Nat)) : Bytes :=
  (List.range 24).flatMap (fun i => (List.range 4).flatMap (fun k => be 2 ((ids.getD i []).getD k 0)))

/-- The plan that a strand's bring-up stages: the one last sent where it is still to come into force, else that of the mode
in force. -/
def bringupPlan (d : Dev) : Plan :=
  let q := d.planOf d.mode (d.obj K.APERTURE_FRACTION)
  if d.ldl.planDue then d.tile.plan.getD q else q

/-- Steps 3 and 4 of a strand's bring-up (R300): the ENUMERATEs of the sweep, and the IDENT reads, each of which starts where
it ends before the next load (R305).  What came back is in the result, with the number of packets that failed (R303; log
entry 147). -/
def bringupReads (r : StrandResult) (n : Nat) (d : Dev) : Dev :=
  let s := r.strand
  let d := (List.range r.sweeps).foldl (fun d _ => d.emit (.ldl s (mkLdl 8 31 0 [0]))) d
  let d := (List.range (min n 24)).foldl (fun d a => d.sendLow s (diagPkt a 3 0) false) d
  d.bumpBy r.fails (K.STR_ECHO_FAIL s)

/-- A strand's bring-up ends (R300, R302).  Its drivers are unblanked unless the tile blanks its lamps. -/
def bringupEnd (r : StrandResult) (d : Dev) : Dev :=
  let s := r.strand
  if !(d.strand s).bringing then d
  else
    let d := d.setStrand s (fun x => { x with bringing := false, upAt := d.now, fails := 0 })
    match r.counter with
    | none => ((d.bringupReads r 0).setObj (K.STR_DRIVERS_FOUND s) 0).setStrandState s 4
    | some n =>
      let d := d.bringupReads r n
      let d := (d.setObj (K.STR_DRIVERS_FOUND s) (min n 255)).setObj (K.STR_SRET_DELAY s) (min r.delay 65535)
      let d := d.setBlob (K.STR_IDENT s) (identBytes r.idents)
      if 24 < n ∨ r.idents.any (fun w => w.getD 3 0 != 1) then
        (d.setStrandState s 5).sendLdl s (mkLdl 5 31 0 [1]) false
      else
        let q := d.bringupPlan
        let d := (d.sendLdl s (mkLdl 4 31 0 [0x1000]) false).sendLow s (planPkt q) false
        let d := { d with tile := { d.tile with plan := some q } }.setStrand s (fun x => { x with planDue := true })
        let d := if d.ldl.blanked then d else d.wakeStrand s
        d.setStrandState s (d.strandGood s)

/-- LDL_BRINGUP_DONE: strands of the mask end bring-up, and the others are Unused. -/
def bringupDone (rs : List StrandResult) (d : Dev) : Dev :=
  let d := rs.foldl (fun d r => d.bringupEnd r) d
  (List.range 32).foldl (fun d s => if bit s (d.obj K.LDL_STRAND_MASK) then d else d.setStrandState s 1) d

/-! ### Lamps (R312 to R315) -/

/-- Is the lamp index one of a lamp that is not Absent? -/
def lampExists (d : Dev) (lamp : Nat) : Bool := decide (lamp < 4 * d.regionPixels) && d.slotPresent (lamp % 4)

/-- State of a lamp. -/
def lampState (d : Dev) (lamp : Nat) : Nat := if d.lampExists lamp then (d.ldl.lamps.look lamp).getD 1 else 0

def setLamp (lamp v : Nat) (d : Dev) : Dev :=
  d.setLdl (fun l => { l with lamps := if v = 1 then Store.del lamp l.lamps else Store.put lamp v l.lamps })

/-- Open, Short or Masked. -/
def lampBad (d : Dev) (lamp : Nat) : Bool := decide (3 ≤ d.lampState lamp)

/-- A store of counts with zeros left out. -/
def putCount (k v : Nat) (s : Store) : Store := if v = 0 then Store.del k s else Store.put k v s

/-- Is the last verification older than an age in seconds (never verified counts as older)? -/
def verifiedOlder (d : Dev) (lamp age : Nat) : Bool :=
  match d.ldl.verified.look lamp with
  | none => true
  | some t => decide (t + age * 1000000000 < d.now)

/-- The 9 words of a ROW_FLAGS answer as OPEN, SHORT and SEEN masks. -/
def flagsOf (ws : List Nat) : Nat × Nat × Nat :=
  (wordsMask (ws.take 3), wordsMask ((ws.drop 3).take 3), wordsMask ((ws.drop 6).take 3))

/-- A reading of one lamp (R313, R314); `since` is the previous read of the row. -/
def lampReading (lamp : Nat) (seen opened shorted : Bool) (since : Time) (d : Dev) : Dev :=
  let no := if opened then (d.ldl.openRun.look lamp).getD 0 + 1 else 0
  let ns := if shorted then (d.ldl.shortRun.look lamp).getD 0 + 1 else 0
  let good := seen && !opened && !shorted
  let d := d.setLdl (fun l =>
    { l with openRun := putCount lamp (min no 3) l.openRun, shortRun := putCount lamp (min ns 3) l.shortRun,
             verified := if good then Store.put lamp since l.verified else l.verified })
  if d.lampBad lamp then d
  else if 3 ≤ no then (d.setLamp lamp 3).logFault 11 2 K.LAMP_STATE lamp 3
  else if 3 ≤ ns then
    let v := if d.obj K.LDL_SHORT_POLICY = 2 then 5 else 4
    (d.setLamp lamp v).logFault 11 2 K.LAMP_STATE lamp v
  else if d.verifiedOlder lamp (d.obj K.DIAG_VERIFY_MAX_AGE) then d.setLamp lamp 1
  else if good then d.setLamp lamp 2
  else d

/-- A ROW_FLAGS answer of driver `a`, row `r` (R313). -/
def rowRead (s a r : Nat) (ws : List Nat) (d : Dev) : Dev :=
  let key := (s * 24 + a) * 32 + r
  let since := (d.ldl.lastRead.look key).getD (d.strand s).upAt
  let m := flagsOf ws
  let d := d.setLdl (fun l => { l with lastRead := Store.put key d.now l.lastRead })
  let es := mapRow (d.blob K.LDL_LAMP_MAP) s a r
  (List.range 48).foldl (fun d ch =>
    match mapEntry (es.getD ch 0) with
    | none => d
    | some e =>
      let lamp := (e.y * d.regionW + e.x) * 4 + e.slot
      let has := fun (mask : Nat) => decide (mask &&& chanBit ch ≠ 0)
      if d.lampExists lamp then d.lampReading lamp (has m.2.2) (has m.1) (has m.2.1) since else d) d

/-- A STATUS answer (R302, R312). -/
def statusRead (s : Nat) (ws : List Nat) (d : Dev) : Dev :=
  let dark := popCount 32 (ws.getD 1 0 * 65536 + ws.getD 2 0)
  let d := (d.bumpBy dark (K.STR_ROWS_DARK s)).bumpBy (ws.getD 3 0) (K.STR_DRIVER_CRC s)
  let d := if dark = 0 then d else d.setStrand s (fun x => { x with darkAt := some d.now })
  if d.obj (K.STR_STATE s) = 2 ∨ d.obj (K.STR_STATE s) = 3 then d.setStrandState s (d.strandGood s) else d

/-- LAMP_VERIFY_EXPIRY (R314). -/
def verifyExpiry (lamp : Nat) (d : Dev) : Dev :=
  if d.lampState lamp = 2 ∧ d.verifiedOlder lamp (d.obj K.DIAG_VERIFY_MAX_AGE) then d.setLamp lamp 1 else d

/-- LAMP_CLEAR names an Absent slot or an index outside the region: RANGE. -/
def lampClearOk (d : Dev) (v : Nat) : Bool := v == 0xFFFFFFFF || d.lampExists v

/-- LAMP_CLEAR: Open, Short and Masked lamps become Unverified (R314). -/
def lampClear (v : Nat) (d : Dev) : Dev :=
  let hit := fun (x : Nat × Nat) => v == 0xFFFFFFFF || x.1 == v
  d.setLdl (fun l =>
    { l with lamps := l.lamps.filter (fun x => !(hit x && decide (3 ≤ x.2)))
             openRun := l.openRun.filter (fun x => !hit x), shortRun := l.shortRun.filter (fun x => !hit x) })

/-- At start, and when scan-out leaves Dark, Good lamps are Unverified (R314). -/
def lampsUnverified (d : Dev) : Dev := d.setLdl (fun l => { l with lamps := l.lamps.filter (fun x => decide (3 ≤ x.2)) })

/-- Flags of a lamp's drive word (R315): MASK for a lamp masked when the pass began, else DET. -/
def lampFlags (d : Dev) (lamp : Nat) : Nat := if d.ldl.masked.contains lamp then 2 ^ 18 else 2 ^ 17

/-- Masked lamps are taken at the start of a pass. -/
def takeMasked (d : Dev) : Dev :=
  d.setLdl (fun l => { l with masked := (l.lamps.filter (fun x => x.2 == 5)).map (·.1) })

/-! ### Echoes (R303, R304) -/

/-- The boundary of the facet whose pass is in progress. -/
def passBoundary (d : Dev) : Option Time := d.tile.pass.map (fun x => facetAt d.mode x.1)

/-- May a failed packet be repeated now (R304)? -/
def mayRepeat (d : Dev) (s : Nat) (p : LdlPkt) : Bool :=
  if p.opcode = 1 then
    match d.passBoundary with
    | none => false
    | some f => decide (d.sentBy s p ≤ d.waleDue f (d.waleOfRow s p.addr (p.words.headD 0 % 32)))
  else p.opcode == 3 && d.mode != 0 && decide (d.sentBy s p + 2000 ≤ d.comingBoundary)

/-- A packet has failed: counted, perhaps repeated, and the eighth failure in succession breaks the strand (R303, R304). -/
def echoFailed (s : Nat) (p : LdlPkt) (again : Bool) (d : Dev) : Dev :=
  let d := d.bump (K.STR_ECHO_FAIL s)
  let n := (d.strand s).fails + 1
  let d := d.setStrand s (fun x => { x with fails := n })
  let d := if !again && d.mayRepeat s p then
      let d := d.bump (K.STR_RETRIES s)
      if p.opcode = 3 then d.sendLow s p true else d.sendLdl s p true
    else d
  if 8 ≤ n then d.setStrandState s 4 else d

/-- Did a packet come back as R303 asks? -/
def echoOk (p : LdlPkt) (ws : List Nat) : Bool :=
  if p.opcode = 7 ∨ p.opcode = 8 then
    decide (2 ≤ ws.length) && crc16 ((ws.take (ws.length - 1)).flatMap (fun w => be 2 w)) == ws.getD (ws.length - 1) 0
  else ws == ldlWords p

/-- SRET_ECHO: the oldest packet of a strand returns. -/
def sretEcho (s : Nat) (ws : List Nat) (d : Dev) : Dev :=
  match (d.strand s).sent with
  | [] => d
  | (p, again) :: rest =>
    let d := d.setStrand s (fun x => { x with sent := rest })
    if echoOk p ws then
      let d := d.setStrand s (fun x => { x with fails := 0 })
      if p.opcode = 7 ∧ bit 7 (ws.getD 1 0) then
        let item := p.words.headD 0 / 256
        if item = 1 then d.rowRead s p.addr (p.words.headD 0 % 32) (ws.drop 2)
        else if item = 2 then d.statusRead s (ws.drop 2)
        else d
      else d
    else d.echoFailed s p again

/-- ECHO_TIMEOUT: the oldest packet has not returned within 2 µs of its last word. -/
def echoTimeout (s : Nat) (d : Dev) : Dev :=
  match (d.strand s).sent with
  | [] => d
  | (p, again) :: rest => (d.setStrand s (fun x => { x with sent := rest })).echoFailed s p again

/-- A0 of facet number `q` in force. -/
def openOf (d : Dev) (q : Nat) : Time :=
  apertureOpen d.mode d.apertureNow (d.obj (K.APERTURE_OFFSET (q % facetCount d.mode))) q

/-- The first facet whose aperture has not ended, while a mode is in force. -/
def apertureAhead (d : Dev) : Nat :=
  let q := facetNo d.mode d.now
  if d.now < d.openOf q + d.apertureNow then q else q + 1

/-- Is this instant in a dark gap: outside every aperture? -/
def inDarkGap (d : Dev) : Bool := d.mode == 0 || decide (d.now < d.openOf d.apertureAhead)

/-- The beginning of the next dark gap; at once with no mode in force. -/
def nextDarkGap (d : Dev) : Time := if d.mode = 0 then d.now else d.openOf d.apertureAhead + d.apertureNow

/-- May a Broken strand be probed now: on an Armed tile (R551), a second after its last probe, in a dark gap, with room for the packet (R304, R305)? -/
def mayProbe (d : Dev) (s : Nat) : Bool :=
  let x := d.strand s
  decide (s < 32) && d.start.run == .armed && d.obj (K.STR_STATE s) == 4 && !x.bringing && x.again.isNone &&
    x.probedAt.all (fun t => decide (t + 1000000000 ≤ d.now)) && d.inDarkGap && d.mayStart s (diagPkt 0 2 0)

/-- BROKEN_PROBE (R304): one STATUS read of driver 0, with the words that came back, if any.  One that did not come back
whole is counted; one that did is a STATUS read like any other (R312), and lets the strand be brought up again in the next
dark gap. -/
def brokenProbe (s : Nat) (back : Option (List Nat)) (d : Dev) : Dev :=
  if d.mayProbe s then
    let p := diagPkt 0 2 0
    let d := (d.setStrand s (fun x => { x with probedAt := some d.now })).emit (.ldl s p)
    match back.filter (echoOk p) with
    | some ws =>
      let d := d.setStrand s (fun x => { x with again := some d.nextDarkGap })
      if bit 7 (ws.getD 1 0) then d.statusRead s (ws.drop 2) else d
    | none => d.bump (K.STR_ECHO_FAIL s)
  else d

/-- A strand whose probe came back is brought up again once its dark gap has begun; each such bring-up is a link fault. -/
def strandAgain (s : Nat) (d : Dev) : Dev :=
  match (d.strand s).again with
  | none => d
  | some t => if t ≤ d.now then (d.fault 2 (K.STR_STATE s) s).ldlBringup [s] else d

/-- What a strand does as time passes: dark rows reported more than a second ago make it Degraded no longer (R302), its
bring-up begins again (R304), and packets that wait start (R305). -/
def strandFollow (s : Nat) (d : Dev) : Dev :=
  let st := d.obj (K.STR_STATE s)
  let d := if (st = 2 ∨ st = 3) ∧ !(d.strand s).bringing then d.setStrandState s (d.strandGood s) else d
  let d := d.strandAgain s
  d.flushStrand s (d.strand s).waiting.length

/-- The strands follow time on a tile that drives them. -/
def ldlFollow (d : Dev) : Dev :=
  if d.isTile && d.ldl.driven then (List.range 32).foldl (fun d s => d.strandFollow s) d else d

/-- Mapped driver rows of a strand. -/
def mappedRows (d : Dev) (s : Nat) : List (Nat × Nat) :=
  (List.range (d.obj (K.STR_DRIVERS_EXPECTED s))).flatMap (fun a =>
    ((List.range d.mux).filter (fun r => (mapRow (d.blob K.LDL_LAMP_MAP) s a r).any (fun w => bit 31 w))).map (fun r => (a, r)))

/-- Has a `DIAG_READ_PERIOD` passed since the last DIAG_READ, on an Armed tile (R312, R551)? -/
def diagDue (d : Dev) : Bool :=
  d.start.run == .armed && d.ldl.diagAt.all (fun t => decide (t + d.obj K.DIAG_READ_PERIOD * 1000000 ≤ d.now))

/-- DIAG_READ (R312): ROW_FLAGS of every mapped driver row and STATUS of every driver. -/
def diagRead (d : Dev) : Dev :=
  if !d.diagDue then d
  else
    let d := d.setLdl (fun l => { l with diagAt := some d.now })
    d.strandsLive.foldl (fun d s =>
      let d := (d.mappedRows s).foldl (fun d x => d.sendLow s (diagPkt x.1 1 x.2) false) d
      (List.range (min 24 (d.obj (K.STR_DRIVERS_FOUND s)))).foldl (fun d a => d.sendLow s (diagPkt a 2 0) false) d) d

/-! ### Loads and FLIPs -/

/-- The drive words of a driver row from a wale's words: 20 zero bits where no lamp is mapped (R285, R315). -/
def rowDrive (d : Dev) (words : List Nat) (i s a r : Nat) : List Nat :=
  (mapRow (d.blob K.LDL_LAMP_MAP) s a r).map (fun w =>
    match mapEntry w with
    | none => 0
    | some e => words.getD (((e.y - 16 * i) * d.regionW + e.x) * 4 + e.slot) 0)

/-- The WRITE_ROW packets of wale `i` leave (R222, R285). -/
def sendWaleRows (i : Nat) (words : List Nat) (d : Dev) : Dev :=
  (d.waleWrites i).foldl (fun d x =>
    let (s, r, a, n) := x
    if d.obj (K.STR_STATE s) = 5 then d
    else
      let blocks := (List.range n).flatMap (fun b => packDrive (d.rowDrive words i s (a + b) r))
      d.sendLdl s (mkLdl 1 a n (r :: blocks)) false) d

/-- May the tile send packets that are not of bring-up (R551)? -/
def ldlOpen (d : Dev) : Bool :=
  match d.start.run with
  | .step _ | .fromStandby _ => false
  | _ => true

/-- The FLIP for boundary `f` with an aperture that opens at `a0` (R292).  P is set at the first one after a strand's
bring-up, and at the flip at which a new plan comes into force (R233, R300); before the tile is Armed only the first kind is
sent (R551). -/
def sendFlip (x : Bool) (f a0 : Time) (d : Dev) : Dev :=
  let na0 := gclkCountAt d.gclk d.gspread (f % 2 ^ 48) (a0 - f)
  let new := d.ldl.planDue && x
  let ss := d.strandsLive.filter (fun s => d.ldlOpen || (d.strand s).planDue)
  let takes := new || ss.any (fun s => (d.strand s).planDue)
  let d := ss.foldl (fun d s =>
    (d.sendLow s (flipPkt x (new || (d.strand s).planDue) na0) false).setStrand s (fun y => { y with planDue := false })) d
  d.setLdl (fun l =>
    { l with planDue := l.planDue && !x, flip := if ss.isEmpty then none else some (f, na0, takes) })

/-! ### Test pulses (R316 to R319) -/

/-- A0 of facet number `q` under the parameters of an FLP, or those in force. -/
def openUnder (d : Dev) (q : Nat) (x : Option Flp) : Time :=
  match x with
  | none => d.openOf q
  | some y =>
    apertureOpen d.mode (apertureLen d.mode y.fraction) ((flpOffsets y).getD (q % facetCount d.mode) 0xFFFFFFFF) q

/-- Is facet number `q` eligible with an aperture that opens at `a0` (R316)? -/
def testEligible (d : Dev) (q : Nat) (a0 : Time) : Bool :=
  decide (400 + slowNs d.gclk d.gspread d.testSlot + d.obj K.DIAG_TEST_GUARD ≤ a0 - facetAt d.mode q)

/-- `DIAG_DEFERRED` (R319): a mode is in force and none of its facet indexes is eligible. -/
def diagDeferred (d : Dev) : Bool :=
  let c := facetCount d.mode
  let k := facetNo d.mode d.now / c
  d.mode != 0 && !(List.range c).any (fun j => d.testEligible (k * c + j) (d.openOf (k * c + j)))

/-- Lamps of a driver row that are due for a test: channel mask (R317). -/
def testMask (d : Dev) (s a r : Nat) : Nat :=
  let es := mapRow (d.blob K.LDL_LAMP_MAP) s a r
  (List.range 48).foldl (fun m ch =>
    match mapEntry (es.getD ch 0) with
    | none => m
    | some e =>
      let lamp := (e.y * d.regionW + e.x) * 4 + e.slot
      if d.lampExists lamp && (d.lampBad lamp || d.verifiedOlder lamp (d.obj K.DIAG_TEST_AGE)) then m ||| chanBit ch
      else m) 0

/-- Masks of every driver of a strand for a row. -/
def testMasks (d : Dev) (s r : Nat) : List Nat :=
  (List.range (d.obj (K.STR_DRIVERS_EXPECTED s))).map (fun a => d.testMask s a r)

/-- The test slot of a row from START on: masks of the strands that have a lamp to test and are not dark, and whose next FLIP
brings no new plan into force (R318). -/
def testSlotOf (d : Dev) (r start : Nat) : TestSlot :=
  { row := r, start := start
    masks := ((d.strandsLive.filter (fun s => !(d.strand s).dark && !(d.strand s).planDue)).map (fun s =>
      (s, d.testMasks s r))).filter (fun x => x.2.any (fun m => m != 0)) }

/-- The TEST packets of a slot (R310). -/
def sendTests (x : TestSlot) (d : Dev) : Dev :=
  x.masks.foldl (fun d y =>
    let lead := (y.2.takeWhile (fun m => m == 0)).length
    let body := ((y.2.drop lead).reverse.dropWhile (fun m => m == 0)).reverse
    d.sendLow y.1 (mkLdl 6 lead body.length
      ((d.testCounts * 256 + x.row) :: (x.start / 65536) :: (x.start % 65536) :: body.flatMap maskWords)) false) d

/-- Slots of a turn: at most `left` rows, back to back from `start` on, ending within `room` ns of the mark; a row with no
lamp to test takes none (R317). -/
def testTurn (d : Dev) (room : Nat) : Nat → Nat → Nat → Nat → List TestSlot
  | 0, _, _, _ => []
  | fuel + 1, r, left, start =>
    let x := d.testSlotOf (r % d.mux) start
    if left = 0 then []
    else if x.masks.isEmpty then testTurn d room fuel (r + 1) left start
    else if room < slowNs d.gclk d.gspread (start + d.testSlot) then []
    else x :: testTurn d room fuel (r + 1) (left - 1) (start + d.testSlot)

/-- Time from the mark within which every test slot of facet number `q` must end (R317). -/
def testRoom (d : Dev) (q : Nat) (a0 : Time) : Nat := a0 - facetAt d.mode q - d.obj K.DIAG_TEST_GUARD

/-- The pass for facet number `q` arms its test slots, once, under the parameters it will be shown with (R317, R318). -/
def armTests (q : Nat) (d : Dev) : Dev :=
  let st := d.obj K.SCAN_STATE
  let a0 := d.openUnder q (d.flpFor (facetAt d.mode q))
  if d.ldl.armedFor = some q then d
  else
    let d := d.setLdl (fun l => { l with armedFor := some q, armed := [] })
    if d.obj K.DIAG_ENABLE = 0 ∨ (st ≠ 3 ∧ st ≠ 4 ∧ st ≠ 5) ∨ d.ldl.planDue ∨ !d.testEligible q a0 then d
    else
      let slots := d.testTurn (d.testRoom q a0) d.mux d.ldl.nextRow (d.obj K.DIAG_ROWS_PER_FACET) (ceilDiv (4 * d.gclk) 10)
      let d := slots.foldl (fun d x => d.sendTests x) d
      d.setLdl (fun l =>
        { l with armed := slots, nextRow := match slots.getLast? with
            | some x => (x.row + 1) % d.mux
            | none => l.nextRow })

/-- The pass for facet number `q` arms its tests as soon as it holds the FLP that governs the facet's own aperture (R233,
R238; log entry 148). -/
def armIfGoverned (d : Dev) : Dev :=
  match d.tile.pass with
  | none => d
  | some (q, _) => if (d.flpFor (facetAt d.mode q)).isSome then d.armTests q else d

/-- At L, tests of facet number `q` that the parameters in use since they were armed no longer allow are discarded, by a
BLANK that ends at the mark (R308, R317, R318; log entry 148). -/
def reviewTests (q : Nat) (d : Dev) : Dev :=
  let a0 := d.openUnder q (d.flpFor (facetAt d.mode q))
  let late := d.ldl.armed.any (fun x => decide (d.testRoom q a0 < slowNs d.gclk d.gspread (x.start + d.testSlot)))
  if d.ldl.armed.isEmpty ∨ (late = false ∧ d.ldl.planDue = false) then d else d.blankDrivers.unblankDrivers

/-- The test slots of a boundary: each with the strands that are lit and whose TEST packet has left. -/
def testsSent (d : Dev) : List TestSlot :=
  (d.ldl.armed.map (fun x =>
    { x with masks := x.masks.filter (fun y =>
      !(d.strand y.1).dark && !((d.strand y.1).waiting.any (fun z => z.1.opcode == 6 && z.1.words.headD 0 % 32 == x.row))) })).filter
    (fun x => !x.masks.isEmpty)

/-- The rows tested in the facet that ends are read (R312). -/
def readTested (d : Dev) : Dev :=
  d.strandsLive.foldl (fun d s =>
    ((d.mappedRows s).filter (fun x => d.ldl.tested.contains x.2)).foldl (fun d x =>
      d.sendLow s (diagPkt x.1 1 x.2) false) d) d

/-- The mark at boundary `f` (R276, R288, R291): on every GCLK output of `LDL_GCLK_MASK`, with what the drivers show from it
on: the N_A0 and plan of the FLIP sent for it, else those before it, and the tests armed for it.  A strand unblanked since
its bring-up lights from here on (R304); packets for this boundary that never started are dropped. -/
def gclkMarkAt (f : Time) (tests : List TestSlot) (d : Dev) : Dev :=
  if !d.ldl.driven then d
  else
    let old := d.ldl.showing
    let na0 := match d.ldl.flip with
      | some (b, n, _) => if b = f then some n else old.bind (·.na0)
      | none => old.bind (·.na0)
    let plan := match d.ldl.flip with
      | some (b, _, p) => if b = f ∧ p then d.tile.plan else old.bind (·.plan)
      | none => old.bind (·.plan)
    (d.setLdl (fun l =>
      { l with
        flip := none
        showing := some { mark := f, na0 := na0, plan := plan, tests := tests.map (fun x => (x.row, x.start)) }
        armed := []
        tested := tests.map (·.row)
        strands := l.strands.map (fun x =>
          { x with dark := x.dark && !x.wakes, wakes := false,
                   waiting := x.waiting.filter (fun y => y.1.opcode != 3 && y.1.opcode != 6) }) })).emit
      (.gclkMark (d.obj K.LDL_GCLK_MASK % 256))

end Dev
end Sys2Proof.Machine
end

