-- ==== Sys2Proof/Machine/CrossRules.lean ====
section
/-!
DEFINITION. Sys2Proof/Machine/CrossRules.lean: the cross-rules that COMMIT checks, with their reason codes (R60, R587),
the run-time review of R21, and the state of the block that owns an Idle object.
-/
namespace Sys2Proof.Machine

/-- A cross-rule that fails: its reason code, the objects it concerns, the reference its owner names, and the reference
R587 gives where none of its objects is staged. -/
structure RuleFail where
  code : Nat
  objs : Nat → Bool
  named : Option Nat
  dflt : Nat

/-- The reference of R587 for the failures of one reason: that which the owner names (of several, the first instance's;
DEDUCED, log entry 123), else the lowest staged object that one of them concerns, else the lowest of those given where none
is staged. -/
def refOf (staged : List Nat) (xs : List RuleFail) : Nat :=
  match xs.findSome? (fun x => x.named) with
  | some k => k
  | none =>
    match (sortBy id staged).find? (fun k => xs.any (fun x => x.objs k)) with
    | some k => k
    | none => xs.foldl (fun a x => min a x.dflt) ((xs.head?.map (fun x => x.dflt)).getD 0)

/-- A rule over a short list of objects, ascending. -/
def failOver (code : Nat) (keys : List Nat) : RuleFail :=
  { code := code, objs := fun k => keys.contains k, named := none, dflt := keys.headD 0 }

/-- The same, with further objects, lowest first, that a layer's source brings in. -/
def failWith (code : Nat) (keys more : List Nat) : RuleFail :=
  { code := code, objs := fun k => keys.contains k || more.contains k, named := none
    dflt := (keys ++ more).foldl min (keys.headD 0) }

/-- The size and format objects of a source: a stream slot's or a still buffer's. -/
def sourceKeys (v : Nat) : List Nat :=
  if 0x10 ≤ v ∧ v ≤ 0x1F then [2, 3, 4].map (fun s => (0x3100 + (v - 0x10)) * 256 + s)
  else if 0x20 ≤ v ∧ v ≤ 0x2F then [1, 2, 3].map (fun s => (0x3200 + (v - 0x20)) * 256 + s)
  else []

/-- The objects that change the state of a still buffer: its content, its capture and its release. -/
def stillKeys (v : Nat) : List Nat :=
  let n := v - 0x20
  if 0x20 ≤ v ∧ v ≤ 0x2F then [K.STILL_DATA n, K.STILL_CAPTURE n, K.STILL_RELEASE n] else []

/-- R585: both zero, or both nonzero and, under fewer than 31 mask bits, a host address. -/
def ipPairOk (addr mask : Nat) : Bool :=
  if addr = 0 ∨ mask = 0 then addr == 0 && mask == 0
  else if 31 ≤ popCount 32 mask then true
  else
    let host := 2 ^ 32 - 1 - mask % 2 ^ 32
    (addr &&& host) != 0 && (addr &&& host) != host

/-- The partner of a member of a pair (R34, R585). -/
def pairPartner (k : Nat) : Option Nat :=
  if k = K.MGMT_IPV4_ADDR then some K.MGMT_IPV4_MASK
  else if k = K.MGMT_IPV4_MASK then some K.MGMT_IPV4_ADDR
  else if k % 256 = 1 ∧ 0x3008 ≤ k / 256 ∧ k / 256 ≤ 0x300F then some (k + 1)
  else if k % 256 = 2 ∧ 0x3008 ≤ k / 256 ∧ k / 256 ≤ 0x300F then some (k - 1)
  else none

/-- The wall parameters of a sender (R100, R216, R275, R445). -/
def wallParams : List Nat :=
  [K.APERTURE_OFFSET 0, K.APERTURE_OFFSET 1, K.APERTURE_OFFSET 2, K.APERTURE_OFFSET 3, K.MODE_NUMBER,
    K.APERTURE_FRACTION, K.WALL_CEILING, K.FADER_STOPS, K.HOOP_RENUMBER_GEN]

namespace Dev

/-- Is a key a wall parameter of this device? -/
def isWallParam (d : Dev) (k : Nat) : Bool := d.isSender && wallParams.contains k

/-- Is the block that owns an Idle object Dark (R30)?  True for objects of other classes. -/
def blockDark (d : Dev) (k : Nat) : Bool :=
  let i := k / 256
  if 0x2010 ≤ i ∧ i ≤ 0x2017 then !d.trigRunning (i - 0x2010)
  else if i = 0x3000 then (List.range 16).all (fun n => d.obj (K.STR_ENABLE n) == 0)
  else if 0x3008 ≤ i ∧ i ≤ 0x300F then
    (List.range 16).all (fun n => [0, 1].all (fun l => !(d.legEnabled n l && (d.leg n l).2.2.2 == i - 0x3008)))
  else if 0x3100 ≤ i ∧ i ≤ 0x310F then d.obj (K.STR_ENABLE (i - 0x3100)) == 0
  else if 0x2410 ≤ i ∧ i ≤ 0x2413 then
    d.linkState (i - 0x2410) == 1 || d.linkState (i - 0x2410) == 4
  else d.obj K.SCAN_STATE == 1

/-! ### The wall planning rules (R17 to R21) -/

/-- Is the key one of these subindexes of an index in a range of `n` instances? -/
def subIn (first n : Nat) (subs : List Nat) (k : Nat) : Bool :=
  decide (first ≤ k / 256) && decide (k / 256 < first + n) && subs.contains (k % 256)

/-- Has the key part in the DRAM budget estimate (R119, R157, R171)?  Rate and picture size of the slots, format of what a
layer fetches, the place and the order of the layers, the canvas and its tiles, and the mode of the hoops. -/
def budgetKey (k : Nat) : Bool :=
  [K.MODE_NUMBER, K.PLACE_TABLE, K.COMP_CANVAS_W, K.COMP_CANVAS_H].contains k || subIn 0x3100 16 [1, 2, 3, 4, 5] k ||
    subIn 0x3200 16 [1] k ||
    subIn 0x3410 8 [1, 2, 3, 6, 7, 8, 9, 0x0A, 0x0B, 0x0E, 0x12, 0x13, 0x14, 0x15, 0x16, 0x17] k || subIn 0x3810 4 [1] k

/-- R17 to R19 on the state of `d`: the rules that fail.  The mode is the one that the
state puts in force, `MODE_NUMBER`, on a sender that has not come so far in its start too; with none there is no facet rate,
and R19's ingest term stands alone.  While derated, R19 counts as failed (R471; DEDUCED, log entry 63). -/
def planFails (d : Dev) : List RuleFail :=
  let m := d.obj K.MODE_NUMBER
  if !d.isSender then []
  else
    (if (d.pixelRate m).above 4000000000 then
      [{ code := 1, objs := fun k => k == K.MODE_NUMBER || k == K.PLACE_TABLE, named := none, dflt := K.COMP_PIXEL_RATE : RuleFail }]
      else []) ++
    (match (List.range 4).find? (fun h => ((d.hoopRate m h).times 6).above 92000000000) with
      | some h => [{ code := 2, objs := fun k => k == K.MODE_NUMBER, named := none, dflt := K.ENC_BPP_BUDGET h : RuleFail }]
      | none => []) ++
    (if d.obj K.DRAM_STATE = 3 ∨
        ((d.budgetEst m).times 8).above (100000000000 * popCount 8 (d.obj K.DRAM_TRAINED_MASK)) then
      [{ code := 3, objs := budgetKey, named := none, dflt := K.COMP_BUDGET_EST : RuleFail }] else [])

/-- R21: a rule that the committed state has come to fail raises a notification. -/
def reviewPlan (d : Dev) : Dev :=
  let now := (d.planFails).map (·.code)
  let new := now.filter (fun c => !d.pliuk.rulesRaised.contains c)
  { d with pliuk := { d.pliuk with rulesRaised := now }, events := d.events ++ new.map (fun c => Event.rule c) }

/-- A rule that the state passes again can be raised anew (R21). -/
def planFollow (d : Dev) : Dev :=
  if d.pliuk.rulesRaised.isEmpty then d
  else
    let now := (d.planFails).map (·.code)
    { d with pliuk := { d.pliuk with rulesRaised := d.pliuk.rulesRaised.filter (fun c => now.contains c) } }

/-! ### Rules of the sender -/

/-- R98 and R111. -/
def timeFails (d : Dev) : List RuleFail :=
  if d.mode = 0 then []
  else
    (if d.isSender ∧ !offsetsFit d.mode (d.obj K.APERTURE_FRACTION) 0
        ((List.range 4).map (fun j => d.obj (K.APERTURE_OFFSET j))) then
      [failOver 0x0202 [K.APERTURE_OFFSET 0, K.APERTURE_OFFSET 1, K.APERTURE_OFFSET 2, K.APERTURE_OFFSET 3,
        K.MODE_NUMBER, K.APERTURE_FRACTION]] else []) ++
    ((List.range 8).filter (fun n => decide (facetCount d.mode ≤ d.obj (K.CAP_FACET n)))).map (fun n =>
      failOver 0x0203 [K.CAP_FACET n, K.MODE_NUMBER])

/-- Slots and legs in use. -/
def usedLegs (d : Dev) : List (Nat × Nat) := allLegs.filter (fun x => d.legEnabled x.1 x.2)

/-- R116 and R118.  The sums of 0x0302 to 0x0304 concern every slot; the other rules the slots that break them. -/
def streamFails (d : Dev) : List RuleFail :=
  let on := (List.range 16).filter (fun n => d.obj (K.STR_ENABLE n) == 1)
  let legs := d.usedLegs
  let rate := fun (l : List (Nat × Nat)) => Frac.sum (l.map (fun x => d.slotLegRate x.1))
  let cap := if d.obj K.INGEST_LANE_MODE = 0 then 24000000000 else 96000000000
  let f := fun (code dflt : Nat) (objs : Nat → Bool) => ({ code := code, objs := objs, named := none, dflt := dflt } : RuleFail)
  let slot := fun (code n : Nat) (subs : List Nat) => f code (K.STR_ENABLE n) (subIn (0x3100 + n) 1 subs)
  let legSubs := fun (l : Nat) => if l = 0 then [1, 0x10, 0x11, 0x12, 0x13] else [1, 0x18, 0x19, 0x1A, 0x1B]
  ((on.filter (fun n =>
      !streamFits (d.strFmt n) (d.obj (K.STR_WIDTH n)) (d.obj (K.STR_HEIGHT n)) (d.obj (K.STR_RATE n)))).map (fun n =>
    slot 0x0301 n [1, 2, 3, 4, 5])) ++
  (if (List.range 8).any (fun p => (rate (legs.filter (fun x => (d.leg x.1 x.2).2.2.2 == p))).above cap) then
    [f 0x0302 K.INGEST_LANE_MODE (fun k => k == K.INGEST_LANE_MODE || subIn 0x3100 16 [1, 2, 3, 4, 5, 0x10, 0x13, 0x18, 0x1B] k)]
    else []) ++
  (if (rate legs).above 190000000000 then
    [f 0x0303 (K.STR_ENABLE 0) (subIn 0x3100 16 [1, 2, 3, 4, 5, 0x10, 0x18])] else []) ++
  (if d.ingestRegion < d.ingestUsed then
    [f 0x0304 (K.STR_ENABLE 0) (fun k => subIn 0x3100 16 [1, 2, 3, 4, 0x0A] k || subIn 0x3200 16 [1, 2, 3, 8] k)] else []) ++
  ((legs.filter (fun x => !d.portExists (d.leg x.1 x.2).2.2.2)).map (fun x =>
    f 0x0305 K.INGEST_LANE_MODE (fun k => k == K.INGEST_LANE_MODE || subIn (0x3100 + x.1) 1 (legSubs x.2) k))) ++
  ((on.filter (fun n => (d.leg n 0).1 != 0 && d.leg n 0 == d.leg n 1)).map (fun n =>
    slot 0x0305 n (legSubs 0 ++ legSubs 1))) ++
  ((legs.filter (fun x => legs.any (fun y => x.1 != y.1 && d.leg x.1 x.2 == d.leg y.1 y.2))).map (fun x =>
    slot 0x0306 x.1 (legSubs x.2)))

/-- R141, R144, R149, R151, R152, R164 and R165 for one layer whose source is not None (R172). -/
def layerFails (d : Dev) (n : Nat) : List RuleFail :=
  let src := d.obj (K.LAY_SOURCE n)
  let matte := d.obj (K.LAY_MATTE n)
  let on := d.obj (K.LAY_ENABLE n) == 1
  let isStill := fun v => decide (0x20 ≤ v) && decide (v ≤ 0x2F)
  let isStream := fun v => decide (0x10 ≤ v) && decide (v ≤ 0x1F)
  let lost := fun v => isStill v &&
    (d.stillState (v - 0x20) == 0 || d.stillState (v - 0x20) == 1 || d.stillState (v - 0x20) == 4 ||
      (d.stillSt (v - 0x20)).releasing)
  let off := fun v => isStream v && d.obj (K.STR_ENABLE (v - 0x10)) == 0
  let cw := d.obj (K.LAY_CROP_W n)
  let ch := d.obj (K.LAY_CROP_H n)
  let cx := d.obj (K.LAY_CROP_X n)
  let dw := d.obj (K.LAY_DST_W n)
  let dh := d.obj (K.LAY_DST_H n)
  let ow := d.obj (K.LAY_OPAQUE_W n)
  let oh := d.obj (K.LAY_OPAQUE_H n)
  let size := d.sourceSize src
  let msize := d.sourceSize matte
  if src = 0 then []
  else
    (if on && decide (49152 < d.lineNeed n) && src != 0x30 then
      [{ failOver 0x0401 [K.LAY_CROP_W n] with named := some (K.LAY_CROP_W n) }] else []) ++
    (if src ≠ 0x30 ∧ (8 * dw < cw ∨ 16 * cw < dw ∨ 8 * dh < ch ∨ 16 * ch < dh) then
      [failOver 0x0402 [K.LAY_CROP_W n, K.LAY_CROP_H n, K.LAY_DST_W n, K.LAY_DST_H n]] else []) ++
    (match size with
      | some (w, h, fmt) =>
        if w < cx + cw ∨ h < d.obj (K.LAY_CROP_Y n) + ch ∨ (format422 fmt && (cx % 2 == 1 || cw % 2 == 1)) then
          [failWith 0x0403 [K.LAY_SOURCE n, K.LAY_CROP_X n, K.LAY_CROP_Y n, K.LAY_CROP_W n, K.LAY_CROP_H n] (sourceKeys src)] else []
      | none => []) ++
    (if lost src then [failWith 0x0404 [K.LAY_SOURCE n] (stillKeys src)] else []) ++
    (if lost matte then [failWith 0x0404 [K.LAY_MATTE n] (stillKeys matte)] else []) ++
    (if d.obj (K.LAY_ALPHA_MODE n) == 2 &&
        (match size, msize with
          | some a, some b => a.1 != b.1 || a.2.1 != b.2.1
          | _, _ => true) then
      [failWith 0x0405 [K.LAY_SOURCE n, K.LAY_MATTE n, K.LAY_ALPHA_MODE n] (sourceKeys src ++ sourceKeys matte)] else []) ++
    (if ow ≠ 0 ∧ oh ≠ 0 ∧ (dw < d.obj (K.LAY_OPAQUE_X n) + ow ∨ dh < d.obj (K.LAY_OPAQUE_Y n) + oh) then
      [failOver 0x0406 [K.LAY_DST_W n, K.LAY_DST_H n, K.LAY_OPAQUE_X n, K.LAY_OPAQUE_Y n, K.LAY_OPAQUE_W n, K.LAY_OPAQUE_H n]]
      else []) ++
    (if on && off src then [failOver 0x0408 [K.LAY_ENABLE n, K.LAY_SOURCE n, K.STR_ENABLE (src - 0x10)]] else []) ++
    (if on && off matte then [failOver 0x0408 [K.LAY_ENABLE n, K.LAY_MATTE n, K.STR_ENABLE (matte - 0x10)]] else [])

/-- R138: a placed region outside the canvas, or off the grid of 16. -/
def placeFails (d : Dev) : List RuleFail :=
  let bad := d.allTiles.any (fun r => match d.placeOf r.uid with
    | some (x, y) => decide (d.obj K.COMP_CANVAS_W < x + 16 * r.w16) || decide (d.obj K.COMP_CANVAS_H < y + 16 * r.h16) ||
        x % 16 != 0 || y % 16 != 0
    | none => false)
  (if bad then [failOver 0x0407 [K.COMP_CANVAS_W, K.COMP_CANVAS_H, K.PLACE_TABLE]] else []) ++
  (if !placeOk (d.blob K.PLACE_TABLE) then [failOver 0x0C01 [K.PLACE_TABLE]] else [])

/-- R212. -/
def codecFails (d : Dev) : List RuleFail :=
  ((List.range 4).filter (fun h => decide (d.obj (K.ENC_E_MAX h) < d.obj (K.ENC_E_MIN h)))).map (fun h =>
    failOver 0x0501 [K.ENC_E_MIN h, K.ENC_E_MAX h])

/-! ### Rules of the tile -/

/-- The objects that change the state of a tile image. -/
def imageKeys (i : Nat) : List Nat := [K.TIMG_CLEAR i, K.TIMG_DATA i]


/-- R225, R244, R253, R257, R299, R307 and R320. -/
def tileFails (d : Dev) : List RuleFail :=
  let le := d.obj K.LOSS_END
  let notReady := fun n => d.obj (K.TIMG_STATE n) != 2
  (if d.obj K.SCAN_SOURCE = 2 ∧ notReady (d.obj K.SCAN_IMAGE_SELECT) then
      [failWith 0x0601 [K.SCAN_SOURCE, K.SCAN_IMAGE_SELECT] (imageKeys (d.obj K.SCAN_IMAGE_SELECT))] else []) ++
  (if 2 ≤ le ∧ notReady (le - 2) then [failWith 0x0601 [K.LOSS_END] (imageKeys (le - 2))] else []) ++
  (if d.mode ≠ 0 ∧ d.regionW ≠ 0 ∧ d.regionH ≠ 0 ∧ d.lampsPer ≠ 0 ∧ !d.scanFit then
    [{ code := 0x0602
       objs := fun k => [K.SCAN_MULTIPLEX, K.GCLK_RATE, K.GCLK_SPREAD, K.LDL_STRAND_MASK, K.LDL_BIT_RATE, K.LDL_SEGMENTS,
         K.LDL_DEAD_TIME, K.LDL_LAMP_MAP].contains k || (decide (0x4840 ≤ k / 256) && decide (k / 256 ≤ 0x485F))
       named := none, dflt := K.SCAN_MULTIPLEX : RuleFail }] else []) ++
  (((List.range 4).filter (fun p =>
      decide (0x00FFFFFF < d.obj (K.PRIM_RANGE_THRESHOLD p) + d.obj (K.PRIM_RANGE_HYST p)))).map (fun p =>
    failOver 0x0701 [K.PRIM_RANGE_THRESHOLD p, K.PRIM_RANGE_HYST p])) ++
  (if d.calFraction ≠ 0 ∧ 2 ^ 31 / d.calFraction < d.headroom then [failOver 0x0702 [K.PRISM_HEADROOM]] else []) ++
  (if d.obj K.SCAN_ENABLE = 1 ∧ !d.lampMapOk then
    [{ code := 0x0801
       objs := fun k => [K.SCAN_ENABLE, K.SCAN_MULTIPLEX, K.LDL_STRAND_MASK, K.LDL_LAMP_MAP].contains k ||
         (decide (0x4840 ≤ k / 256) && decide (k / 256 ≤ 0x485F))
       named := none, dflt := K.SCAN_MULTIPLEX : RuleFail }] else []) ++
  (if d.obj K.LDL_BIT_RATE = 2 ∧ (d.obj K.LDL_SLEW_DATA = 3 ∨ d.obj K.LDL_SLEW_GCLK = 3) then
    [failOver 0x0802 [K.LDL_BIT_RATE, K.LDL_SLEW_DATA, K.LDL_SLEW_GCLK]] else []) ++
  (if d.obj K.DIAG_VERIFY_MAX_AGE < d.obj K.DIAG_TEST_AGE then
    [failOver 0x0803 [K.DIAG_TEST_AGE, K.DIAG_VERIFY_MAX_AGE]] else []) ++
  (((List.range 16).filter (fun i => d.obj (K.SNS_KIND i) == 3 && d.obj (K.SNS_LAMP i) != 0xFFFFFFFF &&
      !d.lampExists (d.obj (K.SNS_LAMP i)))).map (fun i => failOver 0x0B01 [K.SNS_KIND i, K.SNS_LAMP i]))

/-- R335. -/
def checkRectFails (d : Dev) : List RuleFail :=
  let w := if d.isSender then d.obj K.COMP_CANVAS_W else d.regionW
  let h := if d.isSender then d.obj K.COMP_CANVAS_H else d.regionH
  ((List.range 16).filter (fun r => d.obj (K.CHK_MODE r) != 0 &&
      (decide (w < d.obj (K.CHK_X r) + d.obj (K.CHK_W r)) || decide (h < d.obj (K.CHK_Y r) + d.obj (K.CHK_H r))))).map
    (fun r => failWith 0x0901 [K.CHK_MODE r, K.CHK_X r, K.CHK_Y r, K.CHK_W r, K.CHK_H r]
      (if d.isSender then [K.COMP_CANVAS_W, K.COMP_CANVAS_H] else []))

/-! ### COMMIT -/

/-- Rules that look at the staged writes themselves: wall parameters outside a wall commit, Idle objects whose block
runs, and pairs.  `d` is the state before the commit, `after` the state it would make. -/
def stagedFails (d after : Dev) (staged : List Nat) (wall : Bool) : List RuleFail :=
  let idle := fun k => match findDef d.pers k with
    | some o => o.cls == .idle && d.start.run == .armed && !d.blockDark k
    | none => false
  let one := fun (code k : Nat) => ({ failOver code [k] with named := some k } : RuleFail)
  let keys := sortBy id staged
  (if wall then [] else (((keys.find? (fun k => d.isWallParam k)).map (fun k => one 0x0201 k)).toList)) ++
  ((keys.find? idle).map (fun k => one 0x0006 k)).toList ++
  ((keys.find? (fun k => match pairPartner k with
    | some m => !ipPairOk (after.obj (min k m)) (after.obj (max k m))
    | none => false)).map (fun k => one 0x0005 k)).toList

/-- Every cross-rule that the state fails. -/
def stateFails (d : Dev) : List RuleFail :=
  d.timeFails ++ d.checkRectFails ++
    (if d.isSender then
      d.planFails ++ d.streamFails ++ (List.range 8).flatMap (fun n => d.layerFails n) ++ d.placeFails ++ d.codecFails
    else d.tileFails)

/-- The failure with the lowest reason code. -/
def lowestFail : List RuleFail → Option RuleFail
  | [] => none
  | x :: xs =>
    match lowestFail xs with
    | some y => if y.code < x.code then some y else some x
    | none => some x

/-- The reason and reference that COMMIT answers, if any cross-rule fails (R60, R587). -/
def commitFail (d after : Dev) (staged : List Nat) (wall : Bool) : Option (Nat × Nat) :=
  let fails := d.stagedFails after staged wall ++ after.stateFails
  (lowestFail fails).map (fun x => (x.code, refOf staged (fails.filter (fun y => y.code == x.code))))

end Dev
end Sys2Proof.Machine
end

