-- ==== Sys2Proof/Machine/CuOps.lean ====
section
/-!
DEFINITION. Sys2Proof/Machine/CuOps.lean: the check units (R475 to R485).
-/
namespace Sys2Proof.Machine
namespace Dev

/-- The algorithm an engine runs. -/
def cuAlg (d : Dev) (n : Nat) : CrcAlg := crcAlg (d.obj (K.CU_ALGORITHM n))

/-- The register in processing form (R476). -/
def cuReg (d : Dev) (n : Nat) : Nat := d.obj (K.CU_STATE n)

/-- The finished check value (R476). -/
def cuResult (d : Dev) (n : Nat) : Nat := d.cuReg n ^^^ (d.cuAlg n).xorOut

/-- The session that holds an engine. -/
def cuHeldBy (d : Dev) (n : Nat) : Option Nat := (d.cuHolder[n]?).getD none

def setCuHolder (n : Nat) (x : Option Nat) (d : Dev) : Dev :=
  { d with cuHolder := upd n (fun _ => x) d.cuHolder }.setObj (K.CU_CLAIM n) (b2n x.isSome)

/-- A write of `CUn_CLAIM` (R481). -/
def cuClaim (sid n v : Nat) (d : Dev) : Nat × Dev :=
  match d.cuHeldBy n with
  | none => if v = 1 then (Status.OK, d.setCuHolder n (some sid)) else (Status.OK, d)
  | some h =>
    if h ≠ sid then (Status.LOCKED, d)
    else if v = 1 then (Status.OK, d)
    else (Status.OK, d.setCuHolder n none)

/-- Does the session hold the engine (R482)? -/
def cuMine (d : Dev) (sid n : Nat) : Bool := d.cuHeldBy n == some sid

/-- The register takes the initial value of the algorithm in force (R479). -/
def cuInit (n : Nat) (d : Dev) : Dev := d.setObj (K.CU_STATE n) (d.cuAlg n).init

/-- A new algorithm, even the same one, resets the register (R479). -/
def cuSelect (n v : Nat) (d : Dev) : Dev := (d.setObj (K.CU_ALGORITHM n) v).cuInit n

/-- A feed of `w` bytes, most significant byte first (R477). -/
def cuFeed (n w v : Nat) (d : Dev) : Dev := d.setObj (K.CU_STATE n) (crcFeed (d.cuAlg n) (d.cuReg n) (be w v))

/-- Does a value fit the algorithm's width (R480)? -/
def cuFits (d : Dev) (n v : Nat) : Bool := decide (v < 2 ^ (d.cuAlg n).width)

/-- Engines of a session become free and keep their registers (R484). -/
def cuRelease (sid : Nat) (d : Dev) : Dev :=
  (List.range 4).foldl (fun d n => if d.cuHeldBy n = some sid then d.setCuHolder n none else d) d

/-- Every engine at a start (R485). -/
def cuStart (d : Dev) : Dev :=
  (List.range 4).foldl (fun d n => (d.setCuHolder n none).cuSelect n (n + 1)) { d with cuHolder := [none, none, none, none] }

end Dev
end Sys2Proof.Machine
end

