-- ==== Sys2Proof/Machine/SessionOps.lean ====
section
/-!
DEFINITION. Sys2Proof/Machine/SessionOps.lean: sessions and transactions as the other blocks see them: who is open, what
is held, what is sent in a session, and how a session or a transaction ends (02_control.md).
-/
namespace Sys2Proof.Machine

/-- The message a byte string spells (R45, R47): fewer than 24 bytes hold none. -/
def msgOfBytes (b : Bytes) : Option Msg :=
  if b.length < 24 then none
  else some
    { version := fieldAt 0 1 b, flags := fieldAt 1 1 b, opcode := fieldAt 2 1 b, status := fieldAt 3 1 b,
      session := fieldAt 4 4 b, sequence := fieldAt 8 4 b, txn := fieldAt 12 4 b, length := fieldAt 16 4 b,
      payload := (b.drop 20).take (b.length - 24), crc := fieldAt (b.length - 4) 4 b }

/-- A message with its trailer, as it travels. -/
def msgWire (m : Msg) : Bytes := msgBytes m ++ be 4 m.crc

/-- Phases in which a transaction counts as open (R59, R590); an armed wall commit does not.  DEDUCED, log entry 64. -/
def Txn.isOpen (x : Txn) : Bool :=
  match x.phase with
  | .staging | .validating | .scheduled _ => true
  | .armed _ => false

/-- The transaction ends with its session (R61, R65, R590): validation has not passed. -/
def Txn.endsWithSession (x : Txn) : Bool :=
  match x.phase with
  | .staging | .validating => true
  | _ => false

def Txn.isArmed (x : Txn) : Bool :=
  match x.phase with
  | .armed _ => true
  | _ => false

namespace Dev

def setPliuk (f : Pliuk → Pliuk) (d : Dev) : Dev := { d with pliuk := f d.pliuk }

/-- The session with an identifier, half open or open. -/
def sess (d : Dev) (sid : Nat) : Option Session := d.pliuk.sessions.find? (fun s => s.id == sid)

def setSess (sid : Nat) (f : Session → Session) (d : Dev) : Dev :=
  d.setPliuk (fun p => { p with sessions := p.sessions.map (fun s => if s.id == sid then f s else s) })

/-- `SESSIONS_OPEN`, half-open sessions included (R57). -/
def reportSessions (d : Dev) : Dev := d.setObj K.SESSIONS_OPEN d.pliuk.sessions.length

/-- A message of the device leaves on a carrier: a tile's CTL carrier is a CTL packet of kind 1 (R409, R410). -/
def sendPliuk (c : Carrier) (m : Msg) (d : Dev) : Dev :=
  match c with
  | .ctl h => d.sendCtl h 1 0 d.fix.fuses.uid (msgWire m)
  | _ => d.sendMsg c m

/-- The notification of an event in a session (R46, R74 and the table of events). -/
def notifyMsg (d : Dev) (s : Session) (event : Nat) (data : Bytes) : Msg :=
  sealMsg
    { version := 1, flags := 2, opcode := 9, status := 0, session := s.id, sequence := s.notifySeq, txn := 0,
      length := 0, payload := be 2 event ++ be 2 0 ++ be 8 d.wall ++ data, crc := 0 }

/-- A NOTIFY goes out in an open session and awaits its acknowledgement (R74). -/
def notify (sid event : Nat) (data : Bytes) (d : Dev) : Dev :=
  match d.sess sid with
  | none => d
  | some s =>
    if s.halfOpen then d
    else
      let m := d.notifyMsg s event data
      (d.setSess sid (fun s =>
        { s with notifySeq := (s.notifySeq + 1) % 2 ^ 32
                 unacked := s.unacked ++ [{ seq := m.sequence, msg := m, sentAt := d.now, repeats := 0 }] })).sendPliuk
        s.peer m

/-- A reference (R50) of a key. -/
def refBytes (k : Nat) : Bytes := be 2 (k / 256) ++ be 1 (k % 256) ++ be 1 0

/-! ### Transactions -/

/-- The transaction of a session that counts as open. -/
def openTxn (d : Dev) (sid : Nat) : Option Txn := d.pliuk.txns.find? (fun x => x.session == sid && x.isOpen)

def txnBy (d : Dev) (number : Nat) : Option Txn := d.pliuk.txns.find? (fun x => x.number == number)

def setTxn (number : Nat) (f : Txn → Txn) (d : Dev) : Dev :=
  d.setPliuk (fun p => { p with txns := p.txns.map (fun x => if x.number == number then f x else x) })

def armedTxn (d : Dev) : Option Txn := d.pliuk.txns.find? (fun x => x.isArmed)

/-- `ARMED_TXN` (R583). -/
def reportArmed (d : Dev) : Dev :=
  d.setObj K.ARMED_TXN (match d.armedTxn with
    | some x => x.number
    | none => 0)

/-- What the first chunk of a BLOB does. -/
def blobBegin (k : Nat) (d : Dev) : Dev :=
  let i := k / 256
  if 0x3200 ≤ i ∧ i ≤ 0x320F then d.stillBegin (i - 0x3200)
  else if i = 0x4020 ∨ i = 0x4021 then d.setObj (K.TIMG_STATE (i - 0x4020)) 1
  else d

/-- What a discarded upload does (R50, R124, R243). -/
def blobAbort (k : Nat) (d : Dev) : Dev :=
  let i := k / 256
  if 0x3200 ≤ i ∧ i ≤ 0x320F then d.stillFail (i - 0x3200)
  else if i = 0x4020 ∨ i = 0x4021 then
    d.setObj (K.TIMG_STATE (i - 0x4020)) (if (d.blob (K.TIMG_DATA (i - 0x4020))).isEmpty then 0 else 2)
  else d

/-- BLOB objects that a transaction has staged or begun to stage. -/
def txnBlobs (d : Dev) (number : Nat) : List Nat :=
  (d.pliuk.stages.filter (fun y => y.txn == number)).map (·.key) ++
    (d.pliuk.txns.filter (fun x => x.number == number)).flatMap (fun x =>
      (x.entries.filter (fun e => e.blob.isSome)).map (·.key))

/-- A transaction ends and releases its objects, and the BLOBs that it had begun to stage. -/
def endTxn (number : Nat) (d : Dev) : Dev :=
  (d.setPliuk (fun p => { p with
    txns := p.txns.filter (fun x => x.number != number)
    stages := p.stages.filter (fun y => y.txn != number) })).reportArmed

/-- A transaction is discarded: it ends, and what it had uploaded is aborted. -/
def dropTxn (number : Nat) (d : Dev) : Dev :=
  (d.txnBlobs number).foldl (fun d k => d.blobAbort k) (d.endTxn number)

/-- Is a half of the key's pair pending for another session (R38)? -/
def halfOfOther (d : Dev) (sid k : Nat) : Bool :=
  d.pliuk.halves.any (fun x => x.session != sid && (x.key == k || pairPartner x.key == some k))

/-- A session closes: what it staged is rolled back, its check units are released (R57, R61, R484). -/
def closeSession (sid : Nat) (d : Dev) : Dev :=
  let ends := d.pliuk.txns.filter (fun x => x.session == sid && x.endsWithSession)
  let d := ends.foldl (fun d x => d.dropTxn x.number) d
  ((d.setPliuk (fun p => { p with sessions := p.sessions.filter (fun s => s.id != sid) })).cuRelease sid).reportSessions

def setUpd (f : UpdSt → UpdSt) (d : Dev) : Dev := { d with update := f d.update }

/-- Does the boot ROM answer, in Recovery (R500)? -/
def recovering (d : Dev) : Bool := d.baseRun == .recovery

/-- The update state without a download: Idle, or Recovery in the boot ROM. -/
def updRest (d : Dev) : Nat := if d.recovering then 8 else 1

/-- The staging of an image is discarded: the slot stays Empty (R494). -/
def updDiscard (d : Dev) : Dev := (d.setObj K.UPD_STATE d.updRest).setUpd (fun u => { u with image := [], total := 0, session := 0 })

/-- A control restart (R537): every session closes, every open transaction is rolled back, halves and staging are
discarded, a download in Receiving too.  An armed wall commit is kept.  DEDUCED, log entry 65: a commit that waits for its
boundary counts as open (R590) and is rolled back; shadows and accepted broadcasts, which facet control applies, are kept. -/
def closeAll (d : Dev) : Dev :=
  let d := d.pliuk.sessions.foldl (fun d s => d.closeSession s.id) d
  let d := (d.pliuk.txns.filter (fun x => !x.isArmed)).foldl (fun d x => d.dropTxn x.number) d
  let d := (d.pliuk.stages.map (·.key)).foldl (fun d k => d.blobAbort k)
    (d.setPliuk (fun p => { p with halves := [], stages := [], spiIn := [] }))
  if d.obj K.UPD_STATE = 2 then d.updDiscard else d

end Dev
end Sys2Proof.Machine
end

