-- ==== Sys2Proof/Machine/LedgerOps.lean ====
section
/-!
DEFINITION. Sys2Proof/Machine/LedgerOps.lean: the lamp wear ledger: increments, folds, gain updates, the flash journal,
and the wall ceiling requests (R338 to R361), with the photodiode windows that the gain update closes (R379, R381).
-/
namespace Sys2Proof.Machine

/-- The low-range weight of an exponent setting (R338). -/
def lowWeight (k : Nat) : Nat := ft ((4 * k) % 64) / 2 ^ (4 + k / 16)

/-- Relative luminance of an accumulator on an ageing curve of 16 points (stress, luminance) (R343). -/
def luminanceOn (a : Nat) : List (Nat × Nat) → Nat
  | [] => 0x8000
  | [p] => p.2
  | [p, q] => lumBetween a p q
  | p :: q :: rest => if a < q.1 then lumBetween a p q else luminanceOn a (q :: rest)
where
  /-- The line through two points, never below 0x1000. -/
  lumBetween (a : Nat) (p q : Nat × Nat) : Nat :=
    let w := q.1 - p.1
    max 0x1000 (p.2 - ((p.2 - q.2) * (a - p.1) + w / 2) / w)

/-- The needed gain of a luminance (R343). -/
def neededGain (l : Nat) : Nat := min ((2 ^ 30 + l / 2) / l) 0xFFFF

/-- Points of an ageing curve: stress, luminance, reserved. -/
def curvePoints (b : Bytes) : List (Nat × Nat × Nat) :=
  (List.range 16).map (fun i => (fieldAt (8 * i) 4 b, fieldAt (8 * i + 4) 2 b, fieldAt (8 * i + 6) 2 b))

/-- Does a sequence never rise? -/
def neverRises : List Nat → Bool
  | a :: b :: rest => decide (b ≤ a) && neverRises (b :: rest)
  | _ => true

/-- The conditions of R341 on a slot's ageing curve and temperature table. -/
def curveOk (curve temps : Bytes) : Bool :=
  let ps := curvePoints curve
  let ts := tablePoints 2 2 true false temps
  curve.length == 128 && temps.length == 64 && (ps.headD (1, 0, 0)).1 == 0 && (ps.headD (1, 0, 0)).2.1 == 0x8000 &&
    risesStrictly (ps.map (fun p => (p.1 : Int))) && neverRises (ps.map (·.2.1)) &&
    ps.all (fun p => decide (0x1000 ≤ p.2.1) && p.2.2 == 0) && risesStrictly (ts.map (·.1)) &&
    ts.all (fun p => decide (1 ≤ p.2))

namespace Dev

def setLedger (f : LedgerSt → LedgerSt) (d : Dev) : Dev := { d with ledger := f d.ledger }

/-- Section 3 of a slot. -/
def curveOf (d : Dev) (p : Nat) : Bytes := slice (128 * p) 128 (calSection d.prism.image 3)

/-- Are the corrections in use those of a calibration copy? -/
def calLoaded (d : Dev) : Bool := d.prism.use == .copyA || d.prism.use == .copyB

/-- Is every slot without curves: `PRISM_CAL_STATE` is 4 or 6 (R342)? -/
def noCurves (d : Dev) : Bool := d.obj K.PRISM_CAL_STATE == 4 || d.obj K.PRISM_CAL_STATE == 6

/-- Curve validity is judged whenever corrections load (R342): a slot without a sound curve and temperature table takes
φ = 0x1000, and is an integrity fault. -/
def judgeCurves (d : Dev) : Dev :=
  (List.range 4).foldl (fun d p =>
    if d.lampsPer ≤ p then d.setObj (K.LEDG_CURVE_VALID p) 0
    else if d.calLoaded && curveOk (d.curveOf p) (slice (64 * p) 64 (calSection d.prism.image 4)) then
      d.setObj (K.LEDG_CURVE_VALID p) 1
    else
      let d := (d.setObj (K.LEDG_CURVE_VALID p) 0).setObj (K.LEDG_TEMP_FACTOR p) 0x1000
      if d.calLoaded || d.noCurves then d.fault 8 (K.LEDG_CURVE_VALID p) p else d) d

/-! ### Increments and folds (R338 to R340) -/

/-- V of a lamp grows. -/
def addWork (lamp n : Nat) (d : Dev) : Dev :=
  d.setLedger (fun l => { l with work := putCount lamp ((l.work.look lamp).getD 0 + n) l.work })

/-- φ of a slot in force. -/
def phi (d : Dev) (p : Nat) : Nat := d.obj (K.LEDG_TEMP_FACTOR p)

/-- Δ of one lamp for an aperture, from the drive word in the front bank (R338). -/
def wearOf (d : Dev) (u lamp word : Nat) : Nat :=
  if bit 18 word then 0
  else
    let w := if bit 16 word then lowWeight (d.obj K.LEDG_EXPONENT) else 32768
    ceilDiv (litCount (word % 65536) u * w * d.phi (lamp % 4)) (2 ^ 27)

/-- The drive word of a lamp on show. -/
def frontWord (d : Dev) (rows : List LoadRow) (lamp : Nat) : Nat :=
  let w := 64 * d.regionW
  ((rows.find? (fun r => r.wale == lamp / w)).map (fun r => r.words.getD (lamp % w) 0)).getD 0

/-- The photodiode windows take the lamp's lit counts of this aperture, in sixteenths (R379). -/
def pdAperture (u : Nat) (rows : List LoadRow) (i : Nat) (d : Dev) : Dev :=
  if d.obj (K.SNS_KIND i) ≠ 3 then d
  else
    let w := d.frontWord rows (d.obj (K.SNS_LAMP i))
    let t := if bit 18 w then 0 else litCount (w % 65536) u * (if bit 16 w then 1 else 16)
    d.setSenseIn i (fun s => { s with litSum := s.litSum + t, litCount := s.litCount + 1 })

/-- Lamps whose drivers their strand's own bring-up keeps blanked (R304). -/
def darkLamps (d : Dev) : List Nat :=
  ((List.range 32).filter (fun s => (d.strand s).dark)).flatMap (fun s =>
    (List.range 24).flatMap (fun a => (List.range 32).flatMap (fun r =>
      ((mapRow (d.blob K.LDL_LAMP_MAP) s a r).filterMap mapEntry).map (fun e =>
        (e.y * d.regionW + e.x) * 4 + e.slot))))

/-- The aperture after a mark: the increment of every lamp whose driver runs it unblanked, from the rows on show (R338). -/
def accrue (d : Dev) : Dev :=
  match d.tile.front with
  | none => d
  | some (_, rows) =>
    let u := d.litAvail d.mode (d.obj K.APERTURE_FRACTION)
    let skip := d.darkLamps
    let d := (List.range 16).foldl (fun d i => d.pdAperture u rows i) d
    rows.foldl (fun d row =>
      (row.words.zip (List.range row.words.length)).foldl (fun d x =>
        let lamp := row.wale * 64 * d.regionW + x.2
        let n := d.wearOf u lamp x.1
        if n = 0 ∨ skip.contains lamp then d else d.addWork lamp n) d) d

/-- A test slot lights the lamps of a driver's mask (R339). -/
def accrueTest (s a r mask : Nat) (d : Dev) : Dev :=
  let es := mapRow (d.blob K.LDL_LAMP_MAP) s a r
  (List.range 48).foldl (fun d ch =>
    match mapEntry (es.getD ch 0) with
    | none => d
    | some e =>
      let lamp := (e.y * d.regionW + e.x) * 4 + e.slot
      if mask &&& chanBit ch = 0 ∨ !d.lampExists lamp then d
      else d.addWork lamp (ceilDiv (d.testCounts * 32768 * d.phi e.slot) (2 ^ 27))) d

/-- The test slots that run after the mark (R310, R339): each adds to the lamps it lights, and is counted. -/
def runTests (xs : List TestSlot) (d : Dev) : Dev :=
  let d := xs.foldl (fun d x =>
    x.masks.foldl (fun d y =>
      (y.2.zip (List.range y.2.length)).foldl (fun d m => d.accrueTest y.1 m.2 x.row m.1) d) d) d
  d.setObj K.TEST_PULSES ((d.obj K.TEST_PULSES + xs.length) % 2 ^ 32)

/-- d_u of R340. -/
def foldUnit (d : Dev) : Nat := d.gclk * (2000 - d.gspread) * 125 / 16

/-- Every V folds into its A, saturating; the remainder is kept (R340). -/
def fold (d : Dev) : Dev :=
  let u := d.foldUnit
  d.setLedger (fun l =>
    { l with
      acc := l.work.foldl (fun s x => putCount x.1 (min ((s.look x.1).getD 0 + x.2 / u) (2 ^ 32 - 1)) s) l.acc
      work := (l.work.map (fun x => (x.1, x.2 % u))).filter (fun x => x.2 != 0) })

/-! ### Gain updates (R343 to R348) -/

/-- Relative luminance of a lamp. -/
def lampLum (d : Dev) (lamp : Nat) : Nat :=
  if d.obj (K.LEDG_CURVE_VALID (lamp % 4)) = 0 then 0x8000
  else luminanceOn ((d.ledger.acc.look lamp).getD 0) ((curvePoints (d.curveOf (lamp % 4))).map (fun p => (p.1, p.2.1)))

/-- The needed gain of a lamp (R342, R343). -/
def lampGain (d : Dev) (lamp : Nat) : Nat :=
  if d.obj (K.LEDG_CURVE_VALID (lamp % 4)) = 0 then 0x8000 else neededGain (d.lampLum lamp)

/-- Lamps with wear: every other lamp has luminance 0x8000 and needs no gain. -/
def wornLamps (d : Dev) : List Nat := (d.ledger.acc.map (·.1)).filter (fun lamp => d.lampExists lamp)

/-- The request goes to both senders of the pair (R348, R410). -/
def sendRequestCtl (d : Dev) : Dev :=
  let c := d.obj K.LEDG_WALL_REQUEST
  let body := be 2 c ++ be 2 (65535 - c)
  ((d.sendCtl 0 4 0 d.fix.fuses.uid body).sendCtl 1 4 0 d.fix.fuses.uid body).setLedger (fun l =>
    { l with requestAt := some d.now })

/-- The wall request takes a value; a change is sent at once. -/
def setWallRequest (c : Nat) (d : Dev) : Dev :=
  if d.obj K.LEDG_WALL_REQUEST = c then d
  else
    let d := d.setObj K.LEDG_WALL_REQUEST c
    if c = 0x8000 then d else d.sendRequestCtl

/-- The request is withdrawn once the CEILING in force is at or below it (R348). -/
def reviewWallRequest (d : Dev) : Dev :=
  let r := d.obj K.LEDG_WALL_REQUEST
  if r < 0x8000 ∧ d.obj K.WALL_CEILING ≤ r then d.setObj K.LEDG_WALL_REQUEST 0x8000 else d

/-- The white ceiling steps of Uniformity first (R347, R348). -/
def stepCeiling (gMax : Nat) (d : Dev) : Dev :=
  if d.obj K.LEDG_POLICY ≠ 2 then d
  else
    let cn := min (128 * (d.headroom * 256 / gMax)) 0x8000
    let ct := d.obj K.LEDG_TILE_CEILING
    let fl := d.obj K.LEDG_TILE_FLOOR
    let d := if cn < ct ∧ fl < ct then d.keepObj K.LEDG_TILE_CEILING (max fl (ct - 128)) else d
    if d.obj K.LEDG_TILE_CEILING ≤ fl ∧ cn < fl then (d.setWallRequest cn).reviewWallRequest else d

/-- Light per lit count of a window in u32.16 µV, with low-range counts divided by 16 (R379). -/
def pdRate (s : SenseInput) : Nat :=
  (clampI 0 (2 ^ 48 - 1) (unstatedDiv (s.pdSum * 1048576 * (s.litCount : Int)) (s.pdCount * s.litSum))).toNat

/-- A photodiode input's window closes (R379 to R381); the rounding of r and of the ratio is open (log entry 40). -/
def closePdWindow (i : Nat) (d : Dev) : Dev :=
  let s := d.senseIn i
  let d := d.setSenseIn i (fun s => { s with pdSum := 0, pdCount := 0, litSum := 0, litCount := 0 })
  let u := d.litAvail d.mode (d.obj K.APERTURE_FRACTION)
  let lamp := d.obj (K.SNS_LAMP i)
  if d.obj (K.SNS_KIND i) ≠ 3 ∨ s.pdCount = 0 ∨ s.litCount = 0 ∨ s.litSum = 0 ∨ 4 * s.litSum < u * s.litCount then d
  else
    let r := pdRate s
    let lum := d.lampLum lamp
    let d := if s.baseline then
        (d.setSenseIn i (fun s => { s with baseline := false })).keepObj (K.SNS_PD_BASELINE i) (r * 65536 + lum)
      else d
    let r0 := d.obj (K.SNS_PD_BASELINE i) / 65536
    let l0 := d.obj (K.SNS_PD_BASELINE i) % 65536
    if r0 = 0 then d
    else
      let ratio := min (unstatedDiv ((r * l0 * 32768 : Nat) : Int) (r0 * lum)).toNat 65535
      let d := d.setObj (K.SNS_PD_RATIO i) ratio
      if d.obj K.SNS_PD_TOL < ((ratio : Int) - 32768).natAbs then
        let n := s.pdBad + 1
        let due := decide (d.obj K.SNS_PD_WINDOWS ≤ n)
        let d := d.setSenseIn i (fun s => { s with pdBad := n, pdLogged := s.pdLogged || due })
        if due && !s.pdLogged then d.fault 12 (K.SNS_PD_RATIO i) lamp else d
      else d.setSenseIn i (fun s => { s with pdBad := 0, pdLogged := false })

/-- A gain update (R344 to R348). -/
def gainUpdate (d : Dev) : Dev :=
  let worn := d.wornLamps
  let table := worn.map (fun lamp => (lamp, d.lampLum lamp, d.lampGain lamp))
  let gains := (table.filter (fun x => x.2.2 != 0x8000)).map (fun x => (x.1, x.2.2))
  let d := d.setLedger (fun l =>
    { l with lums := (table.filter (fun x => x.2.1 != 0x8000)).map (fun x => (x.1, x.2.1)), gains := gains })
  let d := d.setPrism (fun s => { s with ageStage := gains })
  let healthy := table.filter (fun x => !d.lampBad x.1)
  let gMax := healthy.foldl (fun a x => max a x.2.2) 0x8000
  let out := (healthy.filter (fun x => decide (d.headroomNow < x.2.2))).length
  let was := d.obj K.LEDG_LAMPS_OUT
  let d := (d.setObj K.LEDG_GAIN_MAX gMax).setObj K.LEDG_LAMPS_OUT out
  let d := d.setObj K.LEDG_LAMPS_SATURATED (d.ledger.acc.filter (fun x => x.2 == 2 ^ 32 - 1)).length
  let d := if was < out then d.fault 12 K.LEDG_LAMPS_OUT 0 else d
  (d.stepCeiling gMax)

/-! ### The journal (R350 to R361) -/

end Dev

/-- The 16-byte header of a record as one number, its bytes 2 and 3 zero (R351). -/
def JRecord.head (r : JRecord) : Nat :=
  r.ty * 2 ^ 120 + r.version * 2 ^ 112 + r.seq * 2 ^ 64 + r.first * 2 ^ 32 + r.count

/-- A record with its complements. -/
def mkRecord (ty seq first : Nat) (vals : List Nat) : JRecord :=
  let r : JRecord := { ty := ty, version := 1, seq := seq, first := first, count := vals.length, comp := 0,
                       entries := vals.map (fun v => (v, 2 ^ 32 - 1 - v % 2 ^ 32)) }
  { r with comp := 2 ^ 128 - 1 - r.head }

/-- Payload values. -/
def JRecord.vals (r : JRecord) : List Nat := r.entries.map (·.1)

/-- Is a record valid: its header complement and every entry complement match (R351)? -/
def JRecord.valid (r : JRecord) : Bool :=
  r.head + r.comp == 2 ^ 128 - 1 && r.count == r.entries.length && r.entries.all (fun e => e.1 + e.2 == 2 ^ 32 - 1)

/-- The bytes of a record (R351). -/
def JRecord.bytes (r : JRecord) : Bytes :=
  be 16 r.head ++ be 16 r.comp ++ r.entries.flatMap (fun e => be 4 e.1 ++ be 4 e.2)

/-- MAGIC of a journal block. -/
def journalMagic : Nat := 0x564C4A31

/-- A block right after its erasure, with its header (R350). -/
def mkBlock (no erases ringSeq uid : Nat) : JBlock :=
  { no := no, magic := journalMagic, erases := erases, erasesComp := 2 ^ 32 - 1 - erases % 2 ^ 32, ringSeq := ringSeq,
    ringSeqComp := 2 ^ 32 - 1 - ringSeq % 2 ^ 32, uid := uid, recs := [] }

/-- Is a block's header valid: MAGIC and both complements match (R350)? -/
def JBlock.valid (b : JBlock) : Bool :=
  b.magic == journalMagic && b.erases + b.erasesComp == 2 ^ 32 - 1 && b.ringSeq + b.ringSeqComp == 2 ^ 32 - 1

/-- The bytes of a block: header, records back to back, and erased space (R350). -/
def JBlock.bytes (b : JBlock) : Bytes :=
  let body := be 4 b.magic ++ be 4 b.erases ++ be 4 b.erasesComp ++ be 4 b.ringSeq ++ be 4 b.ringSeqComp ++ be 8 b.uid ++
    be 4 0 ++ b.recs.flatMap JRecord.bytes
  body ++ List.replicate (65536 - body.length) 0xFF

namespace Dev

/-- Entries in all, and the blocks C a checkpoint takes (R351). -/
def entryCount (d : Dev) : Nat := d.regionPixels * d.lampsPer
def ckptBlocks (d : Dev) : Nat := ceilDiv d.entryCount 8176 + 1

/-- Lamp index of entry `e`. -/
def entryLamp (d : Dev) (e : Nat) : Nat := (e / d.lampsPer) * 4 + e % d.lampsPer

/-- Blocks of the journal region of the flash part (R487). -/
def journalBlocks (d : Dev) : Nat := min 65535 (d.flash.sizeMiB * 16 - 1328)

def setJournal (f : Journal → Journal) (d : Dev) : Dev := d.setLedger (fun l => { l with journal := f l.journal })

/-- Bit errors change what the flash holds. -/
def journalErrors (es : List JournalError) (d : Dev) : Dev :=
  let hit := fun (e : JournalError) (r : JRecord) => match e.entry with
    | none => { r with comp := r.comp ^^^ e.mask }
    | some n => { r with entries := upd n (fun x => (x.1 ^^^ e.mask, x.2)) r.entries }
  es.foldl (fun d e => d.setJournal (fun j =>
    { j with blocks := j.blocks.map (fun b => if b.no == e.block then { b with recs := upd e.record (hit e) b.recs } else b) })) d

/-- Valid blocks of the ring, in the order in which they were opened. -/
def ringBlocks (d : Dev) : List JBlock :=
  sortBy (·.ringSeq) (d.ledger.journal.blocks.filter (fun b => b.valid && d.ledger.journal.ring.contains b.no))

/-- Valid records of the journal in the order they were written. -/
def journalRecords (d : Dev) : List JRecord := (d.ringBlocks.flatMap (·.recs)).filter JRecord.valid

/-- Sequences of complete checkpoints, newest first: those with a valid COMMIT (R352). -/
def completeSeqs (d : Dev) : List Nat := ((d.journalRecords.filter (fun r => r.ty == 3)).map (·.seq)).reverse

/-- The PROJECTION record of a checkpoint. -/
def projectionOf (d : Dev) (c : Nat) : Option JRecord :=
  (d.journalRecords.filter (fun r => r.ty == 2 && r.seq == c)).getLast?

/-- Blocks that hold part of the two newest complete checkpoints (R354). -/
def keptBlocks (d : Dev) : List Nat :=
  let keep := d.completeSeqs.take 2
  (d.ledger.journal.blocks.filter (fun b => b.recs.any (fun r => keep.contains r.seq))).map (·.no)

/-- The block written last. -/
def writtenBlock (d : Dev) : Option JBlock := (d.ringBlocks.filter (fun b => !b.recs.isEmpty)).getLast?

/-- The next block of the ring after the one written last that R354 lets the ledger erase. -/
def nextBlock (d : Dev) : Option Nat :=
  let ring := d.ledger.journal.ring
  let at' := match d.writtenBlock with
    | none => 0
    | some b => (ring.takeWhile (fun x => x != b.no)).length + 1
  (ring.drop at' ++ ring.take at').find? (fun x => !d.keptBlocks.contains x)

/-- The interval that the settings and the doublings give (R360). -/
def intervalNow (d : Dev) : Nat := min 3600 (2 ^ d.ledger.journal.doublings * d.obj K.LEDG_INTERVAL)

/-- May the journal be written (R358, R559)? -/
def journalWritable (d : Dev) : Bool :=
  (d.obj K.LEDG_STATE == 2 || d.obj K.LEDG_STATE == 3) && d.flashOpen

/-- Reports of the journal's figures. -/
def reportJournal (d : Dev) : Dev :=
  let j := d.ledger.journal
  let sum := d.ringBlocks.foldl (fun a b => a + b.erases) 0
  let d := ((d.setObj K.LEDG_JOURNAL_BLOCKS d.journalBlocks).setObj K.LEDG_CKPT_BLOCKS d.ckptBlocks).setObj
    K.LEDG_RING_BLOCKS j.ring.length
  let d := ((d.setObj K.LEDG_SPARES_LEFT j.spares.length).setObj K.LEDG_RETIRED j.retired.length).setObj K.LEDG_ERASE_MAX
    (d.ringBlocks.foldl (fun a b => max a b.erases) 0)
  (d.setObj K.LEDG_ERASE_MEAN (if j.ring.length = 0 then 0 else sum / j.ring.length)).setObj K.LEDG_DOUBLINGS
    (min j.doublings 255)

/-- The ledger takes a state; each entry into Mismatch, Too small or Read-only is a ledger fault (R358). -/
def setLedgerState (v : Nat) (d : Dev) : Dev :=
  if d.obj K.LEDG_STATE = v then d
  else
    let d := d.setObj K.LEDG_STATE v
    if 4 ≤ v then d.fault 12 K.LEDG_STATE 0 else d

/-- The interval in force doubles (R360). -/
def doubleInterval (d : Dev) : Dev :=
  let d := d.setJournal (fun j => { j with doublings := j.doublings + 1 })
  let d := d.setObj K.LEDG_INTERVAL_IN_FORCE (min 3600 (2 * d.obj K.LEDG_INTERVAL_IN_FORCE))
  ((d.setLedgerState 3).setObj K.LEDG_DOUBLINGS (min d.ledger.journal.doublings 255)).note 12 K.LEDG_DOUBLINGS 0

/-- A block is retired: a spare takes its place, or the ring shrinks; without spares left the interval doubles, and a ring
too short ends journal writes, with the checkpoint in progress (R360, R361). -/
def retireBlock (b : Nat) (d : Dev) : Dev :=
  let last := decide (d.ledger.journal.spares.length ≤ 1)
  let d := d.setJournal (fun j =>
    match j.spares with
    | s :: rest => { j with ring := j.ring.map (fun x => if x == b then s else x), spares := rest,
                            retired := j.retired ++ [b] }
    | [] => { j with ring := j.ring.filter (fun x => x != b), retired := j.retired ++ [b] })
  let d := d.reportJournal.fault 12 K.LEDG_RETIRED b
  let d := if last then d.doubleInterval else d
  if d.ledger.journal.ring.length < 3 * d.ckptBlocks + 1 ∧ d.obj K.LEDG_STATE ≠ 4 then
    (((d.setJournal (fun j => { j with readOnly := true })).setLedger (fun l => { l with ckpt := none, next := none })).setLedgerState
      4).note 12 K.LEDG_STATE 0
  else d

/-- Does a block fail before it holds `n` records (R360)? -/
def blockFails (d : Dev) (b n : Nat) : Bool := d.ledger.journal.failing.any (fun x => x.1 == b && decide (x.2 < n))

/-- A block is erased and given its header (R350). -/
def eraseBlock (no : Nat) (d : Dev) : Dev :=
  let j := d.ledger.journal
  let erases := ((j.blocks.find? (fun b => b.no == no)).map (·.erases)).getD 0 + 1
  let seq := (d.ringBlocks.foldl (fun a b => max a b.ringSeq) 0 + 1) % 2 ^ 32
  d.setJournal (fun j =>
    { j with blocks := j.blocks.filter (fun b => b.no != no) ++ [mkBlock no erases seq d.fix.fuses.uid] })

/-- Has the block been erased ahead: the one opened last, with no record yet? -/
def erasedAhead (d : Dev) (no : Nat) : Bool := d.ringBlocks.getLast?.any (fun b => b.no == no && b.recs.isEmpty && b.ringSeq != 0)

/-- Records of a block. -/
def putRecords (no : Nat) (rs : List JRecord) (d : Dev) : Dev :=
  d.setJournal (fun j => { j with blocks := j.blocks.map (fun b => if b.no == no then { b with recs := rs } else b) })

/-- The ledger erases one block ahead of its writing. -/
def eraseAhead (d : Dev) : Dev :=
  match d.nextBlock with
  | none => d
  | some b => if d.erasedAhead b then d else if d.blockFails b 1 then d.retireBlock b else d.eraseBlock b

/-- Records into a block of their own; blocks that fail are retired, and the write goes on in the next (R360). -/
def writeInto (rs : List JRecord) : Nat → Dev → Dev
  | 0, d => d
  | fuel + 1, d =>
    if !d.journalWritable then d
    else match d.nextBlock with
      | none => d
      | some b =>
        if d.blockFails b rs.length then writeInto rs fuel (d.retireBlock b)
        else (((if d.erasedAhead b then d else d.eraseBlock b).putRecords b rs).eraseAhead).reportJournal

/-- How many blocks a write may try: every failing one, and one more. -/
def tries (d : Dev) : Nat := d.ledger.journal.failing.length + 1

/-- A record in a block of its own. -/
def writeRecord (r : JRecord) (d : Dev) : Dev := d.writeInto [r] d.tries

/-- A record after those of the block written last.  Where that block fails now, it is retired, and what it holds is written
again, with the record, into the next (R360; log entry 152). -/
def appendRecord (r : JRecord) (d : Dev) : Dev :=
  match d.writtenBlock with
  | none => d.writeRecord r
  | some b =>
    if !d.journalWritable then d
    else if d.blockFails b.no (b.recs.length + 1) then (d.retireBlock b.no).writeInto (b.recs ++ [r]) d.tries
    else d.putRecords b.no (b.recs ++ [r])

/-- Lamps of block `b` (raster order of 16 × 16 blocks) and slot `p`. -/
def blockLamps (d : Dev) (b p : Nat) : List Nat :=
  let nc := d.regionW / 16
  (List.range 256).map (fun i =>
    let x := b % nc * 16 + i % 16
    let y := b / nc * 16 + i / 16
    (y * d.regionW + x) * 4 + p)

/-- Δ_b,p of a projection (R352). -/
def projection (d : Dev) (b p : Nat) : Nat :=
  let rise := (d.blockLamps b p).foldl (fun m lamp =>
    max m ((d.ledger.acc.look lamp).getD 0 - (d.ledger.prev.look lamp).getD 0)) 0
  let i := d.obj K.LEDG_INTERVAL_IN_FORCE
  min (ceilDiv (rise * i) (i - 1)) (2 ^ 32 - 1)

/-- Payload of a PROJECTION record. -/
def projectionVals (d : Dev) (snap : Nat) : List Nat :=
  [snap / 2 ^ 32 % 2 ^ 16, snap % 2 ^ 32, d.obj K.LEDG_INTERVAL_IN_FORCE] ++
    (List.range (d.regionPixels / 256)).flatMap (fun b => (List.range d.lampsPer).map (fun p => d.projection b p))

/-- Step 1 of a checkpoint: its PROJECTION record (R352). -/
def openCkpt (snap : Nat) (close : Bool) (d : Dev) : Ckpt × Dev :=
  let seq := (d.obj K.LEDG_SEQUENCE + 1) % 2 ^ 32
  let d := d.setObj K.LEDG_SEQUENCE seq
  ({ seq := seq, snapTime := snap, close := close }, d.writeRecord (mkRecord 2 seq 0 (d.projectionVals snap)))

/-- Step 2 of a checkpoint: the snapshot copy, unless its PROJECTION ended journal writes (R361). -/
def takeSnapshot (c : Ckpt) (d : Dev) : Dev :=
  if d.journalWritable then d.setLedger (fun l => { l with snap := l.acc, prev := l.acc, ckpt := some c }) else d

/-- A checkpoint at once (R355): one in progress is given up. -/
def immediateCkpt (close : Bool) (d : Dev) : Dev :=
  if d.isTile && d.journalWritable then
    let (c, d) := d.openCkpt d.wall close
    d.takeSnapshot c
  else d

/-- A SEGMENT record of the snapshot (R351). -/
def segmentRecord (d : Dev) (seq i : Nat) : JRecord :=
  let first := 8176 * i
  mkRecord 1 seq first ((List.range (min 8176 (d.entryCount - first))).map (fun k =>
    (d.ledger.snap.look (d.entryLamp (first + k))).getD 0))

/-- Steps 3 and 4: segments, COMMIT, and a CLOSE where one follows (R351, R352, R355).  Blocks that fail are known from here
on. -/
def finishCkpt (failing : List (Nat × Nat)) (d : Dev) : Dev :=
  let d := d.setJournal (fun j => { j with failing := j.failing ++ failing })
  match d.ledger.ckpt with
  | none => d
  | some c =>
    if !d.journalWritable then d
    else
      let e := d.entryCount
      let n := ceilDiv e 8176
      let d := (List.range n).foldl (fun d i => d.writeRecord (d.segmentRecord c.seq i)) d
      let d := d.appendRecord (mkRecord 3 c.seq 0 [c.snapTime / 2 ^ 32 % 2 ^ 16, c.snapTime % 2 ^ 32, e, n])
      if !d.journalWritable then d
      else
        let d := (d.setObj K.LEDG_LAST_SNAPSHOT (c.snapTime % 2 ^ 48)).setLedger (fun l => { l with ckpt := none })
        (if c.close then d.appendRecord (mkRecord 4 c.seq 0 [d.wall / 2 ^ 32, d.wall % 2 ^ 32]) else d).reportJournal

/-- The snapshot instant of the checkpoint that was opened a second ago: taken, or skipped and counted while the one before
is not complete (R352, R353). -/
def snapshotDue (d : Dev) : Dev :=
  match d.ledger.next with
  | none => d
  | some c =>
    let d := d.setLedger (fun l => { l with next := none })
    if c.snapTime ≠ d.wall then d
    else if d.ledger.ckpt.isSome then d.bump K.LEDG_SNAPSHOTS_SKIPPED
    else d.takeSnapshot c

/-- The journal's part of a whole second: the snapshot due now, a changed interval from a snapshot instant on, and the
PROJECTION record of the snapshot a second ahead (R352, R353, R360).  On the way to Standby or Off the CLOSE record is the
last one (R556, R559). -/
def journalSecond (sec : Nat) (d : Dev) : Dev :=
  if !d.journalWritable || d.start.run == .toStandby || d.start.run == .toOff then d
  else
    let d := d.snapshotDue
    let d := if sec % d.obj K.LEDG_INTERVAL_IN_FORCE = 0 then d.setObj K.LEDG_INTERVAL_IN_FORCE d.intervalNow else d
    if (sec + 1) % d.obj K.LEDG_INTERVAL_IN_FORCE = 0 then
      let (c, d) := d.openCkpt ((d.now + 1000000000) % 2 ^ 48) false
      d.setLedger (fun l => { l with next := some c })
    else d

/-- LEDGER_FOLD at a whole PTP second: fold, snapshot, gain update, in that order (R340, R344, R352, R353). -/
def ledgerSecond (d : Dev) : Dev :=
  if d.now % 1000000000 ≠ 0 then d
  else
    let sec := d.now / 1000000000
    let d := d.fold.journalSecond sec
    if sec % 60 = 0 then (List.range 16).foldl (fun d k => d.closePdWindow k) d.gainUpdate else d

/-! ### Restore (R356 to R358) -/

/-- The value of entry `e` in a checkpoint; none where no valid SEGMENT record holds it. -/
def segmentOf (d : Dev) (seq e : Nat) : Option Nat :=
  (d.journalRecords.find? (fun r => r.ty == 1 && r.seq == seq && decide (r.first ≤ e) &&
    decide (e < r.first + r.count))).map (fun r => r.vals.getD (e - r.first) 0)

/-- delta(e) of a PROJECTION record: the value of e's block and slot. -/
def deltaOf (d : Dev) (r : JRecord) (e : Nat) : Nat :=
  let px := e / d.lampsPer
  let b := (px / d.regionW / 16) * (d.regionW / 16) + px % d.regionW / 16
  r.vals.getD (3 + b * d.lampsPer + e % d.lampsPer) 0

/-- SNAP_TIME of a record. -/
def snapOf (r : JRecord) : Nat := r.vals.getD 0 0 * 2 ^ 32 + r.vals.getD 1 0

/-- One entry restored from the segments (R356): its value, none where it is lost (R357). -/
def restoreEntry (d : Dev) (c : Nat) (prev : Option Nat) (e : Nat) : Option Nat :=
  match d.segmentOf c e with
  | some v => some v
  | none => (prev.bind (fun s => d.segmentOf s e)).map (fun v => v + ((d.projectionOf c).map (fun r => d.deltaOf r e)).getD 0)

/-- The accumulators after R356, with the entries lost and the seconds credited (none: a clean stop).  A lost entry is 0. -/
def restored (d : Dev) (c : Nat) : Store × Nat × Option Nat :=
  let recs := d.journalRecords
  let prev := (d.completeSeqs.drop 1).head?
  let p := (recs.filter (fun r => r.ty == 2)).getLast?
  let gap := (p.map (fun r => seqAfter r.seq c)).getD false
  let clean := (recs.getLast?.map (fun r => r.ty == 4 && r.seq == c)) == some true
  let i := (p.map (fun r => r.vals.getD 2 1)).getD 1
  let x0 := (p.map (fun r => wallDiff d.wall (snapOf r) / 1000000000)).getD 0
  let x := if d.obj K.TIME_STATE ≠ 3 ∨ x0 < 0 then i else min x0.toNat i
  let vals := (List.range d.entryCount).map (fun e =>
    let delta := (p.map (fun r => d.deltaOf r e)).getD 0
    let credit := if clean then 0 else ceilDiv (delta * x) i
    (d.entryLamp e, (d.restoreEntry c prev e).map (fun v =>
      min (v + (if gap then delta else 0) + credit) (2 ^ 32 - 1))))
  ((vals.filter (fun v => v.2.getD 0 != 0)).map (fun v => (v.1, v.2.getD 0)), (vals.filter (fun v => v.2.isNone)).length,
    if clean then none else some x)

/-- A poisoned accumulator takes its value in the newest complete checkpoint plus the projection, as in R356 (the table
of poisoned reads). -/
def repairAcc (x : Nat × PoisonAt) (d : Dev) : Dev :=
  let d := d.poisonRead x.2
  match d.completeSeqs.head? with
  | none => d.setLedger (fun l => { l with acc := putCount x.1 0 l.acc })
  | some c => d.setLedger (fun l => { l with acc := putCount x.1 (((d.restored c).1.look x.1).getD 0) l.acc })

/-- LEDGER_FOLD: poisoned accumulators are repaired first; nothing is folded while the control processors restart
(R537). -/
def ledgerTick (reads : FoldReads) (d : Dev) : Dev :=
  if d.integ.restart.isSome then d
  else
    let d := reads.corrected.foldl (fun d a => d.correctedRead a) d
    (reads.poisoned.foldl (fun d x => d.repairAcc x) d).ledgerSecond

/-- The journal region is erased, and its ring and spares are laid out anew (the text before R350): every block keeps its
erase count, one higher.  Blocks of a formatted region have not been opened: their RING_SEQ is 0 (DESIGN CHOICE, log entry
151). -/
def formatJournal (d : Dev) : Dev :=
  let n := d.journalBlocks
  let s := n / 8
  let erases := fun (b : Nat) => ((d.ledger.journal.blocks.find? (fun x => x.no == b)).map (·.erases)).getD 0
  d.setJournal (fun j =>
    { j with blocks := (List.range n).map (fun b => mkBlock b (erases b + 1) 0 d.fix.fuses.uid)
             ring := List.range (n - s), spares := (List.range s).map (fun k => n - s + k), retired := [],
             doublings := 0, readOnly := false })

/-- The state that restore finds (R358): the first case that applies. -/
def ledgerStateFound (d : Dev) : Nat :=
  let j := d.ledger.journal
  let e := ((d.journalRecords.filter (fun r => r.ty == 3)).getLast?).map (fun r => r.vals.getD 2 0)
  if j.blocks.any (fun b => b.valid && b.uid != d.fix.fuses.uid) ∨ e.any (fun n => n != d.entryCount) then 5
  else if j.ring.length < 3 * d.ckptBlocks + 1 then 6
  else if j.readOnly then 4
  else if j.spares.isEmpty && decide (0 < j.doublings) then 3
  else 2

/-- What the newest complete checkpoint gives the accumulators (R356, R357). -/
def restoreFrom (c : Nat) (d : Dev) : Dev :=
  let (acc, lost, credit) := d.restored c
  let d := d.setLedger (fun l => { l with acc := acc })
  let d := d.setObj K.LEDG_LAST_SNAPSHOT
    (((d.journalRecords.filter (fun r => r.ty == 3 && r.seq == c)).head?.map snapOf).getD 0)
  let d := if lost = 0 then d else (d.bumpBy lost K.LEDG_ENTRIES_LOST).fault 8 K.LEDG_ENTRIES_LOST 0
  match credit with
  | none => d.setObj K.LEDG_LAST_CREDIT 0
  | some x => (d.setObj K.LEDG_LAST_CREDIT x).fault 12 K.LEDG_LAST_CREDIT 0

/-- The ledger restores after correction load (R356 to R358), and its first gain update follows.  A region with no valid
block is a new journal. -/
def ledgerRestore (d : Dev) : Dev :=
  let d := d.setLedger (fun l => { l with ckpt := none, next := none, lums := [], gains := [], acc := [] })
  let d := if d.ledger.journal.blocks.any JBlock.valid then d else d.formatJournal.fault 12 K.LEDG_STATE 0
  let st := d.ledgerStateFound
  let d := d.setObj K.LEDG_SEQUENCE (d.journalRecords.foldl (fun a r => max a r.seq) 0)
  let d := match d.completeSeqs.head? with
    | some c => if st = 5 then d else d.restoreFrom c
    | none => d
  let d := d.setLedgerState st
  let d := (d.setLedger (fun l => { l with prev := l.acc })).setObj K.LEDG_INTERVAL_IN_FORCE d.intervalNow
  d.gainUpdate.reportJournal

/-! ### Commands (R355, R359) -/

/-- An accepted service write is logged with the values it replaced (log entry 50). -/
def logService (key subject detail : Nat) (d : Dev) : Dev := d.logFault 12 1 key subject detail

/-- LEDG_FORMAT: a new journal from the accumulators in DRAM. -/
def ledgerFormat (d : Dev) : Dev :=
  let d := d.logService K.LEDG_FORMAT 0 (d.obj K.LEDG_SEQUENCE)
  let d := d.formatJournal
  let d := d.setLedgerState (if d.ledger.journal.ring.length < 3 * d.ckptBlocks + 1 then 6 else 2)
  (d.immediateCkpt false).reportJournal

/-- Keys of two stores, each once. -/
def unionKeys (a b : List Nat) : List Nat := a ++ b.filter (fun k => !a.contains k)

/-- Lamps that a LEDG_LAMP_RESET changes: the one it names, or every lamp with wear. -/
def resetLamps (d : Dev) (v : Nat) : List Nat :=
  if v = 0xFFFFFFFF then unionKeys (d.ledger.acc.map (·.1)) (d.ledger.work.map (·.1)) else [v]

/-- May LEDG_LAMP_RESET name this lamp?  An Absent slot or an index outside the region: RANGE. -/
def lampResetOk (d : Dev) (v : Nat) : Bool := v == 0xFFFFFFFF || d.lampExists v

/-- LEDG_LAMP_RESET: A and V of a lamp, or of all, become 0, and a checkpoint follows at once (R359).  The log takes the A
and the V that each lamp had. -/
def ledgerLampReset (v : Nat) (d : Dev) : Dev :=
  let old := d.ledger
  let d := (d.resetLamps v).foldl (fun d k =>
    (d.logService K.LEDG_LAMP_RESET k ((old.acc.look k).getD 0)).logService K.LEDG_LAMP_RESET k ((old.work.look k).getD 0)) d
  let d := d.setLedger (fun l =>
    { l with acc := if v = 0xFFFFFFFF then [] else Store.del v l.acc, work := if v = 0xFFFFFFFF then [] else Store.del v l.work })
  d.immediateCkpt false

/-- LEDG_TILE_CEILING_RESET. -/
def ledgerCeilingReset (d : Dev) : Dev :=
  (d.logService K.LEDG_TILE_CEILING 0 (d.obj K.LEDG_TILE_CEILING)).keepObj K.LEDG_TILE_CEILING 0x8000

/-- CEILING_REQUEST_RESEND: ten seconds since the request was last sent (R348). -/
def requestResend (d : Dev) : Dev :=
  if d.isTile && decide (d.obj K.LEDG_WALL_REQUEST < 0x8000) &&
      d.ledger.requestAt.all (fun t => decide (t + 10000000000 ≤ d.now)) then d.sendRequestCtl
  else d

/-! ### Requests at a sender (R349) -/

/-- The lowest request of the last 30 s is reported. -/
def reportRequests (d : Dev) : Dev :=
  let live := d.ledger.requests.filter (fun r => decide (d.now < r.2.2 + 30000000000))
  let best := live.foldl (fun (a : Nat × Nat) r => if r.2.1 < a.1 then (r.2.1, r.1) else a) (0x8000, 0)
  ((d.setLedger (fun l => { l with requests := live })).setObj K.LEDG_WALL_REQUEST_MIN best.1).setObj
    K.LEDG_WALL_REQUEST_TILE best.2

/-- CTL_CEILING_REQUEST reaches a sender: each request stands for 30 s, a tile's earlier ones too. -/
def ceilingRequestRx (h : PortId) (p : Packet) (d : Dev) : Dev :=
  if !d.isSender ∨ !d.portUp h then d
  else
    let d := d.countRx h p
    if !pktPasses p then d
    else
      let uid := fieldAt 4 8 p.body
      let v := fieldAt 16 2 p.body
      if p.body.length ≠ 20 ∨ fieldAt 18 2 p.body ≠ 65535 - v then d
      else (d.setLedger (fun l => { l with requests := l.requests ++ [(uid, v, d.now)] })).reportRequests

/-- CEILING_REQUEST_EXPIRY: 30 s since a tile's last request. -/
def requestExpiry (uid : Nat) (d : Dev) : Dev :=
  if d.isSender && d.ledger.requests.any (fun r => r.1 == uid && decide (r.2.2 + 30000000000 ≤ d.now)) then d.reportRequests
  else d

end Dev
end Sys2Proof.Machine
end

