-- ==== Sys2Proof/Machine/OverlayOps.lean ====
section
/-!
DEFINITION. Sys2Proof/Machine/OverlayOps.lean: overlay slots and authenticated overlay commands (R321 to R332).
-/
namespace Sys2Proof.Machine

/-- The fields of an overlay command (R325). -/
structure OvlFields where
  cmd : Nat
  slot : Nat
  reserved : Nat
  seq : Nat
  target : Nat
  applyAt : Nat
  x : Nat
  y : Nat
  w : Nat
  h : Nat
  crc : Nat
  deriving DecidableEq, Repr

def ovlFields (b : Bytes) : OvlFields :=
  { cmd := fieldAt 0 1 b, slot := fieldAt 1 1 b, reserved := fieldAt 2 2 b, seq := fieldAt 4 4 b,
    target := fieldAt 8 8 b, applyAt := fieldAt 16 8 b, x := fieldAt 24 2 b, y := fieldAt 26 2 b, w := fieldAt 28 2 b,
    h := fieldAt 30 2 b, crc := fieldAt 32 4 b }

/-- The MAC of R325: HMAC-SHA-256 of 0x4F56_4C31 and bytes 0 to 71 under the Safety key. -/
def ovlMac (key b : Bytes) : Bytes := hmacSha256 key (be 4 0x4F564C31 ++ b.take 72)

/-- Check 6 of R326: reserved codes, slots, reserved and unused fields. -/
def ovlFieldsBad (f : OvlFields) : Bool :=
  let noRect := f.x == 0 && f.y == 0
  let noImage := f.w == 0 && f.h == 0 && f.crc == 0
  let sizeBad := decide (f.w = 0) || decide (512 < f.w) || decide (f.h = 0) || decide (512 < f.h)
  f.reserved != 0 || decide (3 < f.slot) || decide (2 ^ 48 ≤ f.applyAt) ||
    (match f.cmd with
      | 1 => !noRect || f.applyAt != 0 || sizeBad
      | 2 => false
      | 3 => !noRect || !noImage
      | 4 => !noRect || !noImage || f.applyAt != 0
      | 5 => !noRect || !noImage || f.slot != 0
      | _ => true)

namespace Dev

def ovlState (d : Dev) (k : Nat) : Nat := d.obj (K.OVL_STATE k)

def setOvl (f : List OvlCmd → List OvlCmd) (d : Dev) : Dev := { d with flash := { d.flash with ovl := f d.flash.ovl } }

/-- A slot takes a state, which persists with the time of the change (R331). -/
def setOvlState (k s : Nat) (d : Dev) : Dev :=
  if d.ovlState k = s then d else (d.putFlash (K.OVL_STATE k) s).putFlash (K.OVL_CHANGED_AT k) d.wall

/-- Is a command pending for the slot? DEACTIVATE_ALL is one for every slot. DEDUCED, log entry 34. -/
def ovlPendingFor (d : Dev) (k : Nat) : Bool := d.flash.ovl.any (fun c => c.slot == k || c.cmd == 5)

/-- The conditions of R329. -/
def ovlAccept (d : Dev) (f : OvlFields) : Nat :=
  let k := f.slot
  match f.cmd with
  | 1 | 4 => if d.ovlState k ≠ 3 ∧ !d.ovlPendingFor k then Status.OK else Status.LOCKED
  | 2 =>
    if (d.ovlState k = 1 ∨ d.ovlState k = 2 ∨ d.ovlState k = 3) ∧ f.w = d.obj (K.OVL_W k) ∧ f.h = d.obj (K.OVL_H k) ∧
        f.crc = d.obj (K.OVL_IMAGE_CRC k) ∧ f.x + f.w ≤ d.bootObj K.REGION_W ∧ f.y + f.h ≤ d.bootObj K.REGION_H then
      Status.OK
    else Status.RANGE
  | _ => Status.OK

/-- The checks of R326, the transaction check of item 1 aside: the first failure. -/
def ovlCheck (d : Dev) (b : Bytes) : Nat :=
  let f := ovlFields b
  if b.length ≠ 104 then Status.LENGTH
  else if d.fix.otp.safetyKey.map (fun key => ovlMac key b) ≠ some (slice 72 32 b) then Status.AUTH
  else if slice 36 36 b ≠ complement (b.take 36) then Status.RANGE
  else if f.target ≠ d.fix.fuses.uid ∧ f.target ≠ 2 ^ 64 - 1 then Status.AUTH
  else if f.seq ≤ d.obj K.OVL_SEQUENCE then Status.AUTH
  else if ovlFieldsBad f then Status.RANGE
  else if f.applyAt ≠ 0 ∧ 60000000000 < wallDiff f.applyAt d.wall then Status.TOO_FAR
  else if d.ovlAccept f ≠ Status.OK then d.ovlAccept f
  else if 16 ≤ d.flash.ovl.length then Status.BUSY
  else Status.OK

/-- A refusal is counted and logged; a bad complement is an integrity fault as well (R326). -/
def ovlRefuse (complementBad : Bool) (d : Dev) : Dev :=
  let d := d.bumpFault 14 K.OVL_REFUSED 0
  if complementBad then d.fault 8 K.OVL_REFUSED 0 else d

/-- Is an accepted command due: at a boundary `f` at or after its APPLY_AT whose latch point follows its acceptance, and with
no mode in force at its time (R31, R328)?  One whose time had passed at the start waits for Running (R331). -/
def ovlDue (d : Dev) (f : Time) (c : OvlCmd) : Bool :=
  !c.held && decide (c.applyAt ≤ f) && (d.mode == 0 || decide (c.taken + latchLead < f))

/-- A command takes effect (R329). -/
def ovlApply (c : OvlCmd) (d : Dev) : Dev :=
  match c.cmd with
  | 2 => ((d.putFlash (K.OVL_X c.slot) c.x).putFlash (K.OVL_Y c.slot) c.y).setOvlState c.slot 3
  | 3 => if d.ovlState c.slot = 3 then d.setOvlState c.slot 2 else d
  | 5 => (List.range 4).foldl (fun d k => if d.ovlState k = 3 then d.setOvlState k 2 else d) d
  | _ => d

/-- Commands due at a boundary apply in SEQUENCE order; an ACTIVATE whose slot is still Loading waits (R328 to R330). -/
def ovlApplyDue (f : Time) (d : Dev) : Dev :=
  let due := sortBy (·.seq) (d.flash.ovl.filter (d.ovlDue f))
  due.foldl (fun d c =>
    if c.cmd = 2 ∧ d.ovlState c.slot = 1 then d
    else (d.setOvl (fun l => l.filter (fun x => x.seq != c.seq))).ovlApply c) d

/-- Uploads of a slot's content that are under way end: its image is discarded (R324, R329). -/
def ovlDropData (k : Nat) (d : Dev) : Dev :=
  { d with pliuk := { d.pliuk with stages := d.pliuk.stages.filter (fun s => s.key != K.OVL_DATA k) } }

/-- The pending commands at a start: those whose time has passed wait for scan-out to enter Running (R331; log entry
144). -/
def ovlStart (d : Dev) : Dev := d.setOvl (fun l => l.map (fun c => { c with held := decide (c.applyAt ≤ d.now) }))

/-- An accepted command (R327 to R329): SEQUENCE is kept, LOAD and CLEAR act at once, the others wait for their boundary. -/
def ovlTake (f : OvlFields) (d : Dev) : Dev :=
  let d := d.putFlash K.OVL_SEQUENCE f.seq
  let d := if f.cmd = 1 ∨ f.cmd = 4 then d.ovlDropData f.slot else d
  match f.cmd with
  | 1 =>
    let d := ((d.setBlob (K.OVL_DATA f.slot) []).flashBlob (K.OVL_DATA f.slot)).setOvlState f.slot 1
    ((d.putFlash (K.OVL_W f.slot) f.w).putFlash (K.OVL_H f.slot) f.h).putFlash (K.OVL_IMAGE_CRC f.slot) f.crc
  | 4 =>
    let d := (d.setBlob (K.OVL_DATA f.slot) []).flashBlob (K.OVL_DATA f.slot)
    let d := ((d.putFlash (K.OVL_W f.slot) 0).putFlash (K.OVL_H f.slot) 0).putFlash (K.OVL_IMAGE_CRC f.slot) 0
    ((d.putFlash (K.OVL_X f.slot) 0).putFlash (K.OVL_Y f.slot) 0).setOvlState f.slot 0
  | _ =>
    let c : OvlCmd :=
      { cmd := f.cmd, slot := f.slot, seq := f.seq, x := f.x, y := f.y, w := f.w, h := f.h, crc := f.crc,
        applyAt := if f.applyAt = 0 then 0 else wallToAbs d.now f.applyAt, taken := d.now, held := false }
    let d := d.setOvl (fun l => l ++ [c])
    if d.mode = 0 then d.ovlApplyDue d.now else d

/-- A whole overlay command: the status, and the device after it. -/
def ovlCommand (b : Bytes) (d : Dev) : Nat × Dev :=
  let s := d.ovlCheck b
  if s = Status.OK then (s, d.ovlTake (ovlFields b))
  else
    let keyOk := d.fix.otp.safetyKey.map (fun key => ovlMac key b) == some (slice 72 32 b)
    (s, d.ovlRefuse (b.length == 104 && keyOk && slice 36 36 b != complement (b.take 36)))

/-- One WRITE_BLOCK to `OVL_COMMAND`: the command comes whole in one chunk of 104 bytes (R325, R326). -/
def ovlChunk (b : Chunk) (d : Dev) : Nat × Dev :=
  if b.offset = 0 ∧ !b.more ∧ b.total = 104 ∧ b.data.length = 104 then d.ovlCommand b.data
  else (Status.LENGTH, d.ovlRefuse false)

/-- The checks of a chunk of `OVLk_DATA` (R324). -/
def ovlDataFirst (k total : Nat) (d : Dev) : Nat :=
  if d.ovlState k ≠ 1 then Status.ACCESS
  else if total ≠ d.obj (K.OVL_W k) * d.obj (K.OVL_H k) * 6 then Status.LENGTH
  else Status.OK

/-- The last chunk of an image (R323, R324): Ready when the CRC agrees, else Failed, and a waiting ACTIVATE is
discarded (R329). -/
def ovlDataDone (k : Nat) (data : Bytes) (d : Dev) : Dev :=
  let d := (d.setBlob (K.OVL_DATA k) data).flashBlob (K.OVL_DATA k)
  if crc32c data = d.obj (K.OVL_IMAGE_CRC k) then d.setOvlState k 2
  else
    let d := (d.setOvlState k 4).fault 8 (K.OVL_STATE k) k
    let waiting := d.flash.ovl.filter (fun c => c.cmd == 2 && c.slot == k)
    let d := d.setOvl (fun l => l.filter (fun c => !(c.cmd == 2 && c.slot == k)))
    waiting.foldl (fun d _ => d.fault 14 (K.OVL_STATE k) k) d

/-- A change of region size empties every slot and discards every pending command (R332). -/
def ovlRegionChange (d : Dev) : Dev :=
  let d := (List.range 4).foldl (fun d k =>
    let d := (d.setBlob (K.OVL_DATA k) []).flashBlob (K.OVL_DATA k)
    [K.OVL_X k, K.OVL_Y k, K.OVL_W k, K.OVL_H k, K.OVL_IMAGE_CRC k].foldl (fun d o => d.putFlash o 0) (d.setOvlState k 0)) d
  (d.setOvl (fun _ => [])).fault 14 (K.OVL_STATE 0) 0

/-- The word an active slot puts at a pixel of the region, the highest slot on top (R322). -/
def ovlPixel (d : Dev) (x y : Nat) : Option (Nat × Nat × Nat) :=
  let hit := ([3, 2, 1, 0] : List Nat).find? (fun k =>
    d.ovlState k == 3 && decide (d.obj (K.OVL_X k) ≤ x) && decide (x < d.obj (K.OVL_X k) + d.obj (K.OVL_W k)) &&
      decide (d.obj (K.OVL_Y k) ≤ y) && decide (y < d.obj (K.OVL_Y k) + d.obj (K.OVL_H k)))
  hit.map (fun k =>
    let o := 6 * ((y - d.obj (K.OVL_Y k)) * d.obj (K.OVL_W k) + (x - d.obj (K.OVL_X k)))
    let b := d.blob (K.OVL_DATA k)
    (fieldAt o 2 b, fieldAt (o + 2) 2 b, fieldAt (o + 4) 2 b))

end Dev

end Sys2Proof.Machine
end

