-- ==== Sys2Proof/Machine/TilePipe.lean ====
section
/-!
DEFINITION. Sys2Proof/Machine/TilePipe.lean: the tile's picture path: PIX assembly, decoding, path selection, source
selection, overlay, Prism, loading, and the tile's check rectangles (R178 to R180, R202 to R208, R220 to R224, R239 to
R244, R334 to R337, R430, R588).
-/
namespace Sys2Proof.Machine

/-! ### Assembly (R407, R408, R588) -/

/-- Fragments in offset order joined from `off` on, up to the first byte that is missing. -/
def joinParts : Nat → Nat → List (Nat × Bytes) → Bytes → Bytes
  | 0, _, _, acc => acc
  | _ + 1, _, [], acc => acc
  | fuel + 1, off, (o, b) :: rest, acc =>
    if off < o then acc
    else if o + b.length ≤ off then joinParts fuel off rest acc
    else joinParts fuel (o + b.length) rest (acc ++ b.drop (off - o))

/-- The TOTAL bytes of an assembly, when none is missing. -/
def PixAsm.bytes (a : PixAsm) : Option Bytes :=
  let b := joinParts (a.parts.length + 1) 0 a.parts []
  if a.total ≤ b.length then some (b.take a.total) else none

/-! ### The wale header (R188, R189, R203) -/

/-- Header fields of an assembled wale. -/
def waleOfBytes (b : Bytes) : Wale :=
  { band := bit 0 (fieldAt 1 1 b), raw := bit 1 (fieldAt 1 1 b), trunc := bit 2 (fieldAt 1 1 b), facet := fieldAt 2 1 b,
    eMax := fieldAt 3 1 b, index := fieldAt 4 2 b, refreshCol := fieldAt 6 2 b, w := fieldAt 8 2 b, h := fieldAt 10 2 b,
    frame := fieldAt 12 4 b, crc := fieldAt 20 4 b, payload := b.drop 32 }

/-- The first cause of R203 that a complete wale's header meets, `k` the full frame number; 0 for none. -/
def headerCause (b : Bytes) (a : PixAsm) (k w h : Nat) : Nat :=
  let x := waleOfBytes b
  let nc := w / 16
  let len := fieldAt 16 4 b
  if a.clash ∨ a.total < 32 then 6
  else if fieldAt 28 4 b ≠ crc32c (b.take 28) then 1
  else if fieldAt 0 1 b ≠ 1 ∨ 8 ≤ fieldAt 1 1 b ∨ 4 ≤ x.facet ∨ 8 ≤ x.eMax ∨ fieldAt 24 4 b ≠ 0 then 2
  else if x.frame ≠ a.frame ∨ x.facet ≠ a.facet ∨ x.index ≠ a.wale ∨ h / 16 ≤ x.index then 3
  else if x.w ≠ w ∨ x.h ≠ h then 4
  else if x.refreshCol ≠ (if x.band then 0xFFFF else k % nc) then 5
  else if (x.raw && x.trunc) ∨ a.total ≠ 32 + len ∨
      (if x.trunc then len ≠ 0 else if x.raw then len ≠ nc * 1152 else len = 0 ∨ nc * 1152 < len) then 6
  else 0

/-- What decoding a wale's payload gives: blocks with their flags, or the cause of R203. -/
def decodePayload (x : Wale) (ref : RefWale) (nc : Nat) : Except Nat (List (Block × Bool)) :=
  if x.trunc then .ok (ref.blocks.zip ref.flags)
  else if x.raw then .ok ((blocksOf nc (rawPixels (256 * nc) (unpackBits x.payload))).map (fun b => (b, true)))
  else
    let ins := (List.range nc).map (fun c =>
      { ref := ref.blocks.getD c [], valid := ref.flags.getD c false, refresh := !x.band && x.refreshCol == c : RefIn })
    match decodeBlocks x.band x.eMax ins .start (unpackBits x.payload) with
    | .error c => .error c
    | .ok (l, rest) => if 7 < rest.length ∨ rest.any id then .error 13 else .ok l

namespace Dev

def setTile (f : TileSt → TileSt) (d : Dev) : Dev := { d with tile := f d.tile }

/-- The facet number a FRAME and FACET name: the next boundary's, or the last one's (R202). -/
def facetNamed (d : Dev) (frame facet : Nat) : Option Nat :=
  let m := d.mode
  let c := facetCount m
  if m = 0 ∨ c ≤ facet then none
  else
    let q := facetAfter m d.now
    let is := fun (x : Nat) => (x / c) % 2 ^ 32 == frame && x % c == facet
    if is q then some q else if 1 ≤ q ∧ is (q - 1) then some (q - 1) else none

/-- Has the path decoded this wale of the pass in progress from its bytes? -/
def decoded (d : Dev) (path frame facet wale : Nat) : Bool :=
  match d.tile.pass, d.facetNamed frame facet with
  | some (q, _), some n => q == n && d.tile.decs.any (fun x => x.path == path && x.wale == wale && x.outcome != .lost)
  | _, _ => false

/-- A PIX body this tile takes (R407, R588).  A fragment of a wale already decoded belongs to no other: it is dropped.
DEDUCED, log entry 108. -/
def takeFragment (path : Nat) (b : Bytes) (d : Dev) : Dev :=
  let frame := fieldAt 4 4 b
  let facet := fieldAt 8 1 b
  let wale := fieldAt 10 2 b
  let off := fieldAt 12 2 b
  let total := fieldAt 14 2 b
  let mine := fun (a : PixAsm) => a.path == path && a.frame == frame && a.facet == facet && a.wale == wale
  if d.decoded path frame facet wale then d
  else match d.tile.asm.find? mine with
  | none => d.setTile (fun s => { s with asm := s.asm ++
      [{ path := path, frame := frame, facet := facet, wale := wale, total := total, parts := [(off, b.drop 16)],
         clash := false }] })
  | some a =>
    let a := { a with parts := insertBy (·.1) (off, b.drop 16) a.parts, clash := a.clash || total != a.total }
    d.setTile (fun s => { s with asm := s.asm.map (fun x => if mine x then a else x) })

/-- Is decoding running (R555)?  Not in power state Dark. -/
def tileActive (d : Dev) : Bool := d.isTile && !d.tile.dark && d.wales != 0

/-- PIX_FRAGMENT_RECEIVED (R405, R414, R418, R588). -/
def pixRx (h : PortId) (p : Packet) (canStart : Bool) (d : Dev) : Dev :=
  if !d.portUp h then d
  else
    let d := d.countRx h p
    if d.isSender || pktLink p then d
    else if targetsMe p then
      if !pktPasses p || decide (p.body.length < 17) then d
      else if fieldAt 0 4 p.body ≠ d.fix.fuses.uid % 2 ^ 32 then d.bump (K.WITHY_MISADDRESSED h)
      else if d.tileActive then d.takeFragment h p.body
      else d
    else if !d.portUp (otherPort h) then d
    else if canStart || decide ((d.port h).rate ≤ (d.port (otherPort h)).rate) then d.forward h p p.body
    else d.bump (K.WITHY_PIX_DROPPED (otherPort h))

/-! ### Decoding (R180, R202 to R208) -/

/-- Reference wales of a path. -/
def refsOf (d : Dev) (path : Nat) : List RefWale := (d.tile.refs[path]?).getD []

/-- Blocks without their flag on a path, over the facet indexes in force (R207). -/
def awaiting (d : Dev) (path : Nat) : Nat :=
  let nc := d.regionW / 16
  let c := if d.mode = 0 then 0 else facetCount d.mode
  let have' := ((d.refsOf path).filter (fun r => decide (r.facet < c))).foldl (fun a r =>
    a + (r.flags.filter (fun f => f)).length) 0
  c * d.wales * nc - have'

def reportAwaiting (path : Nat) (d : Dev) : Dev := d.setObj (K.DEC_AWAITING path) (d.awaiting path)

/-- Before a wale of frame `k` is decoded, its reference wale loses every flag unless its tag is k − 1 (R180). -/
def withdrawFlags (path j i k : Nat) (d : Dev) : Dev :=
  let stale := fun (r : RefWale) => r.facet == j && r.index == i && r.tag != (k + 2 ^ 32 - 1) % 2 ^ 32
  let empty := fun (r : RefWale) => if stale r then { r with flags := r.flags.map (fun _ => false) } else r
  d.setTile (fun s => { s with refs := upd path (fun l => l.map empty) s.refs })

/-- A malformed wale and its cause (R203). -/
def malformed (path cause : Nat) (d : Dev) : Dev :=
  (d.bump (K.DEC_MALFORMED path)).setObj (K.DEC_LAST_MALFORMED path) cause

/-- An outcome of the facet in the pass (R205, R432). -/
def noteOutcome (x : DecWale) (d : Dev) : Dev :=
  let d := d.setTile (fun s => { s with decs := s.decs ++ [x] })
  if x.outcome = .failed ∨ x.outcome = .lost then d.setPath x.path (fun s => { s with bad := s.bad + 1 }) else d

/-- An assembled wale is decoded against its path's reference for facet number `q`: outcome, blocks and flags (R204,
R205).  A wale whose header meets no cause of R203 is a wale of its frame, whatever its payload is found to be: its stale
reference has lost its flags (R180; log entry 141). -/
def decodeAsm (a : PixAsm) (q : Nat) (d : Dev) : (WaleOutcome × List Block × List Bool) × Dev :=
  let c := facetCount d.mode
  let k := q / c
  let nc := d.regionW / 16
  let bad := fun (cause : Nat) => ((WaleOutcome.failed, ([] : List Block), ([] : List Bool)), d.malformed a.path cause)
  match a.bytes with
  | none => bad 7
  | some b =>
    let cause := headerCause b a k d.regionW d.regionH
    if cause ≠ 0 then bad cause
    else
      let x := waleOfBytes b
      let d := d.withdrawFlags a.path x.facet x.index (k % 2 ^ 32)
      let ref := refFor (d.refsOf a.path) x.facet x.index (k % 2 ^ 32) nc
      match decodePayload x ref nc with
      | .error cause => ((WaleOutcome.failed, ([] : List Block), ([] : List Bool)), d.malformed a.path cause)
      | .ok l =>
        let blocks := l.map (·.1)
        let flags := l.map (·.2)
        let whole := flags.all id
        let d := if x.trunc then d.bump (K.DEC_TRUNCATED a.path) else d
        let d := if x.raw then d.bump (K.DEC_RAW a.path) else d
        if whole && reconCrc blocks != x.crc then
          ((.failed, [], []), d.bump (K.DEC_CRC_FAIL a.path))
        else
          let new : RefWale := { facet := x.facet, index := x.index, tag := k % 2 ^ 32, blocks := blocks, flags := flags }
          let d := d.setTile (fun s => { s with refs := upd a.path (putRef new) s.refs })
          if whole then ((.pass, blocks, flags), d.bumpWrap (K.DEC_PASS a.path))
          else ((.partial', blocks, flags), d.bump (K.DEC_PARTIAL a.path))

/-- The close of path selection for wale `i` of the pass in progress (R223). -/
def closeTime (d : Dev) (q i : Nat) : Time := d.waleDue (facetAt d.mode q) i - 15000

/-- A path decodes a wale: at its last fragment, or at the close of path selection with what has arrived (R203, R588). -/
def decodeWale (path frame facet wale : Nat) (d : Dev) : Dev :=
  if !d.tileActive ∨ 1 < path then d
  else
    let mine := fun (a : PixAsm) => a.path == path && a.frame == frame && a.facet == facet && a.wale == wale
    let drop := fun (d : Dev) => d.setTile (fun s => { s with asm := s.asm.filter (fun a => !mine a) })
    match d.tile.asm.find? mine, d.facetNamed frame facet with
    | none, none => d
    | some _, none => drop (d.malformed path 3)
    | found, some q =>
      let current := (d.tile.pass.map (·.1)) == some q
      let done := current && d.tile.decs.any (fun x => x.path == path && x.wale == wale)
      let due := decide (d.closeTime q wale ≤ d.now)
      match found with
      | none =>
        if current && due && !done && decide (wale < d.wales) then
          (d.bump (K.DEC_LOST path)).noteOutcome
            { path := path, wale := wale, outcome := .lost, blocks := [], valid := [] }
        else d
      | some a =>
        if a.bytes.isNone && !due then d
        else
          let ((o, blocks, flags), d) := d.decodeAsm a q
          let d := drop d
          let d := if current && !done then
              d.noteOutcome { path := path, wale := wale, outcome := o, blocks := blocks, valid := flags }
            else d
          d.reportAwaiting path

def selOf (d : Dev) (i : Nat) : Option SelWale := d.tile.sel.find? (fun x => x.wale == i)

def setSel (i : Nat) (f : SelWale → SelWale) (d : Dev) : Dev :=
  d.setTile (fun s => { s with sel := s.sel.map (fun x => if x.wale == i then f x else x) })

/-- A wale of the pass is abandoned: its load-image row will be loaded in its place (R224, R465, R531, R536). -/
def abandonWale (i : Nat) (d : Dev) : Dev :=
  if d.tile.pass.isSome ∧ i < d.wales ∧ !d.tile.abandoned.contains i then
    (d.setTile (fun s => { s with abandoned := s.abandoned ++ [i] })).setSel i (fun x =>
      if x.loaded then x else { x with prism := none })
  else d

/-- The same for a wale of a facet that a path decodes, where the pass in progress is of that facet (R224, R465, R536). -/
def abandonOf (frame facet wale : Nat) (d : Dev) : Dev :=
  if d.tile.pass.isSome && d.facetNamed frame facet == d.tile.pass.map (·.1) then d.abandonWale wale else d

/-- DECODE_WALE with what its reads met: a poisoned word or one of a failing store abandons the wale, whose decoding still
updates the path's references (R224, R465, R536); a poisoned reference block loses its flag (R180, the table of poisoned
reads). -/
def decodeMet (path frame facet wale : Nat) (met : WaleRead) (d : Dev) : Dev :=
  let d := d.readsCorrected met
  match met.fault with
  | .sound | .correction _ _ => d.decodeWale path frame facet wale
  | .reference a col =>
    (((d.poisonRead a).setTile (fun s =>
      { s with refs := upd path (dropFlag facet wale col) s.refs })).reportAwaiting path).decodeWale path frame facet wale
  | .poisoned a => ((d.poisonRead a).abandonOf frame facet wale).decodeWale path frame facet wale
  | .failing s =>
    (if d.hasStore s then (d.storeFails s).abandonOf frame facet wale else d).decodeWale path frame facet wale

/-! ### Selection (R206, R239, R430) -/

/-- The display buffer of a wale: black where nothing has been displayed (log entry 55). -/
def dispRow (d : Dev) (j i : Nat) : List PixWord :=
  match d.tile.disp.find? (fun r => r.facet == j && r.wale == i) with
  | some r => r.px
  | none => List.replicate (16 * d.regionW) PixWord.black

/-- Pixels of a tile image's wale; black where it holds none. -/
def imageRow (d : Dev) (n i : Nat) : List PixWord :=
  let b := (d.blob (K.TIMG_DATA n)).drop (96 * d.regionW * i)
  (List.range (16 * d.regionW)).map (fun p =>
    { r := fieldAt (6 * p) 2 b, g := fieldAt (6 * p + 2) 2 b, b := fieldAt (6 * p + 4) 2 b, tag := 0 })

/-- The test patterns. -/
def patternRow (d : Dev) (i : Nat) : List PixWord :=
  let v := d.obj K.SCAN_TEST_COLOUR
  let col : PixWord := { r := v / 2 ^ 48 % 65536, g := v / 2 ^ 32 % 65536, b := v / 2 ^ 16 % 65536, tag := 0 }
  let w := d.regionW
  (List.range (16 * w)).map (fun p =>
    let x := p % w
    let y := 16 * i + p / w
    let grey := fun (n : Nat) => ({ r := n, g := n, b := n, tag := 0 } : PixWord)
    match d.obj K.SCAN_TEST_PATTERN with
    | 1 => col
    | 2 => grey (x * 65535 / (w - 1))
    | 3 => grey (y * 65535 / (d.regionH - 1))
    | 4 => if x % 16 = 0 ∨ y % 16 = 0 then col else .black
    | _ => if i % 2 = 0 then col else .black)

/-- The loss end state (R240). -/
def endRow (d : Dev) (i : Nat) : List PixWord :=
  match d.obj K.LOSS_END with
  | 2 => d.imageRow 0 i
  | 3 => d.imageRow 1 i
  | _ => List.replicate (16 * d.regionW) PixWord.black

/-- Paths in the order of R430: the greater claim first, West on equal claims. -/
def pathOrder (d : Dev) : List Nat := if d.pathClaim 0 < d.pathClaim 1 then [1, 0] else [0, 1]

/-- The decoded wale of a path with one of these outcomes. -/
def decOf (d : Dev) (path i : Nat) (o : WaleOutcome) : Option DecWale :=
  d.tile.decs.find? (fun x => x.path == path && x.wale == i && x.outcome == o)

/-- Row-order pixel words with whole blocks replaced where `pick` says so. -/
def mixBlocks (w : Nat) (pick : Nat → Option (List PixWord)) (old : List PixWord) : List PixWord :=
  (old.zip (List.range old.length)).map (fun x =>
    match pick (x.2 % w / 16) with
    | none => x.1
    | some b => b.getD ((x.2 / w) * 16 + x.2 % 16) .black)

/-- Path selection for a wale: its pixel words over `old`, and the device with its counts (R206, R430); a wale of which no
Partial path gives a block is not shown from one (R212's table). -/
def pickWale (i : Nat) (old : List PixWord) (d : Dev) : List PixWord × Dev :=
  let w := d.regionW
  match (d.pathOrder.filterMap (fun p => d.decOf p i .pass)).head? with
  | some x =>
    let active := if d.obj K.PATH_ACTIVE = 1 then 1 else 0
    let d := if x.path = active then d else d.bump K.PATH_WALES_OTHER
    (mixBlocks w (fun c => (x.blocks[c]?).map (fun b => b.map widenPx)) old, d)
  | none =>
    let parts := d.pathOrder.filterMap (fun p => d.decOf p i .partial')
    let choose := fun (c : Nat) => (parts.find? (fun x => x.valid.getD c false)).bind (fun x => x.blocks[c]?)
    let held := ((List.range (w / 16)).filter (fun c => (choose c).isNone)).length
    let d := d.bumpBy held K.DEC_HELD_BLOCKS
    let d := if held < w / 16 then d.bump K.DEC_PARTIAL_SHOWN else d
    (mixBlocks w (fun c => (choose c).map (fun b => b.map widenPx)) old, d)

/-- The overlay over a wale's pixels (R321, R322). -/
def overlayRow (d : Dev) (i : Nat) (px : List PixWord) : List PixWord :=
  if (List.range 4).all (fun k => d.ovlState k != 3) then px
  else
    (px.zip (List.range px.length)).map (fun x =>
      match d.ovlPixel (x.2 % d.regionW) (16 * i + x.2 / d.regionW) with
      | none => x.1
      | some v => { r := v.1, g := v.2.1, b := v.2.2, tag := 0 })

/-- Scan-out takes a state and notes when (R234), and the end state that an Unlocked goes on showing (R242).  In Running the
overlay commands whose time had passed at the start wait no longer (R331). -/
def setScan (v : Nat) (d : Dev) : Dev :=
  if d.obj K.SCAN_STATE = v then d
  else
    let shown := if v = 8 ∧ d.obj K.SCAN_STATE = 5 ∧ d.ldl.blanked = false then some (d.obj K.LOSS_END) else none
    let d := (d.setObj K.SCAN_STATE v).setTile (fun s =>
      { s with entered := d.now, lostRun := (if v = 4 ∨ v = 5 then s.lostRun else 0), lossEnd := shown })
    let d := if v = 3 then d.setOvl (fun l => l.map (fun c => { c with held := false })) else d
    let d := if v = 5 then d.bump K.LOSS_EVENTS else d
    if v = 7 then d.fault 14 K.SCAN_STATE 0 else d

/-- The facet's last wale has closed: lost or not (R239, R240). -/
def judgeLost (d : Dev) : Dev :=
  let st := d.obj K.SCAN_STATE
  if st ≠ 3 ∧ st ≠ 4 ∧ st ≠ 5 then d
  else if d.tile.decs.any (fun x => x.outcome == .pass || x.outcome == .partial') then d.setScan 3
  else
    let d := (d.bump K.LOSS_FACETS).setTile (fun s => { s with lostRun := s.lostRun + 1 })
    if st = 5 then d
    else if d.obj K.LOSS_HOLD_FACETS = 0 then d.setScan 5
    else d.setScan 4

/-- LOSS_HOLD_EXPIRY (R240). -/
def lossHoldEnd (d : Dev) : Dev :=
  if d.isTile ∧ d.obj K.SCAN_STATE = 4 ∧ d.obj K.LOSS_HOLD_FACETS ≤ d.tile.lostRun then d.setScan 5 else d

/-- PATH_SELECTION_CLOSE for wale `i` of the pass in progress; at the first of them a pass that holds no FLP for its facet
arms its tests under the parameters in force (log entry 148). -/
def selectionClose (i : Nat) (d : Dev) : Dev :=
  match d.tile.pass with
  | none => d
  | some (q, _) =>
    if !d.tileActive ∨ d.wales ≤ i ∨ d.now < d.closeTime q i ∨ d.tile.sel.any (fun x => x.wale == i) ∨
        d.passUncomposed q then d
    else
      let c := facetCount d.mode
      let j := q % c
      let d := ((d.armTests q).decodeWale 0 ((q / c) % 2 ^ 32) j i).decodeWale 1 ((q / c) % 2 ^ 32) j i
      let back := if d.tile.endShow then d.endRow i else d.dispRow j i
      let (picked, d) := d.pickWale i back
      let src := match d.obj K.SCAN_SOURCE with
        | 0 => picked
        | 1 => if d.tile.endShow then back else d.patternRow i
        | _ => if d.tile.endShow then back else d.imageRow (d.obj K.SCAN_IMAGE_SELECT) i
      let x : SelWale := { wale := i, picked := picked, src := src, shown := d.overlayRow i src, prism := none,
                           loaded := false, missed := false }
      let d := d.setTile (fun s => { s with sel := s.sel ++ [x] })
      if i + 1 = d.wales then d.judgeLost else d

/-! ### Prism and loading (R220 to R224) -/

/-- The load image of a wale; dark where nothing was loaded (log entry 55). -/
def imageWords (d : Dev) (j i : Nat) : List Nat :=
  match d.tile.image.find? (fun r => r.facet == j && r.wale == i) with
  | some r => r.words
  | none => List.replicate (64 * d.regionW) 0

/-- The range bit of lamp `n` of a wale in the load image, as the range choice counts it (R257): 0 at a start and after a
change of facet count. -/
def rangeBit (d : Dev) (j i n : Nat) : Bool :=
  match d.tile.image.find? (fun r => r.facet == j && r.wale == i) with
  | some r => r.counts && bit 16 (r.words.getD n 0)
  | none => false

/-- PRISM_WALE_DONE (R245 to R263). -/
def prismWale (i : Nat) (d : Dev) : Dev :=
  match d.tile.pass, d.selOf i with
  | some (q, _), some x =>
    if x.prism.isSome ∨ x.missed ∨ d.tile.abandoned.contains i then d
    else
      let j := q % facetCount d.mode
      let base := 16 * i * d.regionW
      let outs := (x.shown.zip (List.range x.shown.length)).flatMap (fun y =>
        d.prismPixel (base + y.2) (y.1.r, y.1.g, y.1.b) (fun p => d.rangeBit j i (4 * y.2 + p)))
      let d := d.bumpBy (outs.filter (·.clipNeg)).length K.PRISM_CLIP_NEG
      let d := d.bumpBy (outs.filter (·.clipFull)).length K.PRISM_CLIP_FULL
      let d := d.setSel i (fun x => { x with prism := some (outs.map (fun o => { count := o.count, low := o.low })) })
      if i + 1 = d.wales then d.bumpWrap K.PRISM_FACETS else d
  | _, _ => d

/-- PRISM_WALE_DONE with what the wale's reads met (R464, R465, R535, R536): a pixel with a poisoned correction record takes
count 0 until the record is rebuilt. -/
def prismMet (i : Nat) (met : WaleRead) (d : Dev) : Dev :=
  let d := d.readsCorrected met
  match met.fault with
  | .sound | .reference _ _ => d.prismWale i
  | .poisoned a => (d.poisonRead a).abandonWale i
  | .correction a px =>
    ((d.poisonRead a).setPrism (fun s =>
      { s with rebuilding := (16 * i * d.regionW + px) :: s.rebuilding })).prismWale i
  | .failing s => if d.hasStore s then (d.storeFails s).abandonWale i else d.prismWale i

/-- Drive words of a wale from Prism's counts (R285, R315): an absent lamp is all zero. -/
def driveWords (d : Dev) (i : Nat) (ws : List SlotWord) : List Nat :=
  (ws.zip (List.range ws.length)).map (fun x =>
    let lamp := 64 * i * d.regionW + x.2
    if d.slotPresent (lamp % 4) then d.lampFlags lamp + b2n x.1.low * 65536 + x.1.count else 0)

def putLoad (r : LoadRow) (l : List LoadRow) : List LoadRow :=
  r :: l.filter (fun x => !(x.facet == r.facet && x.wale == r.wale))

def putDisp (r : DispRow) (l : List DispRow) : List DispRow :=
  r :: l.filter (fun x => !(x.facet == r.facet && x.wale == r.wale))

/-- Drive words of a wale are loaded into the drivers' back banks. -/
def loadRows (j i : Nat) (words : List Nat) (d : Dev) : Dev :=
  (d.sendWaleRows i words).setTile (fun s =>
    { s with back := putLoad { facet := j, wale := i, words := words, counts := true } s.back })

/-- Are all wales before `i` loaded or replaced? -/
def loadedBefore (d : Dev) (i : Nat) : Bool :=
  (List.range i).all (fun k => d.tile.sel.any (fun x => x.wale == k && (x.loaded || x.missed)))

/-- WALE_LOAD: wale `i` goes into the drivers' back banks from new content (R220, R222). -/
def waleLoad (i : Nat) (d : Dev) : Dev :=
  match d.tile.pass, d.selOf i with
  | some (q, _), some x =>
    match x.prism with
    | none => d
    | some ws =>
      if x.loaded || x.missed || !d.loadedBefore i || decide (d.waleDue (facetAt d.mode q) i < d.now) then d
      else
        let j := q % facetCount d.mode
        let words := d.driveWords i ws
        let d := (d.loadRows j i words).setSel i (fun x => { x with loaded := true })
        d.setTile (fun s =>
          { s with image := putLoad { facet := j, wale := i, words := words, counts := true } s.image
                   disp := putDisp { facet := j, wale := i, px := x.src } s.disp })
  | _, _ => d

/-- Counts and range bits of a wale's drive words with the flags that its lamps are loaded with in this pass (R315). -/
def reflag (d : Dev) (i : Nat) (ws : List Nat) : List Nat :=
  d.driveWords i (ws.map (fun w => { count := w % 65536, low := bit 16 w }))

/-- The load image's row of wale `i` is loaded in its place (R224). -/
def loadFromImage (q i : Nat) (d : Dev) : Dev :=
  let j := q % facetCount d.mode
  let d := (d.loadRows j i (d.reflag i (d.imageWords j i))).bump K.SCAN_WALES_MISSED
  if (d.selOf i).isSome then d.setSel i (fun x => { x with missed := true, prism := none })
  else d.setTile (fun s => { s with sel := s.sel ++
    [{ wale := i, picked := [], src := [], shown := [], prism := none, loaded := false, missed := true }] })

/-- WALE_LOAD_DEADLINE: at K_i a wale that has not passed Prism is replaced (R224); one that has is loaded (R222). -/
def waleLoadDeadline (i : Nat) (d : Dev) : Dev :=
  match d.tile.pass with
  | none => d
  | some (q, _) =>
    if !d.tileActive ∨ d.wales ≤ i ∨ d.now < d.waleDue (facetAt d.mode q) i ∨ d.passUncomposed q then d
    else match d.selOf i with
      | none => d.loadFromImage q i
      | some x =>
        if x.loaded || x.missed then d
        else if x.prism.isSome && decide (d.now = d.waleDue (facetAt d.mode q) i) then d.waleLoad i
        else d.loadFromImage q i

/-! ### Check rectangles (R334, R336) -/

/-- Bytes of one pixel at a tile's tap. -/
def tapBytes (d : Dev) (tap : Nat) (x : SelWale) (n : Nat) : Bytes :=
  match tap with
  | 1 =>
    let p := x.picked.getD n .black
    be 2 (p.r / 16) ++ be 2 (p.g / 16) ++ be 2 (p.b / 16)
  | 2 =>
    let p := x.shown.getD n .black
    be 2 p.r ++ be 2 p.g ++ be 2 p.b
  | _ =>
    let ws := (List.range 4).map (fun s => ((x.prism.getD []).getD (4 * n + s) { count := 0, low := false }))
    (ws.take d.lampsPer).flatMap (fun w => be 2 w.count) ++
      be 2 ((List.range 4).foldl (fun a s => a + (if (ws.getD s { count := 0, low := false }).low then 2 ^ s else 0)) 0)

/-- The CRC of a rectangle on a tile: none where a wale of it was abandoned or not processed. -/
def tileChk (d : Dev) (r : Nat) : Option Nat :=
  let tap := d.obj (K.CHK_TAP r)
  let ps := d.chkPixels r
  let w := d.regionW
  let st := d.obj K.SCAN_STATE
  if st ≠ 3 ∧ st ≠ 4 ∧ st ≠ 5 then none
  else
    let good := ps.all (fun p => decide (p.1 < w) && match d.selOf (p.2 / 16) with
      | some x => !x.missed && (tap != 3 || x.prism.isSome)
      | none => false)
    if good then
      some (crc32c (ps.flatMap (fun p => match d.selOf (p.2 / 16) with
        | some x => d.tapBytes tap x (p.2 % 16 * w + p.1)
        | none => [])))
    else none

/-- Every rectangle of the facet reports at L, before the flip (R336). -/
def tileChecks (q : Nat) (d : Dev) : Dev :=
  (List.range 16).foldl (fun d r =>
    if d.chkIn r (q % facetCount d.mode) && decide (1 ≤ d.obj (K.CHK_TAP r)) && decide (d.obj (K.CHK_TAP r) ≤ 3) then
      d.chkReport r (d.tileChk r) (facetAt d.mode q)
    else d) d

/-! ### Tile images (R243, R244) -/

/-- Is an image shown through `SCAN_SOURCE` or the loss end state, in Loss or in an Unlocked that was entered from Loss
(R242)? -/
def imageShown (d : Dev) (n : Nat) : Bool :=
  (d.obj K.SCAN_SOURCE == 2 && d.obj K.SCAN_IMAGE_SELECT == n) ||
    (d.obj K.SCAN_STATE == 5 && d.obj K.LOSS_END == n + 2) || (d.obj K.SCAN_STATE == 8 && d.tile.lossEnd == some (n + 2))

/-- The checks of the first chunk of an image. -/
def timgFirst (n total : Nat) (d : Dev) : Nat :=
  if d.imageShown n then Status.LOCKED
  else if total ≠ d.regionPixels * 6 then Status.LENGTH
  else Status.OK

/-- The last chunk of an image has arrived. -/
def timgDone (n : Nat) (data : Bytes) (d : Dev) : Dev := (d.keepBlob (K.TIMG_DATA n) data).setObj (K.TIMG_STATE n) 2

/-- TIMGi_CLEAR. -/
def timgClear (n : Nat) (d : Dev) : Dev := (d.keepBlob (K.TIMG_DATA n) []).setObj (K.TIMG_STATE n) 0

/-- A change of region size empties both images (R243). -/
def timgRegionChange (d : Dev) : Dev := (d.timgClear 0).timgClear 1

/-- Every reference of the tile is empty (R210, R555). -/
def resetRefs (d : Dev) : Dev :=
  let d := d.setTile (fun s => { s with refs := [[], []], asm := [], decs := [], sel := [], abandoned := [], pass := none })
  (d.reportAwaiting 0).reportAwaiting 1

end Dev
end Sys2Proof.Machine
end

