-- ==== Sys2Proof/Machine/IntegOps.lean ====
section
/-!
DEFINITION. Sys2Proof/Machine/IntegOps.lean: the persistent fault log, the checks of values kept with complements, stage
stalls, core voltage, the configuration scrub, control restarts, and the safe states (18_integrity.md), with the entry
of scan-out into Dark and its departure (R235, R300).
-/
namespace Sys2Proof.Machine
namespace Dev

/-! ### Scan-out in Dark (R235, R300, R314, R539) -/

/-- Scan-out enters Dark: the lamps are blanked and the pass in progress ends. -/
def scanDark (d : Dev) : Dev :=
  if d.isSender ∨ d.obj K.SCAN_STATE = 1 then d
  else ((if d.ldl.blanked then d else d.blankDrivers).setScan 1).setTile (fun s =>
    { s with pass := none, decs := [], sel := [], abandoned := [], latched := none, endShow := false })

/-- May scan-out be out of Dark: Armed, enabled, in no safe state, not held Dark (R13, R235, R538), with its canvas matrices
derived (R266), and with corrections in use (R272)? -/
def scanMayRun (d : Dev) : Bool :=
  d.isTile && d.start.run == .armed && d.obj K.SCAN_ENABLE == 1 && d.obj K.INTEG_STATE == 1 &&
    d.obj K.ENUM_HELD_DARK == 0 && !d.prism.derivePending && d.prism.use != .none

/-- Must scan-out be Dark? -/
def scanMustDark (d : Dev) : Bool :=
  d.start.run != .armed || d.obj K.SCAN_ENABLE != 1 || d.obj K.INTEG_STATE != 1 || d.obj K.ENUM_HELD_DARK != 0

/-- Scan-out leaves Dark for Waiting: every strand is brought up, and Good lamps are Unverified. -/
def scanWake (d : Dev) : Dev :=
  if d.obj K.SCAN_STATE = 1 ∧ d.scanMayRun then ((d.setScan 2).lampsUnverified).ldlBringup d.strandsOn else d

/-- Scan-out follows its conditions: Dark prevails over every other change (R235). -/
def scanFollow (d : Dev) : Dev :=
  if d.isSender then d else if d.scanMustDark then d.scanDark else d.scanWake

/-! ### The persistent fault log (R523 to R525) -/

/-- Records of a 64 KiB block. -/
def flogBlockRecords : Nat := 1024

end Dev

/-- A record of an entry (R523). -/
def flogRecord (e : FaultEntry) : FlogRec := { entry := e, comp := complement e.bytes }

/-- Is the record valid: its second half the complement of its first (R523, R524)? -/
def FlogRec.valid (r : FlogRec) : Bool := r.comp == complement r.entry.bytes

/-- The 64 bytes of a record. -/
def FlogRec.bytes (r : FlogRec) : Bytes := r.entry.bytes ++ r.comp

namespace Dev

/-- Valid records of both blocks in rising SEQUENCE, the newest `n` of them. -/
def flogNewest (d : Dev) (n : Nat) : List FaultEntry :=
  let all := d.integ.blocks.flatMap (fun b => (b.filter FlogRec.valid).map (·.entry))
  let l := sortBy (fun e => e.seq) all
  l.drop (l.length - n)

/-- A record is appended; a full block makes way for the other, which takes the newest 31 valid records first. -/
def flogAppend (e : FaultEntry) (d : Dev) : Dev :=
  let b := d.integ.block
  let d :=
    if (d.integ.blocks.getD b []).length < flogBlockRecords then d
    else
      let keep := (d.flogNewest 31).map flogRecord
      d.setInteg (fun g => { g with block := 1 - b, blocks := upd (1 - b) (fun _ => keep) g.blocks })
  d.setInteg (fun g => { g with blocks := upd g.block (fun l => l ++ [flogRecord e]) g.blocks })

/-- One entry is written, at most 10 in any second (R523). -/
def flogWrite (e : FaultEntry) (d : Dev) : Dev :=
  let times := d.integ.persistTimes.filter (fun t => decide (d.now < t + 1000000000))
  if times.length < 10 then (d.setInteg (fun g => { g with persistTimes := d.now :: times })).flogAppend e
  else (d.setInteg (fun g => { g with persistTimes := times })).bump K.FLOG_PERSIST_DROPPED

/-- FLOG_PERSIST_WRITE (R523). -/
def flogPersist (d : Dev) : Dev :=
  if d.flashOpen then d.integ.toPersist.foldl (fun d e => d.flogWrite e) (d.setInteg (fun g => { g with toPersist := [] }))
  else d

/-- A write of 1 to `FLOG_CLEAR` (R525). -/
def flogClear (d : Dev) : Dev :=
  let last := (d.integ.nextSeq + 2 ^ 32 - 1) % 2 ^ 32
  let d := d.setInteg (fun g => { g with log := [], toPersist := [], blocks := [[], []], block := 0 })
  let d := d.logFault 8 1 K.FLOG_COUNT 0 last
  match d.integ.log.getLast? with
  | some e => d.flogWrite e
  | none => d

/-- The start reads both blocks (R524): the newest 32 valid records begin the log. -/
def flogRestore (d : Dev) : Dev :=
  let es := d.flogNewest 32
  d.setInteg (fun g =>
    { g with log := es, classCounts := List.replicate 17 0, toPersist := []
             nextSeq := match es.getLast? with
               | some e => (e.seq + 1) % 2 ^ 32
               | none => g.nextSeq })

/-! ### Safe states (R538 to R542) -/

/-- The device enters Halted (R538, R539): the lamps stay blanked, Pliuk stops, and the log is in flash for the next
start. -/
def halt (d : Dev) : Dev :=
  let d := (if d.isTile then (if d.ldl.blanked then d else d.blankDrivers).scanDark else d).setObj K.INTEG_STATE 4
  let d := (d.setPair (fun p => { p with sending := false })).closeAll
  let d := { d with start := { d.start with run := .halted } }
  d.flogPersist

/-- A logged event that puts the device in its safe state: Blanked or Silent, with severity 3; in a safe state already,
one more cause. -/
def enterSafe (cause : SafeCause) (cls key subject detail : Nat) (d : Dev) : Dev :=
  let first := d.obj K.INTEG_STATE == 1
  let seq := d.integ.nextSeq
  let d := d.logFault cls (if first then 3 else 2) key subject detail
  let d := d.setInteg (fun g =>
    { g with causes := if g.causes.contains cause then g.causes else g.causes ++ [cause]
             okSince := g.okSince.filter (fun x => x.1 != cause) })
  if !first then d
  else
    let d := d.setObj K.INTEG_SAFE_CAUSE seq
    if d.isTile then (d.blankDrivers.setObj K.INTEG_STATE 2).scanDark
    else (d.setObj K.INTEG_STATE 3).setPair (fun p => { p with sending := false })

/-- A cause that is noticed again and again enters once. -/
def enterSafeOnce (cause : SafeCause) (cls key subject detail : Nat) (d : Dev) : Dev :=
  if d.integ.causes.contains cause then d else d.enterSafe cause cls key subject detail

/-- Die temperature above 112 °C (R538), in 1/16 °C. -/
def checkDieTemp (d : Dev) : Dev :=
  if 1792 < d.objI 16 K.SNS_DIE_TEMP then d.enterSafeOnce .overTemp 15 K.SNS_DIE_TEMP 0 (d.obj K.SNS_DIE_TEMP) else d

/-- Is the value of an input within its limits? -/
def withinLimits (d : Dev) (i : Nat) : Bool :=
  let v := d.objI 32 (K.SNS_VALUE i)
  decide (d.objI 32 (K.SNS_LOW i) ≤ v) && decide (v ≤ d.objI 32 (K.SNS_HIGH i))

/-- Limit events on rail inputs after a thermal cycle (R538, R541).  `before` is the device before the cycle.  DEDUCED,
log entry 66: the safe state has an entry of class 15 of its own. -/
def checkRails (before d : Dev) : Dev :=
  (List.range 16).foldl (fun d i =>
    let d :=
      if before.obj (K.SNS_LIMIT_EVENTS i) < d.obj (K.SNS_LIMIT_EVENTS i) && bit i (d.obj K.INTEG_RAIL_MASK) then
        d.enterSafe (.rail i) 15 (K.SNS_LIMIT_EVENTS i) i (d.obj (K.SNS_LIMIT_EVENTS i))
      else d
    if d.integ.causes.contains (.rail i) then
      if d.withinLimits i then
        if d.integ.okSince.any (fun x => x.1 == .rail i) then d
        else d.setInteg (fun g => { g with okSince := g.okSince ++ [(.rail i, d.now)] })
      else d.setInteg (fun g => { g with okSince := g.okSince.filter (fun x => x.1 != .rail i) })
    else d) d

/-- A read of range 4 is a DRAM fault, and a safe state (R471, R538): each such read is logged. -/
def hotDie (die r : Nat) (d : Dev) : Dev :=
  if r = 4 then d.enterSafe .dramRange4 7 K.DRAM_STATE die (d.obj K.DRAM_STATE) else d

/-- A refresh-rate read of a die (R468 to R471); the planning rules are reviewed. -/
def readRange (die r : Nat) (d : Dev) : Dev :=
  if d.dramRuns && d.rangeDue die then
    ((d.mr4 die r).hotDie die r).reviewPlan
  else d

/-- One second has passed with an ending condition met. -/
def heldOk (d : Dev) (c : SafeCause) : Bool :=
  d.integ.okSince.any (fun x => x.1 == c && decide (x.2 + 1000000000 ≤ d.now))

/-- Has a cause ended (R541)?  `passed`: the self-test of R542 has passed. -/
def causeEnded (d : Dev) (passed : Bool) (c : SafeCause) : Bool :=
  match c with
  | .overTemp => decide (d.objI 16 K.SNS_DIE_TEMP < 1600)
  | .dramRange4 => d.diesCool
  | .rail _ => d.heldOk c
  | .complement _ => d.heldOk c
  | .stalls _ => passed

/-- A write of 1 to `INTEG_CLEAR_SAFE` (R541, R542): the status, and the device after it.  DEDUCED, log entry 67: in
Normal the write is accepted and changes nothing, and INTEG_SAFE_CAUSE reads 0 once the state is cleared. -/
def clearSafe (stalled : Nat) (crcOk : Bool) (d : Dev) : Nat × Dev :=
  if d.obj K.INTEG_STATE = 1 then (Status.OK, d)
  else
    let test := d.integ.causes.any (fun c => match c with
      | .stalls _ => true
      | _ => false)
    let passed := stalled == 0 && crcOk
    let d := if test then d.bumpBy stalled K.PACE_STALLS else d
    let d := if test && !passed then d.fault 5 K.PACE_STALLS 0 else d
    if d.integ.causes.all (fun c => d.causeEnded passed c) then
      let d := d.setInteg (fun g => { g with causes := [], okSince := [], mismatches := [], stalls := [] })
      let d := (d.setObj K.INTEG_STATE 1).setObj K.INTEG_SAFE_CAUSE 0
      (Status.OK, if d.isTile then d.scanFollow else d.pairStart)
    else (Status.BUSY, d)

/-! ### Values kept with complements (R526, R527) -/

/-- Is the value checked at each L (R526)? -/
def atLatch (v : Kept) : Bool :=
  match v with
  | .claim | .headroom | .tileCeiling | .staging => false
  | _ => true

/-- Is it checked at each use: the mode number and the scan parameters (R526)? -/
def atUse (v : Kept) : Bool :=
  match v with
  | .mode | .fraction | .offset _ | .flipTime => true
  | _ => false

/-- Is it checked at each FLP built: the claim, and what the FLP carries of the values used (R526)? -/
def atFlp (v : Kept) : Bool := v == .claim || atUse v

/-- Is it checked at each snapshot of R260 (R526)? -/
def atSnapshot (v : Kept) : Bool := v == .headroom || v == .tileCeiling

/-- One value differs from its complement: it is counted and logged, and where `latch` the third time within 1 s at latch points
enters the safe state (R526, R527). -/
def complementBad (latch : Bool) (v : Kept) (d : Dev) : Dev :=
  let d := d.bump K.INTEG_COMPLEMENT_FAULTS
  let old := d.integ.mismatches.filter (fun x => decide (d.now < x.2 + 1000000000))
  let times := if latch then (v, d.now) :: old else old
  let d := d.setInteg (fun g => { g with mismatches := times, okSince := g.okSince.filter (fun x => x.1 != .complement v) })
  let n := d.obj K.INTEG_COMPLEMENT_FAULTS
  if latch ∧ 3 ≤ (times.filter (fun x => x.1 == v)).length then d.enterSafe (.complement v) 8 K.INTEG_COMPLEMENT_FAULTS 0 n
  else d.fault 8 K.INTEG_COMPLEMENT_FAULTS 0

/-- Does the personality hold the value (R526)? -/
def holdsValue (d : Dev) (v : Kept) : Bool :=
  match v with
  | .claim => d.isSender
  | .headroom | .tileCeiling | .overlay _ => d.isTile
  | _ => true

/-- The newest valid FLP that a tile holds: of the two paths' newest the one for the later boundary, West's on equal ones. -/
def newestFlp (d : Dev) : Option Flp :=
  match (d.path 0).flps.head?, (d.path 1).flps.head? with
  | some a, some b => if 0 < wallDiff b.f a.f then some b else some a
  | some a, none => some a
  | none, b => b

/-- A tile restores a value from the newest valid FLP; a kind-1 FLP names the mode to come, not the one in force (R226, R526). -/
def restoreFromFlp (v : Kept) (d : Dev) : Dev :=
  match d.newestFlp with
  | none => d
  | some x =>
    match v with
    | .mode => if x.kind = 0 then d.setObj K.MODE_NUMBER x.mode else d
    | .fraction => d.setObj K.APERTURE_FRACTION x.fraction
    | .offset j => if j < 4 then d.setObj (K.APERTURE_OFFSET j) ([x.off0, x.off1, x.off2, x.off3].getD j 0) else d
    | .fader => d.setObj K.FADER_STOPS (min x.fader 768)
    | .ceiling => d.setObj K.WALL_CEILING (min x.ceiling 0x8000)
    | _ => d

/-- The values that `p` picks are checked: those that differ are counted, logged and restored (R526).  But for what a tile takes
from an FLP, a value's source is the state itself, so its restoration changes nothing. -/
def checkKept (latch : Bool) (p : Kept → Bool) (d : Dev) : Dev :=
  let found := (d.integ.upset.filter (fun v => p v && d.holdsValue v)).eraseDups
  let d := d.setInteg (fun g => { g with upset := g.upset.filter (fun v => !p v) })
  found.foldl (fun d v =>
    let d := d.complementBad latch v
    if d.isTile then d.restoreFromFlp v else d) d

/-- The checks at a latch point, and what goes wrong after it (R526, R527; log entry 68).  An armed commit whose apply time and
staging both fail is discarded, and that is logged. -/
def complementChecks (u : Upsets) (d : Dev) : Dev :=
  let d := d.setInteg (fun g => { g with upset := g.upset ++ u.now })
  let all := d.integ.upset
  let d := d.checkKept true atLatch
  let d :=
    match d.armedTxn with
    | some x =>
      if all.contains .applyTime ∧ all.contains .staging then
        (d.dropTxn x.number).fault 8 K.INTEG_COMPLEMENT_FAULTS 0
      else d
    | none => d
  let d := d.setInteg (fun g => { g with upset := g.upset.filter (fun v => v != .staging) ++ u.after })
  d.integ.causes.foldl (fun d c =>
    match c with
    | .complement v =>
      if all.contains v ∨ d.integ.okSince.any (fun x => x.1 == c) then d
      else d.setInteg (fun g => { g with okSince := g.okSince ++ [(c, d.now)] })
    | _ => d) d

/-! ### Stalls (R530 to R532) -/

/-- A stage watchdog fires: the wale in progress is replaced, and the third stall of a stage within 1 s enters the safe
state (class 5 of R518). -/
def stageStall (stage h dist wale : Nat) (d : Dev) : Dev :=
  let d := d.bump K.PACE_STALLS
  let l := ((stage, d.now) :: d.integ.stalls).filter (fun x => decide (d.now < x.2 + 1000000000))
  let d := d.setInteg (fun g => { g with stalls := l })
  let d :=
    if 3 ≤ (l.filter (fun x => x.1 == stage)).length then
      d.enterSafe (.stalls stage) 5 K.PACE_STALLS stage (d.obj K.PACE_STALLS)
    else d.fault 5 K.PACE_STALLS stage
  if d.isTile then d.abandonWale wale else d.brokenWale h dist wale

/-! ### Core voltage (R533, R534) -/

/-- A new voltage request. -/
def requestVolts (mv : Nat) (d : Dev) : Dev :=
  if d.integ.vreq = mv ∧ d.obj K.AVS_VOUT_REQ = mv then d
  else ((d.setInteg (fun g => { g with vreq := mv })).setObj K.AVS_VOUT_REQ mv).emit (.avs mv)

/-- Does the device make requests: after step 4, and not asleep (R556, R561)? -/
def avsRuns (d : Dev) : Bool :=
  match d.baseRun with
  | .step n => decide (5 ≤ n)
  | .armed | .fromStandby _ | .startFailed => true
  | _ => false

/-- The outcome of an AVSBus transaction: the third failure in succession is logged (R534). -/
def avsOutcome (ok : Bool) (d : Dev) : Dev :=
  let n := if ok then 0 else d.integ.avsFails + 1
  let d := d.setInteg (fun g => { g with avsFails := n })
  if n = 3 then d.bumpFault 15 K.AVS_FAULTS 0 else d

/-- A new voltage request by a Voltage write, which may fail (R533, R534). -/
def writeVolts (mv : Nat) (ok : Bool) (d : Dev) : Dev := if d.integ.vreq = mv then d else (d.requestVolts mv).avsOutcome ok

/-- AVS_ADJUST (R533, R534). -/
def avsAdjust (rate : Nat) (x : AvsStep) (d : Dev) : Dev :=
  let slack := x.slack
  if !d.avsRuns then d
  else
    let d := d.setObj K.PACE_RATE (min rate 65535)
    let target := d.obj K.AVS_RATE_TARGET
    let late := decide (slack < 10000)
    let d := d.setInteg (fun g =>
      { g with slacks := (d.now, slack) :: g.slacks.filter (fun x => decide (d.now < x.1 + 1000000000))
               lastLateWale := if late then some d.now else g.lastLateWale
               fastSince := if target * 11 < rate * 10 ∧ !late then some (g.fastSince.getD d.now) else none
               slowSince := if rate < 2000 ∧ g.vreq = 800 then some (g.slowSince.getD (d.now, false)) else none })
    let recent : Bool := match d.integ.lastLateWale with
      | some t => decide (d.now < t + 10000000)
      | none => false
    let fast : Bool := match d.integ.fastSince with
      | some t => decide (t + 100000000 ≤ d.now)
      | none => false
    let v := d.integ.vreq
    let d :=
      if rate < target ∨ recent = true then d.writeVolts (min 800 (v + 5)) x.written
      else if fast then d.writeVolts (max 620 (v - 5)) x.written
      else d
    match d.integ.slowSince with
    | some (t, false) =>
      if t + 100000000 ≤ d.now then
        (d.setInteg (fun g => { g with slowSince := some (t, true) })).bumpFault 15 K.AVS_FAULTS 0
      else d
    | _ => d

/-- AVS_READ (R534). -/
def avsRead (answer : Option (Nat × Nat)) (d : Dev) : Dev :=
  if !d.avsRuns then d
  else
    match answer with
    | none => d.avsOutcome false
    | some (mv, i) =>
      let d := (d.setObj K.AVS_VOUT_READ (min mv 65535)).setObj K.AVS_IOUT_READ (min i 65535)
      let off := decide (20 < (mv : Int) - d.integ.vreq) || decide (20 < (d.integ.vreq : Int) - mv)
      let d := d.setInteg (fun g =>
        { g with avsFails := 0, voltOffSince := if off then some (g.voltOffSince.getD (d.now, false)) else none })
      match d.integ.voltOffSince with
      | some (t, false) =>
        if t + 50000000 ≤ d.now then
          (d.setInteg (fun g => { g with voltOffSince := some (t, true) })).bumpFault 15 K.AVS_FAULTS 0
        else d
      | _ => d

/-! ### Configuration scrub (R535, R536) -/

/-- CONFIG_SCRUB: a word of a store is read; an error is a fault of the configuration memories, class 4 of R518. -/
def configScrub (s : Nat) (e : EccKind) (d : Dev) : Dev :=
  if !d.hasStore s then d
  else
    let d := if d.integ.scrubAt + 250000000 ≤ d.now then
        (d.setInteg (fun g => { g with scrubAt := d.now })).bumpWrap K.CSCRUB_PASSES
      else d
    match e with
    | .none => d
    | .corrected => d.bump K.CSCRUB_CORRECTED
    | .uncorrectable => d.storeFails s

/-- A store has been reloaded; a control restart keeps it waiting. -/
def reloadDone (s : Nat) (d : Dev) : Dev :=
  if d.integ.restart.isSome then d
  else
    let d := d.setInteg (fun g => { g with reloading := g.reloading.filter (fun x => x != s) })
    if s = 5 then d.setPrism (fun p => { p with rebuilding := [] }) else d

/-! ### Lockstep (R537, R538) -/

/-- A control restart that cannot be made, or a divergence too soon after one: Halted.  Off ready is left through reset or loss
of power alone (R559). -/
def haltControl (d : Dev) : Dev :=
  if d.start.run = .offReady then d else
  (d.logFault 6 3 K.LOCKSTEP_RESTARTS 0 (d.obj K.LOCKSTEP_RESTARTS)).halt

/-- LOCKSTEP_DIVERGENCE, class 6 of R518.  DEDUCED, log entry 69: a divergence during a restart is a second one within 10 s. -/
def diverge (poisoned : Option PoisonAt) (d : Dev) : Dev :=
  let d := match poisoned with
    | some a => d.poisonRead a
    | none => d
  let soon := d.integ.restart.isSome || (match d.integ.lastRestart with
    | some t => decide (d.now < t + 10000000000)
    | none => false)
  if soon then d.haltControl
  else
    let d := d.keepObj K.LOCKSTEP_RESTARTS (satInc 32 (d.obj K.LOCKSTEP_RESTARTS))
    let d := d.fault 6 K.LOCKSTEP_RESTARTS 0
    (d.setInteg (fun g => { g with restart := some d.now })).closeAll

/-- CONTROL_RESTART_DONE. -/
def restartDone (d : Dev) : Dev :=
  if d.integ.restart.isSome then d.setInteg (fun g => { g with restart := none, lastRestart := some d.now }) else d

/-- CONTROL_RESTART_TIMEOUT. -/
def restartTimeout (d : Dev) : Dev :=
  match d.integ.restart with
  | some t => if t + 300000000 ≤ d.now then d.haltControl else d
  | none => d

end Dev
end Sys2Proof.Machine
end

