-- ==== Sys2Proof/Machine/FlashOps.lean ====
section
/-!
DEFINITION. Sys2Proof/Machine/FlashOps.lean: update images, boot records, the settings directories, and the boot ROM's
choice of a slot (17_update.md).
-/
namespace Sys2Proof.Machine

/-! ### Update images (R489 to R492) -/

def imgMask (b : Bytes) : Nat := fieldAt 8 1 b
def imgKey (b : Bytes) : Nat := fieldAt 14 2 b
def imgLength (b : Bytes) : Nat := fieldAt 16 4 b
def imgSecurity (b : Bytes) : Nat := fieldAt 20 4 b
def imgSchema (b : Bytes) : Nat := fieldAt 24 2 b
def imgSchemaMin (b : Bytes) : Nat := fieldAt 26 2 b

/-- A field of part entry `i`: 0 CTL, 1 MCD, 2 PHY, 3 TAB, 4 DEF (R490). -/
def partField (b : Bytes) (i off n : Nat) : Nat := fieldAt (40 + 64 * i + off) n b
def partVersion (b : Bytes) (i : Nat) : Nat := partField b i 4 4
def partOffset (b : Bytes) (i : Nat) : Nat := partField b i 8 4
def partLength (b : Bytes) (i : Nat) : Nat := partField b i 12 4

/-- FLAGS of a part: WALL in bit 0, RESTART in bit 1. -/
def partWall (b : Bytes) (i : Nat) : Bool := bit 0 (partField b i 1 1)
def imgRestart (b : Bytes) : Bool := bit 1 (partField b 0 1 1)

/-- Check 7 of R492 on one part. -/
def partOk (b : Bytes) (i : Nat) : Bool :=
  let flags := partField b i 1 1
  let off := partOffset b i
  let len := partLength b i
  partField b i 0 1 == i + 1 && partField b i 2 2 == 0 && off % 512 == 0 && decide (512 ≤ off) && decide (1 ≤ len) &&
    decide (off + len + 96 ≤ imgLength b) && decide (flags < 4) &&
    (if i = 0 then !bit 0 flags else if i = 2 then bit 0 flags && !bit 1 flags
     else if i = 4 then flags == 0 else !bit 1 flags)

/-- Do two parts overlap? -/
def partsMeet (b : Bytes) (i j : Nat) : Bool :=
  i != j && decide (partOffset b i < partOffset b j + partLength b j) &&
    decide (partOffset b j < partOffset b i + partLength b i)

/-- Check 7 of R492. -/
def partTableOk (b : Bytes) : Bool :=
  (List.range 5).all (fun i => partOk b i && (List.range 5).all (fun j => !partsMeet b i j)) &&
    decide (imgSchemaMin b ≤ imgSchema b)

/-- A signature of R491 over the bytes before it. -/
def sigOk (key : Nat) (bytes sig : Bytes) : Bool := Config.ecdsaVerify key (sha384Alg.digest bytes) sig

/-- The header signature (R491). -/
def headerSigOk (b : Bytes) : Bool := sigOk (imgKey b) (b.take 416) (slice 416 96 b)

/-- The image signature (R491). -/
def imageSigOk (b : Bytes) : Bool := sigOk (imgKey b) (b.take (imgLength b - 96)) (slice (imgLength b - 96) 96 b)

/-- Every part digest agrees (R490). -/
def digestsOk (b : Bytes) : Bool :=
  (List.range 5).all (fun i =>
    sha384Alg.digest (slice (partOffset b i) (partLength b i) b) == slice (40 + 64 * i + 16) 48 b)

/-! ### Boot records (R497, R498) -/

/-- Bytes 0 to 31 of a boot record. -/
def BootRec.head (r : BootRec) : Bytes :=
  be 4 0x56425452 ++ be 4 r.seq ++ be 1 r.active ++ be 1 r.trial ++ be 1 r.left ++ be 1 r.reason ++ be 1 r.markA ++
    be 1 r.markB ++ zeros 2 ++ be 4 r.secMin ++ be 6 r.trialEnd ++ zeros 6

/-- The 64 bytes of a boot record. -/
def BootRec.bytes (r : BootRec) : Bytes := r.head ++ complement r.head

/-- A record where no copy is valid yet. -/
def BootRec.blank : BootRec :=
  { seq := 0, active := 0, trial := 0, left := 0, reason := 0, markA := 0, markB := 0, secMin := 0, trialEnd := 0 }

/-- The record that a copy holds; none where the copy is not valid (R497, R498). -/
def BootRec.ofBytes (b : Bytes) : Option BootRec :=
  if b.length = 64 ∧ fieldAt 0 4 b = 0x56425452 ∧ slice 32 32 b = complement (b.take 32) then
    some { seq := fieldAt 4 4 b, active := fieldAt 8 1 b, trial := fieldAt 9 1 b, left := fieldAt 10 1 b,
           reason := fieldAt 11 1 b, markA := fieldAt 12 1 b, markB := fieldAt 13 1 b, secMin := fieldAt 16 4 b,
           trialEnd := fieldAt 20 6 b }
  else none

/-- The valid copy that the boot ROM uses (R498). -/
def newestRec : Option BootRec → Option BootRec → Option BootRec
  | some a, some b => if seqAfter b.seq a.seq then some b else some a
  | some a, none => some a
  | none, x => x

/-- The copy that holds the older record, or none that is valid: the one written first (R498). -/
def olderCopy : Option BootRec → Option BootRec → Nat
  | some a, some b => if seqAfter b.seq a.seq then 0 else 1
  | some _, none => 1
  | none, _ => 0

def BootRec.mark (r : BootRec) (slot : Nat) : Nat := if slot = 0 then r.markA else r.markB

def BootRec.setMark (slot v : Nat) (r : BootRec) : BootRec := if slot = 0 then { r with markA := v } else { r with markB := v }

namespace Dev

def setFlash (f : Flash → Flash) (d : Dev) : Dev := { d with flash := f d.flash }
def bootRec (d : Dev) : Option BootRec := newestRec (BootRec.ofBytes d.flash.boot0) (BootRec.ofBytes d.flash.boot1)

/-- The record, blank where neither copy is valid. -/
def bootNow (d : Dev) : BootRec := d.bootRec.getD .blank

/-- One copy of the boot record is written. -/
def writeCopy (i : Nat) (b : Bytes) (d : Dev) : Dev :=
  d.setFlash (fun x => if i = 0 then { x with boot0 := b } else { x with boot1 := b })

/-- A new record is written: first into the copy that holds the older one, then into the other (R498).  A cut between the
two is not an instant of its own here (log entry 192). -/
def writeBoot (f : BootRec → BootRec) (d : Dev) : Dev :=
  if !d.flashOpen then d
  else
    let r := d.bootNow
    let n := { f r with seq := (r.seq + 1) % 2 ^ 32 }
    let first := olderCopy (BootRec.ofBytes d.flash.boot0) (BootRec.ofBytes d.flash.boot1)
    (d.writeCopy first n.bytes).writeCopy (1 - first) n.bytes

/-- Bytes of a firmware slot. -/
def slotBytes (d : Dev) (s : Nat) : Bytes := if s = 0 then d.flash.slotA else d.flash.slotB

def setSlot (s : Nat) (b : Bytes) (d : Dev) : Dev :=
  d.setFlash (fun x => if s = 0 then { x with slotA := b } else { x with slotB := b })

def slotMark (d : Dev) (s : Nat) : Nat := let m := d.bootNow.mark s; if m ≤ 3 then m else 0

/-- The slot that a download or an activation takes: the one not named active (R494). -/
def spareSlot (d : Dev) : Nat := 1 - d.bootNow.active

/-- An update key that is not one of the four, or is revoked (R491, R544). -/
def keyBad (d : Dev) (k : Nat) : Bool := decide (4 ≤ k) || bit k d.fix.otp.revoked

/-- The header check of a slot at start (R499): signature and part digests. -/
def slotLoads (d : Dev) (s : Nat) : Bool :=
  let b := d.slotBytes s
  decide (512 ≤ b.length) && !d.keyBad (imgKey b) && headerSigOk b && digestsOk b

/-- The first failing check of R492: its reason and status. -/
def headerFail (d : Dev) (b : Bytes) (total : Nat) : Option (Nat × Nat) :=
  if fieldAt 0 4 b ≠ 0x56555044 ∨ fieldAt 4 2 b ≠ 1 ∨ fieldAt 6 2 b ≠ 0x200 ∨ fieldAt 9 1 b ≠ 0 ∨
      fieldAt 36 4 b ≠ 0 ∨ !allZero (slice 360 56 b) then some (1, Status.LENGTH)
  else if d.keyBad (imgKey b) then some (3, Status.AUTH)
  else if !headerSigOk b then some (2, Status.AUTH)
  else if !bit (if d.isSender then 0 else 1) (imgMask b) then some (4, Status.RANGE)
  else if d.fix.fuses.dieRev < fieldAt 10 2 b ∨ fieldAt 12 2 b < d.fix.fuses.dieRev then some (5, Status.RANGE)
  else if imgSecurity b < d.bootNow.secMin then some (6, Status.RANGE)
  else if !partTableOk b then some (7, Status.LENGTH)
  else if 8388608 < imgLength b ∨ imgLength b ≠ total then some (8, Status.LENGTH)
  else none

/-- The version objects show an image (R8). -/
def showVersions (s : Nat) (d : Dev) : Dev :=
  let b := d.slotBytes s
  let d := ((d.setObj K.VER_CTL (partVersion b 0)).setObj K.VER_MCD (partVersion b 1)).setObj K.VER_PHY (partVersion b 2)
  ((d.setObj K.VER_TAB (partVersion b 3)).setObj K.VER_DEF (partVersion b 4)).setObj K.SCHEMA_VERSION (imgSchema b)

/-- Is an image wall-wide against another that runs (R501)? -/
def wallWide (new old : Bytes) : Bool := (List.range 5).any (fun i => partWall new i && partVersion new i != partVersion old i)

/-- Does an image in a slot change a version of one of its WALL parts (R501)? -/
def slotWallWide (d : Dev) (s : Nat) : Bool :=
  let b := d.slotBytes s
  (List.range 5).any (fun i => partWall b i &&
    partVersion b i != d.obj ([K.VER_CTL, K.VER_MCD, K.VER_PHY, K.VER_TAB, K.VER_DEF].getD i K.VER_CTL))

/-! ### Settings (R513, R514) -/

end Dev

/-- Blocks that a large blob takes in the pool: none up to 1,024 bytes (R513). -/
def poolBlocks (b : Bytes) : Nat := if b.length ≤ 1024 then 0 else ceilDiv b.length 65536

/-- The lowest run of `n` pool blocks, of 2 to 319, that no entry of `used` takes (R513; which free blocks a blob takes is
open: DESIGN CHOICE, log entry 168). -/
def freeRun (used : List PoolEntry) (n : Nat) : Nat :=
  (((List.range 318).map (· + 2)).find? (fun b =>
    decide (b + n ≤ 320) && used.all (fun e => decide (b + n ≤ e.first) || decide (e.first + e.count ≤ b)))).getD 0

/-- Places of the large blobs of a new directory: an unchanged one stays, a changed one goes into blocks that are free before
any are freed (R514). -/
def placeBlobs (old : Directory) (blobs : BlobStore) : List PoolEntry :=
  let kept := old.pool.filter (fun e => blobs.any (fun b => b.1 == e.key && b.2 == old.blobs.look e.key))
  blobs.foldl (fun acc b =>
    if poolBlocks b.2 = 0 ∨ acc.any (fun e => e.key == b.1) then acc
    else acc ++ [{ key := b.1, first := freeRun (old.pool ++ acc) (poolBlocks b.2), count := poolBlocks b.2 }]) kept

/-- A value entry of a directory (R513). -/
def valueEntry (k ty : Nat) (b : Bytes) : Bytes := be 2 (k / 256) ++ be 1 (k % 256) ++ be 1 ty ++ be 2 b.length ++ be 2 0 ++ pad4 b

/-- The type code of an object, and the bytes of a value of it. -/
def typeOf (p : Pers) (k : Nat) : Nat × Nat :=
  match findDef p k with
  | some o => (o.ty.code, o.ty.width)
  | none => (0, 0)

/-- The entry of a blob: a value entry, or above 1,024 bytes its place in the pool (R513). -/
def blobEntry (p : Pers) (pool : List PoolEntry) (x : Nat × Bytes) : Bytes :=
  match pool.find? (fun e => e.key == x.1) with
  | none => valueEntry x.1 (typeOf p x.1).1 x.2
  | some e =>
    be 2 (x.1 / 256) ++ be 1 (x.1 % 256) ++ be 1 0x0D ++ be 4 x.2.length ++ be 2 e.first ++ be 2 e.count ++ be 4 (crc32c x.2)

/-- The body of a directory. -/
def dirBody (p : Pers) (x : Directory) : Bytes :=
  x.store.flatMap (fun e => let t := typeOf p e.1; valueEntry e.1 t.1 (be t.2 e.2)) ++
    x.blobs.flatMap (blobEntry p x.pool)

/-- The bytes of a directory in flash (R513). -/
def dirBytes (p : Pers) (x : Directory) : Bytes :=
  let body := dirBody p x
  let head := be 4 0x56534554 ++ be 2 x.schema ++ be 2 0 ++ be 4 x.gen ++ be 4 body.length
  head ++ complement head ++ body ++ be 4 (crc32c body)

/-- Is a raw value in the range of its object (R27)? -/
def inRange (d : Dev) (o : ObjDef) (v : Nat) : Bool :=
  let x := o.ty.value v
  (match o.ty with
    | .bool => decide (v ≤ 1)
    | _ => true) &&
  match o.rng d.pers with
  | .any => true
  | .iv lo hi => decide (lo ≤ x) && decide (x ≤ hi)
  | .step lo hi k => decide (lo ≤ v) && decide (v ≤ hi) && v % k == 0
  | .stepOrZero lo hi k => v == 0 || (decide (lo ≤ v) && decide (v ≤ hi) && v % k == 0)
  | .ivOr lo hi w => v == w || (decide (lo ≤ v) && decide (v ≤ hi))
  | .mask => (List.range 33).any (fun n => v == 2 ^ 32 - 2 ^ n)
  | .maxTwoBits => decide (popCount 8 v ≤ 2)
  | .mcast => v == 0 || v / 2 ^ 28 == 0xE
  | .colour => v % 65536 == 0
  | .source isSource =>
    v == 0 || (decide (0x10 ≤ v) && decide (v ≤ 0x2F)) || (isSource && v == 0x30)
  | .modeNumber => v == 0 || modeValid v
  | .uid => v == d.fix.fuses.uid
  | .lampIndex => decide (v < 1048576) || v == 0xFFFFFFFF

namespace Dev

/-- The values that settings hold: persistent objects that differ from their default. -/
def savedStore (d : Dev) : Store := d.dict.filter (fun x => d.persists x.1)
def savedBlobs (d : Dev) : BlobStore := d.blobs.filter (fun x => d.persists x.1 && !x.2.isEmpty)

/-- The settings region of a slot (R488). -/
def region (d : Dev) (s : Nat) : Region := if s = 0 then d.flash.regA else d.flash.regB

def setRegion (s : Nat) (x : Region) (d : Dev) : Dev :=
  d.setFlash (fun f => if s = 0 then { f with regA := x } else { f with regB := x })

/-- The newest directory of a slot's region; an empty one where it has none. -/
def directoryOf (d : Dev) (s : Nat) : Directory :=
  (d.region s).newest.getD { schema := 0, gen := 0, store := [], blobs := [], pool := [] }

/-- The newest directory of the running image's region. -/
def directory (d : Dev) : Directory := d.directoryOf d.update.running

/-- The directory of the present settings that follows `x` in its region (R513, R514). -/
def nextDirectory (d : Dev) (x : Directory) : Directory :=
  let blobs := d.savedBlobs
  { schema := d.obj K.SCHEMA_VERSION, gen := (x.gen + 1) % 2 ^ 32, store := d.savedStore, blobs := blobs,
    pool := placeBlobs x blobs }

/-- Has the image changed, with the boot record of its trial still to come (R505, R506)? -/
def betweenImages (d : Dev) : Bool := d.obj K.UPD_STATE == 6 && d.update.previous.isSome

/-- The present settings are the newest directory of the running image's region; the one before is its older (R514). -/
def writeDirectory (d : Dev) : Dev :=
  let s := d.update.running
  (d.setRegion s { newest := some (d.nextDirectory d.directory), older := (d.region s).newest }).setFlash (fun f =>
    { f with dirty := [], urgent := [] })

/-- A settings write completes (R514). -/
def saveSettings (d : Dev) : Dev := if !d.flashOpen then d else d.writeDirectory.bumpWrap K.SETTINGS_WRITES

/-- SETTINGS_WRITE, cut short after `stop` of the four steps of R514.  Before step 3 ends the previous directory stays
in force, and after step 2 the older one is gone. -/
def settingsWrite (stop : Nat) (d : Dev) : Dev :=
  if (d.flash.dirty.isEmpty && d.flash.urgent.isEmpty) || !d.flashOpen then d
  else if 3 ≤ stop then d.saveSettings
  else if stop = 2 then d.setRegion d.update.running { d.region d.update.running with older := none }
  else d

/-- The device with the settings of a directory in place of its own. -/
def withSettings (x : Directory) (d : Dev) : Dev :=
  let d := { d with dict := d.dict.filter (fun y => !d.persists y.1), blobs := d.blobs.filter (fun y => !d.persists y.1) }
  let d := x.store.foldl (fun d y => d.setObj y.1 y.2) d
  x.blobs.foldl (fun d y => d.setBlob y.1 y.2) d

/-- Values that the running device takes from its region at start (R28). -/
def loadSettings (d : Dev) : Dev := d.withSettings d.directory

/-! ### The boot ROM's choice (R499, R500) -/

/-- A record is written before the load whenever a field of it changes. -/
def putBoot (r : Option BootRec) (d : Dev) : Dev :=
  match r with
  | none => d
  | some r => if d.bootRec = some r then d else d.writeBoot (fun _ => r)

/-- The slot to load, none where Recovery follows; and the record that the choice leaves, none where no copy is valid and
neither slot passes. -/
def bootChoice (d : Dev) : Option Nat × Option BootRec :=
  match d.bootRec with
  | none =>
    if d.slotLoads 0 then (some 0, some { BootRec.blank with active := 0, markA := 2 })
    else if d.slotLoads 1 then (some 1, some { BootRec.blank with active := 1, markB := 2 })
    else (none, none)
  | some r =>
    let used := r.trial == 1 && r.left == 0
    let s := if used then 1 - r.active else r.active
    let r := if used then { r with reason := 17 }
      else if r.trial = 1 then { r with left := r.left - 1 } else r
    let bad := !d.slotLoads s
    let r := if bad then { r.setMark s 3 with reason := 20 } else r
    let s := if bad then 1 - s else s
    if s ≠ r.active then
      if r.mark s ≠ 2 then (none, some r) else (some s, some { r with active := s, trial := 0 })
    else (some s, some r)

/-- Everything volatile at its reset value; flash, fuses, the fault log region, the journal and the column drivers keep
what they hold.  DEDUCED, log entry 73: lamp states do not persist. -/
def bootVolatile (d : Dev) : Dev :=
  let n := Dev.fresh d.fix { d.flash with dirty := [], urgent := [] } d.now
  { n with
    start := { n.start with straps := d.start.straps, stbyLow := d.start.stbyLow, offLow := d.start.offLow }
    ldl := { n.ldl with drivers := d.ldl.drivers }
    ledger := { n.ledger with journal := d.ledger.journal }
    integ := { n.integ with blocks := d.integ.blocks, block := d.integ.block, nextSeq := d.integ.nextSeq }
    dram := { n.dram with retireNext := d.dram.retireNext }
    update := { n.update with was := if d.update.was = 0 then d.obj K.UPD_STATE else d.update.was }
    free := d.free
    out := d.out
    events := d.events }

/-- Update state once a slot is loaded: Trial, Ready with a verified slot, or Idle (R512, R517), by what the device was doing
when it stopped. -/
def bootUpdate (s : Nat) (r : BootRec) (d : Dev) : Dev :=
  let was := d.update.was
  let cut := r.trial != 1 && (was == 2 || was == 3 || was == 5 || was == 6)
  let d := (d.setObj K.UPD_LAST_REASON (if cut then 19 else r.reason)).setUpd (fun u => { u with was := 0 })
  if r.trial = 1 then
    let te := wallToAbs d.now r.trialEnd
    ((d.setObj K.UPD_STATE 7).setObj K.UPD_TRIAL_END r.trialEnd).setUpd (fun u =>
      { u with slot := s, previous := some (1 - s), startedLate := decide (te ≤ d.now), restarted := was == 6 })
  else d.setObj K.UPD_STATE (if r.mark (1 - s) = 1 then 4 else 1)

/-- The boot ROM chooses the slot, checks its header, writes the record where it changes, and loads the slot with its settings
(R499): false where Recovery follows. -/
def bootLoad (d : Dev) : Bool × Dev :=
  let (choice, r) := d.bootChoice
  let d := d.putBoot r
  match choice with
  | none => (false, d)
  | some s =>
    let d := (d.setUpd (fun u => { u with running := s })).loadSettings
    (true, ((d.setObj K.ACTIVE_SLOT s).showVersions s).bootUpdate s d.bootNow)

/-- The device starts: everything volatile is at its reset value, and step 1 begins (R545, R548).  Until a slot is loaded, and in
Recovery, no image runs, and the version objects, `ACTIVE_SLOT` and `SCHEMA_VERSION` read 0.  DESIGN CHOICE, log entry 116. -/
def bootStart (d : Dev) : Dev :=
  let d := d.bootVolatile
  { d with start := { d.start with run := .step 1, stepAt := d.now } }

end Dev
end Sys2Proof.Machine
end

