-- ==== Sys2Proof/Machine/UpdateOps.lean ====
section
/-!
DEFINITION. Sys2Proof/Machine/UpdateOps.lean: download, verification, preparation, the change of image at the target
boundary, trial and confirmation (17_update.md).  The fallback, which applies settings, stands in ScanOps.lean.
-/
namespace Sys2Proof.Machine
namespace Dev

def updState (d : Dev) : Nat := d.obj K.UPD_STATE

def updReason (r : Nat) (d : Dev) : Dev := d.setObj K.UPD_LAST_REASON r

/-- Subscribers hear of `UPD_STATE` whatever their minimum interval (R496). -/
def updAlert (d : Dev) : Dev :=
  d.setPliuk (fun p => { p with sessions := p.sessions.map (fun s =>
    { s with subs := s.subs.map (fun x => if !x.isEvent && x.code == K.UPD_STATE then { x with lastSent := none } else x) }) })

/-! ### Download (R493 to R496) -/

/-- Bytes are written to the slot before they are answered (R494); the last of them starts the read-back. -/
def updTake (sid : Nat) (b : Chunk) (d : Dev) : Dev :=
  let img := d.update.image ++ b.data
  let d := (d.setSlot d.spareSlot img).setUpd (fun u =>
    { u with image := img, total := b.total, session := sid, lastChunk := d.now })
  (d.setObj K.UPD_PROGRESS img.length).setObj K.UPD_STATE (if img.length = b.total then 3 else 2)

/-- A first chunk (R492, R493, R495). -/
def updFirst (sid : Nat) (b : Chunk) (d : Dev) : Nat × Dev :=
  let st := d.updState
  if st = 2 ∧ d.update.session ≠ sid then (Status.LOCKED, d)
  else if st ≠ 1 ∧ st ≠ 4 ∧ st ≠ 8 then (Status.BUSY, d)
  else if b.data.length ≠ 512 ∨ b.more ≠ decide (512 < b.total) then (Status.LENGTH, d)
  else
    match d.headerFail b.data b.total with
    | some (reason, status) => (status, d.updReason reason)
    | none =>
      let s := d.spareSlot
      let d := d.writeBoot (BootRec.setMark s 0)
      let d := d.setUpd (fun u => { u with image := [] })
      (Status.OK, d.updTake sid b)

/-- A chunk of `UPD_IMAGE` (R493 to R495). -/
def updChunk (sid : Nat) (b : Chunk) (d : Dev) : Nat × Dev :=
  if b.offset = 0 then d.updFirst sid b
  else if d.updState = 2 ∧ d.update.session = sid then
    if b.offset = d.update.image.length ∧ b.total = d.update.total ∧
        b.more = decide (b.offset + b.data.length < b.total) ∧ b.offset + b.data.length ≤ b.total then
      (Status.OK, d.updTake sid b)
    else (Status.LENGTH, d.updDiscard)
  else (Status.LENGTH, d)

/-- UPD_CHUNK_TIMEOUT. -/
def updChunkLate (d : Dev) : Dev :=
  if d.updState = 2 ∧ d.update.lastChunk + 60000000000 ≤ d.now then d.updDiscard.updReason 12 else d

/-- UPD_VERIFY_DONE (R496); in Recovery a verified image is confirmed, and the device restarts (R500). -/
def updVerified (readBackOk : Bool) (d : Dev) : Dev :=
  if d.updState ≠ 3 then d
  else
    let s := d.spareSlot
    let img := d.slotBytes s
    let reason := if !readBackOk then 11 else if !digestsOk img then 9 else if !imageSigOk img then 10 else 0
    let d := d.updAlert
    if reason ≠ 0 then (d.updDiscard.updReason reason).fault 16 K.UPD_LAST_REASON 0
    else
      let d := d.setUpd (fun u => { u with image := [], total := 0, session := 0 })
      if d.recovering then
        ((d.writeBoot (fun r => { r.setMark s 2 with active := s, trial := 0 })).setObj K.UPD_STATE 8).bootStart
      else (d.writeBoot (BootRec.setMark s 1)).setObj K.UPD_STATE 4

/-! ### Activation (R501 to R504) -/

/-- The activation is abandoned or disarmed: the device returns to Ready (R504, R512, R516). -/
def updAbandon (reason : Nat) (d : Dev) : Dev :=
  ((d.setObj K.UPD_STATE 4).updReason reason).setUpd (fun u =>
    { u with w := 0, migrated := none, handed := false })

/-- Is there an image to activate: the verified one in Ready, or a confirmed one that anti-rollback allows (R501)?  DEDUCED, log
entry 71: a confirmed image stays one after its activation was abandoned and the device is Ready. -/
def updReady (d : Dev) : Bool :=
  let mark := d.slotMark d.spareSlot
  (d.updState == 4 && mark == 1) ||
    ((d.updState == 1 || d.updState == 4) && mark == 2 && decide (d.bootNow.secMin ≤ imgSecurity (d.slotBytes d.spareSlot)))

/-- A write of `UPD_ACTIVATE` (R501 to R503). -/
def updActivate (v : Nat) (d : Dev) : Nat × Dev :=
  let ahead := wallDiff v d.wall
  if 2 ^ 48 ≤ v then (Status.RANGE, d)
  else if !d.updReady then (Status.BUSY, d)
  else if v = 0 ∧ d.slotWallWide d.spareSlot then (Status.RANGE, d)
  else if v ≠ 0 ∧ ahead < 1000000000 then (Status.TOO_LATE, d)
  else if v ≠ 0 ∧ 3600000000000 < ahead then (Status.TOO_FAR, d)
  else
    (Status.OK, (d.setObj K.UPD_STATE 5).setUpd (fun u =>
      { u with slot := d.spareSlot, w := if v = 0 then 0 else wallToAbs d.now v, migrated := none, handed := false }))

/-- The target: the first boundary at or after W, or W itself with no mode in force (R504). -/
def updTarget (d : Dev) : Time := if d.mode = 0 then d.update.w else d.boundaryFrom d.update.w

/-- `UPD_ARMED_AT`: the target while the device is Armed, and the boundary of the change from then on until Trial. -/
def updArmedAt (d : Dev) : Nat :=
  if d.updState ≠ 6 then 0
  else (if d.update.previous.isSome then d.update.w else d.updTarget) % 2 ^ 48

/-- The DEF part of the image that is being activated. -/
def newDef (d : Dev) : Bytes :=
  let img := d.slotBytes d.update.slot
  slice (partOffset img 4) (partLength img 4) img

/-- What the new CTL makes of a value of schema `so` (R515): none where it drops the object, `some none` where the conversion
fails or its result is out of range.  An object that the new schema has with the same type and range is copied; between equal
schemas that is every object (log entry 72). -/
def migrated (d : Dev) (so k v : Nat) : Option (Option Nat) :=
  if imgSchema (d.slotBytes d.update.slot) = so then some (some v)
  else
    match Config.schemaHas d.newDef k with
    | 0 => none
    | 1 => some (some v)
    | _ =>
      match Config.migrateValue d.newDef so k v with
      | some (some w) =>
        match findDef d.pers k with
        | some o => if inRange d o w then some (some w) else some none
        | none => none
      | x => x

/-- The same for the bytes of a BLOB object. -/
def migratedBlob (d : Dev) (so k : Nat) (b : Bytes) : Option (Option Bytes) :=
  if imgSchema (d.slotBytes d.update.slot) = so then some (some b)
  else
    match Config.schemaHas d.newDef k with
    | 0 => none
    | 1 => some (some b)
    | _ => Config.migrateBlob d.newDef so k b

/-- Objects of a directory that the migration drops, and objects that fail it (R515). -/
def migrateDrops (x : Directory) (d : Dev) : List Nat :=
  ((x.store.filter (fun y => (d.migrated x.schema y.1 y.2).isNone)).map (·.1)) ++
    ((x.blobs.filter (fun y => (d.migratedBlob x.schema y.1 y.2).isNone)).map (·.1))

def migrateFails (x : Directory) (d : Dev) : List Nat :=
  ((x.store.filter (fun y => d.migrated x.schema y.1 y.2 == some none)).map (·.1)) ++
    ((x.blobs.filter (fun y => d.migratedBlob x.schema y.1 y.2 == some none)).map (·.1))

/-- The settings of a directory as the new CTL takes them over, in its own region, which it has erased; what is dropped or fails
takes its default (R515, R516). -/
def migrate (x : Directory) (d : Dev) : Directory :=
  let store := x.store.filterMap (fun y => (d.migrated x.schema y.1 y.2).join.map (fun v => (y.1, v)))
  let blobs := x.blobs.filterMap (fun y => (d.migratedBlob x.schema y.1 y.2).join.map (fun b => (y.1, b)))
  { schema := imgSchema (d.slotBytes d.update.slot), gen := 1, store := store, blobs := blobs,
    pool := placeBlobs { schema := 0, gen := 0, store := [], blobs := [], pool := [] } blobs }

/-- Drops, and defaults taken for failing objects, are logged (R515, R516): faults, with the value after the event (R521). -/
def logMigration (x : Directory) (d : Dev) : Dev :=
  let drops := d.migrateDrops x
  let fails := d.migrateFails x
  let d := drops.foldl (fun d k => d.logFault 16 2 k 0 0) d
  fails.foldl (fun d k => d.logFault 16 2 k 0 (defaultOf d.pers k)) d

/-- The schema of the settings lies outside what the new image migrates from (R515). -/
def schemaBad (so : Nat) (d : Dev) : Bool :=
  let img := d.slotBytes d.update.slot
  decide (so < imgSchemaMin img) || decide (imgSchema img < so)

/-- Why the migration of a directory fails: reason 14, which Defaults lets pass, or 15 (R503, R515, R516). -/
def migrationFault (x : Directory) (d : Dev) : Option Nat :=
  if (d.schemaBad x.schema || !(d.migrateFails x).isEmpty) && d.obj K.UPD_MIGRATE_POLICY == 1 then some 14
  else if !(d.withSettings (d.migrate x)).stateFails.isEmpty then some 15
  else none

/-- The settings that preparation migrates: the newest directory of the running image's region (R515). -/
def oldSettings (d : Dev) : Directory := { d.directory with schema := d.obj K.SCHEMA_VERSION }

/-- The settings that the running firmware passes at L: its present ones (R505). -/
def passedSettings (d : Dev) : Directory := { d.oldSettings with store := d.savedStore, blobs := d.savedBlobs }

/-- The running firmware hands over: the present settings are migrated again, and an activation whose migration fails is
abandoned (R505, R516). -/
def handOver (d : Dev) : Dev :=
  match d.migrationFault d.passedSettings with
  | some reason => d.updAbandon reason
  | none => d.setUpd (fun u => { u with handed := true, migrated := some (d.migrate d.passedSettings) })

/-! ### The change of image (R505 to R508) -/

/-- What a wall-wide change does beside the change of versions (R508). -/
def wallWideEffect (fa : Time) (d : Dev) : Dev :=
  let d :=
    if d.isTile && d.obj K.SCAN_STATE != 1 then
      ((if d.ldl.blanked then d else d.blankDrivers).setScan 2).setTile (fun s =>
        { s with pass := none, decs := [], sel := [], abandoned := [], latched := none, endShow := false })
    else d
  let d := (List.range d.nPorts).foldl (fun d h => if d.portUp h then d.startAttempt h 1 else d) d
  d.setUpd (fun u => { u with skipPass := some fa })

/-- The final directory of the new region and the boot record of the trial are in flash (R506). -/
def trialWrite (d : Dev) : Dev :=
  let slot := d.update.slot
  let te := d.update.w % 2 ^ 48 + d.obj K.UPD_TRIAL_WINDOW * 1000000000
  let left := d.obj K.UPD_TRIAL_STARTS
  d.writeDirectory.writeBoot (fun r => { r with active := slot, trial := 1, left := left, trialEnd := te % 2 ^ 48 })

/-- The processors and the pipeline change to the new image at `fa`, with the settings passed at L (R505, R507, R508).  `ACTIVE_SLOT` names the running slot
from then on, as it does again after a fallback: R7 gives the slot booted, and does not say what a hand-over without restart
does to it.  DESIGN CHOICE, log entry 115. -/
def contextChange (fa : Time) (d : Dev) : Dev :=
  let slot := d.update.slot
  let wide := d.slotWallWide slot
  let restart := imgRestart (d.slotBytes slot)
  let d := match d.update.migrated with
    | some x => d.withSettings x
    | none => d
  let d := d.setUpd (fun u => { u with previous := some u.running, running := slot, w := fa, handed := false })
  let d := (d.setObj K.ACTIVE_SLOT slot).showVersions slot
  let d := if wide then d.wallWideEffect fa else d
  if restart then
    let d := if d.isTile then ((d.scanDark.immediateCkpt true).finishCkpt []) else d
    d.trialWrite.bootStart
  else d

/-- UPD_PREPARATION_DONE (R503, R504, R515, R516): the new region is erased and built.  In Off ready nothing is written (R559). -/
def updPrepared (d : Dev) : Dev :=
  if d.updState ≠ 5 ∨ !d.flashOpen then d
  else
    let late := d.update.w ≠ 0 ∧ (if d.mode = 0 then d.update.w ≤ d.now else d.updTarget ≤ d.now + latchLead)
    if late then d.updAbandon 18
    else
    let old := d.oldSettings
    match d.migrationFault old with
    | some reason => (d.setRegion d.update.slot { newest := none, older := none }).updAbandon reason
    | none =>
      let x := d.migrate old
      let d := (d.logMigration old).setRegion d.update.slot { newest := some x, older := none }
      let w := if d.update.w ≠ 0 then d.update.w else if d.mode = 0 then d.now else d.applyBoundary
      let at0 := d.update.w
      let d := (d.setObj K.UPD_STATE 6).setUpd (fun u => { u with w := w, migrated := some x })
      if at0 = 0 ∧ d.mode = 0 then
        let d := d.handOver
        if d.update.handed then d.contextChange d.now else d
      else d

/-- UPD_ACTIVATION_INSTANT: the target with no mode in force. -/
def updInstant (d : Dev) : Dev :=
  if d.mode ≠ 0 ∨ d.update.w = 0 ∨ d.now < d.update.w ∨ !d.flashOpen then d
  else if d.updState = 5 then d.updAbandon 18
  else if d.updState = 6 ∧ d.update.previous.isNone then
    let d := d.handOver
    if d.update.handed then d.contextChange d.now else d
  else d

/-- The hand-over at L of the coming boundary `f`, or the end of an activation that is not prepared (R504, R505). -/
def updLatch (f : Time) (d : Dev) : Dev :=
  if d.update.w = 0 ∨ d.mode = 0 ∨ d.updTarget ≠ f then d
  else if d.updState = 5 then d.updAbandon 18
  else if d.updState = 6 ∧ d.update.previous.isNone then d.handOver
  else d

/-- The change at the target boundary. -/
def updBoundary (f : Time) (d : Dev) : Dev :=
  if d.updState = 6 ∧ d.update.handed ∧ d.update.previous.isNone ∧ d.flashOpen then d.contextChange f else d

/-! ### Trial (R506, R510, R511) -/

/-- UPD_TRIAL_ENTRY. -/
def updTrialEntry (d : Dev) : Dev :=
  if d.betweenImages ∧ d.flashOpen then
    let d := d.trialWrite
    (d.setObj K.UPD_STATE 7).setObj K.UPD_TRIAL_END d.bootNow.trialEnd
  else d

/-- A write of 1 to `UPD_CONFIRM` (R510). -/
def updConfirm (d : Dev) : Nat × Dev :=
  if d.updState ≠ 7 then (Status.BUSY, d)
  else
    let s := d.update.running
    let sec := imgSecurity (d.slotBytes s)
    let d := d.writeBoot (fun r => { r.setMark s 2 with trial := 0, secMin := max r.secMin sec })
    let d := d.setUpd (fun u => { u with previous := none, w := 0, migrated := none, abort := false, startedLate := false })
    (Status.OK, (d.setObj K.UPD_STATE 1).setObj K.UPD_TRIAL_END 0)

/-- A write of 1 to `UPD_ABORT` (R511, R512); the fallback it asks for comes at the next boundary.  In Ready with a confirmed image
there is no verified one to discard (log entry 71). -/
def updAbort (d : Dev) : Dev :=
  let st := d.updState
  if st = 4 ∧ d.slotMark d.spareSlot = 2 then (d.setObj K.UPD_STATE 1).updReason 13
  else if st = 2 ∨ st = 3 ∨ st = 4 then
    let s := d.spareSlot
    (((if d.slotMark s = 0 then d else d.writeBoot (BootRec.setMark s 0)).updDiscard).updReason 13)
  else if st = 5 ∨ (st = 6 ∧ d.update.previous.isNone) then d.updAbandon 13
  else if st = 6 ∨ st = 7 then d.setUpd (fun u => { u with abort := true })
  else d

/-- The activation ends when the device enters Standby while it is prepared or armed. -/
def updStandby (d : Dev) : Dev :=
  if d.updState = 5 ∨ (d.updState = 6 ∧ d.update.previous.isNone) then d.updAbandon 18 else d

end Dev
end Sys2Proof.Machine
end

