-- ==== Sys2Proof/Machine/WriteOps.lean ====
section
/-!
DEFINITION. Sys2Proof/Machine/WriteOps.lean: what a write of an object does: who may write it, which values it takes,
when it takes effect, and the actions of command objects (R26 to R38, R58, and the rules of each object).
-/
namespace Sys2Proof.Machine

/-- Who writes: the session, its role, whether the request came over the SPI target port, and whether it carries a
transaction. -/
structure Writer where
  sid : Nat
  role : Nat
  spi : Bool
  inTxn : Bool
  deriving DecidableEq, Repr

/-- The roles of R53. -/
def roleOperator : Nat := 2
def roleEngineer : Nat := 3
def roleSafety : Nat := 4
def roleService : Nat := 5

/-- Objects with a key in them: only Service may write them under R58. -/
def isKeyObj (k : Nat) : Bool := k / 256 == 0x1021

/-- Objects that only a Service session may write (R273, R274, R359). -/
def serviceOnly : List Nat :=
  [K.PRISM_CAL_IMAGE, K.PRISM_CAL_ERASE, K.LEDG_FORMAT, K.LEDG_LAMP_RESET, K.LEDG_TILE_CEILING_RESET]

/-- May a role write an object of this level (R58)? -/
def mayWrite (role k : Nat) (lv : Level) : Bool :=
  let i := k / 256
  let basic := lv == .basic
  if serviceOnly.contains k then role == roleService
  else if i < 0x2000 then role == roleService || (role == roleEngineer && !isKeyObj k)
  else if 0x6000 ≤ i ∧ i < 0x6800 then role == roleService
  else if 0x6800 ≤ i ∧ i < 0x7000 then role == roleSafety
  else if 0x7000 ≤ i then role == roleService || (role == roleEngineer && basic)
  else
    let shared := decide (i < 0x2400) || (decide (0x3000 ≤ i) && decide (i < 0x3800)) ||
      (decide (0x4000 ≤ i) && decide (i < 0x4800)) || (decide (0x5400 ≤ i) && decide (i < 0x5800))
    role == roleEngineer || role == roleService || (shared && basic && role == roleOperator)

/-- Is an equalisation table sound (R391, R392)? -/
def eqTableOk (b : Bytes) : Bool :=
  b.length == 4016 && fieldAt 0 4 b == 0x56455131 && fieldAt 4 2 b == 1 && fieldAt 6 2 b == 0 &&
    fieldAt 12 4 b == crc32c (b.drop 16) &&
    (List.range 1000).all (fun i =>
      let e := slice (16 + 4 * i) 4 b
      let c := fieldAt 3 1 e
      decide (fieldAt 0 1 e ≤ 63) && decide (fieldAt 1 1 e ≤ 15) && decide (fieldAt 2 1 e ≤ 31) && c % 2 == 0 &&
        decide (fieldAt 1 1 e + fieldAt 2 1 e ≤ fieldAt 0 1 e))

namespace Dev

/-! ### Who may write, and where -/

/-- Objects refused with ACCESS inside a transaction (R326, R483, R493). -/
def notInTxn (k : Nat) : Bool :=
  (decide (0x5408 ≤ k / 256) && decide (k / 256 ≤ 0x540B)) ||
    [K.OVL_COMMAND, K.UPD_IMAGE, K.UPD_ACTIVATE, K.UPD_CONFIRM, K.UPD_ABORT].contains k

/-- Objects refused with ACCESS outside a transaction (R100, R166, R216, R275, R442, R445). -/
def onlyInTxn (d : Dev) (k : Nat) : Bool :=
  d.isWallParam k ||
    [K.COMP_CANVAS_W, K.COMP_CANVAS_H, K.COMP_COLORIMETRY, K.COMP_TCS, K.PLACE_TABLE].contains k ||
    (decide (0x3410 ≤ k / 256) && decide (k / 256 ≤ 0x3417) &&
      (decide (k % 256 ≤ 0x0E) || (decide (0x12 ≤ k % 256) && decide (k % 256 ≤ 0x17))))

/-- May the key in one-time storage be written (R543)? -/
def otpKeyOpen (d : Dev) (x : Writer) : Bool := x.spi && x.role == roleService && d.fix.otp.safetyKey.isNone

/-- The first failure of a write of an object, its value aside: NO_OBJECT, ACCESS, ROLE. -/
def entryRefused (d : Dev) (x : Writer) (k : Nat) : Option Nat :=
  match findDef d.pers k with
  | none => some Status.NO_OBJECT
  | some o =>
    if o.acc d.pers = .ro ∨ o.acc d.pers = .const then some Status.ACCESS
    else if (if x.inTxn then notInTxn k else d.onlyInTxn k) then some Status.ACCESS
    else if k = K.OTP_SAFETY_KEY ∧ !d.otpKeyOpen x then some Status.ACCESS
    else if k = K.PRISM_CAL_ERASE ∧ !x.spi then some Status.ACCESS
    else if !mayWrite x.role k o.level then some Status.ROLE
    else none

/-- Commands whose effect is a write of flash. -/
def writesFlash (k : Nat) : Bool :=
  ([K.OVL_COMMAND, K.PRISM_CAL_IMAGE, K.PRISM_CAL_ERASE, K.LEDG_CHECKPOINT_NOW, K.LEDG_FORMAT, K.LEDG_LAMP_RESET, K.UPD_IMAGE,
    K.UPD_ACTIVATE, K.UPD_CONFIRM, K.UPD_ABORT, K.FLOG_CLEAR] : List Nat).contains k

/-- Does the safe state refuse a write of the object (R540)? -/
def safeRefuses (d : Dev) (k : Nat) : Bool :=
  let i := k / 256
  (d.obj K.INTEG_STATE == 2 || d.obj K.INTEG_STATE == 3) &&
    !((decide (0x1000 ≤ i) && decide (i < 0x2000)) || (decide (0x7000 ≤ i) && decide (i < 0x8000)))

/-- Does the device's state refuse the write (R540, R548, R557)?  In Off ready nothing is written to flash (R559), so a
command that writes it is refused (DEDUCED, log entry 140). -/
def deviceRefuses (d : Dev) (k : Nat) : Bool :=
  d.safeRefuses k || d.baseRun == .standby || d.baseRun == .toStandby || d.baseRun == .startFailed ||
    (d.start.run == .offReady && writesFlash k)

/-- Is the object staged or pending for someone else (R38, R59, R65, R70)?  An accepted broadcast is a transaction of no
session until it applies, and holds its objects against sessions (DEDUCED, log entry 122). -/
def lockedFor (d : Dev) (sid k : Nat) : Bool :=
  d.pliuk.txns.any (fun t => t.session != sid && t.entries.any (fun e => e.key == k)) ||
    d.pliuk.bcasts.any (fun b => b.entries.any (fun e => e.key == k)) ||
    d.pliuk.stages.any (fun s => s.session != sid && s.key == k) || d.halfOfOther sid k

/-- Is the block of an Idle object Dark (R30)?  A device that is not yet Armed is asked the same: it handles a write as in Dark,
where triggers, captures, streams and links go on (R550, R555). -/
def idleOpen (d : Dev) (k : Nat) : Bool := d.blockDark k

/-! ### Actions -/

/-- Do the Withy ports run: from step 6 on? -/
def portsRun (d : Dev) : Bool :=
  match d.baseRun with
  | .step n => decide (6 ≤ n)
  | .fromStandby n => decide (6 ≤ n)
  | .armed | .toStandby => true
  | _ => false

/-- Keys of the objects that R440 covers, ascending. -/
def pairKeys : List Nat :=
  let subs := fun (i n : Nat) => (List.range n).map (fun s => i * 256 + s + 1)
  subs 0x2040 4 ++ (List.range 16).flatMap (fun n => subs (0x3100 + n) 0x0B) ++ subs 0x3400 5 ++
    (List.range 8).flatMap (fun n => subs (0x3410 + n) 0x1B) ++ (List.range 4).flatMap (fun h => subs (0x3810 + h) 4) ++
    subs 0x4000 2 ++ [K.WALL_CEILING, K.FADER_STOPS, K.HOOP_RENUMBER_GEN, K.PLACE_TABLE]

/-- `PAIR_STATE_DIGEST` (R440). -/
def pairDigest (d : Dev) : Nat :=
  crc32c (pairKeys.flatMap (fun k =>
    be 2 (k / 256) ++ be 1 (k % 256) ++ (if k = K.PLACE_TABLE then d.blob k else be (d.objBits k / 8) (d.obj k))))

/-- `PAIR_READY` falls at a change of the digest that was confirmed (R440). -/
def readyFollow (d : Dev) : Dev :=
  if d.isSender && d.obj K.PAIR_READY == 1 && d.pairDigest != d.pair.confirmed then d.setObj K.PAIR_READY 0 else d

/-- A write of `PAIR_STATE_CONFIRM` (R440). -/
def pairConfirm (v : Nat) (d : Dev) : Dev :=
  let x := d.pairDigest
  (d.setObj K.PAIR_READY (b2n (v == x))).setPair (fun p => { p with confirmed := x })

/-- A write of a check unit (R477 to R482). -/
def cuWrite (sid n sub v : Nat) (d : Dev) : Nat × Dev :=
  if sub = 1 then d.cuClaim sid n v
  else if !d.cuMine sid n then (Status.LOCKED, d)
  else
    match sub with
    | 2 => (Status.OK, d.cuSelect n v)
    | 3 => (Status.OK, d.cuInit n)
    | 4 => (Status.OK, d.cuFeed n 1 v)
    | 5 => (Status.OK, d.cuFeed n 2 v)
    | 6 => (Status.OK, d.cuFeed n 4 v)
    | 7 => (Status.OK, d.cuFeed n 8 v)
    | _ => if d.cuFits n v then (Status.OK, d.setObj (K.CU_STATE n) v) else (Status.RANGE, d)

/-- A write of `WITHYh_ENABLE` (R398's table, R399). -/
def withyEnable (h v : Nat) (d : Dev) : Dev :=
  let was := d.obj (K.WITHY_ENABLE h)
  let d := d.keepObj (K.WITHY_ENABLE h) v
  if v = was ∨ !d.portsRun then d else if v = 1 then d.startAttempt h 1 else d.disablePort h

/-- A write of 1 to `WITHYh_RETRAIN` (R399). -/
def withyRetrain (h : Nat) (d : Dev) : Dev :=
  if d.linkState h = 1 ∨ !d.portsRun then d else d.startAttempt h 1

/-- A conditional action: the status, and the effect where it is OK, or whatever it is where `must`. -/
def actIf (must : Bool) (status : Nat) (f : Dev → Dev) (d : Dev) : Nat × Dev :=
  (status, if must || status == Status.OK then f d else d)

/-- A write of `SNSi_PD_CAPTURE` (R380). -/
def pdCapture (must : Bool) (i v : Nat) (d : Dev) : Nat × Dev :=
  if v = 1 ∧ (must ∨ d.obj K.SCAN_STATE = 1) then (Status.OK, d.pdDarkStart i)
  else if v = 2 ∧ (must ∨ d.obj K.SCAN_STATE = 3) then (Status.OK, d.setSenseIn i (fun s => { s with baseline := true }))
  else (Status.NOT_IDLE, d)

/-- A write of `SNS_CAL_START` (R371, R372). -/
def calStart (must : Bool) (d : Dev) : Nat × Dev :=
  d.actIf (must && d.calStartCheck == Status.BUSY) d.calStartCheck (fun d => d.setSense (fun s => { s with due := true }))

/-- A write of `INTEG_CLEAR_SAFE` whose self-test is measured elsewhere: what it shows is free (log entry 79). -/
def clearSafeFree (d : Dev) : Nat × Dev :=
  let (stalled, d) := d.drawFree 16
  let (crc, d) := d.drawFree 1
  d.clearSafe stalled (crc == 1)

/-- Update keys are revoked, never all four (R544). -/
def otpRevoke (v : Nat) (d : Dev) : Nat × Dev :=
  let r := d.fix.otp.revoked ||| v % 16
  if r % 16 = 15 then (Status.RANGE, d)
  else (Status.OK, { d with fix := { d.fix with otp := { d.fix.otp with revoked := r } } })

/-- An object whose write is an action of its own: the status and the device after it.  none: an ordinary object.  `must`: the
write was judged when it was staged and applies now, whatever has changed since (R61).  Actions whose condition is the
device's own state and not a block's, a calibration run with a converter retired, the end of a safe state, the revocation
of keys and the update commands, keep that condition.  DEDUCED, log entry 175. -/
def action (must : Bool) (sid k v : Nat) (d : Dev) : Option (Nat × Dev) :=
  let i := k / 256
  let s := k % 256
  if 0x2010 ≤ i ∧ i ≤ 0x2017 ∧ s = 1 then
    some (d.actIf must (d.trigModeCheck (i - 0x2010) v) (fun d => d.trigModeSet (i - 0x2010) v))
  else if 0x5408 ≤ i ∧ i ≤ 0x540B then some (d.cuWrite sid (i - 0x5408) s v)
  else if 0x3200 ≤ i ∧ i ≤ 0x320F ∧ s = 9 then
    some (d.actIf must (d.captureCheck (i - 0x3200) v) (fun d => d.captureStart (i - 0x3200) v))
  else if 0x3200 ≤ i ∧ i ≤ 0x320F ∧ s = 11 then
    some (d.actIf must (d.releaseCheck (i - 0x3200)) (fun d => d.stillRelease (i - 0x3200)))
  else if (i = 0x4020 ∨ i = 0x4021) ∧ s = 3 then
    some (d.actIf must (if d.imageShown (i - 0x4020) then Status.LOCKED else Status.OK) (fun d => d.timgClear (i - 0x4020)))
  else if 0x5020 ≤ i ∧ i ≤ 0x502F ∧ s = 14 then some (d.pdCapture must (i - 0x5020) v)
  else if 0x2410 ≤ i ∧ i ≤ 0x2413 ∧ s = 1 then some (Status.OK, d.withyEnable (i - 0x2410) v)
  else if 0x2410 ≤ i ∧ i ≤ 0x2413 ∧ s = 6 then some (Status.OK, d.withyRetrain (i - 0x2410))
  else if k = K.PRISM_CAL_ERASE then
    some (d.actIf must (if d.obj K.SCAN_STATE = 1 then Status.OK else Status.NOT_IDLE) (fun d => d.calErase.judgeCurves))
  else if k = K.LAMP_CLEAR then
    some (d.actIf must (if d.lampClearOk v then Status.OK else Status.RANGE) (fun d => d.lampClear v))
  else if k = K.LEDG_CHECKPOINT_NOW then some (Status.OK, d.immediateCkpt false)
  else if k = K.LEDG_FORMAT then some (Status.OK, d.ledgerFormat)
  else if k = K.LEDG_LAMP_RESET then
    some (d.actIf must (if d.lampResetOk v then Status.OK else Status.RANGE) (fun d => d.ledgerLampReset v))
  else if k = K.LEDG_TILE_CEILING_RESET then some (Status.OK, d.ledgerCeilingReset)
  else if k = K.SNS_CAL_START then some (d.calStart must)
  else if k = K.PAIR_TAKEOVER then some (Status.OK, d.takeoverCommand)
  else if k = K.PAIR_STATE_CONFIRM then some (Status.OK, d.pairConfirm v)
  else if k = K.UPD_ACTIVATE then some (d.updActivate v)
  else if k = K.UPD_CONFIRM then some d.updConfirm
  else if k = K.UPD_ABORT then some (Status.OK, d.updAbort)
  else if k = K.FLOG_CLEAR then some (Status.OK, d.flogClear)
  else if k = K.INTEG_CLEAR_SAFE then some d.clearSafeFree
  else if k = K.OTP_KEY_REVOKE then some (d.otpRevoke v)
  else none

/-! ### Ordinary objects -/

/-- Conditions on a write of an ordinary object beside its range (R123, R253, R453). -/
def objStatus (d : Dev) (k v : Nat) : Nat :=
  let i := k / 256
  if 0x3200 ≤ i ∧ i ≤ 0x320F ∧ k % 256 ≤ 7 then
    if d.stillState (i - 0x3200) = 0 then Status.OK else Status.NOT_IDLE
  else if k = K.PRISM_HEADROOM then
    if v / 65536 = 65535 - v % 65536 ∧ 0x8000 ≤ v % 65536 then Status.OK else Status.RANGE
  else if k = K.DRAM_CHANNEL_DISABLE then if d.disableBad v then Status.RANGE else Status.OK
  else Status.OK

/-- The value that an object comes to hold when every Boundary value written so far has applied. -/
def latestVal (d : Dev) (k : Nat) : Nat :=
  match (d.pliuk.shadow.filter (fun x => x.item.key == k)).getLast? with
  | some x => x.item.val
  | none => d.obj k

/-- Would a write outside a transaction leave a slot with Θ + Y beyond R257's limit?  DEDUCED, log entry 189: the text under
the objects of 08_prism.md says that such a pair is refused, and RULE is the status of a cross-rule. -/
def rangePairBad (d : Dev) (k v : Nat) : Bool :=
  match instOf (K.PRIM_RANGE_THRESHOLD 0) 4 k, instOf (K.PRIM_RANGE_HYST 0) 4 k with
  | some p, _ => decide (0x00FFFFFF < v + d.latestVal (K.PRIM_RANGE_HYST p))
  | _, some p => decide (0x00FFFFFF < d.latestVal (K.PRIM_RANGE_THRESHOLD p) + v)
  | none, none => false

/-- An ordinary object takes a value, with what its chapter ties to it. -/
def takeObj (k v : Nat) (d : Dev) : Dev :=
  let i := k / 256
  let was := d.obj k
  let d := d.keepObj k v
  if 0x3100 ≤ i ∧ i ≤ 0x310F ∧ k % 256 = 1 then if was = v then d else d.resetStream (i - 0x3100)
  else if 0x5440 ≤ i ∧ i ≤ 0x544F then d.chkApplied (i - 0x5440) (k % 256 == 1 && was == 0 && v != 0)
  else if k = K.PRISM_IN_COLORIMETRY then
    d.setPrism (fun s => { s with derivePending := true })
  else if k = K.PAIR_OFFSET_LIMIT then d.watchPair
  else if k = K.INGEST_LANE_MODE then d.linksFollow
  else if 0x3410 ≤ i ∧ i ≤ 0x3417 ∧ k % 256 ≤ 2 then d.layerFollow (i - 0x3410)
  else if 0x2010 ≤ i ∧ i ≤ 0x2017 ∧ k % 256 = 2 then
    d.setTrig (i - 0x2010) (fun t => { t with base := d.trigStart (i - 0x2010) })
  else d

/-- A Boot object is stored, and its running value kept aside (R30, R33). -/
def storeBoot (k v : Nat) (d : Dev) : Dev :=
  let run := d.bootObj k
  (d.keepObj k v).setPliuk (fun p =>
    { p with bootOld := if run = v then Store.del k p.bootOld else Store.put k run p.bootOld })

/-- A scalar object takes a value that has come to apply.  A trigger's mode, judged when it was staged, takes effect whatever
the instant, as every value does that was judged then (R61).  DEDUCED, log entry 175. -/
def takeScalar (sid k v : Nat) (d : Dev) : Dev :=
  match findDef d.pers k with
  | none => d
  | some o =>
    match instOf (K.TRIG_MODE 0) 8 k with
    | some n => d.trigModeSet n v
    | none =>
    match d.action true sid k v with
    | some r => r.2
    | none => if o.cls = .boot then d.storeBoot k v else d.takeObj k v

/-! ### BLOB objects -/

/-- Bytes that the Range column of a BLOB asks for; none: its chapter checks the length. -/
def blobLen (k : Nat) : Option Nat :=
  let i := k / 256
  if isKeyObj k ∨ k = K.OTP_SAFETY_KEY then some 32
  else if k = K.LDL_LAMP_MAP then some 4718592
  else if k = K.EQ_TABLE then some 4016
  else if 0x5020 ≤ i ∧ i ≤ 0x502F then some 128
  else if 0x5040 ≤ i ∧ i ≤ 0x5043 then some 64
  else none

/-- The checks of the first chunk of a BLOB. -/
def blobFirst (d : Dev) (k total : Nat) : Nat :=
  let i := k / 256
  if (blobLen k).any (fun n => n != total) then Status.RANGE
  else if k = K.PLACE_TABLE ∧ (32768 < total ∨ total % 16 ≠ 0) then Status.RANGE
  else if k = K.LDL_LAMP_MAP then if d.idleOpen k then Status.OK else Status.NOT_IDLE
  else if 0x3200 ≤ i ∧ i ≤ 0x320F then d.stillFirst (i - 0x3200) total
  else if i = 0x4020 ∨ i = 0x4021 then d.timgFirst (i - 0x4020) total
  else if k = K.PRISM_CAL_IMAGE then d.calImageFirst
  else if 0x6810 ≤ i ∧ i ≤ 0x6813 then d.ovlDataFirst (i - 0x6810) total
  else Status.OK

/-- The checks that every chunk meets: an image that has come to be shown is LOCKED (R244), scan-out that has left Dark takes
no calibration image and no lamp map (R30, R273), and an overlay slot that does not load, or loads another length, takes no
content (R324). -/
def blobNext (d : Dev) (k total : Nat) : Nat :=
  let i := k / 256
  if i = 0x4020 ∨ i = 0x4021 then d.timgFirst (i - 0x4020) total
  else if k = K.PRISM_CAL_IMAGE then d.calImageFirst
  else if k = K.LDL_LAMP_MAP then if d.idleOpen k then Status.OK else Status.NOT_IDLE
  else if 0x6810 ≤ i ∧ i ≤ 0x6813 then d.ovlDataFirst (i - 0x6810) total
  else Status.OK

/-- Placement in force has changed (R443). -/
def recountUnplaced (d : Dev) : Dev :=
  d.setObj K.PLACE_UNPLACED (d.allTiles.filter (fun r => (d.placeOf r.uid).isNone)).length

/-- The Safety key is written for good (R543). -/
def otpKeySet (b : Bytes) (d : Dev) : Dev :=
  if d.fix.otp.safetyKey.isSome then d
  else { d with fix := { d.fix with otp := { d.fix.otp with safetyKey := some b } } }

/-- A whole BLOB: its status, and the device after it.  `readBackOk` is the read-back of a calibration image. -/
def blobDone (k : Nat) (b : Bytes) (readBackOk : Bool) (d : Dev) : Nat × Dev :=
  let i := k / 256
  if k = K.OVL_COMMAND then d.ovlCommand b
  else if k = K.PRISM_CAL_IMAGE then
    let (st, d) := d.calImageDone b readBackOk
    (st, if st = Status.OK then d.judgeCurves else d)
  else if k = K.OTP_SAFETY_KEY then (Status.OK, d.otpKeySet b)
  else if 0x3200 ≤ i ∧ i ≤ 0x320F then (Status.OK, d.stillDone (i - 0x3200) b)
  else if i = 0x4020 ∨ i = 0x4021 then (Status.OK, d.timgDone (i - 0x4020) b)
  else if 0x6810 ≤ i ∧ i ≤ 0x6813 then
    d.actIf false (d.ovlDataFirst (i - 0x6810) b.length) (fun d => d.ovlDataDone (i - 0x6810) b)
  else if k = K.LDL_LAMP_MAP then
    if mapWordsOk b then (Status.OK, d.keepBlob k b) else (Status.RANGE, d)
  else if k = K.EQ_TABLE then
    if eqTableOk b then
      (Status.OK_BOOT, (d.keepBlob k b).setPliuk (fun p => { p with bootOld := Store.put k 0 p.bootOld }))
    else (Status.RANGE, d)
  else if 0x5020 ≤ i ∧ i ≤ 0x502F then if senseTableOk b then (Status.OK, d.keepBlob k b) else (Status.RANGE, d)
  else if 0x5040 ≤ i ∧ i ≤ 0x5043 then if thermTableOk b then (Status.OK, d.keepBlob k b) else (Status.RANGE, d)
  else if k = K.PLACE_TABLE then (Status.OK, (d.keepBlob k b).recountUnplaced)
  else (Status.OK, d.keepBlob k b)

/-- Checks of a whole BLOB that need no change of state, for one staged in a transaction. -/
def blobStaged (d : Dev) (k : Nat) (b : Bytes) : Nat :=
  let i := k / 256
  if k = K.PRISM_CAL_IMAGE then d.calImageCheck b else
  if k = K.EQ_TABLE then if eqTableOk b then Status.OK else Status.RANGE
  else if k = K.LDL_LAMP_MAP then if mapWordsOk b then Status.OK else Status.RANGE
  else if 0x5020 ≤ i ∧ i ≤ 0x502F then if senseTableOk b then Status.OK else Status.RANGE
  else if 0x5040 ≤ i ∧ i ≤ 0x5043 then if thermTableOk b then Status.OK else Status.RANGE
  else Status.OK

/-! ### Items that come to apply: shadows, commits, broadcasts, the settings of a fallback -/

/-- One item takes effect. -/
def applyItem (sid : Nat) (x : Staged) (d : Dev) : Dev :=
  match x.blob with
  | none => d.takeScalar sid x.key x.val
  | some b =>
    let (rb, d) := if x.key = K.PRISM_CAL_IMAGE then d.drawFree 1 else (1, d)
    (d.blobDone x.key b (rb == 1)).2

/-- The last item of each key, in order. -/
def lastItems : List Staged → List Staged
  | [] => []
  | x :: xs => if xs.any (fun y => y.key == x.key) then lastItems xs else x :: lastItems xs

/-- Items take effect together: Idle values first, then the rest in order (R61); a changed wall parameter raises the
generation once (R227); scan-out follows (R235). -/
def applyItems (sid : Nat) (items : List Staged) (d : Dev) : Dev :=
  let last := lastItems items
  let isIdle := fun (x : Staged) => match findDef d.pers x.key with
    | some o => o.cls == .idle
    | none => false
  let changed := last.any (fun x => d.isWallParam x.key && d.obj x.key != x.val)
  let d := (last.filter isIdle).foldl (fun d x => d.applyItem sid x) d
  let d := (last.filter (fun x => !isIdle x)).foldl (fun d x => d.applyItem sid x) d
  (if changed then d.bumpParamGen else d).scanFollow

/-- Still buffers whose content a transaction has staged are Empty for its own format objects. -/
def stillsOwn (items : List Staged) (d : Dev) : Dev :=
  items.foldl (fun d x => match x.blob, instOf (K.STILL_DATA 0) 16 x.key with
    | some _, some n => d.setObj (K.STILL_STATE n) 0
    | _, _ => d) d

/-- A transaction applies, ends and is announced (R61, R65); its session remembers that it has applied (R590). -/
def applyTxn (x : Txn) (d : Dev) : Dev :=
  ((((d.endTxn x.number).stillsOwn x.entries).applyItems x.session x.entries).setSess x.session (fun s => { s with applied := x.number })).notify
    x.session 2 (be 4 x.number)

/-! ### One write outside a transaction -/

/-- An ordinary value takes effect under its apply class (R30, R31). -/
def classWrite (o : ObjDef) (k v : Nat) (d : Dev) : Nat × Dev :=
  match o.cls with
  | .imm => (Status.OK, d.takeObj k v)
  | .bnd =>
    if d.mode = 0 then (Status.OK, (d.takeObj k v).scanFollow)
    else
      let at' := d.applyBoundary
      (Status.OK, d.setPliuk (fun p => { p with shadow := p.shadow ++ [⟨⟨k, v, none⟩, at'⟩] }))
  | .idle => if d.idleOpen k then (Status.OK, d.takeObj k v) else (Status.NOT_IDLE, d)
  | .boot => (Status.OK_BOOT, d.storeBoot k v)

/-- A member of a pair: held as a half, or joined with its partner (R34 to R37, R585). -/
def pairWrite (x : Writer) (o : ObjDef) (k m v : Nat) (d : Dev) : Nat × Dev :=
  match d.pliuk.halves.find? (fun h => h.session == x.sid && h.key == m) with
  | none =>
    match d.pliuk.halves.find? (fun h => h.session == x.sid && h.key == k) with
    | some _ =>
      (Status.OK_PENDING, d.setPliuk (fun p =>
        { p with halves := p.halves.map (fun h => if h.session == x.sid && h.key == k then { h with val := v } else h) }))
    | none => (Status.OK_PENDING, d.setPliuk (fun p => { p with halves := p.halves ++ [⟨k, v, x.sid, d.now⟩] }))
  | some h =>
    let d := d.setPliuk (fun p => { p with halves := p.halves.filter (fun y => !(y.session == x.sid && y.key == m)) })
    let (addr, msk) := if k < m then (v, h.val) else (h.val, v)
    if !ipPairOk addr msk then (Status.RANGE, d)
    else if o.cls = .idle ∧ !d.idleOpen k then (Status.NOT_IDLE, d)
    else
      let d := (d.classWrite o m h.val).2
      d.classWrite o k v

/-- A scalar whose value is in range is written outside a transaction: the status, and the device after it. -/
def writeValue (x : Writer) (o : ObjDef) (k v : Nat) (d : Dev) : Nat × Dev :=
  if d.deviceRefuses k then (Status.DEVICE, d)
  else if d.lockedFor x.sid k then (Status.LOCKED, d)
  else
    match d.action false x.sid k v with
    | some r => r
    | none =>
      if d.objStatus k v ≠ Status.OK then (d.objStatus k v, d)
      else if d.rangePairBad k v then (Status.RULE, d)
      else
        match pairPartner k with
        | some m => d.pairWrite x o k m v
        | none => d.classWrite o k v

/-- The failure of a write of a scalar that is found before it takes effect: access, role, then range. -/
def scalarRefused (d : Dev) (x : Writer) (k v : Nat) : Option Nat :=
  match d.entryRefused x k with
  | some s => some s
  | none =>
    match findDef d.pers k with
    | none => some Status.NO_OBJECT
    | some o => if o.ty = .blob then some Status.TYPE else if inRange d o v then none else some Status.RANGE

/-- A whole scalar write outside a transaction, value given as a number of the object's type. -/
def writeScalar (x : Writer) (k v : Nat) (d : Dev) : Nat × Dev :=
  match d.scalarRefused x k v, findDef d.pers k with
  | some s, _ => (s, d)
  | none, none => (Status.NO_OBJECT, d)
  | none, some o => d.writeValue x o k v

/-! ### One chunk of a BLOB outside a transaction -/

/-- The staging of a session for a BLOB. -/
def stageOf (d : Dev) (sid txn k : Nat) : Option BlobStage :=
  d.pliuk.stages.find? (fun s => s.session == sid && s.txn == txn && s.key == k)

def dropStage (sid txn k : Nat) (d : Dev) : Dev :=
  d.setPliuk (fun p => { p with stages := p.stages.filter (fun s => !(s.session == sid && s.txn == txn && s.key == k)) })

/-- Does a chunk follow what has been staged (R50)? -/
def chunkFits (s : BlobStage) (b : Chunk) : Bool :=
  b.offset == s.data.length && b.total == s.total && b.more == decide (b.offset + b.data.length < b.total) &&
    decide (b.offset + b.data.length ≤ b.total)

/-- Is a first chunk out of order, or MORE wrong on it (R50)? -/
def chunkBad (b : Chunk) : Bool :=
  b.offset != 0 || b.more != decide (b.data.length < b.total) || decide (b.total < b.data.length)

/-- A staging that has been dropped had begun an upload, which ends. -/
def stageAbort (s : Option BlobStage) (d : Dev) : Dev := match s with
  | some s => d.blobAbort s.key
  | none => d

/-- Chunks of 1 to 1,024 bytes (R49). -/
def chunkSized (b : Chunk) : Bool := decide (1 ≤ b.data.length) && decide (b.data.length ≤ 1024)

/-- A chunk joins the staging; with the last one the whole value is given to `done`.  The 5 s of an incomplete BLOB run anew
with each chunk (DESIGN CHOICE, log entry 176). -/
def takeChunk (sid txn k : Nat) (b : Chunk) (data : Bytes) (done : Bytes → Dev → Nat × Dev) (d : Dev) : Nat × Dev :=
  let s : BlobStage := { key := k, session := sid, txn := txn, total := b.total, data := data, lastChunk := d.now }
  let d := d.dropStage sid txn k
  if b.more then (Status.OK, d.setPliuk (fun p => { p with stages := p.stages ++ [s] })) else done data d

/-- Is a still buffer loading for someone else, or by a capture (R123)? -/
def loadingFor (d : Dev) (sid txn k : Nat) : Bool :=
  match instOf (K.STILL_DATA 0) 16 k with
  | some n => d.stillState n == 1 && (d.stageOf sid txn k).isNone
  | none => false

/-- A chunk to `OVL_COMMAND` that is refused before the checks of the command is a refused command (R326). -/
def ovlRefused (k : Nat) (d : Dev) : Dev := if k = K.OVL_COMMAND then d.ovlRefuse false else d

/-- A chunk outside a transaction (R50): the status, and the device after it. -/
def writeChunk (x : Writer) (k : Nat) (b : Chunk) (readBackOk : Bool) (d : Dev) : Nat × Dev :=
  match d.entryRefused x k, findDef d.pers k with
  | some s, _ => (s, d)
  | none, none => (Status.NO_OBJECT, d)
  | none, some o =>
    if o.ty ≠ .blob then (Status.TYPE, d)
    else if !chunkSized b then (Status.LENGTH, d.ovlRefused k)
    else if d.deviceRefuses k then (Status.DEVICE, d.ovlRefused k)
    else if k = K.UPD_IMAGE then d.updChunk x.sid b
    else if d.loadingFor x.sid 0 k then (Status.BUSY, d)
    else if d.lockedFor x.sid k then (Status.LOCKED, d)
    else if d.persists k && (d.updState == 5 || d.updState == 6) then (Status.BUSY, d.ovlRefused k)
    else if k = K.OVL_COMMAND then d.ovlChunk b
    else
      let done := fun data (d : Dev) =>
        let r := d.blobDone k data readBackOk
        if r.1 = Status.OK ∨ r.1 = Status.OK_BOOT then r else (r.1, r.2.blobAbort k)
      let mine := d.stageOf x.sid 0 k
      if d.blobNext k b.total ≠ Status.OK then (d.blobNext k b.total, (d.dropStage x.sid 0 k).stageAbort mine)
      else
        match mine with
        | some s =>
          if chunkFits s b then d.takeChunk x.sid 0 k b (s.data ++ b.data) done
          else (Status.LENGTH, (d.dropStage x.sid 0 k).blobAbort k)
        | none =>
          if chunkBad b then (Status.LENGTH, d)
          else if d.blobFirst k b.total ≠ Status.OK then (d.blobFirst k b.total, d)
          else (d.blobBegin k).takeChunk x.sid 0 k b b.data done

/-- BLOB_STAGING_TIMEOUT: a BLOB has been incomplete for 5 s (R50). -/
def stagingTimeout (sid k : Nat) (d : Dev) : Dev :=
  let late := d.pliuk.stages.filter (fun s =>
    s.session == sid && s.key == k && decide (s.lastChunk + 5000000000 ≤ d.now))
  late.foldl (fun d s =>
    (d.dropStage sid s.txn k).blobAbort k) d

end Dev
end Sys2Proof.Machine
end

