-- ==== Sys2Proof/Machine/ScanOps.lean ====
section
/-!
DEFINITION. Sys2Proof/Machine/ScanOps.lean: the latch point and the facet boundary on both personalities, flip packets
sent and received, mode changes, the fallback of an update, and what follows the mode and the time state
(07_facet_scanout.md, R61 to R66, R432, R505 to R512, R554).
-/
namespace Sys2Proof.Machine
namespace Dev

/-! ### What follows from the mode and from the time state -/

/-- The latch point up to which an armed wall commit can be rolled back (R63, R66). -/
def armedLatch (d : Dev) (w : Time) : Time := (if d.mode = 0 then w else d.boundaryFrom w) - latchLead

/-- Does a ROLLBACK of an armed wall commit, received before its latch point, still wait for the end of a validation in its
session (R63, R66)?  It is honoured when its turn comes, so the commit does not apply before. -/
def rollbackHeld (d : Dev) (x : Txn) : Bool :=
  match x.phase with
  | .armed w => d.pliuk.sessions.any (fun s => s.queue.any (fun q =>
      q.2.2.opcode == 7 && q.2.2.txn == x.number && decide (q.1 < d.armedLatch w)))
  | _ => false

/-- Does a commit take effect at the boundary `edge`, or, with none, now that no mode is in force (R31, R61, R63)? -/
def txnDue (d : Dev) (edge : Option Time) (x : Txn) : Bool :=
  match x.phase with
  | .scheduled b => edge.all (fun f => decide (b ≤ f))
  | .armed w => decide (w ≤ edge.getD d.now) && !d.rollbackHeld x
  | _ => false

/-- Does a broadcast that waits take effect there: at the first boundary of the mode in force at or after W whose latch
point follows its arrival, or at W itself (R69)? -/
def bcastReady (d : Dev) (edge : Option Time) (x : BcastPending) : Bool :=
  decide (x.applyAt ≤ edge.getD d.now) && edge.all (fun f => decide (x.taken + latchLead < f))

/-- The broadcasts that take effect. -/
def applyBcasts (edge : Option Time) (d : Dev) : Dev :=
  let b := d.pliuk.bcasts.filter (d.bcastReady edge)
  b.foldl (fun d x => d.applyItems 0 x.entries)
    (d.setPliuk (fun p => { p with bcasts := p.bcasts.filter (fun x => !d.bcastReady edge x) }))

/-- Commits, broadcasts and shadows take effect at a boundary, or with the mode gone.  A shadow value keeps the boundary it
was given: where the mode changes before that, it applies at the first boundary of the new mode that does not come before
that instant (DESIGN CHOICE, log entry 173). -/
def applyDue (edge : Option Time) (d : Dev) : Dev :=
  let d := ((d.pliuk.txns.filter (d.txnDue edge)).foldl (fun d x => d.applyTxn x) d).applyBcasts edge
  let due := fun (x : Shadow) => edge.all (fun f => decide (x.boundary ≤ f))
  let s := d.pliuk.shadow.filter due
  if s.isEmpty then d
  else (d.setPliuk (fun p => { p with shadow := p.shadow.filter (fun x => !due x) })).applyItems 0 (s.map (·.item))

/-- The tile after a change of mode, `c` the facet count before: facets that the new mode does not have leave the
references (R210), blocks awaiting refresh are counted over its facets, none with no mode in force (R207), and after a
change of facet count the range bits of the load image count as 0 (R257; log entry 143). -/
def tileModeFollow (c : Nat) (d : Dev) : Dev :=
  let n := facetCount d.mode
  let d := if d.mode = 0 then d
    else d.setTile (fun s => { s with refs := s.refs.map (fun l => l.filter (fun r => decide (r.facet < n))) })
  let d := if c = n then d else d.setTile (fun s => { s with image := s.image.map (fun r => { r with counts := false }) })
  (d.reportAwaiting 0).reportAwaiting 1

/-- The mode in force has changed: composition stops until a boundary of the new mode, and with none in force what
waited for a boundary applies (R31, R61, R63, R236). -/
def modeFollow (d : Dev) : Dev :=
  if d.mode = d.enc.modeAt.1 then d
  else
    let m := d.mode
    let old := d.enc.modeAt.1
    let d := d.setEnc (fun s => { s with modeAt := (m, d.now), composing := none, selectAt := none })
    let d := if d.isTile then d.tileModeFollow (facetCount old) else d
    if m = 0 then d.applyDue none else d

/-- Scan-out follows the time state: Unlocked stops flips and, but for the loss end state, blanks (R242). -/
def timeFollow (d : Dev) : Dev :=
  let st := d.obj K.SCAN_STATE
  if d.isSender ∨ st = 1 then d
  else if d.tstate = tsUnlocked ∧ st ≠ 8 then
    ((if st = 5 ∨ d.ldl.blanked = true then d else d.blankDrivers).setScan 8).setTile (fun s =>
      { s with pass := none, decs := [], sel := [], abandoned := [], latched := none, endShow := false })
  else if d.tstate ≠ tsUnlocked ∧ st = 8 then (if d.ldl.blanked then d else d.blankDrivers).setScan 2
  else d

/-- The power state Dark or Active, and what follows it (R449, R456, R554, R555). -/
def powerFollow (d : Dev) : Dev :=
  if d.start.run ≠ .armed then d.releaseSetpoint
  else
    let dark := d.powerDark
    let d := if dark = d.tile.dark then d
      else
        let d := if !dark && d.isTile then d.resetRefs else d
        let d := if dark && d.isSender then d.setEnc (fun s => { s with composing := none, selectAt := none }) else d
        d.setTile (fun s => { s with dark := dark })
    if d.dramRuns && d.dram.waiting.getD (d.obj K.DRAM_SETPOINT) != d.setpointDue then
      d.askSetpoint d.setpointDue false
    else d.releaseSetpoint

/-! ### The fallback of an update (R511, R512) -/

/-- The settings of a directory apply as a commit would; the generation of the claim changes under R434, R438 and R439 alone,
and stays (R435). -/
def restoreSettings (x : Directory) (d : Dev) : Dev :=
  let keys := (unionKeys ((d.savedStore).map (·.1)) (x.store.map (·.1))).filter (fun k =>
    k != K.PAIR_GENERATION && d.obj k != (x.store.look k).getD (defaultOf d.pers k))
  let d := d.applyItems 0 (keys.map (fun k => ⟨k, (x.store.look k).getD (defaultOf d.pers k), none⟩))
  let bkeys := (unionKeys ((d.savedBlobs).map (·.1)) (x.blobs.map (·.1))).filter (fun k => d.blob k != x.blobs.look k)
  let d := bkeys.foldl (fun d k => d.setBlob k (x.blobs.look k)) d
  if bkeys.contains K.PLACE_TABLE then d.recountUnplaced else d

/-- The previous image resumes, with the settings of its region; a fallback from a wall-wide image acts as R508 does (R511). -/
def fallback (reason : Nat) (d : Dev) : Dev :=
  match d.update.previous with
  | none => d
  | some prev =>
    let wide := wallWide (d.slotBytes d.update.running) (d.slotBytes prev)
    let d := d.restoreSettings (d.directoryOf prev)
    let d := d.setFlash (fun f => { f with dirty := [], urgent := if d.isSender then [K.PAIR_GENERATION] else [] })
    let d := (d.setUpd (fun u =>
      { u with running := prev, previous := none, w := 0, migrated := none, abort := false, startedLate := false,
               restarted := false }))
    let d := (d.setObj K.ACTIVE_SLOT prev).showVersions prev
    let d := d.writeBoot (fun r => { r.setMark (1 - prev) 3 with active := prev, trial := 0, reason := reason })
    let d := (((d.setObj K.UPD_STATE 1).setObj K.UPD_TRIAL_END 0).updReason reason).fault 16 K.UPD_LAST_REASON 0
    if wide then d.wallWideEffect d.now else d

/-- A migration that fails on the new CTL after a RESTART activation falls back before the new image shows any facet (R516):
the new region has no settings, or they fail a cross-rule once the memory is trained. -/
def migrationCheck (d : Dev) : Dev :=
  if !d.update.restarted then d
  else
    let d := d.setUpd (fun u => { u with restarted := false })
    if (d.region d.update.running).newest.isNone then d.fallback 14
    else if !d.stateFails.isEmpty then d.fallback 15
    else d

/-- Has the trial window ended, and may it end the trial now? -/
def trialOver (d : Dev) : Bool :=
  decide (wallToAbs d.now (d.obj K.UPD_TRIAL_END) ≤ d.now) &&
    (!d.update.startedLate || (if d.isTile then d.obj K.SCAN_STATE == 3 else d.mode != 0))

/-- The fallback at a boundary, or at once with no mode in force (log entry 75). -/
def fallbackDue (d : Dev) : Dev :=
  if d.updState ≠ 7 ∨ !d.flashOpen then d
  else if d.update.abort then d.fallback 13
  else if d.trialOver then d.fallback 16
  else d

/-- UPD_TRIAL_EXPIRY. -/
def updTrialExpiry (d : Dev) : Dev :=
  if d.updState = 7 ∧ d.flashOpen ∧ d.trialOver ∧ (d.mode = 0 ∨ isBoundary d.mode d.now) then d.fallback 16 else d

/-! ### Flip packets on a tile (R228 to R232, R256) -/

/-- Does an FLP carry a FADER or a CEILING that is clamped when it is used (R256)? -/
def flpClamped (x : Flp) : Bool := decide (768 < x.fader) || decide (0x8000 < x.ceiling)

/-- The pass in progress ends unfinished. -/
def dropPass (d : Dev) : Dev :=
  d.setTile (fun s => { s with pass := none, decs := [], sel := [], abandoned := [], latched := none, endShow := false })

/-- Scan-out enters Mode change, or Waiting with no mode in force; Dark and Unlocked stay (R232, R236, R237). -/
def enterModeChange (m : Nat) (d : Dev) : Dev :=
  let st := d.obj K.SCAN_STATE
  let d := d.dropPass
  if st = 1 ∨ st = 8 then d
  else
    let d := if d.ldl.blanked then d else d.blankDrivers
    (d.setScan (if m = 0 then 2 else 6)).setTile (fun s => { s with entered := d.now })

/-- A kind-0 FLP that names another mode (R232). -/
def adoptMode (x : Flp) (d : Dev) : Dev :=
  let st := d.obj K.SCAN_STATE
  let d := (d.setObj K.MODE_NUMBER x.mode).modeFollow.dropPass
  if st = 1 ∨ st = 8 then d
  else
    let d := if d.ldl.blanked then d else d.blankDrivers
    (if st = 2 then d else d.setScan 6).setTile (fun s => { s with entered := d.now })

/-- The plan of an FLP's mode is staged where it is another one and may be loaded (R233). -/
def planFor (x : Flp) (d : Dev) : Dev :=
  if x.mode = 0 ∨ d.obj K.SCAN_STATE = 1 ∨ d.start.run ≠ .armed ∨ !d.fits x.mode x.fraction then d
  else d.stagePlan (d.planOf x.mode x.fraction)

/-- FLP_RECEIVED on a tile.  What follows at once follows from the FLP that the tile uses for the boundary (R229, R232,
R233; log entry 142). -/
def flpRx (h : PortId) (p : Packet) (d : Dev) : Dev :=
  if !d.portUp h then d
  else
    let d := d.countRx h p
    if d.isSender then d
    else
      let d := if pktLink p then d else d.forward h p p.body
      if !pktPasses p then d
      else
        match d.validFlp p.body with
        | none => d.bumpFault 8 K.SCAN_FLP_INVALID h
        | some x =>
          let d := (if flpClamped x then d.bump K.PRISM_PARAM_CLAMPED else d).holdFlp h x
          match d.flpFor x.f with
          | none => d
          | some x => ((if x.kind = 0 ∧ x.mode ≠ d.mode then d.adoptMode x else d).planFor x).armIfGoverned

/-! ### The latch point (R230, R231, R233, R292, R526) -/

/-- Will the tile flip at the boundary number `q` at `f`, with the FLP `x` it holds (R230, R234, R236)? -/
def willFlip (d : Dev) (q : Nat) (x : Option Flp) : Bool :=
  let st := d.obj K.SCAN_STATE
  let frac := (x.map (·.fraction)).getD (d.obj K.APERTURE_FRACTION)
  let whole := match d.tile.pass with
    | some (n, t) => n == q && decide (d.tile.entered ≤ t)
    | none => false
  let kind0 := x.any (fun y => y.kind == 0 && y.mode == d.mode)
  d.fits d.mode frac &&
    (((st == 3 || st == 4 || st == 5) && !(x.any (fun y => y.kind == 1))) ||
      ((st == 2 || st == 6 || st == 7) && kind0 && whole))

/-- The tile's part of a latch point: paths that differ are counted and the check rectangles report, whatever scan-out does
(R229, R336); a tile that is neither Dark nor Unlocked settles whether it flips; and one FLIP goes out, with X set where it
does (R292). -/
def tileLatch (q : Nat) (f : Time) (d : Dev) : Dev :=
  let x := d.flpFor f
  let st := d.obj K.SCAN_STATE
  let d := ((if d.flpsDiffer f then d.bump K.SCAN_FLP_DISAGREE else d).holdAtL f).tileChecks q
  if st = 1 ∨ st = 8 then d.sendFlip false f (d.openUnder q x)
  else
    let d := if st = 3 ∧ x.isNone then d.bumpFault 8 K.SCAN_FLP_MISSING 0 else d
    let flips := d.willFlip q x
    let d := d.setTile (fun s => { s with latched := some (q, flips) })
    let d := if flips then d.unblankDrivers else d
    (d.reviewTests q).sendFlip flips f (d.openUnder q x)

/-- LATCH_POINT: L of the coming boundary. -/
def latchPoint (u : Upsets) (d : Dev) : Dev :=
  if d.mode = 0 ∨ d.now + latchLead ≠ d.comingBoundary then d
  else
    let q := facetAfter d.mode d.now
    let f := d.comingBoundary
    let d := d.complementChecks u
    let d := if d.isTile then d.tileLatch q f else d
    let d := d.setInteg (fun g => { g with reloading := g.reloading.filter (fun s => s != 4) })
    d.updLatch f

/-! ### The facet boundary -/

/-- The tile takes the parameters of the FLP it held at L for this boundary, its mode change, and its position (R216, R233, R236,
R237, R444). -/
def tileParams (f : Time) (d : Dev) : Dev :=
  match d.flpAtL f with
  | none => d
  | some x =>
    let rises := match d.tile.paramGen with
      | some g => seqAfter x.paramGen g
      | none => false
    let d := (d.takeParams x).reviewWallRequest
    let d := if rises then d.setObj K.HOOP_POSITION d.enumPosition else d
    let d := d.setTile (fun s => { s with paramGen := some x.paramGen })
    if x.kind = 1 ∧ d.mode ≠ 0 then ((d.setObj K.MODE_NUMBER x.mode).modeFollow).enterModeChange x.mode else d

/-- Does the mode in force fit?  If not, the tile is Unfit (R225, R234). -/
def unfitCheck (d : Dev) : Dev :=
  let st := d.obj K.SCAN_STATE
  if st = 1 ∨ st = 8 ∨ st = 7 ∨ d.mode = 0 ∨ d.scanFit then d
  else ((if d.ldl.blanked then d else d.blankDrivers).setScan 7).setTile (fun s => { s with latched := none })

/-- The banks flip at boundary number `q` where the latch point settled it (R230, R234). -/
def tileFlip (q : Nat) (d : Dev) : Dev :=
  let st := d.obj K.SCAN_STATE
  let d' := d.setTile (fun s => { s with latched := none })
  if d.tile.latched = some (q, true) ∧ st ≠ 1 ∧ st ≠ 8 then
    let j := q % facetCount d.mode
    let d := d'.setTile (fun s => { s with front := some (j, d.tile.back), back := [] })
    let d := (d.bumpWrap K.SCAN_FLIPS).setObj K.SCAN_LAST_FLIP d.wall
    if st = 2 ∨ st = 6 ∨ st = 7 then d.setScan 3 else d
  else d'

/-- The next pass begins: facet number `q`, at boundary `f` (R220, R233, R260, R316); the first one after Dark waits for the
set point of Active (R555). -/
def beginPass (q : Nat) (f : Time) (d : Dev) : Dev :=
  let st := d.obj K.SCAN_STATE
  if d.mode = 0 ∨ st = 1 ∨ st = 8 ∨ d.wales = 0 ∨ d.update.skipPass = some f ∨ d.setpointWaits then d.dropPass
  else
    let d := d.setTile (fun s =>
      { s with pass := some (q, f), decs := [], sel := [], abandoned := [], endShow := st == 5 })
    let d := d.takeMasked
    let d := if q % facetCount d.mode = 0 then (d.checkKept false atSnapshot).prismSnapshot else d
    d.armIfGoverned

/-- `BASE_FRAME_NOW` and `FACET_INDEX_NOW` at a boundary of the mode in force. -/
def showFacet (d : Dev) : Dev :=
  if d.mode = 0 then d
  else
    let q := facetNo d.mode d.now
    (d.setObj K.BASE_FRAME_NOW (q / facetCount d.mode % 2 ^ 32)).setObj K.FACET_INDEX_NOW (q % facetCount d.mode)

/-- The tile at the boundary `f`, number `q` of the mode that was in force. -/
def tileBoundary (q : Nat) (f : Time) (d : Dev) : Dev :=
  let d := (d.evalPath 0 f).evalPath 1 f
  let m := d.mode
  let d := (d.tileParams f).unfitCheck
  let d := if d.mode = m then d.tileFlip q else d.setTile (fun s => { s with latched := none })
  let d := d.powerFollow.readTested
  let tests := if d.ldl.blanked ∨ d.ldl.armedFor ≠ some q then [] else d.testsSent
  let d := d.gclkMarkAt f tests
  let d := if d.ldl.blanked then d else (d.accrue).runTests tests
  let d := d.reportPaths
  if d.mode ≠ 0 ∧ isBoundary d.mode f then (d.beginPass (facetNo d.mode f + 1) f).showFacet else d

/-- Will the mode change at boundary `f`: the commit armed for it stages another one (R236)? -/
def modeChangeAt (d : Dev) (f : Time) : Option Nat :=
  match d.armedTxn with
  | some x =>
    match x.phase with
    | .armed w =>
      if d.boundaryFrom w ≠ f then none
      else
        match (lastItems x.entries).find? (fun e => e.key == K.MODE_NUMBER) with
        | some e => if e.val = d.mode then none else some e.val
        | none => none
    | _ => none
  | none => none

/-- The sender at the boundary `f`: encoders follow, and composition of the next facet begins (R167, R195, R236, R508,
R555). -/
def senderBoundary (f : Time) (d : Dev) : Dev :=
  let d := d.pairBoundary.modeFollow.stillBoundary
  let d := d.encodeBoundary.powerFollow
  if d.mode = 0 ∨ !isBoundary d.mode f ∨ d.update.skipPass = some f ∨ d.powerDark ∨ d.setpointWaits then
    (d.setEnc (fun s => { s with composing := none, selectAt := none })).showFacet
  else
    let q := facetNo d.mode f + 1
    if (d.modeChangeAt (facetAt d.mode q)).isSome then (d.setEnc (fun s => { s with composing := none, selectAt := none })).showFacet
    else (d.setEnc (fun s => { s with composing := some q, selectAt := some (f, q % facetCount d.mode) })).showFacet

/-- FACET_BOUNDARY.  A commit that applies at the boundary of a change of image applies under the new firmware (the table of
events of 17_update.md).  A boundary of the wall that is none of a returning sender's own mode, or meets it with no mode in
force, is where it adopts the partner's wall parameters, at the F of the FLP that carried them (R14, R438). -/
def facetBoundary (d : Dev) : Dev :=
  if d.mode = 0 ∨ !isBoundary d.mode d.now then
    if d.isSender && d.adoptDue then d.senderBoundary d.now else d
  else
    let f := d.now
    let d := d.checkKept false atUse
    let q := facetNo d.mode f
    let d := if d.isSender && d.enc.composing == some q then d.senderChecks q else d
    let d := d.updBoundary f
    if d.start.run = .step 1 then d
    else
    let d := d.applyDue (some f)
    let d := if d.isTile then d.ovlApplyDue f else d
    let d := d.fallbackDue
    if d.isTile then d.tileBoundary q f else d.senderBoundary f

/-! ### Flip packets from a sender (R63, R226, R227, R236, R237) -/

/-- The dictionary as the commit armed for boundary `f` will leave the wall parameters. -/
def wallAt (d : Dev) (f : Time) : Dev :=
  match d.armedTxn with
  | some x =>
    match x.phase with
    | .armed w =>
      if d.boundaryFrom w ≠ f then d
      else
        let items := (lastItems x.entries).filter (fun e => d.isWallParam e.key && d.obj e.key != e.val)
        let d := items.foldl (fun d e => d.setObj e.key e.val) d
        if items.isEmpty then d else d.bumpParamGen
    | _ => d
  | none => d

/-- The FLP for the coming boundary. -/
def flpNext (d : Dev) : Flp :=
  let m := d.mode
  let q := facetAfter m d.now
  let f := facetAt m q
  let after := d.wallAt f
  match d.modeChangeAt f with
  | none => after.flpOf 0 m f 0 (q / facetCount m) (q % facetCount m)
  | some n =>
    if n = 0 then after.flpOf 1 0 f 0 0 0
    else
      let k := facetFrom n f + 1
      after.flpOf 1 n f (facetAt n k) (k / facetCount n) (k % facetCount n)

/-- FLP_SEND: the first copy at D + 20 µs, the second at D + ⌊P / 2⌋. -/
def flpTx (h : PortId) (second : Bool) (d : Dev) : Dev :=
  let m := d.mode
  if d.isTile ∨ m = 0 ∨ d.tstate = tsUnlocked ∨ !d.pair.sending ∨ !d.portUp h ∨ d.obj K.INTEG_STATE ≠ 1 then d
  else
    let q := facetNo m d.now
    let a := facetAt m q
    let due := if second then a + (facetAt m (q + 1) - a) / 2 else a + 20000
    if d.now ≠ due ∨ a < d.enc.modeAt.2 then d
    else
      let d := d.checkKept false atFlp
      (d.sendOwn h (mkPacket clsFlp 0xFF 0 (flpBytes d.flpNext))).bumpWrap K.FLP_SENT

/-! ### Enumeration and position (R444) -/

/-- The position in force is taken at the first enumeration after start. -/
def takePosition (d : Dev) : Dev :=
  if d.isTile && !d.tile.posSet && d.enumPosition != 0 then
    (d.setObj K.HOOP_POSITION d.enumPosition).setTile (fun s => { s with posSet := true })
  else d

end Dev
end Sys2Proof.Machine
end

