-- ==== Sys2Proof/Machine/StartOps.lean ====
section
/-!
DEFINITION. Sys2Proof/Machine/StartOps.lean: the start sequence, Standby and Off (19_startup.md).

A step that waits for something the device itself comes to hold ends when it does (`startFollow`); the others end at
START_STEP_COMPLETE.  A cause of the safe state holds the sequence at its step.
-/
namespace Sys2Proof.Machine
namespace Dev

def setStart (f : Start → Start) (d : Dev) : Dev := { d with start := f d.start }

/-- The device is at this point of its start sequence from now on. -/
def goTo (r : Run) (d : Dev) : Dev := d.setStart (fun s => { s with run := r, stepAt := d.now })

/-- The step in progress, of a start or of a Standby exit. -/
def stepNow (d : Dev) : Option Nat :=
  match d.start.run with
  | .step n => some n
  | .fromStandby n => some n
  | _ => none

/-- The next step of the same sequence. -/
def stepTo (n : Nat) (d : Dev) : Dev :=
  match d.start.run with
  | .fromStandby _ => d.goTo (.fromStandby n)
  | _ => d.goTo (.step n)

/-- Can the device sleep or prepare for Off, with its time base and Pliuk running: is it past step 4? -/
def pastStep4 (d : Dev) : Bool :=
  match d.start.run with
  | .step n => decide (5 ≤ n)
  | .armed | .toStandby | .standby | .fromStandby _ | .recovery | .startFailed => true
  | _ => false

/-! ### Steps 1 to 6 -/

/-- The firmware starts at the end of step 4: tile images, slots and engines as the settings left them, and a change of
region size since the previous start (R219, R243, R332, R437, R485).  Every trigger output takes its inactive level. -/
def firmwareStart (d : Dev) : Dev :=
  let d := d.cuStart.pairStart
  let r := (d.obj K.REGION_W, d.obj K.REGION_H, d.obj K.REGION_LAMPS)
  let d :=
    if d.isTile then
      let d := (if d.flash.region = r then d else d.timgRegionChange.ovlRegionChange).ovlStart
      let d := ([0, 1] : List Nat).foldl (fun d n =>
        d.setObj (K.TIMG_STATE n) (if (d.blob (K.TIMG_DATA n)).isEmpty then 0 else 2)) d
      (d.reportAwaiting 0).reportAwaiting 1
    else (List.range 8).foldl (fun d n => d.layerFollow n) d.linksFollow
  let d := (d.setFlash (fun f => { f with region := r })).setStart (fun s => { s with trigOn := true })
  (List.range 8).foldl (fun d n =>
    (d.setTrig n (fun t => { t with writtenAt := d.now, base := d.trigStart n })).emit
      (.trig n (d.obj (K.TRIG_INVERT n) == 1) 0)) d

/-- The equalisation table loads, or the default takes its place with a link fault (R393), of the class the table of R520
gives R393: DEDUCED, log entry 159. -/
def loadEqTable (d : Dev) : Dev :=
  let b := d.blob K.EQ_TABLE
  let ok := eqTableOk b
  let d := { d with withy := { d.withy with eq := if ok then some b else none } }
  if ok then (d.setObj K.EQ_TABLE_STATE 1).setObj K.EQ_BOARD (fieldAt 8 4 b)
  else ((d.setObj K.EQ_TABLE_STATE (if b.isEmpty then 2 else 3)).setObj K.EQ_BOARD 0).fault 14 K.EQ_TABLE_STATE 0

/-- Every enabled port starts attempt 1. -/
def startPorts (d : Dev) : Dev :=
  (List.range d.nPorts).foldl (fun d h => if d.obj (K.WITHY_ENABLE h) = 0 then d.disablePort h else d.startAttempt h 1) d

/-- Recovery (R500): lamps blanked, every port Disabled; the record's REASON shows (R497). -/
def enterRecovery (d : Dev) : Dev :=
  let d := (List.range d.nPorts).foldl (fun d h => d.disablePort h) d
  ((d.setObj K.UPD_STATE 8).updReason d.bootNow.reason).goTo .recovery

/-! ### Steps 8 and 9 -/

/-- Does the tile hold a valid FLP? -/
def holdsFlp (d : Dev) : Bool := d.paths.any (fun p => p.flps.any (fun x => d.flpCurrent x))

/-- The PROJECTION record that a start writes and reads back (R549 item 4): the values of the newest complete checkpoint's,
with the present time and the interval in force.  It belongs to no checkpoint and counts as newer than the newest
complete one.  DEDUCED, log entry 87. -/
def startRecord (d : Dev) : Dev :=
  if d.isTile && d.journalWritable then
    let old := d.completeSeqs.head?.bind (fun c => d.projectionOf c)
    let n := d.regionPixels / 256 * d.lampsPer
    let deltas := match old with
      | some r => r.vals.drop 3
      | none => List.replicate n 0
    d.writeRecord (mkRecord 2 ((d.obj K.LEDG_SEQUENCE + 1) % 2 ^ 32) 0
      ([d.wall / 2 ^ 32, d.wall % 2 ^ 32, d.obj K.LEDG_INTERVAL_IN_FORCE] ++ deltas))
  else d

/-- LDL bring-up and what runs beside it, once the corrections are loaded (R549). -/
def step9Run (d : Dev) : Dev :=
  let d := d.setStart (fun s => { s with step9Held := false })
  let d := d.ldlBringup d.strandsOn
  match d.start.run with
  | .fromStandby _ => d.startRecord
  | _ => d.judgeCurves.ledgerRestore.startRecord

/-- Step 9 is held: no region (R219), or no corrections to use (R272). -/
def step9Hold (d : Dev) : Dev := d.setStart (fun s => { s with step9Held := true })

/-- Is any of the board's region values 0 (R219)? -/
def noRegion (d : Dev) : Bool := d.regionW == 0 || d.regionH == 0 || d.lampsPer == 0

/-- Step 9 begins (R219, R269 to R272, R549, R558). -/
def step9Begin (d : Dev) : Dev :=
  let d := d.stepTo 9
  if d.isSender then
    match d.start.run with
    | .step _ => d.clearStillLayers
    | _ => d
  else
    match d.start.run with
    | .step _ =>
      if d.noRegion then d.step9Hold
      else
        let (ok, d) := d.loadCorrections
        if ok then d.step9Run else d.judgeCurves.step9Hold
    | _ => d.step9Run

/-- Have all parts of step 9 ended (R378, R549)? -/
def step9Over (d : Dev) : Bool :=
  d.isSender ||
    (!d.start.step9Held && !(d.ldl.strands.any (fun s => s.bringing)) && d.sense.settled && !d.prism.derivePending)

/-- The device is Armed (R549 to R551).  Scan-out leaves Dark on the bring-up of step 9 (DEDUCED, log entry 86). -/
def arm (d : Dev) : Dev :=
  let d := d.goTo .armed
  let d := if d.isTile && d.scanMayRun then (d.setScan 2).lampsUnverified else d
  d.reviewPlan

/-! ### Standby and Off (R556 to R559) -/

/-- The lamps are blanked and scan-out is Dark; a sender falls silent. -/
def stopShow (d : Dev) : Dev :=
  if d.isTile then (if d.ldl.blanked then d else d.blankDrivers).scanDark
  else (d.setPair (fun p => { p with sending := false })).setEnc (fun s => { s with composing := none, selectAt := none })

/-- Entry into Standby begins (R556); a time base that follows a source enters Holdover (R557; log entry 193). -/
def standbyBegin (d : Dev) : Dev :=
  let d := d.stopShow.updStandby
  let d := if d.calStepRun || d.sense.phase != .idle then d.calRunEnd false else d
  let d := d.setObj K.TIME_SOURCE 255
  let d := if d.tstate = tsLocked ∨ d.tstate = tsAcquiring then d.enterHoldover else d
  let d := d.goTo .toStandby
  if d.isTile then
    let d := d.immediateCkpt true
    ((d.setObj K.MODE_NUMBER 0).setTile (fun s => { s with dark := true }))
  else d

/-- SELF_REFRESH_ENTRY: checkpoint written, epochs ended and debts paid, the channels enter self-refresh and every lane
goes to electrical idle (R472, R556). -/
def standbyEnter (d : Dev) : Dev :=
  if d.start.run ≠ .toStandby ∨ d.ledger.ckpt.isSome || d.anyEpoch then d
  else
    let d := d.selfRefresh
    let d := (List.range d.nPorts).foldl (fun d h => d.disablePort h) d
    let d := if d.isSender then (List.range 8).foldl (fun d p => d.ingestLink p false) d else d
    (d.requestVolts 620).goTo .standby

/-- The exit from Standby begins (R474, R558). -/
def standbyExit (d : Dev) : Dev := (d.requestVolts 750).pairStart.goTo (.fromStandby 5)

/-- The preparation for Off (R559). -/
def offBegin (d : Dev) : Dev :=
  let was := d.start.run
  let d := d.stopShow
  let d := if d.flash.dirty.isEmpty && d.flash.urgent.isEmpty then d else d.saveSettings
  let d :=
    if was == .toStandby && d.ledger.ckpt.isSome then
      d.setLedger (fun l => { l with ckpt := l.ckpt.map (fun c => { c with close := true }) })
    else d.immediateCkpt true
  (d.flogPersist.setStart (fun s => { s with offFrom := was })).goTo .toOff

/-- OFF_REQ_N has been low for 1 ms (R559, and the table of events that meet).  DEDUCED, log entry 88: in steps 1 to 4,
and in Recovery and Start failed, there is nothing to prepare. -/
def offRequest (d : Dev) : Dev :=
  let d := d.setStart (fun s => { s with offLow := true })
  let from' := fun (d : Dev) => (d.setStart (fun s => { s with offFrom := s.run })).goTo .toOff
  match d.start.run with
  | .step n => if 5 ≤ n then d.offBegin else from' d
  | .armed | .toStandby | .standby | .fromStandby _ => d.offBegin
  | .recovery | .startFailed => from' d.stopShow.flogPersist
  | _ => d

/-- OFF_READY: no flash write is in progress. -/
def offReady (d : Dev) : Dev :=
  if d.start.run = .toOff ∧ d.ledger.ckpt.isNone then d.goTo .offReady else d

/-- STBY_REQ_N has been low for 1 ms (R556): acted on when the device is Armed, at once or later. -/
def standbyRequest (d : Dev) : Dev :=
  let d := d.setStart (fun s => { s with stbyLow := true })
  if d.start.run = .armed then d.standbyBegin else d

/-- STBY_REQ_N has been high for 1 ms (R558). -/
def standbyExitRequest (d : Dev) : Dev :=
  let d := d.setStart (fun s => { s with stbyLow := false })
  if d.start.run = .standby then d.standbyExit else d

/-! ### The sequence -/

/-- START_STEP_COMPLETE: the step in progress ends, where the device itself has nothing more to wait for (R548). -/
def stepComplete (r : StepResult) (d : Dev) : Dev :=
  if d.obj K.INTEG_STATE ≠ 1 ∨ d.stepNow.isNone then d
  else
    let d := (d.setStart (fun s => { s with calFail := r.calFail })).journalErrors r.journal
    let sb := match d.start.run with
      | .fromStandby _ => true
      | _ => false
    match d.stepNow with
    | some 1 => if d.fix.fuses.complementsAgree then d.stepTo 2 else d.halt
    | some 2 => if r.ok then d.stepTo 3 else d.halt
    | some 3 =>
      if !r.ok then d.goTo .startFailed
      else
        let d := d.flogRestore
        if d.start.straps.recovery then d.enterRecovery else d.stepTo 4
    | some 4 =>
      let (ok, d) := d.bootLoad
      if ok then ((d.stepTo 5).firmwareStart).requestVolts 750 else d.enterRecovery
    | some 5 =>
      if sb then
        if !d.exitReady r.ranges r.counts then d
        else
          let (ok, d) := d.selfRefreshExit r.ranges r.counts r.retrain
          let d := (List.range d.dieCount).foldl (fun d x => d.hotDie x (r.ranges.getD x 0)) d
          if ok then d.senseStart.stepTo 6 else d.goTo .startFailed
      else
        let (ok, d) := d.dramTrain r.training
        if ok then d.migrationCheck.senseStart.stepTo 6 else d.goTo .startFailed
    | some 6 => (d.loadEqTable.startPorts).stepTo 7
    | some 8 => if d.isSender then d.step9Begin.reviewPlan else d
    | some 9 => if d.step9Over then d.arm else d
    | _ => d

/-- What follows of itself: step 7 ends when the time state is Locked, step 8 of a tile when it holds a valid FLP, a held
step 9 goes on when it can, an entry into Standby waits for Armed, and a Standby entered with STBY_REQ_N high is left at
once (R219, R272, R548, R556, R558). -/
def startFollow (d : Dev) : Dev :=
  if d.obj K.INTEG_STATE ≠ 1 then d
  else
    let d := if d.stepNow = some 7 ∧ d.tstate = tsLocked then d.stepTo 8 else d
    let d := if d.stepNow = some 8 ∧ d.isTile ∧ d.holdsFlp then d.step9Begin else d
    let d :=
      if d.stepNow = some 9 ∧ d.start.step9Held ∧ !d.noRegion ∧ d.prism.use ≠ .none then d.step9Run else d
    let d := if d.start.run = .armed ∧ d.start.stbyLow then d.standbyBegin else d
    if d.start.run = .standby ∧ !d.start.stbyLow then d.standbyExit else d

/-- MODE_COMMIT_TIMEOUT: 1 s of step 8 has passed on a tile. -/
def modeCommitTimeout (d : Dev) : Dev :=
  if d.isTile ∧ d.stepNow = some 8 ∧ d.start.stepAt + 1000000000 ≤ d.now ∧ d.obj K.INTEG_STATE = 1 then d.step9Begin
  else d

/-- RST_N rises: the straps are sampled and step 1 begins (R545, R546). -/
def resetRelease (straps : Straps) (d : Dev) : Dev :=
  match d.start.run with
  | .inReset | .off => (d.setStart (fun s => { s with straps := straps })).bootStart
  | _ => d

/-- Without power or in reset nothing is driven: GCLK and SCAN are off, and the TRIG outputs low (R551, R552). -/
def stopDriving (d : Dev) : Dev :=
  let d := d.setLdl (fun l => { l with driven := false })
  if d.start.trigOn then
    (List.range 8).foldl (fun d n => d.emit (.trig n false 0)) (d.setStart (fun s => { s with trigOn := false }))
  else d

/-- RST_N is low for `width` ns: a pulse under 1 µs is ignored (R545). -/
def resetAssert (width : Nat) (d : Dev) : Dev :=
  if width < 1000 ∨ d.start.run = .off then d else d.stopDriving.goTo .inReset

end Dev
end Sys2Proof.Machine
end

