-- ==== Sys2Proof/Machine/Flags.lean ====
section
/-!
DEFINITION. Sys2Proof/Machine/Flags.lean: what a read of an object returns.  Most objects read what the store holds;
the figures, counts, masks and pictures of the state that the spec reports through read-only objects are computed here
when they are read.
-/
namespace Sys2Proof.Machine

/-- Raw form of a signed 32-bit figure, saturated. -/
def raw32 (x : Int) : Nat := satSigned 32 x

/-- The equalisation table in force where none is stored (R391 to R393). -/
def eqTableDefault : Bytes :=
  let body := (List.range 1000).flatMap (fun _ => be 1 48 ++ be 1 4 ++ be 1 12 ++ be 1 (6 * 16 + 4 * 2))
  be 4 0x56455131 ++ be 2 1 ++ be 2 0 ++ be 4 0 ++ be 4 (crc32c body) ++ body

/-- The regions of R487: offset, length (0: to the end of the part), and personalities (bit 0 S, bit 1 T). -/
def flashRegions : List (Nat × Nat × Nat) :=
  [(0x00000000, 0x10000, 3), (0x00010000, 0x10000, 3), (0x00020000, 0x20000, 3), (0x00040000, 0xC0000, 0),
   (0x00100000, 0x800000, 3), (0x00900000, 0x800000, 3), (0x01100000, 0x1400000, 3), (0x02500000, 0x1400000, 3),
   (0x03900000, 0xD00000, 2), (0x04600000, 0xD00000, 2), (0x05300000, 0, 2)]

namespace Dev

/-! ### Communication -/

/-- Does a role, 1 to 5, have a key (`KEYS_SET`)? -/
def roleHasKey (d : Dev) : Nat → Bool
  | 1 => !(d.blob K.KEY_OBSERVER).isEmpty
  | 2 => !(d.blob K.KEY_OPERATOR).isEmpty
  | 3 => !(d.blob K.KEY_ENGINEER).isEmpty
  | 4 => d.fix.otp.safetyKey.isSome
  | 5 => !(d.blob K.KEY_SERVICE).isEmpty
  | _ => false

/-- Wall time as TIME80. -/
def wallTime80 (d : Dev) : Nat := d.now / 1000000000 % 2 ^ 48 * 2 ^ 32 + d.now % 1000000000

/-! ### Figures of the facet mode (R215, R217, R581) -/

/-- Offset in force of a facet index. -/
def offsetOf (d : Dev) (j : Nat) : Nat := d.obj (K.APERTURE_OFFSET j)

/-- `DARK_GAP_MIN`: the shortest dark gap between consecutive apertures; boundaries repeat after `patternLen` facets. -/
def darkGapMin (d : Dev) : Nat :=
  let m := d.mode
  let a := apertureLen m (d.obj K.APERTURE_FRACTION)
  let c := facetCount m
  let gap := fun q => apertureOpen m a (d.offsetOf ((q + 1) % c)) (q + 1) - (apertureOpen m a (d.offsetOf (q % c)) q + a)
  (List.range (c * patternLen m)).foldl (fun x q => min x (gap q)) (gap 0)

/-! ### Counts and masks -/

/-- Lamps in a state of R313. -/
def lampsIn (d : Dev) (st : Nat) : Nat :=
  let listed := d.ldl.lamps.filter (fun x => d.lampExists x.1)
  if st = 1 then
    d.regionPixels * ((List.range 4).filter (fun p => d.slotPresent p)).length - listed.length
  else (listed.filter (fun x => x.2 == st)).length

/-- Bytes of codec references held: 3 × 12 bits per pixel of every held wale. -/
def refBytesHeld (d : Dev) : Nat :=
  if d.isSender then d.enc.regions.foldl (fun a g => a + g.refs.length * (16 * g.w16) * 16 * 9 / 2) 0
  else d.tile.refs.foldl (fun a l => a + l.length * d.regionW * 16 * 9 / 2) 0

/-- `LANE_POWERED` (R382): the ingest lanes of a sender, and the lanes of every port that is not Disabled. -/
def lanesPowered (d : Dev) : Nat :=
  if !d.portsRun then 0
  else (if d.isSender then 255 else 0) +
    (List.range d.nPorts).foldl (fun a h => if d.linkState h = 1 then a else a + 15 * 2 ^ (8 + 4 * h)) 0

/-- `PACE_SLACK_MIN`: the least margin of the last second. -/
def slackMin (d : Dev) : Int :=
  match (d.integ.slacks.filter (fun x => decide (d.now < x.1 + 1000000000))).map (·.2) with
  | [] => 0
  | x :: l => l.foldl min x

/-- Free blocks of the settings pool (R513). -/
def poolFree (d : Dev) : Nat :=
  318 - d.directory.pool.foldl (fun a e => a + e.count) 0

/-- Schema of the settings region of a slot; 0: none. -/
def regionSchema (d : Dev) (s : Nat) : Nat := (d.directoryOf s).schema

/-- Linear gain of the fader in u8.24 (R255).  DEDUCED, log entry 38; where the shift leaves a fraction, the spec states
no rounding (log entry 91). -/
def faderGain (d : Dev) : Nat :=
  let s := d.obj K.FADER_STOPS
  (unstatedDiv (ft (s % 64) * 512 : Nat) (2 ^ (s / 64))).toNat

/-! ### Reading an object -/

/-- Objects that only the physical layers outside the commands measure: a read draws a free value (log entry 89). -/
def measured (k : Nat) : Bool :=
  k == K.INGEST_RX_RATE || (instOf (K.ING_FEC_CORRECTED 0) 8 k).isSome || (instOf (K.ING_FEC_UNCORRECTED 0) 8 k).isSome ||
    (instOf (K.ING_RX_RATE 0) 8 k).isSome

/-- Computed values of objects with instances; none: the store holds the value. -/
def instValue (d : Dev) (k : Nat) : Option Nat :=
  match instOf (K.LAY_FETCH_EST 0) 8 k with
  | some n => some ((d.layerFetch d.mode n d.regionBlocks).report 1000000)
  | none =>
  match instOf (K.ENC_BPP_MEAN 0) 4 k with
  | some h => some (d.encMeans h).1
  | none =>
  match instOf (K.ENC_BPP_BUDGET 0) 4 k with
  | some h => some (if d.hoopPixels h = 0 then d.obj (K.ENC_BPP_CAP h) else d.obj k)
  | none =>
  match instOf (K.ENC_E_MEAN 0) 4 k with
  | some h => some (d.encMeans h).2
  | none =>
  match instOf (K.ENC_UNEST_BLOCKS 0) 4 k with
  | some h => some (d.unestablished h)
  | none =>
  match instOf (K.CH_DEBT_MAX 0) 8 k with
  | some c => some (d.debtMax c)
  | none =>
  match instOf (K.SNS_VALUE 0) 16 k with
  | some i => some (if d.obj (K.SNS_KIND i) = 0 then 0 else d.obj k)
  | none =>
  match instOf (K.CU_RESULT 0) 4 k with
  | some n => some (d.cuResult n)
  | none =>
  match instOf (K.SLOT_MARK 0) 2 k with
  | some s => some (d.slotMark s)
  | none =>
  match instOf (K.SLOT_SCHEMA 0) 2 k with
  | some s => some (d.regionSchema s)
  | none => none

/-- Values fixed by fuses and by the TAB part. -/
def fixedValue (d : Dev) (k : Nat) : Option Nat :=
  if k = K.PERSONALITY then some (if d.isSender then 1 else 2)
  else if k = K.DIE_REVISION then some d.fix.fuses.dieRev
  else if k = K.UNIQUE_ID then some d.fix.fuses.uid
  else if k = K.VER_BOOTROM then some d.fix.fuses.verBootrom
  else if k = K.MGMT_MAC then some d.fix.fuses.mac
  else if k = K.OTP_REVOKED then some d.fix.otp.revoked
  else if k / 256 = 0x2003 then
    let i := k % 256 - 1
    some (if i < 4 then txLatency i else if i < 8 then rxLatency (i - 4) else ingestLatency (i - 8))
  else none

/-- Computed values of communication, time, flash and integrity objects. -/
def commValue (d : Dev) (k : Nat) : Option Nat :=
  if k = K.KEYS_SET then some (maskOf ((List.range 5).map (fun i => d.roleHasKey (i + 1))))
  else if k = K.WALL_TIME then some d.wallTime80
  else if k = K.WALL_NS then some d.wall
  else if k = K.LANE_POWERED then some d.lanesPowered
  else if k = K.UPD_WALL_WIDE then
    some (b2n (decide (4 ≤ d.updState) && decide (d.updState ≤ 6) && d.slotWallWide d.spareSlot))
  else if k = K.UPD_ARMED_AT then some d.updArmedAt
  else if k = K.UPD_SECURITY_MIN then some d.bootNow.secMin
  else if k = K.FLASH_SIZE then some d.flash.sizeMiB
  else if k = K.FLASH_JEDEC_ID then some d.flash.jedec
  else if k = K.SETTINGS_GENERATION then some d.directory.gen
  else if k = K.SETTINGS_POOL_FREE then some d.poolFree
  else if k = K.PACE_SLACK_MIN then some (raw32 d.slackMin)
  else if k = K.FLOG_COUNT then some d.integ.log.length
  else if k = K.FLOG_LAST_SEQ then some ((d.integ.log.getLast?.map (·.seq)).getD 0)
  else if k = K.CODEC_REF_BYTES then some d.refBytesHeld
  else none

/-- Computed values of the facet mode. -/
def modeValue (d : Dev) (k : Nat) : Option Nat :=
  let m := d.mode
  let fr := d.obj K.APERTURE_FRACTION
  if k = K.FACET_COUNT then some (if m = 0 then 0 else facetCount m)
  else if k = K.FACET_RATE then some (if m = 0 then 0 else modeN m * facetCount m * 1000 / modeD m)
  else if k = K.FACET_PERIOD then some (if m = 0 then 0 else periodMin m)
  else if k = K.APERTURE_LENGTH then some (if m = 0 then 0 else apertureLen m fr)
  else if k = K.DARK_GAP_MIN then some (if m = 0 then 0 else d.darkGapMin)
  else none

/-- Computed values of a sender. -/
def senderValue (d : Dev) (k : Nat) : Option Nat :=
  if k = K.INGEST_REGION_FREE then some (unstatedDiv (d.ingestRegion - d.ingestUsed : Nat) (2 ^ 20)).toNat
  else if k = K.COMP_BUDGET_EST then some ((d.budgetEst d.mode).report 1000000)
  else if k = K.COMP_BUDGET_LIMIT then some (100000 * popCount 8 (d.obj K.DRAM_TRAINED_MASK) / 8)
  else if k = K.COMP_PIXEL_RATE then some ((d.pixelRate d.mode).report 1000000)
  else if k = K.PAIR_CLAIM then some d.claim
  else if k = K.PAIR_STATE_DIGEST then some d.pairDigest
  else none

/-- Computed values of a tile. -/
def tileValue (d : Dev) (k : Nat) : Option Nat :=
  let m := d.mode
  let fr := d.obj K.APERTURE_FRACTION
  if k = K.ROW_WINDOW then some (if m = 0 then 0 else apertureLen m fr / d.mux)
  else if k = K.GCLK_PER_ROW then some (if m = 0 then 0 else d.gCount m fr)
  else if k = K.WALE_LOAD_TIME then some d.waleLoadTime
  else if k = K.SCAN_FIT then some (b2n (m != 0 && d.scanFit))
  else if k = K.PRISM_STATE then some d.prismState
  else if k = K.FADER_GAIN then some d.faderGain
  else if k = K.DIAG_DEFERRED then some (b2n d.diagDeferred)
  else if k = K.LDL_DET_COUNTS then some d.detCounts
  else if k = K.LDL_ROW_SLOT then some (if m = 0 then 0 else d.rowSlot m fr)
  else if k = K.LDL_LIT_COUNTS then some (if m = 0 then 0 else d.litAvail m fr)
  else if k = K.LAMPS_UNVERIFIED then some (d.lampsIn 1)
  else if k = K.LAMPS_GOOD then some (d.lampsIn 2)
  else if k = K.LAMPS_OPEN then some (d.lampsIn 3)
  else if k = K.LAMPS_SHORT then some (d.lampsIn 4)
  else if k = K.LAMPS_MASKED then some (d.lampsIn 5)
  else if k = K.OVL_KEY_STATE then some (if d.fix.otp.safetyKey.isSome then 2 else 1)
  else if k = K.OVL_ACTIVE_MASK then some (maskOf ((List.range 4).map (fun s => d.ovlState s == 3)))
  else if k = K.OVL_PENDING then some d.flash.ovl.length
  else none

/-- The value a read of a scalar object returns (R33): computed, or what the store holds. -/
def readObj (d : Dev) (k : Nat) : Nat :=
  match d.fixedValue k with
  | some v => v
  | none =>
    match d.commValue k with
    | some v => v
    | none =>
      match d.modeValue k with
      | some v => v
      | none =>
        match (if d.isSender then d.senderValue k else d.tileValue k) with
        | some v => v
        | none => (d.instValue k).getD (d.obj k)

/-- A read of a scalar object: its value, or a free value where only a measurement gives it. -/
def readScalar (k : Nat) (d : Dev) : Nat × Dev :=
  if measured k then d.drawFree (d.objBits k) else (d.readObj k, d)

/-! ### Reading a BLOB -/

/-- The correction record of a pixel (R249). -/
def corrRecord (d : Dev) (px : Nat) : Bytes :=
  let mat := fun (set : Nat) => (List.range 4).flatMap (fun p => (List.range 3).flatMap (fun c =>
    be 2 (ofSigned 16 (if d.slotPresent p then d.matrixAt px set p c else 0))))
  mat 0 ++ mat 1 ++ (List.range 4).flatMap (fun p => be 2 (if d.slotPresent p then d.ageGain (4 * px + p) else 0)) ++
    (List.range 4).flatMap (fun p => be 4 ((d.ledger.acc.look (4 * px + p)).getD 0))

/-- One value per lamp index. -/
def perLamp (d : Dev) (f : Nat → Bytes) : Bytes := (List.range (4 * d.regionPixels)).flatMap f

/-- The layout of the flash part (R487): the journal runs to the end of the part. -/
def flashLayout (d : Dev) : Bytes :=
  flashRegions.flatMap (fun r =>
    be 4 r.1 ++ be 4 (if r.2.1 = 0 then min (d.flash.sizeMiB * 2 ^ 20 - r.1) (65535 * 65536) else r.2.1) ++ be 1 r.2.2 ++
      zeros 3)

/-- Drive curve of a slot as it lies in the calibration. -/
def curveBytes (d : Dev) (set p : Nat) : Bytes := (List.range 4096).flatMap (fun i => be 2 (d.curveAt set p i))

/-- Stored bytes, or the default's where nothing is stored. -/
def blobOr (d : Dev) (k : Nat) (dflt : Bytes) : Bytes := if (d.blob k).isEmpty then dflt else d.blob k

/-- Computed contents of a tile's BLOB objects; none: the store holds them. -/
def tileBlob (d : Dev) (k : Nat) : Option Bytes :=
  if k = K.PRISM_CAL_HEADER then some ((d.prism.image ++ zeros 64).take 64)
  else if k = K.PRISM_CORR_TABLE then some ((List.range d.regionPixels).flatMap (fun px => d.corrRecord px))
  else if k = K.PRISM_TF_TABLES then
    some (([1, 2, 3] : List Nat).flatMap (fun tcs => (List.range 4097).flatMap (fun i => be 4 (tfEntry tcs i))))
  else if k = K.PRISM_CANVAS_TO_XYZ then some xyzBlob
  else if k = K.PRISM_FADER_TABLE then some ((List.range 64).flatMap (fun f => be 2 (ft f)))
  else if k = K.LAMP_STATE then some (d.perLamp (fun l => be 1 (d.lampState l)))
  else if k = K.LAMP_VERIFIED_AT then
    some (d.perLamp (fun l => be 4 (match d.ldl.verified.look l with
      | some t => t / 1000000000
      | none => 0)))
  else if k = K.LEDG_STRESS then
    some (d.perLamp (fun l => be 4 (if d.lampExists l then (d.ledger.acc.look l).getD 0 else 0)))
  else if k = K.LEDG_LUMINANCE then
    some (d.perLamp (fun l => be 2 (if d.lampExists l then (d.ledger.lums.look l).getD 0x8000 else 0)))
  else if k = K.LEDG_GAIN_NEEDED then
    some (d.perLamp (fun l => be 2 (if d.lampExists l then (d.ledger.gains.look l).getD 0x8000 else 0)))
  else if k = K.LDL_LAMP_MAP then some (d.blobOr k (zeros 4718592))
  else
    match instOf (K.PRIM_CURVE_HI 0) 4 k with
    | some p => some (d.curveBytes 0 p)
    | none =>
      match instOf (K.PRIM_CURVE_LO 0) 4 k with
      | some p => some (d.curveBytes 1 p)
      | none =>
        match instOf (K.THERM_TABLE 0) 4 k with
        | some p => some (d.thermTable p)
        | none => none

/-- Computed contents of a sender's BLOB objects. -/
def senderBlob (d : Dev) (k : Nat) : Option Bytes :=
  if k = K.COMP_CONV_TABLES then some (Config.tabBlob k)
  else if k = K.COMP_SCALER_COEF then some scalerBlob
  else
    match instOf (K.ENUM_LIST 0) 4 k with
    | some h =>
      let b := (d.hoopOf h).tiles.flatMap enumRecBytes
      some ((b ++ zeros 1536).take 1536)
    | none => none

/-- Computed contents of the BLOB objects of both personalities. -/
def commonBlob (d : Dev) (k : Nat) : Option Bytes :=
  if k = K.FLASH_LAYOUT then some d.flashLayout
  else if k = K.FLOG_ENTRIES then some (d.integ.log.flatMap FaultEntry.bytes)
  else if k = K.FLOG_PERSISTENT then some ((d.flogNewest 32).flatMap FaultEntry.bytes)
  else if k = K.FLOG_CLASS_COUNTS then some (d.integ.classCounts.flatMap (be 4))
  else if k = K.EQ_TABLE then some (d.blobOr k eqTableDefault)
  else
    match instOf (K.SLOT_HEADER 0) 2 k with
    | some s => some (if d.slotMark s = 0 then zeros 512 else ((d.slotBytes s) ++ zeros 512).take 512)
    | none =>
      match instOf (K.CAP_FIFO 0) 8 k with
      | some n => some ((d.cap n).fifo.flatMap (be 8))
      | none =>
        match instOf (K.SNS_TABLE 0) 16 k with
        | some i => some (d.senseTable i)
        | none => none

/-- The bytes a READ_BLOCK of a BLOB object reads from. -/
def readBlob (d : Dev) (k : Nat) : Bytes :=
  match d.commonBlob k with
  | some b => b
  | none => ((if d.isSender then d.senderBlob k else d.tileBlob k)).getD (d.blob k)

/-- What a change of an object is judged by: its value, or its bytes. -/
def content (d : Dev) (k : Nat) : Bytes :=
  match findDef d.pers k with
  | none => []
  | some o => if o.ty = .blob then d.readBlob k else be 16 (if measured k then 0 else d.readObj k)

end Dev
end Sys2Proof.Machine
end

