-- ==== Sys2Proof/Machine/Sweep.lean ====
section
/-!
DEFINITION. Sys2Proof/Machine/Sweep.lean: what every command has in common.  `begin` sets the instant and applies what
the passing of time alone has made due; `sweep` lets the device's own states follow, and turns changes and events into
notifications (R72, R73, R591) and settings writes; `act` is a command's effect with both around it.
-/
namespace Sys2Proof.Machine
namespace Dev

/-- Is the device powered, out of reset and not Halted? -/
def alive (d : Dev) : Bool :=
  match d.start.run with
  | .off | .inReset | .halted => false
  | _ => true

/-- Does the firmware answer Pliuk: past step 4, or in Recovery (R500, R550)? -/
def pliukRuns (d : Dev) : Bool :=
  match d.baseRun with
  | .step n => decide (5 ≤ n)
  | .off | .inReset | .halted => false
  | _ => true

/-- The device at the instant of a command, before anything happens. -/
def atInstant (t : Time) (d : Dev) : Dev := { d with now := t, out := [], events := [] }

/-- How a command begins.  Overlay commands of a tile with no mode in force apply at their own time (R31, R329; log entry 80),
and a sender whose selection instant is over has selected (R134; log entry 135). -/
def begin (t : Time) (d : Dev) : Dev :=
  let d := d.atInstant t
  if !d.alive then d
  else if d.isTile then (if d.mode == 0 && d.portsRun && d.start.run != .offReady then d.ovlApplyDue t else d)
  else d.settleSelection t

/-! ### Notifications -/

/-- A value on the wire in the encoding of R26. -/
def valueBytes (o : ObjDef) (v : Nat) : Bytes := be o.ty.width v

/-- A read entry (R50): status OK with the value; a BLOB carries none (R591). -/
def readEntry (k : Nat) (d : Dev) : Bytes × Dev :=
  match findDef d.pers k with
  | none => (refBytes k ++ be 1 Status.NO_OBJECT ++ be 1 0 ++ be 2 0, d)
  | some o =>
    if o.ty = .blob then (refBytes k ++ be 1 0 ++ be 1 0x0D ++ be 2 0, d)
    else
      let (v, d) := d.readScalar k
      (refBytes k ++ be 1 0 ++ be 1 o.ty.code ++ be 2 o.ty.width ++ pad4 (valueBytes o v), d)

/-- Minimum interval of a subscription in ns (R72). -/
def subGap (d : Dev) (x : Sub) : Nat := (if x.minMs = 0 then d.obj K.NOTIFY_MIN_INTERVAL else x.minMs) * 1000000

/-- May an OBJECT_CHANGED of this subscription go now (R73)? -/
def subFree (d : Dev) (x : Sub) : Bool :=
  match x.lastSent with
  | none => true
  | some t => decide (t + d.subGap x ≤ d.now)

/-- A subscription of a session is changed. -/
def setSub (sid key : Nat) (f : Sub → Sub) (d : Dev) : Dev :=
  d.setSess sid (fun s => { s with subs := s.subs.map (fun x => if !x.isEvent && x.code == key then f x else x) })

/-- OBJECT_CHANGED goes out with the value at this moment. -/
def sendChanged (sid key : Nat) (d : Dev) : Dev :=
  let (b, d) := d.readEntry key
  (d.setSub sid key (fun x => { x with lastSent := some d.now, waiting := false })).notify sid 1 b

/-- An object that the session subscribes to has changed.  A fall of DEC_AWAITING to 0 is sent whatever the interval
(R206). -/
def objChanged (sid : Nat) (x : Sub) (d : Dev) : Dev :=
  let zeroed := (instOf (K.DEC_AWAITING 0) 2 x.code).isSome && d.obj x.code == 0
  if d.subFree x || zeroed then d.sendChanged sid x.code
  else d.setSub sid x.code (fun x => { x with waiting := true })

/-- Changes since `before` reach the subscribers. -/
def sendChanges (before d : Dev) : Dev :=
  d.pliuk.sessions.foldl (fun d s =>
    s.subs.foldl (fun d x =>
      if x.isEvent || before.content x.code == d.content x.code then d else d.objChanged s.id x) d) d

/-- Does the session subscribe to an event? -/
def hasEvent (s : Session) (code : Nat) : Bool := s.subs.any (fun x => x.isEvent && x.code == code)

/-- An event reaches its subscribers: RULE_RAISED (5) or FAULT_LOGGED (6). -/
def sendEvent (e : Event) (d : Dev) : Dev :=
  match e with
  | .rule r =>
    d.pliuk.sessions.foldl (fun d s => if hasEvent s 5 then d.notify s.id 5 (be 2 r ++ be 2 0) else d) d
  | .fault x =>
    d.pliuk.sessions.foldl (fun d s => if hasEvent s 6 then d.notify s.id 6 x.bytes else d) d

/-! ### Around every command -/

/-- Values that must be in flash now are written (R29, R243, R327); in Off ready nothing is (R559). -/
def urgentFollow (d : Dev) : Dev :=
  if d.flash.urgent.isEmpty then d else d.saveSettings

/-- The device's own states follow what the command changed. -/
def follow (d : Dev) : Dev :=
  let d := d.modeFollow.timeFollow.startFollow
  let d := if d.mode = 0 ∧ d.updState = 7 ∧ d.update.abort then d.fallbackDue else d
  d.powerFollow.planFollow.readyFollow.ldlFollow.urgentFollow

/-- After the effect of a command: states follow, and notifications go out. -/
def sweep (before d : Dev) : Dev :=
  if !d.alive then { d with events := [] }
  else
    let d := d.follow
    let es := d.events
    let d := before.sendChanges { d with events := [] }
    { (es.foldl (fun d e => d.sendEvent e) d) with events := [] }

/-- Fuses never change, a written Safety key stays, and a revoked key stays revoked (R1, R543, R544). -/
def protect (old : Fixed) (d : Dev) : Dev :=
  { d with fix := { fuses := old.fuses
                    otp := { safetyKey := old.otp.safetyKey.orElse (fun _ => d.fix.otp.safetyKey)
                             revoked := old.otp.revoked ||| d.fix.otp.revoked } } }

end Dev

/-- The state after a command at the instant `t` on `s` whose own effect left the device as `e`: states follow and
notifications go out (`sweep`), and what is fixed stays (`protect`).  The queue is as it was. -/
def after (t : Time) (s : State) (e : Dev) : State :=
  { s with dev := ((s.dev.atInstant t).sweep e).protect s.dev.fix }

/-- A command at the instant `t` with the effect `f` answers the next state; the queue is as it was. -/
def act (t : Time) (f : Dev → Dev) (s : State) : Host.Outcome State Fault Refusal :=
  .next (after t s (f (s.dev.begin t)))

end Sys2Proof.Machine
end

