-- ==== Sys2Proof/Machine/PliukOps.lean ====
section
/-!
DEFINITION. Sys2Proof/Machine/PliukOps.lean: messages in and answers out (02_control.md): what is discarded, the order of
the checks of R48, sessions and their opening, reads, writes outside a transaction, and subscriptions.
-/
namespace Sys2Proof.Machine

/-! ### Payload elements (R50) -/

/-- The key of the reference at an offset. -/
def refAt (off : Nat) (b : Bytes) : Nat := fieldAt off 2 b * 256 + fieldAt (off + 2) 1 b

/-- The count of a list payload; none where the head is malformed or the count is not 1 to 64. -/
def countOf (b : Bytes) : Option Nat :=
  let n := fieldAt 0 2 b
  if b.length < 4 ∨ fieldAt 2 2 b ≠ 0 ∨ n = 0 ∨ 64 < n then none else some n

/-- The references of a READ payload. -/
def parseRefs (b : Bytes) : Option (List Nat) :=
  match countOf b with
  | none => none
  | some n =>
    if b.length ≠ 4 + 4 * n ∨ (List.range n).any (fun i => fieldAt (7 + 4 * i) 1 b != 0) then none
    else some ((List.range n).map (fun i => refAt (4 + 4 * i) b))

/-- A write entry: key, type code, and value bytes. -/
structure WriteEntry where
  key : Nat
  ty : Nat
  val : Bytes
  deriving DecidableEq, Repr

/-- `n` write entries that fill the bytes exactly; none where they are malformed. -/
def parseEntries : Nat → Bytes → Option (List WriteEntry)
  | 0, b => if b.isEmpty then some [] else none
  | n + 1, b =>
    let len := fieldAt 6 2 b
    let whole := 4 * ceilDiv len 4
    if b.length < 8 + whole ∨ fieldAt 3 1 b ≠ 0 ∨ fieldAt 5 1 b ≠ 0 ∨ !allZero (slice (8 + len) (whole - len) b) then none
    else
      match parseEntries n (b.drop (8 + whole)) with
      | none => none
      | some es => some ({ key := refAt 0 b, ty := fieldAt 4 1 b, val := slice 8 len b } :: es)

/-- The write entries of a WRITE payload. -/
def parseWrites (b : Bytes) : Option (List WriteEntry) :=
  match countOf b with
  | none => none
  | some n => parseEntries n (b.drop 4)

/-- The chunk of a WRITE_BLOCK payload, with its key. -/
def parseChunk (more : Bool) (b : Bytes) : Option (Nat × Chunk) :=
  if b.length < 13 ∨ 12 + 1024 < b.length ∨ fieldAt 3 1 b ≠ 0 then none
  else some (refAt 0 b, { offset := fieldAt 4 4 b, total := fieldAt 8 4 b, more := more, data := b.drop 12 })

/-- Does a write entry's type code and length fit an object (R26, R27)? -/
def entryTyped (o : ObjDef) (e : WriteEntry) : Bool := e.ty == o.ty.code && e.val.length == o.ty.width

/-- Payload of a list answer. -/
def countedBytes (n : Nat) (b : Bytes) : Bytes := be 2 n ++ be 2 0 ++ b

/-! ### Keys and codes (R53 to R55) -/

/-- The bytes an HMAC of R53 covers, behind its tag. -/
def authFields (role sid uid : Nat) (devNonce hostNonce : Bytes) : Bytes :=
  be 1 role ++ be 4 sid ++ be 8 uid ++ devNonce ++ hostNonce

/-- The first unused session identifier from a drawn value on; 0 and 0xFFFF_FFFF are never taken (R45). -/
def freshSid (used : List Nat) (v : Nat) : Nat :=
  (((List.range 17).map (fun i => (v + i) % (2 ^ 32 - 2) + 1)).find? (fun x => !used.contains x)).getD 1

namespace Dev

/-! ### Where Pliuk is answered -/

/-- Does the device take messages from a carrier in its present state (R39, R500, R537, R550, R553, R557)?  A sender's management link
starts in step 6 (R548). -/
def carrierOpen (d : Dev) (c : Carrier) : Bool :=
  let spiOn := d.bootObj K.SPI_TARGET_ENABLE == 1
  d.pliukRuns && d.integ.restart.isNone &&
  match c with
  | .spi => spiOn || d.baseRun == .recovery || d.baseRun == .startFailed
  | .mgmt _ _ => d.isSender && (d.portsRun || d.baseRun == .standby || d.baseRun == .fromStandby 5)
  | .ctl _ => d.isTile && d.portsRun

/-- Objects reached in the present state: in Recovery, those of R500 alone. -/
def reaches (d : Dev) (k : Nat) : Bool :=
  let i := k / 256
  d.baseRun != .recovery || i == 0x1000 || i == 0x1001 || (decide (0x6000 ≤ i) && decide (i ≤ 0x6010))

/-- The row of an object that this state reaches. -/
def reachDef (d : Dev) (k : Nat) : Option ObjDef := if d.reaches k then findDef d.pers k else none

/-- BLOBs whose bytes lie in DRAM, which sleeps in Standby (R249, R522, R557).  DEDUCED, log entry 93. -/
def inDram (k : Nat) : Bool :=
  [K.FLOG_ENTRIES, K.PRISM_CORR_TABLE, K.LEDG_STRESS, K.LEDG_LUMINANCE, K.LEDG_GAIN_NEEDED].contains k

/-- States in which every write, transaction and broadcast is answered with DEVICE (R553, R557). -/
def writesShut (d : Dev) : Bool :=
  d.baseRun == .standby || d.baseRun == .toStandby || d.baseRun == .startFailed

/-! ### Answers -/

/-- The response to a request (R48): its opcode, sequence and transaction, with RESP set. -/
def responseTo (m : Msg) (sid status : Nat) (payload : Bytes) : Msg :=
  sealMsg
    { version := 1, flags := 1, opcode := m.opcode, status := status, session := sid, sequence := m.sequence,
      txn := m.txn, length := 0, payload := payload, crc := 0 }

/-- An answer that no session keeps. -/
def answer (c : Carrier) (m : Msg) (status : Nat) (d : Dev) : Dev := d.sendPliuk c (responseTo m m.session status [])

/-- An answer that the session keeps for a repeat of the request (R56). -/
def reply (c : Carrier) (m : Msg) (r : Nat × Bytes) (d : Dev) : Dev :=
  let a := responseTo m m.session r.1 r.2
  (d.setSess m.session (fun s => { s with cached := some a })).sendPliuk c a

/-! ### Opening a session (R53 to R57, R589) -/

/-- The Service key: in Recovery, the one in the newest settings directory of either region (R500). -/
def serviceKey (d : Dev) : Bytes :=
  if d.baseRun = .recovery then
    let a := (d.directoryOf 0).blobs.look K.KEY_SERVICE
    let b := (d.directoryOf 1).blobs.look K.KEY_SERVICE
    if (d.directoryOf 0).gen < (d.directoryOf 1).gen then (if b.isEmpty then a else b) else if a.isEmpty then b else a
  else d.blob K.KEY_SERVICE

/-- The stored key of a role, empty where none is set. -/
def roleKey (d : Dev) : Nat → Bytes
  | 1 => d.blob K.KEY_OBSERVER
  | 2 => d.blob K.KEY_OPERATOR
  | 3 => d.blob K.KEY_ENGINEER
  | 4 => d.fix.otp.safetyKey.getD []
  | 5 => d.serviceKey
  | _ => []

/-- The Service opening without a key check over the SPI target port (R55). -/
def keyless (d : Dev) (role : Nat) (c : Carrier) : Bool := role == roleService && c == .spi && d.serviceKey.isEmpty

/-- May a role be opened at all on a carrier? -/
def roleOpens (d : Dev) (role : Nat) (c : Carrier) : Bool :=
  decide (1 ≤ role) && decide (role ≤ 5) && (d.baseRun != .recovery || role == roleService) &&
    (!(d.roleKey role).isEmpty || d.keyless role c)

/-- Is there a place for one more session of this kind (R57; log entry 13)? -/
def placeFree (d : Dev) (c : Carrier) (role : Nat) : Bool :=
  let kinds := (d.pliuk.sessions.map (fun s => (s.source == .spi, s.role == roleService))) ++ [(c == .spi, role == roleService)]
  let count := fun (x : Bool × Bool) => (kinds.filter (fun y => y == x)).length
  decide (count (false, false) ≤ 14) && decide (count (false, false) + count (true, false) ≤ 15) &&
    decide (count (false, false) + count (false, true) ≤ 15) && decide (kinds.length ≤ 16)

/-- A failed opening of a source; the fifth within 60 s locks the source for 60 s (R54). -/
def failOpening (c : Carrier) (d : Dev) : Dev :=
  let old := (d.pliuk.lockouts.find? (fun l => l.source == c)).getD { source := c, fails := [], lockedTill := none }
  let fails := old.fails.filter (fun t => decide (d.now < t + 60000000000)) ++ [d.now]
  let new : Lockout :=
    if 5 ≤ fails.length then { source := c, fails := [], lockedTill := some (d.now + 60000000000) }
    else { source := c, fails := fails, lockedTill := old.lockedTill }
  d.setPliuk (fun p => { p with lockouts := p.lockouts.filter (fun l => l.source != c) ++ [new] })

/-- Is a source locked out? -/
def lockedOut (d : Dev) (c : Carrier) : Bool :=
  d.pliuk.lockouts.any (fun l => l.source == c && match l.lockedTill with
    | some t => decide (d.now < t)
    | none => false)

/-- A half-open session and its nonce (R53 step 2). -/
def openHalf (c : Carrier) (m : Msg) (role : Nat) (d : Dev) : Dev :=
  let (v, d) := d.drawFree 32
  let (n, d) := d.drawFree 128
  let sid := freshSid (d.pliuk.sessions.map (·.id)) v
  let nonce := be 16 n
  let a := responseTo m sid 0 (be 4 sid ++ nonce ++ be 8 d.fix.fuses.uid)
  let s : Session :=
    { id := sid, role := role, halfOpen := true, source := c, peer := c, hostNonce := slice 4 16 m.payload,
      devNonce := nonce, since := d.now, lastSeq := m.sequence, cached := some a, lastHeard := d.now, notifySeq := 0,
      queue := [], subs := [], unacked := [] }
  ((d.setPliuk (fun p => { p with sessions := p.sessions ++ [s] })).reportSessions).sendPliuk c a

/-- AUTH_CHALLENGE: R54; a repeat is answered as before (log entry 100); then the payload, the role and its key, and the
places of R57. -/
def challenge (c : Carrier) (m : Msg) (d : Dev) : Dev :=
  let role := fieldAt 0 1 m.payload
  let again := d.pliuk.sessions.find? (fun s => s.halfOpen && s.source == c && s.lastSeq == m.sequence &&
    s.role == role && s.hostNonce == slice 4 16 m.payload)
  if d.lockedOut c then d.answer c m Status.BUSY
  else
  match again with
  | some s =>
    match s.cached with
    | some a => d.sendPliuk c a
    | none => d
  | none =>
    if 16 ≤ m.flags ∨ m.payload.length ≠ 20 ∨ fieldAt 1 3 m.payload ≠ 0 then d.answer c m Status.LENGTH
    else if !d.roleOpens role c then (d.failOpening c).answer c m Status.AUTH
    else if !d.placeFree c role then d.answer c m Status.BUSY
    else d.openHalf c m role

/-- AUTH_RESPONSE in a session (R53 steps 3 and 4, R55, R589). -/
def authenticate (c : Carrier) (s : Session) (m : Msg) (d : Dev) : Dev :=
  if !s.halfOpen then d.reply c m (Status.AUTH, [])
  else if m.payload.length ≠ 32 then d.reply c m (Status.LENGTH, [])
  else
    let fields := authFields s.role s.id d.fix.fuses.uid s.devNonce s.hostNonce
    let free := d.keyless s.role s.source
    let key := if free then zeros 32 else d.roleKey s.role
    if free || (!key.isEmpty && hmacSha256 key (be 4 0x504C4B31 ++ fields) == m.payload) then
      (d.setSess s.id (fun s => { s with halfOpen := false })).reply c m
        (Status.OK, hmacSha256 key (be 4 0x504C4B32 ++ fields))
    else ((d.failOpening s.source).closeSession s.id).answer c m Status.AUTH

/-! ### Reads (R27, R33, R50, R584) -/

/-- The read entry of a reference (R26, R27, R50).  A WO BLOB, which both R26 and R27 refuse, is answered with ACCESS
(DEDUCED, log entry 119). -/
def readRef (k : Nat) (d : Dev) : Bytes × Dev :=
  let bad := fun (st : Nat) => refBytes k ++ be 1 st ++ be 1 0 ++ be 2 0
  match d.reachDef k with
  | none => (bad Status.NO_OBJECT, d)
  | some o =>
    if o.acc d.pers = .wo then (bad Status.ACCESS, d)
    else if o.ty = .blob then (bad Status.TYPE, d)
    else d.readEntry k

/-- READ. -/
def doRead (m : Msg) (d : Dev) : (Nat × Bytes) × Dev :=
  match parseRefs m.payload with
  | none => ((Status.LENGTH, []), d)
  | some ks =>
    let (b, d) := ks.foldl (fun (x : Bytes × Dev) k =>
      let (e, d) := x.2.readRef k
      (x.1 ++ e, d)) (([] : Bytes), d)
    ((Status.OK, countedBytes ks.length b), d)

/-- Stamps that a read of a capture FIFO returns whole leave it (the text under R106). -/
def takeStamps (k off len : Nat) (d : Dev) : Dev :=
  match instOf (K.CAP_FIFO 0) 8 k with
  | none => d
  | some n => d.setCap n (fun c =>
      let first := ceilDiv off 8
      let last := (off + len) / 8
      { c with fifo := c.fifo.take first ++ c.fifo.drop (max first last) })

/-- READ_BLOCK. -/
def doReadBlock (m : Msg) (d : Dev) : (Nat × Bytes) × Dev :=
  let b := m.payload
  if b.length ≠ 12 ∨ fieldAt 3 1 b ≠ 0 then ((Status.LENGTH, []), d)
  else
    let k := refAt 0 b
    let off := fieldAt 4 4 b
    let len := fieldAt 8 4 b
    if len = 0 ∨ 1024 < len then ((Status.LENGTH, []), d)
    else
      match d.reachDef k with
      | none => ((Status.NO_OBJECT, []), d)
      | some o =>
        if o.acc d.pers = .wo then ((Status.ACCESS, []), d)
        else if o.ty ≠ .blob then ((Status.TYPE, []), d)
        else if d.baseRun = .standby ∧ inDram k then ((Status.DEVICE, []), d)
        else
          let all := d.readBlob k
          let data := slice off (min len (all.length - off)) all
          ((Status.OK, refBytes k ++ be 4 off ++ be 4 all.length ++ data), d.takeStamps k off data.length)

/-! ### The device state and STATUS (R52, R553) -/

/-- The device state byte.  While it prepares for Off, a device is where it was, and one that was Armed is Dark (R555, R559; log
entry 88). -/
def deviceState (d : Dev) : Nat :=
  if d.start.run = .offReady then 13
  else
    match d.baseRun with
    | .step n => n
    | .fromStandby n => n
    | .armed => if d.powerDark || d.start.run == .toOff then 11 else 10
    | .toStandby | .standby => 12
    | .recovery => 14
    | .startFailed => 15
    | _ => 0

/-- The apply time of the armed wall commit in wall ns: its boundary, or W with no mode in force; 0: none. -/
def armedAt (d : Dev) : Nat :=
  match d.armedTxn with
  | some x =>
    match x.phase with
    | .armed w => (if d.mode = 0 then w else d.boundaryFrom w) % 2 ^ 48
    | _ => 0
  | none => 0

/-- The STATUS block. -/
def statusBlock (d : Dev) : Bytes :=
  let p := d.pliuk
  be 1 d.deviceState ++ be 1 p.sessions.length ++ be 1 (p.txns.filter (fun x => x.isOpen)).length ++
    be 1 p.halves.length ++ be 8 d.armedAt ++ be 2 p.bootOld.length ++ be 2 0 ++ be 4 p.lastBcast ++
    be 2 (min p.lastRefused 65535) ++ be 2 0

/-- STATUS. -/
def doStatus (m : Msg) (d : Dev) : (Nat × Bytes) × Dev :=
  if m.payload.isEmpty then ((Status.OK, d.statusBlock), d) else ((Status.LENGTH, []), d)

/-! ### Writes outside a transaction (R30 to R38, R50) -/

/-- The writer that a session is. -/
def writerOf (s : Session) (inTxn : Bool) : Writer := { sid := s.id, role := s.role, spi := s.peer == .spi, inTxn := inTxn }

/-- One write entry: the status, and the device after it. -/
def writeEntry (x : Writer) (e : WriteEntry) (d : Dev) : Nat × Dev :=
  match d.reachDef e.key with
  | none => (Status.NO_OBJECT, d)
  | some o =>
    match d.entryRefused x e.key with
    | some st => (st, d)
    | none =>
      if o.ty = .blob ∨ !entryTyped o e then (Status.TYPE, d) else d.writeScalar x e.key (beVal e.val)

/-- The answer entry of a write. -/
def writeStatus (k st : Nat) : Bytes := refBytes k ++ be 1 st ++ be 3 0

/-- WRITE outside a transaction: each entry in order, with its own status. -/
def doWriteNow (s : Session) (m : Msg) (d : Dev) : (Nat × Bytes) × Dev :=
  match parseWrites m.payload with
  | none => ((Status.LENGTH, []), d)
  | some es =>
    let (b, d) := es.foldl (fun (x : Bytes × Dev) e =>
      let (st, d) := x.2.writeEntry (writerOf s false) e
      (x.1 ++ writeStatus e.key st, d.readyFollow)) (([] : Bytes), d)
    ((Status.OK, countedBytes es.length b), d)

/-- WRITE_BLOCK outside a transaction.  How the read-back of a calibration image turns out is a free value here. -/
def doWriteBlockNow (s : Session) (m : Msg) (d : Dev) : (Nat × Bytes) × Dev :=
  match parseChunk (bit 2 m.flags) m.payload with
  | none => ((Status.LENGTH, []), d)
  | some (k, b) =>
    if !d.reaches k then ((Status.NO_OBJECT, []), d)
    else
      let (rb, d) := if k = K.PRISM_CAL_IMAGE then d.drawFree 1 else (1, d)
      let (st, d) := d.writeChunk (writerOf s false) k b (rb == 1)
      ((st, if st = Status.OK ∨ st = Status.OK_BOOT then refBytes k ++ be 4 b.offset else []), d)

/-! ### Subscriptions (R72, R591) -/

/-- One subscription entry of 8 bytes: the status, and the device after it. -/
def subscribeOne (sid : Nat) (b : Bytes) (d : Dev) : Nat × Dev :=
  let kind := fieldAt 0 1 b
  let ev := fieldAt 4 2 b
  let k := refAt 4 b
  if fieldAt 1 1 b ≠ 0 ∨ (kind = 0 ∧ fieldAt 7 1 b ≠ 0) ∨ (kind = 1 ∧ fieldAt 6 2 b ≠ 0) then (Status.LENGTH, d)
  else if 2 ≤ kind ∨ (kind = 1 ∧ ev ≠ 5 ∧ ev ≠ 6) then (Status.RANGE, d)
  else
    let refused := if kind = 1 then none
      else match d.reachDef k with
        | none => some Status.NO_OBJECT
        | some o => if o.acc d.pers = .wo then some Status.ACCESS else none
    match refused with
    | some st => (st, d)
    | none =>
      let code := if kind = 1 then ev else k
      let x : Sub := { isEvent := kind == 1, code := code, minMs := fieldAt 2 2 b, lastSent := none, waiting := false }
      let same := fun (y : Sub) => y.isEvent == x.isEvent && y.code == x.code
      let mine := match d.sess sid with
        | some s => s.subs
        | none => []
      if mine.any same then
        (Status.OK, d.setSess sid (fun s =>
          { s with subs := s.subs.map (fun y => if same y then { y with minMs := x.minMs } else y) }))
      else if 64 ≤ mine.length ∨ 256 ≤ d.pliuk.sessions.foldl (fun a s => a + s.subs.length) 0 then (Status.BUSY, d)
      else (Status.OK, d.setSess sid (fun s => { s with subs := s.subs ++ [x] }))

/-- SUBSCRIBE. -/
def doSubscribe (s : Session) (m : Msg) (d : Dev) : (Nat × Bytes) × Dev :=
  match countOf m.payload with
  | none => ((Status.LENGTH, []), d)
  | some n =>
    if m.payload.length ≠ 4 + 8 * n then ((Status.LENGTH, []), d)
    else
      let (b, d) := (List.range n).foldl (fun (x : Bytes × Dev) i =>
        let (st, d) := x.2.subscribeOne s.id (slice (4 + 8 * i) 8 m.payload)
        (x.1 ++ be 1 st ++ be 3 0, d)) (([] : Bytes), d)
      ((Status.OK, countedBytes n b), d)

/-! ### Acknowledgements and timers (R36, R53, R54, R57, R73, R74) -/

/-- A message with RESP set: the acknowledgement of an outstanding NOTIFY, or nothing (R74, R586).  It is no request, so the
session stays as idle as it was (DESIGN CHOICE, log entry 178). -/
def takeAck (m : Msg) (d : Dev) : Dev :=
  if m.opcode ≠ 9 then d
  else d.setSess m.session (fun s => { s with unacked := s.unacked.filter (fun o => o.seq != m.sequence) })

/-- NOTIFY_RETRY_TIMEOUT: sent again up to three times, then dropped and counted (R74). -/
def notifyRetry (sid seq : Nat) (d : Dev) : Dev :=
  match d.sess sid with
  | none => d
  | some s =>
    match s.unacked.find? (fun o => o.seq == seq) with
    | none => d
    | some o =>
      if d.now < o.sentAt + 100000000 then d
      else if o.repeats < 3 then
        (d.setSess sid (fun s => { s with unacked := s.unacked.map (fun y =>
          if y.seq == seq then { y with sentAt := d.now, repeats := y.repeats + 1 } else y) })).sendPliuk s.peer o.msg
      else
        (d.setSess sid (fun s => { s with unacked := s.unacked.filter (fun y => y.seq != seq) })).bump K.NOTIFY_DROPPED

/-- NOTIFY_INTERVAL_EXPIRY: a change that waited is sent with the present value (R73). -/
def notifyDue (sid key : Nat) (d : Dev) : Dev :=
  match d.sess sid with
  | none => d
  | some s =>
    match s.subs.find? (fun x => !x.isEvent && x.code == key) with
    | none => d
    | some x => if x.waiting && d.subFree x then d.sendChanged sid key else d

/-- SESSION_IDLE_TIMEOUT (R57). -/
def sessionIdle (sid : Nat) (d : Dev) : Dev :=
  match d.sess sid with
  | none => d
  | some s =>
    if !s.halfOpen ∧ s.lastHeard + d.obj K.SESSION_IDLE_TIMEOUT * 1000000000 ≤ d.now then d.closeSession sid else d

/-- AUTH_RESPONSE_TIMEOUT: the identifier is discarded, and the opening has failed (R53, R54). -/
def authLate (sid : Nat) (d : Dev) : Dev :=
  match d.sess sid with
  | none => d
  | some s => if s.halfOpen ∧ s.since + 2000000000 ≤ d.now then (d.failOpening s.source).closeSession sid else d

/-- AUTH_LOCKOUT_EXPIRY (R54). -/
def lockoutEnd (c : Carrier) (d : Dev) : Dev :=
  d.setPliuk (fun p => { p with lockouts := p.lockouts.filter (fun l => !(l.source == c && match l.lockedTill with
    | some t => decide (t ≤ d.now)
    | none => false)) })

/-- PAIR_EXPIRED (R36). -/
def pairExpired (key : Nat) (d : Dev) : Dev :=
  match d.pliuk.halves.find? (fun h => h.key == key && decide (h.since + 1000000000 ≤ d.now)) with
  | none => d
  | some h =>
    ((d.setPliuk (fun p => { p with halves := p.halves.filter (fun x => x != h) })).bump K.PAIR_EXPIRED_COUNT).notify
      h.session 4 (refBytes key)

end Dev
end Sys2Proof.Machine
end

