-- ==== Sys2Proof/Machine/TxnOps.lean ====
section
/-!
DEFINITION. Sys2Proof/Machine/TxnOps.lean: transactions, commits, wall commits, rollbacks and broadcasts, and the road of
a message from a carrier to its meaning (02_control.md).
-/
namespace Sys2Proof.Machine
namespace Dev

/-! ### BEGIN and staging (R59) -/

/-- BEGIN. -/
def doBegin (s : Session) (m : Msg) (d : Dev) : (Nat × Bytes) × Dev :=
  let ms := fieldAt 0 4 m.payload
  if m.payload.length ≠ 4 then ((Status.LENGTH, []), d)
  else if d.obj K.INTEG_STATE = 2 ∨ d.obj K.INTEG_STATE = 3 ∨ d.writesShut then ((Status.DEVICE, []), d)
  else if ms ≠ 0 ∧ (ms < 100 ∨ 60000 < ms) then ((Status.RANGE, []), d)
  else if (d.openTxn s.id).isSome then ((Status.TXN_OPEN, []), d)
  else if 4 ≤ (d.pliuk.txns.filter (fun x => x.isOpen)).length then ((Status.BUSY, []), d)
  else
    let n := d.pliuk.nextTxn
    let x : Txn :=
      { number := n, session := s.id, timeoutMs := if ms = 0 then d.obj K.TXN_DEFAULT_TIMEOUT else ms, lastMsg := d.now,
        phase := .staging, entries := [], request := none, intact := true }
    let next := if n + 1 = 2 ^ 32 then 1 else n + 1
    ((Status.OK, be 4 n), d.setPliuk (fun p => { p with txns := p.txns ++ [x], nextTxn := next }))

/-- The transaction of a session that a message may stage into. -/
def stagingTxn (d : Dev) (s : Session) (m : Msg) : Option Txn :=
  match d.openTxn s.id with
  | some x => if x.number = m.txn ∧ x.phase = .staging then some x else none
  | none => none

/-- Staged value bytes of a transaction. -/
def stagedBytes (d : Dev) (entries : List Staged) : Nat :=
  entries.foldl (fun a e => a + match e.blob with
    | some b => b.length
    | none => d.objBits e.key / 8) 0

/-- The state of the still buffer or tile image that a staged BLOB leaves (R164, R244). -/
def blobCommitted (k : Nat) (b : Bytes) (d : Dev) : Dev :=
  match instOf (K.STILL_DATA 0) 16 k with
  | some n => d.stillDone n b
  | none =>
    match instOf (K.TIMG_DATA 0) 2 k with
    | some i => d.setObj (K.TIMG_STATE i) 2
    | none => d

/-- The state of the still buffer or tile image that a staged release, capture or clear leaves. -/
def actionCommitted (k v : Nat) (d : Dev) : Dev :=
  match instOf (K.STILL_RELEASE 0) 16 k with
  | some n => d.stillRelease n
  | none =>
    match instOf (K.STILL_CAPTURE 0) 16 k with
    | some n => d.captureStart n v
    | none =>
      match instOf (K.TIMG_CLEAR 0) 2 k with
      | some i => d.setObj (K.TIMG_STATE i) 0
      | none => d

/-- The values that a commit would leave.  A Boot value waits for the next start, so the running one stays in force beside
it (R30, R61). -/
def afterCommit (d : Dev) (entries : List Staged) : Dev :=
  entries.foldl (fun d e => match e.blob with
    | some b => d.setBlob e.key b |>.blobCommitted e.key b
    | none =>
      match findDef d.pers e.key with
      | some o => if o.cls = .boot then d.storeBoot e.key e.val else (d.setObj e.key e.val).actionCommitted e.key e.val
      | none => d) d

/-- Status of a write entry that would be staged: every check but the cross-rules.  What a status reads of other objects
it reads from the values staged so far (log entry 79); whether an image is shown is a matter of what is in force (R244). -/
def stageStatus (cur d : Dev) (x : Writer) (e : WriteEntry) : Nat :=
  match d.reachDef e.key with
  | none => Status.NO_OBJECT
  | some o =>
    match d.entryRefused x e.key with
    | some st => st
    | none =>
      if o.ty = .blob ∨ !entryTyped o e then Status.TYPE
      else if !inRange d o (beVal e.val) then Status.RANGE
      else if d.deviceRefuses e.key then Status.DEVICE
      else if d.lockedFor x.sid e.key then Status.LOCKED
      else
        match instOf (K.TIMG_CLEAR 0) 2 e.key, d.action false x.sid e.key (beVal e.val) with
        | some i, _ => if cur.imageShown i then Status.LOCKED else Status.OK
        | none, some r => r.1
        | none, none => d.objStatus e.key (beVal e.val)

/-- Is a status one of success? -/
def isOk (st : Nat) : Bool := decide (st < 0x10)

/-- The statuses of the entries of one WRITE that would be staged behind `entries`, each judged with those before it. -/
def stageAll (d : Dev) (w : Writer) : List Staged → List WriteEntry → List (WriteEntry × Nat)
  | _, [] => []
  | entries, e :: es =>
    let st := d.stageStatus (d.afterCommit entries) w e
    (e, st) :: d.stageAll w (if isOk st then entries ++ [⟨e.key, beVal e.val, none⟩] else entries) es

/-- BLOBs that a transaction has begun to stage, but for one key: they count toward the limits of R59 already. -/
def stagingOf (d : Dev) (x : Txn) (but : Option Nat) : List BlobStage :=
  d.pliuk.stages.filter (fun s => s.txn == x.number && some s.key != but)

/-- Would a transaction with these entries go beyond the limits of R59: 256 entries, 64 KiB of value bytes?  A BLOB that is
not whole yet counts as one entry, and its bytes so far count. -/
def overLimit (d : Dev) (x : Txn) (entries : List Staged) (but : Option Nat) (more : Nat) : Bool :=
  let open' := d.stagingOf x but
  decide (256 < entries.length + open'.length + (if but.isSome then 1 else 0)) ||
    decide (65536 < open'.foldl (fun a s => a + s.data.length) 0 + d.stagedBytes entries + more)

/-- WRITE inside a transaction: what passes is staged, unless the limits of R59 refuse the message.  An entry for
`OVL_COMMAND` is a refused overlay command (R326). -/
def doWriteStaged (s : Session) (x : Txn) (m : Msg) (d : Dev) : (Nat × Bytes) × Dev :=
  match parseWrites m.payload with
  | none => ((Status.LENGTH, []), d)
  | some es =>
    let w := writerOf s true
    let sts := d.stageAll w x.entries es
    let new := (sts.filter (fun y => isOk y.2)).map (fun y => (⟨y.1.key, beVal y.1.val, none⟩ : Staged))
    let all := x.entries ++ new
    if d.overLimit x all none 0 then ((Status.LIMIT, []), d)
    else
      ((Status.OK, countedBytes es.length (sts.flatMap (fun y => writeStatus y.1.key (if isOk y.2 then 0 else y.2)))),
        (sts.filter (fun y => y.1.key == K.OVL_COMMAND && y.2 == Status.ACCESS)).foldl (fun d _ => d.ovlRefuse false)
          (d.setTxn x.number (fun t => { t with entries := all })))

/-- The whole BLOB is staged with its last chunk. -/
def stageBlob (number k : Nat) (b : Bytes) (d : Dev) : Nat × Dev :=
  let st := d.blobStaged k b
  if st ≠ Status.OK then (st, d)
  else (Status.OK, d.setTxn number (fun t => { t with entries := t.entries ++ [⟨k, 0, some b⟩] }))

/-- A chunk inside a transaction (R50, R59). -/
def stageChunk (w : Writer) (x : Txn) (k : Nat) (b : Chunk) (d : Dev) : Nat × Dev :=
  match d.reachDef k, d.entryRefused w k with
  | none, _ => (Status.NO_OBJECT, d)
  | some _, some st => (st, if k = K.OVL_COMMAND ∧ st = Status.ACCESS then d.ovlRefuse false else d)
  | some o, none =>
    if o.ty ≠ .blob then (Status.TYPE, d)
    else if !chunkSized b then (Status.LENGTH, d)
    else if d.deviceRefuses k then (Status.DEVICE, d)
    else if d.loadingFor w.sid x.number k then (Status.BUSY, d)
    else if d.lockedFor w.sid k then (Status.LOCKED, d)
    else if d.persists k && (d.updState == 5 || d.updState == 6) then (Status.BUSY, d)
    else
      let done := fun data (d : Dev) =>
        let r := d.stageBlob x.number k data
        if r.1 = Status.OK then r else (r.1, r.2.blobAbort k)
      let mine := d.stageOf w.sid x.number k
      let first := match instOf (K.TIMG_DATA 0) 2 k with
        | some i => d.timgFirst i b.total
        | none => (d.afterCommit x.entries).blobFirst k b.total
      if d.overLimit x x.entries (some k) ((mine.map (·.data.length)).getD 0 + b.data.length) then (Status.LIMIT, d)
      else if d.blobNext k b.total ≠ Status.OK then (d.blobNext k b.total, (d.dropStage w.sid x.number k).stageAbort mine)
      else
        match mine with
        | some s =>
          if chunkFits s b then d.takeChunk w.sid x.number k b (s.data ++ b.data) done
          else (Status.LENGTH, (d.dropStage w.sid x.number k).blobAbort k)
        | none =>
          if chunkBad b then (Status.LENGTH, d)
          else if first ≠ Status.OK then (first, d)
          else (d.blobBegin k).takeChunk w.sid x.number k b b.data done

/-- WRITE, inside a transaction or outside. -/
def doWrite (s : Session) (m : Msg) (d : Dev) : (Nat × Bytes) × Dev :=
  if m.txn = 0 then d.doWriteNow s m
  else
    match parseWrites m.payload, d.stagingTxn s m with
    | none, _ => ((Status.LENGTH, []), d)
    | some _, none => ((Status.NO_TXN, []), d)
    | some _, some x => d.doWriteStaged s x m

/-- WRITE_BLOCK, inside a transaction or outside. -/
def doWriteBlock (s : Session) (m : Msg) (d : Dev) : (Nat × Bytes) × Dev :=
  match parseChunk (bit 2 m.flags) m.payload with
  | none => ((Status.LENGTH, []), d)
  | some (k, b) =>
  if d.writesShut then ((Status.DEVICE, []), d)
  else if m.txn = 0 then d.doWriteBlockNow s m
  else
    match d.stagingTxn s m with
    | none => ((Status.NO_TXN, []), d)
    | some x =>
      let (st, d) := d.stageChunk (writerOf s true) x k b
      ((st, if st = Status.OK then refBytes k ++ be 4 b.offset else []), d)

/-! ### COMMIT (R60 to R67, R590) -/

/-- The cross-rule that a transaction fails: reason and reference. -/
def txnFail (d : Dev) (x : Txn) (wall : Bool) : Option (Nat × Nat) :=
  d.commitFail (d.afterCommit x.entries) (x.entries.map (·.key)) wall

/-- Payload of a RULE answer. -/
def ruleBytes (r : Nat × Nat) : Bytes := refBytes r.2 ++ be 2 r.1

/-- Does a commit for the boundary `f` overtake a shadow value? -/
def overtakes (x : Txn) (f : Time) (s : Shadow) : Bool :=
  decide (f ≤ s.boundary) && x.entries.any (fun e => e.key == s.item.key)

/-- Shadow values that a commit for the boundary `f` overtakes leave the shadow; the transaction keeps them for a
ROLLBACK. -/
def dropShadows (x : Txn) (f : Time) (d : Dev) : Dev :=
  (d.setTxn x.number (fun t => { t with overtaken := d.pliuk.shadow.filter (overtakes x f) })).setPliuk (fun p =>
    { p with shadow := p.shadow.filter (fun s => !overtakes x f s) })

/-- A commit that has passed validation is rolled back: nothing of it applies, and what it had overtaken waits again
(R66, R590). -/
def takeBack (x : Txn) (d : Dev) : Dev :=
  (d.dropTxn x.number).setPliuk (fun p => { p with shadow := x.overtaken ++ p.shadow })

/-- COMMIT without WALL: the cross-rules, then validation, which ends within 10 ms; the answer comes at its end. -/
def doCommit (c : Carrier) (s : Session) (m : Msg) (d : Dev) : Option (Nat × Bytes) × Dev :=
  if !m.payload.isEmpty then (some (Status.LENGTH, []), d)
  else if d.writesShut then (some (Status.DEVICE, []), d)
  else
    match d.stagingTxn s m with
    | none => (some (Status.NO_TXN, []), d)
    | some x =>
      match d.txnFail x false with
      | some r => (some (Status.RULE, ruleBytes r), d)
      | none => (none, d.setTxn x.number (fun t => { t with phase := .validating, request := some (c, m) }))

/-- COMMIT with WALL: armed at once, or refused (R62 to R64). -/
def doWallCommit (s : Session) (m : Msg) (d : Dev) : (Nat × Bytes) × Dev :=
  let w := fieldAt 0 8 m.payload
  if m.payload.length ≠ 8 ∨ 2 ^ 48 ≤ w then ((Status.LENGTH, []), d)
  else if d.writesShut then ((Status.DEVICE, []), d)
  else
    match d.stagingTxn s m with
    | none => ((Status.NO_TXN, []), d)
    | some x =>
      let lead := wallDiff w d.wall
      if d.armedTxn.isSome then ((Status.ARMED, []), d)
      else if lead < 20000000 then ((Status.TOO_LATE, []), d)
      else if 60000000000 < lead then ((Status.TOO_FAR, []), d)
      else
        match d.txnFail x true with
        | some r => ((Status.RULE, ruleBytes r), d)
        | none =>
          let at' := wallToAbs d.now w
          let f := if d.mode = 0 then at' else d.boundaryFrom at'
          ((Status.OK, be 8 (f % 2 ^ 48)),
            ((d.setTxn x.number (fun t => { t with phase := .armed at' })).dropShadows x f).reportArmed)

/-- May a session roll back an armed commit: its own, or one whose every object its role may write (R583)? -/
def mayRollBack (d : Dev) (s : Session) (x : Txn) : Bool :=
  x.session == s.id || x.entries.all (fun e => match findDef d.pers e.key with
    | some o => mayWrite s.role e.key o.level
    | none => false)

/-- ROLLBACK received at `at'` (R61, R63, R66, R583, R590).  A commit that waits for its boundary can be rolled back until
L, with no mode in force until the end of validation; one that has applied is answered with TOO_LATE in its session
(DEDUCED, log entry 124). -/
def doRollback (at' : Time) (s : Session) (m : Msg) (d : Dev) : (Nat × Bytes) × Dev :=
  if !m.payload.isEmpty then ((Status.LENGTH, []), d)
  else
    match d.txnBy m.txn with
    | none => ((if m.txn ≠ 0 ∧ s.applied = m.txn then Status.TOO_LATE else Status.NO_TXN, []), d)
    | some x =>
      match x.phase with
      | .armed w =>
        if d.armedLatch w ≤ at' then ((Status.TOO_LATE, []), d) else ((Status.OK, []), d.takeBack x)
      | .scheduled f =>
        if x.session ≠ s.id then ((Status.NO_TXN, []), d)
        else if f ≤ at' + (if d.mode = 0 then 0 else latchLead) then ((Status.TOO_LATE, []), d)
        else ((Status.OK, []), d.takeBack x)
      | _ => if x.session ≠ s.id then ((Status.NO_TXN, []), d) else ((Status.OK, []), d.dropTxn x.number)

/-- TXN_TIMEOUT (R59). -/
def txnLate (number : Nat) (d : Dev) : Dev :=
  match d.txnBy number with
  | none => d
  | some x =>
    if x.phase = .staging ∧ x.lastMsg + x.timeoutMs * 1000000 ≤ d.now then
      (d.dropTxn number).notify x.session 3 (be 4 number)
    else d

/-! ### Broadcasts (R68 to R71) -/

/-- The wall time, ID and write entries of a BROADCAST_WRITE payload.  DEDUCED, log entries 120 and 121: W stands first
whether or not the WALL flag of R46 is set, and a W with a bit in [63:48] is malformed, as that of a wall commit. -/
def parseBcast (b : Bytes) : Option (Nat × Nat × List WriteEntry) :=
  if b.length < 20 ∨ fieldAt 0 2 b ≠ 0 ∨ fieldAt 12 4 b ≠ 0 then none
  else (parseWrites (b.drop 16)).map (fun es => (fieldAt 0 8 b, fieldAt 8 4 b, es))

/-- BROADCAST_WRITE on a sender, on whichever carrier it comes (DESIGN CHOICE, log entry 174): entries are checked against the tile's dictionary and relayed into every port served. -/
def doBroadcast (s : Session) (m : Msg) (d : Dev) : (Nat × Bytes) × Dev :=
  match parseBcast m.payload with
  | none => ((Status.LENGTH, []), d)
  | some (_, _, es) =>
    if m.txn ≠ 0 then ((Status.NO_TXN, []), d)
    else if d.writesShut ∨ es.any (fun e => d.safeRefuses e.key) then ((Status.DEVICE, []), d)
    else
      let bad := es.filterMap (fun e => match findDef .tile e.key with
        | none => some (e.key, Status.NO_OBJECT)
        | some o => if mayWrite s.role e.key o.level then none else some (e.key, Status.ROLE))
      match bad.head? with
      | some x => ((x.2, refBytes x.1), d)
      | none =>
        ((Status.OK, []), (List.range d.nPorts).foldl (fun d h => d.sendCtl h 2 255 (2 ^ 64 - 1) (msgWire m)) d)

/-- Why a tile refuses an entry of a broadcast by itself (R27, R69, R70).  The update commands take effect by a broadcast
(R502, R510, R512); the check units and the erasing of the calibration, which needs the SPI target port, do not (R274, R483).  Objects of another broadcast that waits are not
refused: R70 names transactions and wall commits alone (DEDUCED, log entry 122). -/
def bcastRefused (d : Dev) (e : WriteEntry) : Bool :=
  match findDef d.pers e.key with
  | none => true
  | some o =>
    o.acc d.pers == .ro || o.acc d.pers == .const || o.ty == .blob || !entryTyped o e || !inRange d o (beVal e.val) ||
      o.cls == .idle || o.cls == .boot || e.key == K.PRISM_CAL_ERASE || d.deviceRefuses e.key ||
      (decide (0x5408 ≤ e.key / 256) && decide (e.key / 256 ≤ 0x540B)) ||
      d.pliuk.txns.any (fun t => t.entries.any (fun y => y.key == e.key)) || d.objStatus e.key (beVal e.val) != Status.OK

/-- Instant from which on the entries of a broadcast apply: W, or the arrival where W is 0 or has passed (R69). -/
def bcastAt (d : Dev) (w : Nat) : Time := if w = 0 then d.now else max (wallToAbs d.now (w % 2 ^ 48)) d.now

/-- A broadcast reaches a tile: a copy of an ID heard within 10 s is ignored (R71). -/
def takeBroadcast (m : Msg) (d : Dev) : Dev :=
  match parseBcast m.payload with
  | none => d
  | some (w, id, es) =>
    let seen := d.pliuk.bcastSeen.filter (fun x => decide (d.now < x.2 + 10000000000))
    if seen.any (fun x => x.1 == id) then d
    else
      let left := es.filter (fun e => !d.bcastRefused e)
      let left2 := left.filter (fun e => match pairPartner e.key with
        | some k => left.any (fun y => y.key == k)
        | none => true)
      let items := left2.map (fun e => (⟨e.key, beVal e.val, none⟩ : Staged))
      let broken := (d.commitFail (d.afterCommit items) (items.map (·.key)) true).isSome
      let kept := if broken then [] else left2
      let out := es.filter (fun e => !kept.contains e)
      let d := d.setPliuk (fun p =>
        { p with bcastSeen := seen ++ [(id, d.now)], lastBcast := id, lastRefused := out.length })
      let d := match out.head? with
        | some e => d.logFault 14 2 e.key id out.length
        | none => d
      let items := if broken then [] else items
      if items.isEmpty then d
      else
        let at' := d.bcastAt w
        if d.mode = 0 ∧ at' ≤ d.now then d.applyItems 0 items
        else d.setPliuk (fun p => { p with bcasts := p.bcasts ++ [{ id := id, entries := items, applyAt := at', taken := d.now }] })

/-! ### A message's road (R45 to R49, R56, R586) -/

/-- Opcodes a device answers: those of R49 but NOTIFY, and BROADCAST_WRITE on a sender alone (R582, R586). -/
def opcodeOk (d : Dev) (op : Nat) : Bool :=
  (decide (1 ≤ op) && decide (op ≤ 12) && op != 9) || (op == 13 && d.isSender)

/-- The meaning of a request received at `at'` and accepted in an open session; none: the answer comes later. -/
def perform (at' : Time) (c : Carrier) (s : Session) (m : Msg) (d : Dev) : Option (Nat × Bytes) × Dev :=
  let now := fun (r : (Nat × Bytes) × Dev) => (some r.1, r.2)
  let failed := d.baseRun == .startFailed
  match m.opcode with
  | 1 => now (d.doRead m)
  | 2 => now (d.doWrite s m)
  | 3 => now (d.doReadBlock m)
  | 4 => now (d.doWriteBlock s m)
  | 5 => now (d.doBegin s m)
  | 6 => if bit 3 m.flags then now (d.doWallCommit s m) else d.doCommit c s m
  | 7 => now (d.doRollback at' s m)
  | 8 => now (d.doStatus m)
  | 10 =>
    if failed ∧ (countOf m.payload).any (fun n => m.payload.length == 4 + 8 * n) then (some (Status.DEVICE, []), d)
    else now (d.doSubscribe s m)
  | _ => now (d.doBroadcast s m)

/-- Is a COMMIT of the session in validation? -/
def validatingIn (d : Dev) (sid : Nat) : Bool := d.pliuk.txns.any (fun x => x.session == sid && x.phase == .validating)

/-- A request is accepted: it is the session's latest, from its present carrier (R40, R56, R57, R59). -/
def accept (c : Carrier) (m : Msg) (d : Dev) : Dev :=
  let d := d.setSess m.session (fun s =>
    { s with lastSeq := m.sequence, lastHeard := d.now, peer := c, cached := none })
  d.setTxn m.txn (fun x => if x.session = m.session ∧ x.phase = .staging then { x with lastMsg := d.now } else x)

/-- The session a request names, if it has an identifier that is still valid (R48, R53). -/
def liveSess (d : Dev) (sid : Nat) : Option Session :=
  match d.sess sid with
  | none => none
  | some s => if s.halfOpen ∧ s.since + 2000000000 < d.now then none else some s

/-- May the session's role make the request at all (R48, R58, R68, R583)?  A WRITE answers its roles entry by entry; a
reference too short to name an object is malformed. -/
def roleAllows (d : Dev) (s : Session) (m : Msg) : Bool :=
  match m.opcode with
  | 4 =>
    decide (m.payload.length < 4) || (match d.reachDef (refAt 0 m.payload) with
      | some o => mayWrite s.role (refAt 0 m.payload) o.level
      | none => true)
  | 7 =>
    match d.txnBy m.txn with
    | some x => !x.isArmed || d.mayRollBack s x
    | none => true
  | 13 => decide (roleOperator ≤ s.role)
  | _ => true

/-- A request in a session, received at `at'`: order (R56), role, reserved flags, then its meaning (R48). -/
def inSession (at' : Time) (c : Carrier) (s : Session) (m : Msg) (d : Dev) : Dev :=
  if m.sequence = s.lastSeq then
    match s.cached with
    | some a => (d.setSess s.id (fun s => { s with peer := c, lastHeard := d.now })).sendPliuk c a
    | none => d
  else if m.sequence ≠ (s.lastSeq + 1) % 2 ^ 32 then d.answer c m Status.SEQUENCE
  else
    let d := d.accept c m
    if s.halfOpen ∧ m.opcode ≠ 12 then d.reply c m (Status.ROLE, [])
    else if !d.roleAllows s m then d.reply c m (Status.ROLE, [])
    else if 16 ≤ m.flags then d.reply c m (Status.LENGTH, [])
    else if m.opcode = 12 then d.authenticate c s m
    else
      let s := { s with peer := c }
      match d.perform at' c s m with
      | (some r, d) => d.reply c m r
      | (none, d) => d

/-- A message received at `at'` that R47 and R586 let through: the checks of R48. -/
def handleAt (at' : Time) (c : Carrier) (m : Msg) (d : Dev) : Dev :=
  if m.version ≠ 1 then d.answer c m Status.VERSION
  else if !d.opcodeOk m.opcode then d.answer c m Status.OPCODE
  else if m.opcode = 11 then if m.session ≠ 0 then d.answer c m Status.SESSION else d.challenge c m
  else
    match d.liveSess m.session with
    | none => d.answer c m Status.SESSION
    | some s =>
      if d.validatingIn s.id then
        if s.queue.length < 8 then d.setSess s.id (fun s => { s with queue := s.queue ++ [(at', c, m)] })
        else d.answer c m Status.BUSY
      else d.inSession at' c s m

/-- A message received now. -/
def handle (c : Carrier) (m : Msg) (d : Dev) : Dev := d.handleAt d.now c m

/-- Is the message one that R47 discards? -/
def msgBad (m : Msg) : Bool :=
  m.crc != msgTrailer m || m.length != m.payload.length || decide (1440 < m.payload.length)

/-- A message arrives on a carrier. -/
def receive (c : Carrier) (m : Msg) (d : Dev) : Dev :=
  if !d.carrierOpen c then d
  else if msgBad m then d.bump K.MSG_DISCARD_CRC
  else if bit 0 m.flags then d.takeAck m
  else d.handle c m

/-- A message arrives by a row that names its opcode: the row's opcode and flags hold, whatever the message carries, and
its trailer is judged as it arrived. -/
def receiveAs (op : Nat) (set clear : Nat) (c : Carrier) (m : Msg) (d : Dev) : Dev :=
  if !d.carrierOpen c then d
  else if msgBad m then d.bump K.MSG_DISCARD_CRC
  else
    let m := { m with opcode := op, flags := (m.flags &&& (255 - clear)) ||| set }
    if bit 0 m.flags then d.takeAck m else d.handle c m

/-- Requests that waited for the end of a validation are taken in order (R56). -/
def drainQueue : Nat → Nat → Dev → Dev
  | 0, _, d => d
  | fuel + 1, sid, d =>
    match d.sess sid with
    | none => d
    | some s =>
      match s.queue with
      | [] => d
      | (at', c, m) :: rest =>
        if d.validatingIn sid then d
        else drainQueue fuel sid ((d.setSess sid (fun s => { s with queue := rest })).handleAt at' c m)

/-- Does a ROLLBACK of the transaction wait in its session? -/
def rollbackWaits (d : Dev) (x : Txn) : Bool :=
  match d.sess x.session with
  | some s => s.queue.any (fun q => q.2.2.opcode == 7 && q.2.2.txn == x.number)
  | none => false

/-- A commit that has passed validation with no mode in force applies within 1 ms (R61, R590): at once, or after the
requests that arrived before the end of validation where one of them rolls it back. -/
def settleTxn (x : Txn) (d : Dev) : Dev :=
  if d.rollbackWaits x then
    let d := drainQueue 9 x.session d
    if (d.txnBy x.number).isSome then d.applyTxn x else d
  else d.applyTxn x

/-- A wall commit that a waiting ROLLBACK had held back applies when that ROLLBACK was not accepted after all. -/
def lateArmed (d : Dev) : Dev :=
  match d.armedTxn with
  | some x =>
    match x.phase with
    | .armed w => if d.armedLatch w + latchLead ≤ d.now ∧ !d.rollbackHeld x then d.applyTxn x else d
    | _ => d
  | none => d

/-- COMMIT_VALIDATION_END: the commit is scheduled for its boundary, or applies with no mode in force, and is answered
(R61, R590).  The timeout of R59 runs from a RULE answer given here, as from the transaction's last message (DEDUCED, log
entry 118). -/
def validationEnd (number : Nat) (d : Dev) : Dev :=
  match d.txnBy number with
  | none => d
  | some x =>
    match x.phase, x.request with
    | .validating, some (c, m) =>
      let d :=
        match d.txnFail x false with
        | some r => (d.setTxn number (fun t => { t with phase := .staging, request := none, lastMsg := d.now })).reply c m
            (Status.RULE, ruleBytes r)
        | none =>
          if d.mode = 0 then
            ((d.setTxn number (fun t => { t with phase := .scheduled d.now, request := none })).reply c m
              (Status.OK, be 8 d.wall)).settleTxn x
          else
            let f := d.applyBoundary
            (((d.setTxn number (fun t => { t with phase := .scheduled f, request := none })).dropShadows x f).reply
              c m (Status.OK, be 8 (f % 2 ^ 48)))
      (drainQueue 9 x.session d).lateArmed
    | _, _ => d

/-! ### The SPI target port (R43, R44) -/

/-- Messages that wait in the port are executed in order once the firmware runs. -/
def drainSpi : Nat → Dev → Dev
  | 0, d => d
  | fuel + 1, d =>
    match d.pliuk.spiIn with
    | [] => d
    | m :: rest =>
      if d.carrierOpen .spi then drainSpi fuel ((d.setPliuk (fun p => { p with spiIn := rest })).receive .spi m) else d

/-- Does the port take part at all: enabled, and past step 4 or in Recovery? -/
def spiRuns (d : Dev) : Bool :=
  d.pliukRuns &&
    (d.bootObj K.SPI_TARGET_ENABLE == 1 || d.baseRun == .recovery || d.baseRun == .startFailed)

/-- Message write: queued, or discarded and counted while no place is free. -/
def spiWrite (m : Msg) (d : Dev) : Dev :=
  if !d.spiRuns then d
  else if 4 ≤ d.pliuk.spiIn.length then d.bump K.SPI_DISCARDS
  else (d.setPliuk (fun p => { p with spiIn := p.spiIn ++ [m] })).drainSpi 5

/-- Message read: a 2-byte length, then one message; length 0: nothing is pending. -/
def spiRead (d : Dev) : Dev :=
  if !d.spiRuns then d
  else
    match d.pliuk.spiOut with
    | [] => d.emit (.spi (be 2 0))
    | m :: rest =>
      (d.setPliuk (fun p => { p with spiOut := rest })).emit (.spi (be 2 (msgWire m).length ++ msgWire m))

/-- Port status. -/
def spiStatus (d : Dev) : Dev :=
  if !d.spiRuns then d
  else d.emit (.spi (be 1 (b2n (decide (d.pliuk.spiIn.length < 4)) + 2 * b2n (!d.pliuk.spiOut.isEmpty))))

/-! ### Relays and CTL packets (R40 to R42, R409, R410, R414) -/

/-- A datagram to the relay port of a sender.  An all-ones prefix with another opcode than BROADCAST_WRITE is answered as a
tile that is not enumerated (DEDUCED, log entry 117), and so is a message with RESP set for a tile that is not enumerated: R41
answers the prefix before the message is looked at (DEDUCED, log entry 177). -/
def relayRx (src : Carrier) (uid : Nat) (m : Msg) (d : Dev) : Dev :=
  if !d.isSender ∨ !d.carrierOpen src then d
  else if msgBad m then d.bump K.MSG_DISCARD_CRC
  else if uid = 2 ^ 64 - 1 ∧ m.opcode = 13 then
    let n := d.out.length
    let d := d.receive src m
    { d with out := d.out.take n ++ (d.out.drop n).map (fun o => match o with
        | .pliuk c a => if c == src && a.opcode == 13 then .relayed src uid a else o
        | _ => o) }
  else
    match if uid = 2 ^ 64 - 1 then none else d.findTile uid with
    | none => d.emit (.relayed src uid (responseTo m m.session Status.NO_OBJECT []))
    | some (h, dist) =>
      (d.setPliuk (fun p => { p with
        relays := p.relays.filter (fun r => !(r.1 == uid && r.2.1 == m.session)) ++ [(uid, m.session, src)] })).sendCtl
        h 0 dist uid (msgWire m)

/-- A tile's message reaches a sender: it goes to the host of that session's most recent request.  An AUTH_CHALLENGE that
opens a session is answered with the new identifier, which names the session from then on (R53); its other answers carry the
request's SESSION (R48). -/
def relayBack (h : PortId) (p : Packet) (d : Dev) : Dev :=
  let d := d.countRx h p
  if !d.isSender ∨ !pktPasses p ∨ fieldAt 0 1 p.body ≠ 1 then d
  else
    let uid := fieldAt 4 8 p.body
    match msgOfBytes (p.body.drop 16) with
    | none => d
    | some m =>
      let sid := if m.opcode = 11 ∧ m.status = Status.OK then 0 else m.session
      match d.pliuk.relays.find? (fun r => r.1 == uid && r.2.1 == sid) with
      | none => d
      | some (_, _, src) =>
        (d.setPliuk (fun q => { q with
          relays := q.relays.filter (fun r => !(r.1 == uid && r.2.1 == m.session)) ++ [(uid, m.session, src)] })).emit
          (.relayed src uid m)

/-- A relayed broadcast reaches a tile: it uses it and forwards it, unless LINK is set (R414). -/
def bcastRx (h : PortId) (p : Packet) (d : Dev) : Dev :=
  if !d.portUp h then d
  else
    let d := d.countRx h p
    let d := if pktLink p then d else d.forward h p p.body
    if !pktPasses p ∨ !d.pliukRuns ∨ d.integ.restart.isSome then d
    else
      match msgOfBytes (p.body.drop 16) with
      | none => d.bump K.MSG_DISCARD_CRC
      | some m =>
        if msgBad m then d.bump K.MSG_DISCARD_CRC
        else if m.opcode = 13 ∧ m.version = 1 ∧ m.flags < 16 ∧ !bit 0 m.flags then d.takeBroadcast m else d

/-- A packet of a reserved class or CTL kind (R406): counted, and forwarded by a tile unless LINK is set. -/
def unknownRx (h : PortId) (p : Packet) (d : Dev) : Dev :=
  if !d.portUp h then d
  else
    let d := d.countRx h p
    let d := if pktPasses p then d.bump (K.WITHY_UNKNOWN h) else d
    if d.isSender || pktLink p then d else d.forward h p p.body

/-- A packet that the tile takes and does not forward: a Pliuk message where TARGET names it and UNIQUE_ID is its own, counted
where UNIQUE_ID is another's (R410); whatever else LINK makes its own. -/
def ctlMine (h : PortId) (p : Packet) (d : Dev) : Dev :=
  let d := d.countRx h p
  if !pktPasses p ∨ fieldAt 0 1 p.body ≠ 0 ∨ !targetsMe p then d
  else if fieldAt 4 8 p.body = d.fix.fuses.uid then
    match msgOfBytes (p.body.drop 16) with
    | none => d.bump K.MSG_DISCARD_CRC
    | some m => d.receive (.ctl h) m
  else d.bump (K.WITHY_MISADDRESSED h)

/-- A CTL packet reaches a tile (R406, R410, R414). -/
def ctlRx (h : PortId) (p : Packet) (d : Dev) : Dev :=
  let kind := fieldAt 0 1 p.body
  if d.isSender ∨ !d.portUp h then d
  else if 5 ≤ kind then d.unknownRx h p
  else if kind = 2 then d.bcastRx h p
  else if kind = 3 then ((d.enumRx h p).takePosition).scanFollow
  else if isMine p then d.ctlMine h p
  else (d.countRx h p).forward h p p.body

end Dev
end Sys2Proof.Machine
end

