-- ==== Sys2Proof/Machine/PortOps.lean ====
section
/-!
DEFINITION. Sys2Proof/Machine/PortOps.lean: which commands the device takes in its present state, how a row that writes
one object is carried out, and the column and bring-up events of a Withy port that need no packet (13_withy.md).
-/
namespace Sys2Proof.Machine
namespace Dev

/-! ### What runs -/

/-- Do the control processors run: past step 4, not Halted, no control restart (R537, R550)? -/
def controlRuns (d : Dev) : Bool := d.pliukRuns && d.integ.restart.isNone

/-- An effect of the control processors. -/
def whenControl (f : Dev → Dev) (d : Dev) : Dev := if d.controlRuns then f d else d

/-- An effect of what runs from the end of step 4 on, through a control restart too: the time base. -/
def whenFirmware (f : Dev → Dev) (d : Dev) : Dev := if d.pliukRuns && d.baseRun != .recovery then f d else d

/-- An effect of what runs with the Withy ports, from step 6 on and not in Standby. -/
def whenPorts (f : Dev → Dev) (d : Dev) : Dev := if d.portsRun then f d else d

/-- An effect on the columns that a tile forwards, which go on in Halted (R539). -/
def whenForwarding (f : Dev → Dev) (d : Dev) : Dev :=
  if d.portsRun || (d.isTile && d.start.run == .halted) then f d else d

/-- An effect of a tile or of a sender alone. -/
def onTile (f : Dev → Dev) (d : Dev) : Dev := if d.isTile then f d else d
def onSender (f : Dev → Dev) (d : Dev) : Dev := if d.isSender then f d else d

/-- A PTP message on an ingest port of a sender: its frame is one the port takes (R113), and its SMPTE management TLV is
received with it (R79). -/
def onPtp (port : Nat) (m : PtpMsg) (f : Dev → Dev) (d : Dev) : Dev :=
  d.onSender (fun d => d.onFrame ⟨port, m.vlan, m.frameLen⟩ (fun d => f (d.smpteRx port m)))

/-- An effect on a column driver, which has power whenever the tile has (log entry 107). -/
def whenDriver (f : Dev → Dev) (d : Dev) : Dev := if d.isTile && d.start.run != .off then f d else d

/-- A packet of a class that tiles forward: a Halted tile still sends it on (R539).  DEDUCED, log entry 106. -/
def wire (h : PortId) (p : Packet) (f : Dev → Dev) (d : Dev) : Dev :=
  if d.portsRun then f d
  else if d.isTile && d.start.run == .halted && d.portUp h && !isMine p then d.forward h p p.body
  else d

/-! ### One write of one object (R48, R50, R53; log entry 103) -/

/-- The status of a row's write leaves the device. -/
def entryDone (sid k : Nat) (r : Nat × Dev) : Dev := r.2.emit (.entry sid k r.1)

/-- A write by an open session: `f` gives the status and the device after it. -/
def bySession (sid k : Nat) (f : Writer → Dev → Nat × Dev) (d : Dev) : Dev :=
  if !d.controlRuns then d
  else
    match d.sess sid with
    | none => d.emit (.entry sid k Status.SESSION)
    | some s =>
      if s.halfOpen || !d.carrierOpen s.peer then d.emit (.entry sid k Status.SESSION)
      else if !d.reaches k then d.emit (.entry sid k Status.NO_OBJECT)
      else entryDone sid k (f (writerOf s false) d)

/-- A write of a scalar object. -/
def rowWrite (sid k v : Nat) (d : Dev) : Dev := d.bySession sid k (fun x d => d.writeScalar x k v)

/-- A chunk of a BLOB object. -/
def rowChunk (sid k : Nat) (b : Chunk) (readBackOk : Bool) (d : Dev) : Dev :=
  d.bySession sid k (fun x d => d.writeChunk x k b readBackOk)

/-- A write of instance `n` of `count` of an object; the others do not exist (R3). -/
def rowWriteAt (count n sid k v : Nat) (d : Dev) : Dev :=
  if n < count then d.rowWrite sid k v else d.bySession sid k (fun _ d => (Status.NO_OBJECT, d))

/-- A chunk of instance `n` of `count` of a BLOB object. -/
def rowChunkAt (count n sid k : Nat) (b : Chunk) (d : Dev) : Dev :=
  if n < count then d.rowChunk sid k b true else d.bySession sid k (fun _ d => (Status.NO_OBJECT, d))

/-- Bytes sent as one chunk. -/
def wholeChunk (b : Bytes) : Chunk := { offset := 0, total := b.length, more := false, data := b }

/-- An overlay command of the row's CMD, with the other bytes of the block (R325). -/
def rowOverlay (sid cmd : Nat) (body : Bytes) (d : Dev) : Dev :=
  d.rowChunk sid K.OVL_COMMAND (wholeChunk (be 1 cmd ++ body)) true

/-- A write of INTEG_CLEAR_SAFE, with what its self-test shows (R541, R542). -/
def rowClearSafe (sid v stalled : Nat) (crcOk : Bool) (d : Dev) : Dev :=
  let k := K.INTEG_CLEAR_SAFE
  d.bySession sid k (fun x d =>
    match d.scalarRefused x k v with
    | some st => (st, d)
    | none =>
      if d.deviceRefuses k then (Status.DEVICE, d)
      else if d.lockedFor sid k then (Status.LOCKED, d)
      else d.clearSafe stalled crcOk)

/-- Message types of R411: Sync, Pdelay_Req, Pdelay_Resp and Announce. -/
def timKnown (b : Bytes) : Bool := [0x0, 0x2, 0x3, 0xB].contains (timType b)

/-- UNKNOWN_CLASS_PACKET: a reserved class (R406), or a TIM packet of another message type, which is discarded (R411). -/
def unknownPacket (h : PortId) (p : Packet) (d : Dev) : Dev :=
  if p.cls = clsTim then
    if !d.portUp h then d
    else
      let d := d.countRx h p
      if pktPasses p && !timKnown p.body then d.timUnknown h else d
  else d.unknownRx h p

/-! ### Bring-up timers (R394 to R399) -/

/-- HELLO_SEND: what a port in bring-up sends every 100 µs; a Dark port while its beacon lasts. -/
def helloTick (h : PortId) (d : Dev) : Dev :=
  if d.nPorts ≤ h then d
  else
    match d.linkState h, (d.port h).phase with
    | 2, .hello => d.sendHello h 0 0xFF
    | 2, .request n => d.sendHello h 1 n
    | 4, _ => if (d.port h).beacon then d.sendHello h 0 0xFF else d
    | _, _ => d

/-- STEP_LOCK_TIMEOUT: the port has not locked within 2 ms of the switch. -/
def stepLockLate (h : PortId) (d : Dev) : Dev :=
  match (d.port h).phase with
  | .locking prev => if d.linkState h = 2 ∧ d.phaseLasted h 2000000 then d.stepFailed h prev else d
  | _ => d

/-- HELLO_TIMEOUT: 10 ms at any rate without a valid hello. -/
def helloLate (h : PortId) (d : Dev) : Dev :=
  if d.linkState h ≠ 2 then d
  else
    match (d.port h).phase with
    | .hello | .request _ => if d.phaseLasted h 10000000 then d.attemptFailed h else d
    | _ => d

/-- ATTEMPT_BACKOFF_EXPIRY: 10 ms × 2^(a−1) after failed attempt `a`. -/
def backoffOver (h : PortId) (d : Dev) : Dev :=
  let a := d.obj (K.WITHY_ATTEMPTS h)
  match (d.port h).phase with
  | .backoff => if d.linkState h = 2 ∧ d.phaseLasted h (backoffTime a) then d.startAttempt h (a + 1) else d
  | _ => d

/-- DARK_BEACON: 10 ms in each second. -/
def beaconTurn (h : PortId) (start : Bool) (d : Dev) : Dev :=
  let now := d.now
  if d.linkState h ≠ 4 ∨ d.nPorts ≤ h then d
  else if start then
    if d.phaseLasted h 1000000000 then (d.setPort h (fun q => { q with beacon := true, since := now })).sendHello h 0 0xFF
    else d
  else if d.phaseLasted h 10000000 then d.setPort h (fun q => { q with beacon := false })
  else d

/-! ### Columns (R385 to R390, R416, R417) -/

/-- Does the port send columns: Up, or in Training but for the wait between attempts? -/
def sendsColumns (d : Dev) (h : PortId) : Bool :=
  decide (h < d.nPorts) && (d.linkState h == 3 || (d.linkState h == 2 && (d.port h).phase != .backoff))

/-- ALIGN_SEND, with the rate index. -/
def alignTick (h : PortId) (d : Dev) : Dev :=
  if d.sendsColumns h then d.emit (.column h (.align (d.port h).rate)) else d

/-- SLACK_SEND on a sender. -/
def slackTick (h : PortId) (d : Dev) : Dev :=
  if d.isSender && d.sendsColumns h then d.emit (.column h .slack) else d

/-- SLACK_COLUMN_RECEIVED, with what the forwarding FIFO holds at this instant (log entry 190): dropped by a sender; a tile
deletes it from a FIFO of more than three columns, or sends it on. -/
def slackRx (h : PortId) (depth : Nat) (d : Dev) : Dev :=
  let e := otherPort h
  if !d.isTile ∨ !d.portUp h then d
  else if 3 < depth then (d.setPort e (fun q => { q with fifo := depth })).bumpWrap (K.WITHY_SLACK_DELETED h)
  else if d.portUp e then (d.setPort e (fun q => { q with fifo := depth + 1 })).emit (.column e .slack)
  else d

/-- SLACK_INSERT: an egress column time of a tile's port comes; where its FIFO holds no column, a SLACK column goes out. -/
def slackInsert (x : FifoSlot) (d : Dev) : Dev :=
  if d.isTile && d.portUp x.port then
    let d := d.setPort x.port (fun q => { q with fifo := x.depth })
    if (d.port x.port).fifo = 0 then (d.bumpWrap (K.WITHY_SLACK_INSERTED x.port)).emit (.column x.port .slack) else d
  else d

/-- BLOCK_ERROR: an erroneous column counts as IDLE, and the packet in progress is aborted (R385, R386; log entry 104). -/
def blockErr (x : BlockPlace) (d : Dev) : Dev :=
  if d.nPorts ≤ x.port ∨ d.linkState x.port = 1 ∨ !columnBad x.types then d else d.abortRx x.port x.packet

/-- GRANT_RUN_OPEN: on every Up port of a sender, and on a tile port that has no grants from elsewhere. -/
def grantTick (x : SyncTx) (d : Dev) : Dev :=
  if d.portUp x.port && (d.isSender || (d.port x.port).grants) then d.grantOpen x.port x.egressPs else d

/-- GRANT_RECEIVED on a tile; a sender drops the column. -/
def grantRx (h : PortId) (g : GrantRun) (d : Dev) : Dev := if d.isTile && d.portUp h then d.grantPass h g else d

/-- GRANT_TIMEOUT: 1 ms without a GRANT on `h`, and the other port Up. -/
def grantLate (h : PortId) (d : Dev) : Dev :=
  let quiet := match (d.port h).lastGrant with
    | some t => decide (t + 1000000 ≤ d.now)
    | none => true
  if d.isTile && decide (h < 2) && quiet && d.portUp (otherPort h) then
    d.setPort (otherPort h) (fun q => { q with grants := true })
  else d

/-- HOOP_OPEN_TIMEOUT: 300 ms without a partner ENUM (R424). -/
def hoopOpen (h : PortId) (d : Dev) : Dev :=
  let x := d.hoopOf h
  let late := match x.lastPartner with
    | some t => decide (t + 300000000 ≤ d.now)
    | none => true
  if d.isSender && decide (h < 4) && x.closed && late then d.setHoop h { x with closed := false, partner := 0 } else d

/-- ENUM_PORT_TIMEOUT: 300 ms without an ENUM on a tile port (R423). -/
def enumLate (h : PortId) (d : Dev) : Dev :=
  let late := match (d.tileEnumOf h).lastAt with
    | some t => decide (t + 300000000 ≤ d.now)
    | none => false
  if d.isTile && late then d.enumPortLost h else d

/-- STEP_UP_RETRY. -/
def stepUpTick (h : PortId) (d : Dev) : Dev := if h < d.nPorts then d.stepUp h else d

/-! ### Instants of boundary-class values with no mode in force (R31, R63, R69) -/

/-- WALL_COMMIT_APPLY_AT_W. -/
def wallCommitDue (d : Dev) : Dev :=
  match d.armedTxn with
  | some x =>
    match x.phase with
    | .armed w => if d.mode = 0 ∧ w ≤ d.now ∧ !d.rollbackHeld x then d.applyTxn x else d
    | _ => d
  | none => d

/-- BROADCAST_APPLY_AT_W. -/
def bcastDue (d : Dev) : Dev := if d.mode ≠ 0 then d else d.applyBcasts none

end Dev
end Sys2Proof.Machine
end

