-- ==== Sys2Proof/Machine/RowsIngest.lean ====
section
/-!
DEFINITION. Sys2Proof/Machine/RowsIngest.lean: the meanings of the commands of 04_ingest.md: packets on ingest ports,
frames, stills, and the links of ingest ports and of management.
-/
namespace Sys2Proof.Machine

/-- INGEST_RTP_PACKET (R114, R126 to R130). -/
def execIngestRtpPacket (t : Time) (port : Nat) (p : RtpPkt) (s : State) : Host.Outcome State Fault Refusal :=
  act t (fun d => d.whenPorts (fun d => d.onSender (fun d =>
    d.onFrame ⟨port, p.vlan, p.frameLen⟩ (fun d => d.rtpRx port p)))) s

/-- INGEST_ARP_REQUEST (R113). -/
def execIngestArpRequest (t : Time) (frame : IngestFrame) (target : Nat) (sender : Nat) (senderMac : Nat)
    (s : State) : Host.Outcome State Fault Refusal :=
  act t (fun d => d.whenPorts (fun d => d.onSender (fun d =>
    d.onFrame frame (fun d => d.arpRx frame.port target sender senderMac)))) s

/-- INGEST_ICMP_ECHO (R113). -/
def execIngestIcmpEcho (t : Time) (frame : IngestFrame) (dst : Nat) (src : Nat) (data : Bytes)
    (s : State) : Host.Outcome State Fault Refusal :=
  act t (fun d => d.whenPorts (fun d => d.onSender (fun d =>
    d.onFrame frame (fun d => d.icmpRx frame.port dst src data)))) s

/-- IGMP_MEMBERSHIP_REPORT. -/
def execIgmpMembershipReport (t : Time) (port : Nat) (s : State) : Host.Outcome State Fault Refusal :=
  act t (fun d => d.whenPorts (fun d => d.onSender (fun d => d.igmpTx port))) s

/-- INGEST_LINK_CHANGE. -/
def execIngestLinkChange (t : Time) (port : Nat) (up : Bool) (s : State) : Host.Outcome State Fault Refusal :=
  act t (fun d => d.whenPorts (fun d => d.onSender (fun d => d.ingestLink port up))) s

/-- MGMT_LINK_CHANGE: the link runs from step 6 on and in Standby (R548, R557). -/
def execMgmtLinkChange (t : Time) (up : Bool) (s : State) : Host.Outcome State Fault Refusal :=
  act t (fun d => d.onSender (fun d =>
    if d.portsRun || d.baseRun == .standby then d.setObj K.MGMT_LINK (b2n up) else d)) s

/-- FRAME_INCOMPLETE_TIMEOUT (R130, R131). -/
def execFrameIncompleteTimeout (t : Time) (slot : Nat) (s : State) : Host.Outcome State Fault Refusal :=
  act t (fun d => d.whenPorts (fun d => d.onSender (fun d => d.closeFrames slot))) s

/-- LEG_LOSS_TIMEOUT. -/
def execLegLossTimeout (t : Time) (slot : Nat) (leg : Nat) (s : State) : Host.Outcome State Fault Refusal :=
  act t (fun d => d.whenPorts (fun d => d.onSender (fun d => d.legLost slot leg))) s

/-- STILL_DATA_WRITE (R124). -/
def execStillDataWrite (t : Time) (sid : SessionId) (n : Nat) (b : Chunk) (s : State) :
    Host.Outcome State Fault Refusal :=
  act t (fun d => d.rowChunkAt 16 n sid (K.STILL_DATA n) b) s

/-- STILL_CAPTURE (R125). -/
def execStillCapture (t : Time) (sid : SessionId) (n : Nat) (v : Nat) (s : State) : Host.Outcome State Fault Refusal :=
  act t (fun d => d.rowWriteAt 16 n sid (K.STILL_CAPTURE n) v) s

/-- STILL_CAPTURE_INSTANT. -/
def execStillCaptureInstant (t : Time) (n : Nat) (s : State) : Host.Outcome State Fault Refusal :=
  act t (fun d => d.whenPorts (fun d => d.onSender (fun d => d.tryCapture n))) s

/-- STILL_CAPTURE_TIMEOUT. -/
def execStillCaptureTimeout (t : Time) (n : Nat) (s : State) : Host.Outcome State Fault Refusal :=
  act t (fun d => d.whenPorts (fun d => d.onSender (fun d => d.captureTimeout n))) s

/-- STILL_RELEASE. -/
def execStillRelease (t : Time) (sid : SessionId) (n : Nat) (v : Nat) (s : State) : Host.Outcome State Fault Refusal :=
  act t (fun d => d.rowWriteAt 16 n sid (K.STILL_RELEASE n) v) s

end Sys2Proof.Machine
end

