-- ==== Sys2Proof/Machine/RowsLdl.lean ====
section
/-!
DEFINITION. Sys2Proof/Machine/RowsLdl.lean: the meanings of the commands of 09_lamp_driver_link.md: what returns on SRET,
the diagnostics a tile reads, and what each packet and each mark does in a column driver.
-/
namespace Sys2Proof.Machine

/-! ### On the tile -/

/-- LDL_BRINGUP_DONE (R300 to R302). -/
def execLdlBringupDone (t : Time) (results : List StrandResult) (s : State) : Host.Outcome State Fault Refusal :=
  act t (fun d => d.whenPorts (fun d => d.onTile (fun d => d.bringupDone results))) s

/-- SRET_ECHO (R303, R313). -/
def execSretEcho (t : Time) (strand : Nat) (words : List Nat) (s : State) : Host.Outcome State Fault Refusal :=
  act t (fun d => d.whenPorts (fun d => d.onTile (fun d => d.sretEcho strand words))) s

/-- ECHO_TIMEOUT (R303). -/
def execEchoTimeout (t : Time) (strand : Nat) (s : State) : Host.Outcome State Fault Refusal :=
  act t (fun d => d.whenPorts (fun d => d.onTile (fun d => d.echoTimeout strand))) s

/-- BROKEN_PROBE (R304). -/
def execBrokenProbe (t : Time) (strand : Nat) (back : Option (List Nat)) (s : State) : Host.Outcome State Fault Refusal :=
  act t (fun d => d.whenPorts (fun d => d.onTile (fun d => d.brokenProbe strand back))) s

/-- DIAG_READ (R312). -/
def execDiagRead (t : Time) (s : State) : Host.Outcome State Fault Refusal :=
  act t (fun d => d.whenPorts (fun d => d.onTile (fun d => d.diagRead))) s

/-- LAMP_VERIFY_EXPIRY (R314). -/
def execLampVerifyExpiry (t : Time) (lamp : Nat) (s : State) : Host.Outcome State Fault Refusal :=
  act t (fun d => d.whenPorts (fun d => d.onTile (fun d => d.verifyExpiry lamp))) s

/-- LAMP_CLEAR. -/
def execLampClear (t : Time) (sid : SessionId) (v : Nat) (s : State) : Host.Outcome State Fault Refusal :=
  act t (fun d => d.rowWrite sid K.LAMP_CLEAR v) s

/-! ### In a driver: packets -/

/-- WRITE_ROW (R285, R286). -/
def execWriteRow (t : Time) (strand : Nat) (pos : Nat) (p : LdlPkt) (s : State) : Host.Outcome State Fault Refusal :=
  act t (fun d => d.whenDriver (fun d =>
    d.ldlReach strand pos (Dev.asOpcode 1 p) (Driver.writeRow (Dev.asOpcode 1 p)) (Dev.asOpcode 1 p))) s

/-- SET_PLAN (R308). -/
def execSetPlan (t : Time) (strand : Nat) (pos : Nat) (p : LdlPkt) (s : State) : Host.Outcome State Fault Refusal :=
  act t (fun d => d.whenDriver (fun d =>
    d.ldlReach strand pos (Dev.asOpcode 2 p) (Driver.setPlan (Dev.asOpcode 2 p)) (Dev.asOpcode 2 p))) s

/-- FLIP (R291). -/
def execFlip (t : Time) (strand : Nat) (pos : Nat) (p : LdlPkt) (s : State) : Host.Outcome State Fault Refusal :=
  act t (fun d => d.whenDriver (fun d =>
    d.ldlReach strand pos (Dev.asOpcode 3 p) (Driver.takeFlip d.now (Dev.asOpcode 3 p)) (Dev.asOpcode 3 p))) s

/-- SET_RANGE (R298). -/
def execSetRange (t : Time) (strand : Nat) (pos : Nat) (p : LdlPkt) (s : State) : Host.Outcome State Fault Refusal :=
  act t (fun d => d.whenDriver (fun d =>
    d.ldlReach strand pos (Dev.asOpcode 4 p) (Driver.setRange (Dev.asOpcode 4 p)) (Dev.asOpcode 4 p))) s

/-- BLANK with B = 1 (R308). -/
def execBlank (t : Time) (strand : Nat) (pos : Nat) (p : LdlPkt) (s : State) : Host.Outcome State Fault Refusal :=
  act t (fun d => d.whenDriver (fun d =>
    d.ldlReach strand pos (Dev.asBlank true p) (Driver.blank (Dev.asBlank true p)) (Dev.asBlank true p))) s

/-- BLANK with B = 0 (R308). -/
def execUnblank (t : Time) (strand : Nat) (pos : Nat) (p : LdlPkt) (s : State) : Host.Outcome State Fault Refusal :=
  act t (fun d => d.whenDriver (fun d =>
    d.ldlReach strand pos (Dev.asBlank false p) (Driver.blank (Dev.asBlank false p)) (Dev.asBlank false p))) s

/-- TEST (R310). -/
def execTest (t : Time) (strand : Nat) (pos : Nat) (p : LdlPkt) (s : State) : Host.Outcome State Fault Refusal :=
  act t (fun d => d.whenDriver (fun d =>
    d.ldlReach strand pos (Dev.asOpcode 6 p) (Driver.test (Dev.asOpcode 6 p)) (Dev.asOpcode 6 p))) s

/-- READ_DIAG of ROW_FLAGS (R309, R311). -/
def execReadDiagRowFlags (t : Time) (strand : Nat) (pos : Nat) (p : LdlPkt) (s : State) :
    Host.Outcome State Fault Refusal :=
  act t (fun d => d.whenDriver (fun d => d.readFlags strand pos (Dev.asItem 1 p))) s

/-- READ_DIAG of STATUS (R311). -/
def execReadDiagStatus (t : Time) (strand : Nat) (pos : Nat) (p : LdlPkt) (s : State) :
    Host.Outcome State Fault Refusal :=
  act t (fun d => d.whenDriver (fun d => d.readStatus strand pos (Dev.asItem 2 p))) s

/-- READ_DIAG of IDENT (R311). -/
def execReadDiagIdent (t : Time) (strand : Nat) (pos : Nat) (p : LdlPkt) (s : State) :
    Host.Outcome State Fault Refusal :=
  act t (fun d => d.whenDriver (fun d => d.readIdent strand pos (Dev.asItem 3 p))) s

/-- READ_DIAG of a reserved item: no answer, forwarded unchanged (R311). -/
def execReadDiagReserved (t : Time) (strand : Nat) (pos : Nat) (p : LdlPkt) (s : State) :
    Host.Outcome State Fault Refusal :=
  act t (fun d => d.whenDriver (fun d =>
    d.ldlReach strand pos (Dev.asOpcode 7 p) id (Dev.asOpcode 7 p))) s

/-- ENUMERATE (R301). -/
def execEnumerate (t : Time) (strand : Nat) (pos : Nat) (p : LdlPkt) (s : State) : Host.Outcome State Fault Refusal :=
  act t (fun d => d.whenDriver (fun d =>
    d.ldlReach strand pos (Dev.asOpcode 8 p) (Driver.enumerate (Dev.asOpcode 8 p)) (enumForward (Dev.asOpcode 8 p)))) s

/-- A reserved opcode or address: ignored, and counted where the CRC or a length fails (R281 to R283). -/
def execLdlReservedOpcode (t : Time) (strand : Nat) (pos : Nat) (p : LdlPkt) (s : State) :
    Host.Outcome State Fault Refusal :=
  act t (fun d => d.whenDriver (fun d => d.ldlReach strand pos p id p)) s

/-! ### In a driver: marks, intervals, power -/

/-- GCLK_MARK (R289, R291). -/
def execGclkMark (t : Time) (strand : Nat) (pos : Nat) (s : State) : Host.Outcome State Fault Refusal :=
  act t (fun d => d.whenDriver (fun d => d.onDriver strand pos (Driver.mark d.now))) s

/-- BANK_EXCHANGE (R287, R291). -/
def execBankExchange (t : Time) (strand : Nat) (pos : Nat) (s : State) : Host.Outcome State Fault Refusal :=
  act t (fun d => d.whenDriver (fun d => 
    d.onDriver strand pos (fun v => v.exchange (d.driverCount v)))) s

/-- LIT_INTERVAL_END (R309). -/
def execLitIntervalEnd (t : Time) (strand : Nat) (pos : Nat) (row : Nat) (seg : Nat) (volts : List LampVolt)
    (s : State) : Host.Outcome State Fault Refusal :=
  act t (fun d => d.whenDriver (fun d => 
    d.onDriver strand pos (fun v => v.litEnd (d.driverCount v) row seg volts))) s

/-- TEST_PULSE (R310). -/
def execTestPulse (t : Time) (strand : Nat) (pos : Nat) (volts : List LampVolt) (s : State) :
    Host.Outcome State Fault Refusal :=
  act t (fun d => d.whenDriver (fun d => 
    d.onDriver strand pos (fun v => v.testEnd (d.driverCount v) volts))) s

/-- DRIVER_POWER_ON (R308). -/
def execDriverPowerOn (t : Time) (strand : Nat) (pos : Nat) (s : State) : Host.Outcome State Fault Refusal :=
  act t (fun d => d.whenDriver (fun d => d.driverPowerOn strand pos)) s

end Sys2Proof.Machine
end

