-- ==== Sys2Proof/Machine/RowsPair.lean ====
section
/-!
DEFINITION. Sys2Proof/Machine/RowsPair.lean: the meanings of the commands of chapters 14 to 16: sender pairs, DRAM, and
the check units.
-/
namespace Sys2Proof.Machine

/-! ### Pairs of senders (R426 to R440) -/

/-- PARTNER_FLP_RECEIVED (R428). -/
def execPartnerFlpReceived (t : Time) (port : PortId) (p : Packet) (s : State) : Host.Outcome State Fault Refusal :=
  act t (fun d => d.whenPorts (fun d => d.onSender (fun d => d.partnerFlpRx port p))) s

/-- PAIR_TAKEOVER (R435). -/
def execPairTakeover (t : Time) (sid : SessionId) (v : Nat) (s : State) : Host.Outcome State Fault Refusal :=
  act t (fun d => d.rowWrite sid K.PAIR_TAKEOVER v) s

/-- PARTNER_SILENT_TIMEOUT (R434). -/
def execPartnerSilentTimeout (t : Time) (s : State) : Host.Outcome State Fault Refusal :=
  act t (fun d => d.whenPorts (fun d => d.partnerSilent)) s

/-- PARTNER_FREERUN_TIMEOUT (R434). -/
def execPartnerFreerunTimeout (t : Time) (s : State) : Host.Outcome State Fault Refusal :=
  act t (fun d => d.whenPorts (fun d => d.partnerFreerun)) s

/-- PAIR_JOIN_WAIT_EXPIRY (R437). -/
def execPairJoinWaitExpiry (t : Time) (s : State) : Host.Outcome State Fault Refusal :=
  act t (fun d => d.whenPorts (fun d => d.joinWaitEnd)) s

/-- PAIR_STATE_CONFIRM (R440). -/
def execPairStateConfirm (t : Time) (sid : SessionId) (v : Nat) (s : State) : Host.Outcome State Fault Refusal :=
  act t (fun d => d.rowWrite sid K.PAIR_STATE_CONFIRM v) s

/-! ### DRAM (R454 to R474) -/

/-- RETRAIN_EPOCH (R454, R455). -/
def execRetrainEpoch (t : Time) (ch : Nat) (count : Nat) (s : State) : Host.Outcome State Fault Refusal :=
  act t (fun d => d.whenPorts (fun d => d.retrainEpoch ch count)) s

/-- MR4_READ (R468, R538). -/
def execMr4Read (t : Time) (die : Nat) (range : Nat) (s : State) : Host.Outcome State Fault Refusal :=
  act t (fun d => d.whenPorts (fun d => d.readRange die range)) s

/-- SETPOINT_CHANGE (R456, R457). -/
def execSetpointChange (t : Time) (target : Nat) (urgent : Bool) (s : State) : Host.Outcome State Fault Refusal :=
  act t (fun d => d.whenPorts (fun d => d.setpointChange target urgent)) s

/-- PER_BANK_REFRESH (R469, R470). -/
def execPerBankRefresh (t : Time) (ch : Nat) (bank : Nat) (issued : Bool) (s : State) :
    Host.Outcome State Fault Refusal :=
  act t (fun d => d.whenPorts (fun d => d.bankRefresh ch bank issued)) s

/-- PATROL_SCRUB (R466). -/
def execPatrolScrub (t : Time) (e : EccEvent) (s : State) : Host.Outcome State Fault Refusal :=
  act t (fun d => d.whenPorts (fun d => d.patrolScrub e)) s

/-- SELF_REFRESH_ENTRY (R472, R556). -/
def execSelfRefreshEntry (t : Time) (s : State) : Host.Outcome State Fault Refusal :=
  act t (fun d => d.standbyEnter) s

/-! ### Check units (R475 to R484) -/

/-- CU_CLAIM (R481). -/
def execCuClaim (t : Time) (sid : SessionId) (n : Nat) (v : Nat) (s : State) : Host.Outcome State Fault Refusal :=
  act t (fun d => d.rowWriteAt 4 n sid (K.CU_CLAIM n) v) s

/-- CU_ALGORITHM (R477). -/
def execCuAlgorithm (t : Time) (sid : SessionId) (n : Nat) (v : Nat) (s : State) : Host.Outcome State Fault Refusal :=
  act t (fun d => d.rowWriteAt 4 n sid (K.CU_ALGORITHM n) v) s

/-- CU_INIT (R478). -/
def execCuInit (t : Time) (sid : SessionId) (n : Nat) (v : Nat) (s : State) : Host.Outcome State Fault Refusal :=
  act t (fun d => d.rowWriteAt 4 n sid (K.CU_INIT n) v) s

/-- CU_FEED8 (R479). -/
def execCuFeed8 (t : Time) (sid : SessionId) (n : Nat) (v : Nat) (s : State) : Host.Outcome State Fault Refusal :=
  act t (fun d => d.rowWriteAt 4 n sid (K.CU_FEED8 n) v) s

/-- CU_FEED16 (R479). -/
def execCuFeed16 (t : Time) (sid : SessionId) (n : Nat) (v : Nat) (s : State) : Host.Outcome State Fault Refusal :=
  act t (fun d => d.rowWriteAt 4 n sid (K.CU_FEED16 n) v) s

/-- CU_FEED32 (R479). -/
def execCuFeed32 (t : Time) (sid : SessionId) (n : Nat) (v : Nat) (s : State) : Host.Outcome State Fault Refusal :=
  act t (fun d => d.rowWriteAt 4 n sid (K.CU_FEED32 n) v) s

/-- CU_FEED64 (R479). -/
def execCuFeed64 (t : Time) (sid : SessionId) (n : Nat) (v : Nat) (s : State) : Host.Outcome State Fault Refusal :=
  act t (fun d => d.rowWriteAt 4 n sid (K.CU_FEED64 n) v) s

/-- CU_STATE (R480). -/
def execCuState (t : Time) (sid : SessionId) (n : Nat) (v : Nat) (s : State) : Host.Outcome State Fault Refusal :=
  act t (fun d => d.rowWriteAt 4 n sid (K.CU_STATE n) v) s

end Sys2Proof.Machine
end

