-- ==== Sys2Proof/Machine/RowsPicture.lean ====
section
/-!
DEFINITION. Sys2Proof/Machine/RowsPicture.lean: the meanings of the commands of chapters 05 to 08: wales coded and sent,
received and decoded, path selection, Prism, the load of the drivers, flip packets, tile images and the calibration image.
-/
namespace Sys2Proof.Machine

/-- ENCODE_WALE (R198, R199). -/
def execEncodeWale (t : Time) (port : PortId) (dist : Nat) (wale : Nat) (met : WaleRead) (s : State) :
    Host.Outcome State Fault Refusal :=
  act t (fun d => d.whenPorts (fun d => d.onSender (fun d => (d.settleSelection (d.now + 1)).encodeMet port dist wale met))) s

/-- WALE_DEADLINE (R221). -/
def execWaleDeadline (t : Time) (port : PortId) (dist : Nat) (wale : Nat) (s : State) :
    Host.Outcome State Fault Refusal :=
  act t (fun d => d.whenPorts (fun d => d.onSender (fun d => (d.settleSelection (d.now + 1)).lateWale port dist wale))) s

/-- PIX_FRAGMENT_RECEIVED (R414, R418, R588): a Halted tile forwards what it can start in time. -/
def execPixFragmentReceived (t : Time) (port : PortId) (p : Packet) (canStart : Bool) (s : State) :
    Host.Outcome State Fault Refusal :=
  act t (fun d => if d.start.run == .halted && !canStart then d else d.wire port p (fun d => d.pixRx port p canStart)) s

/-- DECODE_WALE (R201 to R206). -/
def execDecodeWale (t : Time) (path : Nat) (frame : Nat) (facet : Nat) (wale : Nat) (met : WaleRead) (s : State) :
    Host.Outcome State Fault Refusal :=
  act t (fun d => d.whenPorts (fun d => d.onTile (fun d => d.decodeMet path frame facet wale met))) s

/-- PATH_SELECTION_CLOSE (R430). -/
def execPathSelectionClose (t : Time) (wale : Nat) (s : State) : Host.Outcome State Fault Refusal :=
  act t (fun d => d.whenPorts (fun d => d.onTile (fun d => d.selectionClose wale))) s

/-- LOSS_HOLD_EXPIRY. -/
def execLossHoldExpiry (t : Time) (s : State) : Host.Outcome State Fault Refusal :=
  act t (fun d => d.whenPorts (fun d => d.lossHoldEnd)) s

/-- PRISM_WALE_DONE. -/
def execPrismWaleDone (t : Time) (wale : Nat) (met : WaleRead) (s : State) : Host.Outcome State Fault Refusal :=
  act t (fun d => d.whenPorts (fun d => d.onTile (fun d => d.prismMet wale met))) s

/-- WALE_LOAD. -/
def execWaleLoad (t : Time) (wale : Nat) (s : State) : Host.Outcome State Fault Refusal :=
  act t (fun d => d.whenPorts (fun d => d.onTile (fun d => d.waleLoad wale))) s

/-- WALE_LOAD_DEADLINE. -/
def execWaleLoadDeadline (t : Time) (wale : Nat) (s : State) : Host.Outcome State Fault Refusal :=
  act t (fun d => d.whenPorts (fun d => d.onTile (fun d => d.waleLoadDeadline wale))) s

/-- FLP_SEND (R226). -/
def execFlpSend (t : Time) (port : PortId) (second : Bool) (s : State) : Host.Outcome State Fault Refusal :=
  act t (fun d => d.whenPorts (fun d => d.flpTx port second)) s

/-- FLP_RECEIVED (R228, R414). -/
def execFlpReceived (t : Time) (port : PortId) (p : Packet) (s : State) : Host.Outcome State Fault Refusal :=
  act t (fun d => d.wire port p (fun d => d.flpRx port p)) s

/-- TIMG_DATA_WRITE (R243). -/
def execTimgDataWrite (t : Time) (sid : SessionId) (i : Nat) (b : Chunk) (s : State) :
    Host.Outcome State Fault Refusal :=
  act t (fun d => d.rowChunkAt 2 i sid (K.TIMG_DATA i) b) s

/-- TIMG_CLEAR. -/
def execTimgClear (t : Time) (sid : SessionId) (i : Nat) (v : Nat) (s : State) : Host.Outcome State Fault Refusal :=
  act t (fun d => d.rowWriteAt 2 i sid (K.TIMG_CLEAR i) v) s

/-- PRISM_CAL_IMAGE (R273). -/
def execPrismCalImage (t : Time) (sid : SessionId) (b : Chunk) (readBackOk : Bool) (s : State) :
    Host.Outcome State Fault Refusal :=
  act t (fun d => d.rowChunk sid K.PRISM_CAL_IMAGE b readBackOk) s

/-- PRISM_CAL_ERASE (R274). -/
def execPrismCalErase (t : Time) (sid : SessionId) (v : Nat) (s : State) : Host.Outcome State Fault Refusal :=
  act t (fun d => d.rowWrite sid K.PRISM_CAL_ERASE v) s

/-- CANVAS_DERIVATION_DONE (R266). -/
def execCanvasDerivationDone (t : Time) (s : State) : Host.Outcome State Fault Refusal :=
  act t (fun d => d.whenPorts (fun d => d.onTile (fun d =>
    if d.prism.derivePending then d.deriveCanvas.scanFollow else d))) s

end Sys2Proof.Machine
end

