-- ==== Sys2Proof/Machine/RowsPliuk.lean ====
section
/-!
DEFINITION. Sys2Proof/Machine/RowsPliuk.lean: the meanings of the commands of 02_control.md: Pliuk messages, the timers of
sessions, transactions and subscriptions, relays, the SPI target port and the settings write.
-/
namespace Sys2Proof.Machine

/-! ### Requests (R45 to R59, R582 to R591) -/

/-- READ. -/
def execRead (t : Time) (c : Carrier) (m : Msg) (s : State) : Host.Outcome State Fault Refusal :=
  act t (fun d => d.receiveAs 1 0 1 c m) s

/-- WRITE (R30, R50). -/
def execWrite (t : Time) (c : Carrier) (m : Msg) (s : State) : Host.Outcome State Fault Refusal :=
  act t (fun d => d.receiveAs 2 0 1 c m) s

/-- READ_BLOCK (R584). -/
def execReadBlock (t : Time) (c : Carrier) (m : Msg) (s : State) : Host.Outcome State Fault Refusal :=
  act t (fun d => d.receiveAs 3 0 1 c m) s

/-- WRITE_BLOCK (R50). -/
def execWriteBlock (t : Time) (c : Carrier) (m : Msg) (s : State) : Host.Outcome State Fault Refusal :=
  act t (fun d => d.receiveAs 4 0 1 c m) s

/-- BEGIN (R59). -/
def execBegin (t : Time) (c : Carrier) (m : Msg) (s : State) : Host.Outcome State Fault Refusal :=
  act t (fun d => d.receiveAs 5 0 1 c m) s

/-- COMMIT with WALL clear (R61). -/
def execCommit (t : Time) (c : Carrier) (m : Msg) (s : State) : Host.Outcome State Fault Refusal :=
  act t (fun d => d.receiveAs 6 0 9 c m) s

/-- COMMIT with WALL set (R62). -/
def execWallCommit (t : Time) (c : Carrier) (m : Msg) (s : State) : Host.Outcome State Fault Refusal :=
  act t (fun d => d.receiveAs 6 8 1 c m) s

/-- ROLLBACK (R590). -/
def execRollback (t : Time) (c : Carrier) (m : Msg) (s : State) : Host.Outcome State Fault Refusal :=
  act t (fun d => d.receiveAs 7 0 1 c m) s

/-- STATUS (R52). -/
def execStatus (t : Time) (c : Carrier) (m : Msg) (s : State) : Host.Outcome State Fault Refusal :=
  act t (fun d => d.receiveAs 8 0 1 c m) s

/-- A response: the acknowledgement of a NOTIFY, or nothing (R74, R586). -/
def execNotifyAck (t : Time) (c : Carrier) (m : Msg) (s : State) : Host.Outcome State Fault Refusal :=
  act t (fun d => d.receiveAs 9 1 0 c m) s

/-- SUBSCRIBE (R591). -/
def execSubscribe (t : Time) (c : Carrier) (m : Msg) (s : State) : Host.Outcome State Fault Refusal :=
  act t (fun d => d.receiveAs 10 0 1 c m) s

/-- AUTH_CHALLENGE (R53). -/
def execAuthChallenge (t : Time) (c : Carrier) (m : Msg) (s : State) : Host.Outcome State Fault Refusal :=
  act t (fun d => d.receiveAs 11 0 1 c m) s

/-- AUTH_RESPONSE (R53). -/
def execAuthResponse (t : Time) (c : Carrier) (m : Msg) (s : State) : Host.Outcome State Fault Refusal :=
  act t (fun d => d.receiveAs 12 0 1 c m) s

/-- BROADCAST_WRITE (R68). -/
def execBroadcastWrite (t : Time) (c : Carrier) (m : Msg) (s : State) : Host.Outcome State Fault Refusal :=
  act t (fun d => d.receiveAs 13 0 1 c m) s

/-- CAP_FIFO_READ: a READ_BLOCK of a capture FIFO (R106). -/
def execCapFifoRead (t : Time) (c : Carrier) (m : Msg) (s : State) : Host.Outcome State Fault Refusal :=
  act t (fun d => d.receiveAs 3 0 1 c m) s

/-! ### Timers -/

/-- PAIR_EXPIRED (R36). -/
def execPairExpired (t : Time) (key : ObjKey) (s : State) : Host.Outcome State Fault Refusal :=
  act t (fun d => d.whenControl (fun d => d.pairExpired key)) s

/-- TXN_TIMEOUT (R59). -/
def execTxnTimeout (t : Time) (txn : Nat) (s : State) : Host.Outcome State Fault Refusal :=
  act t (fun d => d.whenControl (fun d => d.txnLate txn)) s

/-- SESSION_IDLE_TIMEOUT (R57). -/
def execSessionIdleTimeout (t : Time) (sid : SessionId) (s : State) : Host.Outcome State Fault Refusal :=
  act t (fun d => d.whenControl (fun d => d.sessionIdle sid)) s

/-- AUTH_RESPONSE_TIMEOUT (R53). -/
def execAuthResponseTimeout (t : Time) (sid : SessionId) (s : State) : Host.Outcome State Fault Refusal :=
  act t (fun d => d.whenControl (fun d => d.authLate sid)) s

/-- AUTH_LOCKOUT_EXPIRY (R54). -/
def execAuthLockoutExpiry (t : Time) (src : Carrier) (s : State) : Host.Outcome State Fault Refusal :=
  act t (fun d => d.whenControl (fun d => d.lockoutEnd src)) s

/-- BLOB_STAGING_TIMEOUT (R50). -/
def execBlobStagingTimeout (t : Time) (sid : SessionId) (key : ObjKey) (s : State) : Host.Outcome State Fault Refusal :=
  act t (fun d => d.whenControl (fun d => d.stagingTimeout sid key)) s

/-- NOTIFY_RETRY_TIMEOUT (R74). -/
def execNotifyRetryTimeout (t : Time) (sid : SessionId) (seq : Nat) (s : State) : Host.Outcome State Fault Refusal :=
  act t (fun d => d.whenControl (fun d => d.notifyRetry sid seq)) s

/-- NOTIFY_INTERVAL_EXPIRY (R73). -/
def execNotifyIntervalExpiry (t : Time) (sid : SessionId) (key : ObjKey) (s : State) : Host.Outcome State Fault Refusal :=
  act t (fun d => d.whenControl (fun d => d.notifyDue sid key)) s

/-- COMMIT_VALIDATION_END (R61). -/
def execCommitValidationEnd (t : Time) (txn : Nat) (s : State) : Host.Outcome State Fault Refusal :=
  act t (fun d => d.whenControl (fun d => d.validationEnd txn)) s

/-- WALL_COMMIT_APPLY_AT_W (R63): facet control holds the commit, through a control restart too. -/
def execWallCommitApplyAtW (t : Time) (s : State) : Host.Outcome State Fault Refusal :=
  act t (fun d => d.whenFirmware (fun d => d.wallCommitDue)) s

/-- BROADCAST_APPLY_AT_W (R69). -/
def execBroadcastApplyAtW (t : Time) (s : State) : Host.Outcome State Fault Refusal :=
  act t (fun d => d.whenFirmware (fun d => d.bcastDue)) s

/-- SETTINGS_WRITE (R29, R514). -/
def execSettingsWrite (t : Time) (stopAfter : Nat) (s : State) : Host.Outcome State Fault Refusal :=
  act t (fun d => d.whenControl (fun d => d.settingsWrite stopAfter)) s

/-! ### Relays, CTL packets and the SPI target port -/

/-- RELAY_DATAGRAM (R40, R41). -/
def execRelayDatagram (t : Time) (src : Carrier) (uid : Nat) (m : Msg) (s : State) : Host.Outcome State Fault Refusal :=
  act t (fun d => d.relayRx src uid m) s

/-- CTL_FROM_TILE (R40, R414): a sender returns it to the host; a tile forwards it. -/
def execCtlFromTile (t : Time) (port : PortId) (p : Packet) (s : State) : Host.Outcome State Fault Refusal :=
  act t (fun d => d.wire port p (fun d =>
    if d.isTile then d.ctlRx port p else if d.portUp port && d.controlRuns then d.relayBack port p else d)) s

/-- CTL_BROADCAST (R70): a sender discards it (R414). -/
def execCtlBroadcast (t : Time) (port : PortId) (p : Packet) (s : State) : Host.Outcome State Fault Refusal :=
  act t (fun d => d.wire port p (fun d =>
    if d.isTile then d.bcastRx port p else if d.portUp port then d.countRx port p else d)) s

/-- CTL_TO_TILE (R410, R414): a sender discards it. -/
def execCtlToTile (t : Time) (port : PortId) (p : Packet) (s : State) : Host.Outcome State Fault Refusal :=
  act t (fun d => d.wire port p (fun d =>
    if d.isTile then d.ctlRx port p else if d.portUp port then d.countRx port p else d)) s

/-- SPI_MESSAGE_WRITE (R44). -/
def execSpiMessageWrite (t : Time) (m : Msg) (s : State) : Host.Outcome State Fault Refusal :=
  act t (fun d => d.spiWrite m) s

/-- SPI_MESSAGE_READ (R43). -/
def execSpiMessageRead (t : Time) (s : State) : Host.Outcome State Fault Refusal := act t (fun d => d.spiRead) s

/-- SPI_PORT_STATUS (R43). -/
def execSpiPortStatus (t : Time) (s : State) : Host.Outcome State Fault Refusal := act t (fun d => d.spiStatus) s

/-- SPI_RESERVED_OPERATION: ignored (R43). -/
def execSpiReservedOperation (t : Time) (_op : Nat) (s : State) : Host.Outcome State Fault Refusal :=
  act t (fun d => d) s

end Sys2Proof.Machine
end

