-- ==== Sys2Proof/Machine/RowsSense.lean ====
section
/-!
DEFINITION. Sys2Proof/Machine/RowsSense.lean: the meanings of the commands of 12_sense.md: calibration, failing inputs of
the thermal loop, and photodiode captures.
-/
namespace Sys2Proof.Machine

/-- SENSE_CAL_STEP_END (R367 to R370). -/
def execSenseCalStepEnd (t : Time) (m : CalMeasure) (s : State) : Host.Outcome State Fault Refusal :=
  act t (fun d => d.whenPorts (fun d => d.calStepEnd m)) s

/-- SNS_CAL_START (R371, R372). -/
def execSnsCalStart (t : Time) (sid : SessionId) (v : Nat) (s : State) : Host.Outcome State Fault Refusal :=
  act t (fun d => d.rowWrite sid K.SNS_CAL_START v) s

/-- SENSE_START_CAL_DONE (R373). -/
def execSenseStartCalDone (t : Time) (results : List CalMeasure) (s : State) : Host.Outcome State Fault Refusal :=
  act t (fun d => d.whenPorts (fun d => d.senseStartDone results)) s

/-- THERMAL_INPUT_FAIL_TIMEOUT (R377). -/
def execThermalInputFailTimeout (t : Time) (slot : Nat) (s : State) : Host.Outcome State Fault Refusal :=
  act t (fun d => d.whenPorts (fun d => d.onTile (fun d => d.thermFail slot))) s

/-- PD_DARK_CAPTURE: 1 into SNSi_PD_CAPTURE (R380). -/
def execPdDarkCapture (t : Time) (sid : SessionId) (i : Nat) (s : State) : Host.Outcome State Fault Refusal :=
  act t (fun d => d.rowWriteAt 16 i sid (K.SNS_PD_CAPTURE i) 1) s

/-- PD_BASELINE_CAPTURE: 2 into SNSi_PD_CAPTURE (R380). -/
def execPdBaselineCapture (t : Time) (sid : SessionId) (i : Nat) (s : State) : Host.Outcome State Fault Refusal :=
  act t (fun d => d.rowWriteAt 16 i sid (K.SNS_PD_CAPTURE i) 2) s

/-- PD_DARK_CAPTURE_DONE (R380). -/
def execPdDarkCaptureDone (t : Time) (i : Nat) (s : State) : Host.Outcome State Fault Refusal :=
  act t (fun d => d.whenPorts (fun d => d.onTile (fun d => d.pdDarkEnd i))) s

end Sys2Proof.Machine
end

