-- ==== Sys2Proof/Machine/RowsStart.lean ====
section
/-!
DEFINITION. Sys2Proof/Machine/RowsStart.lean: the meanings of the commands of 19_startup.md: reset, the start sequence,
Standby, Off and the loss of power.
-/
namespace Sys2Proof.Machine

/-- Does RST_N rise now with STRAP_TEST high: production test, to which R546 gives no behaviour? -/
def testStrapped (straps : Straps) (d : Dev) : Bool :=
  straps.test && (d.start.run == .inReset || d.start.run == .off)

/-- RESET_RELEASE (R545, R546). -/
def execResetRelease (t : Time) (straps : Straps) (s : State) : Host.Outcome State Fault Refusal :=
  if testStrapped straps s.dev then .fault .productionTest else act t (fun d => d.resetRelease straps) s

/-- RESET_ASSERT (R545). -/
def execResetAssert (t : Time) (width : Nat) (s : State) : Host.Outcome State Fault Refusal :=
  act t (fun d => d.resetAssert width) s

/-- START_STEP_COMPLETE (R548, R549). -/
def execStartStepComplete (t : Time) (r : StepResult) (s : State) : Host.Outcome State Fault Refusal :=
  act t (fun d => d.stepComplete r) s

/-- MODE_COMMIT_TIMEOUT (R548, step 8). -/
def execModeCommitTimeout (t : Time) (s : State) : Host.Outcome State Fault Refusal :=
  act t (fun d => d.modeCommitTimeout) s

/-- STANDBY_REQUEST (R556). -/
def execStandbyRequest (t : Time) (s : State) : Host.Outcome State Fault Refusal :=
  act t (fun d => d.standbyRequest) s

/-- STANDBY_EXIT_REQUEST (R558). -/
def execStandbyExitRequest (t : Time) (s : State) : Host.Outcome State Fault Refusal :=
  act t (fun d => d.standbyExitRequest) s

/-- OFF_REQUEST (R559). -/
def execOffRequest (t : Time) (s : State) : Host.Outcome State Fault Refusal := act t (fun d => d.offRequest) s

/-- OFF_READY (R559). -/
def execOffReady (t : Time) (s : State) : Host.Outcome State Fault Refusal := act t (fun d => d.offReady) s

/-- POWER_LOSS: what lies in flash, fuses and one-time storage stays; a start takes the rest at its reset values. -/
def execPowerLoss (t : Time) (s : State) : Host.Outcome State Fault Refusal := act t (fun d => d.stopDriving.goTo .off) s

end Sys2Proof.Machine
end

