-- ==== Sys2Proof/Machine/RowsTime.lean ====
section
/-!
DEFINITION. Sys2Proof/Machine/RowsTime.lean: the meanings of the commands of 03_wall_time.md: PTP on ingest and inside the
wall, the watch on the time base, captures, triggers, and the latch point and boundary of a facet.
-/
namespace Sys2Proof.Machine

/-! ### PTP on ingest (R79, R86, R90 to R93, R592) -/

/-- PTP_SYNC_RECEIVED. -/
def execPtpSyncReceived (t : Time) (port : Nat) (m : PtpMsg) (s : State) : Host.Outcome State Fault Refusal :=
  act t (fun d => d.whenPorts (fun d => d.onPtp port m (fun d => d.ptpSync port m))) s

/-- PTP_FOLLOW_UP_RECEIVED. -/
def execPtpFollowUpReceived (t : Time) (port : Nat) (m : PtpMsg) (s : State) : Host.Outcome State Fault Refusal :=
  act t (fun d => d.whenPorts (fun d => d.onPtp port m (fun d => d.ptpFollowUp port m))) s

/-- PTP_ANNOUNCE_RECEIVED (R592). -/
def execPtpAnnounceReceived (t : Time) (port : Nat) (m : PtpMsg) (s : State) : Host.Outcome State Fault Refusal :=
  act t (fun d => d.whenPorts (fun d => d.onPtp port m (fun d => d.ptpAnnounce port m))) s

/-- PTP_DELAY_RESP_RECEIVED. -/
def execPtpDelayRespReceived (t : Time) (port : Nat) (m : PtpMsg) (s : State) : Host.Outcome State Fault Refusal :=
  act t (fun d => d.whenPorts (fun d => d.onPtp port m (fun d => d.ptpDelayResp port m))) s

/-- DELAY_REQ_SEND. -/
def execDelayReqSend (t : Time) (port : Nat) (egressPs : Nat) (s : State) : Host.Outcome State Fault Refusal :=
  act t (fun d => d.whenPorts (fun d => d.onSender (fun d => d.delayReqTx port egressPs))) s

/-- ANNOUNCE_RECEIPT_TIMEOUT (R92). -/
def execAnnounceReceiptTimeout (t : Time) (port : Nat) (s : State) : Host.Outcome State Fault Refusal :=
  act t (fun d => d.whenFirmware (fun d => d.onSender (fun d => d.announceTimeout port))) s

/-- HOLDOVER_LIMIT_EXPIRY (R92, R93, R557). -/
def execHoldoverLimitExpiry (t : Time) (s : State) : Host.Outcome State Fault Refusal :=
  act t (fun d => d.whenFirmware (fun d => d.holdoverEnd)) s

/-- TIME_LOCKED (R90). -/
def execTimeLocked (t : Time) (s : State) : Host.Outcome State Fault Refusal :=
  act t (fun d => d.whenPorts (fun d => d.lockIfRun)) s

/-- SYNC_LOSS_TIMEOUT (R93). -/
def execSyncLossTimeout (t : Time) (s : State) : Host.Outcome State Fault Refusal :=
  act t (fun d => d.whenPorts (fun d => d.syncLoss)) s

/-- TIME_SOURCE_SWITCH (R86). -/
def execTimeSourceSwitch (t : Time) (s : State) : Host.Outcome State Fault Refusal :=
  act t (fun d => d.whenPorts (fun d => d.sourceSwitch)) s

/-! ### Time inside the wall (R80 to R88, R411) -/

/-- WITHY_SYNC_SEND (R81). -/
def execWithySyncSend (t : Time) (tx : SyncTx) (s : State) : Host.Outcome State Fault Refusal :=
  act t (fun d => d.whenPorts (fun d => d.syncTx tx.port tx.egressPs)) s

/-- WITHY_ANNOUNCE_SEND (R82). -/
def execWithyAnnounceSend (t : Time) (port : PortId) (s : State) : Host.Outcome State Fault Refusal :=
  act t (fun d => d.whenPorts (fun d => d.announceTx port)) s

/-- PDELAY_REQ_SEND (R80). -/
def execPdelayReqSend (t : Time) (port : PortId) (egressPs : Nat) (s : State) : Host.Outcome State Fault Refusal :=
  act t (fun d => d.whenPorts (fun d => d.pdelayTx port egressPs)) s

/-- TIM_SYNC_RECEIVED on a tile (R84, R85). -/
def execTimSyncReceived (t : Time) (port : PortId) (p : Packet) (ingressPs : Nat) (egressPs : Nat) (s : State) :
    Host.Outcome State Fault Refusal :=
  act t (fun d => d.wire port p (fun d => d.onTile (fun d => d.timSyncRx port p ingressPs egressPs))) s

/-- TIM_ANNOUNCE_RECEIVED on a tile (R82). -/
def execTimAnnounceReceived (t : Time) (port : PortId) (p : Packet) (s : State) : Host.Outcome State Fault Refusal :=
  act t (fun d => d.wire port p (fun d => d.onTile (fun d => d.timAnnounceRx port p))) s

/-- PDELAY_REQ_RECEIVED (R411). -/
def execPdelayReqReceived (t : Time) (port : PortId) (p : Packet) (ingressPs : Nat) (egressPs : Nat) (s : State) :
    Host.Outcome State Fault Refusal :=
  act t (fun d => d.whenPorts (fun d => d.pdelayReqRx port p ingressPs egressPs)) s

/-- PDELAY_RESP_RECEIVED (R84). -/
def execPdelayRespReceived (t : Time) (port : PortId) (p : Packet) (ingressPs : Nat) (s : State) :
    Host.Outcome State Fault Refusal :=
  act t (fun d => d.whenPorts (fun d => d.pdelayRespRx port p ingressPs)) s

/-- PAIR_SYNC_RECEIVED on a sender (R83). -/
def execPairSyncReceived (t : Time) (port : PortId) (p : Packet) (ingressPs : Nat) (s : State) :
    Host.Outcome State Fault Refusal :=
  act t (fun d => d.whenPorts (fun d => d.onSender (fun d => d.pairSyncRx port p ingressPs))) s

/-- PAIR_OFFSET_FAULT (R83). -/
def execPairOffsetFault (t : Time) (s : State) : Host.Outcome State Fault Refusal :=
  act t (fun d => d.whenPorts (fun d => d.pairOffsetCheck)) s

/-- DIR_CHECK_FAULT (R88). -/
def execDirCheckFault (t : Time) (s : State) : Host.Outcome State Fault Refusal :=
  act t (fun d => d.whenPorts (fun d => d.dirCheck)) s

/-- TIME_BASE_CHECK. -/
def execTimeBaseCheck (t : Time) (pllLocked : Bool) (ppm : Int) (s : State) : Host.Outcome State Fault Refusal :=
  act t (fun d => d.whenFirmware (fun d => d.baseCheck pllLocked ppm)) s

/-! ### Captures and triggers (R98 to R111) -/

/-- CAPTURE_EDGE. -/
def execCaptureEdge (t : Time) (n : Nat) (rising : Bool) (width : Nat) (s : State) : Host.Outcome State Fault Refusal :=
  act t (fun d => d.whenFirmware (fun d => d.captureEdge n rising width)) s

/-- SHUTTER_OPEN_TIMEOUT. -/
def execShutterOpenTimeout (t : Time) (n : Nat) (s : State) : Host.Outcome State Fault Refusal :=
  act t (fun d => d.whenFirmware (fun d => d.shutterTimeout n)) s

/-- TRIG_MODE_WRITE. -/
def execTrigModeWrite (t : Time) (sid : SessionId) (n : Nat) (v : Nat) (s : State) : Host.Outcome State Fault Refusal :=
  act t (fun d => d.rowWriteAt 8 n sid (K.TRIG_MODE n) v) s

/-- TRIGGER_EDGE. -/
def execTriggerEdge (t : Time) (n : Nat) (s : State) : Host.Outcome State Fault Refusal :=
  act t (fun d => d.whenFirmware (fun d => d.trigFire n)) s

/-- SENSE_CONVERSION_TRIGGER (R362, R538). -/
def execSenseConversionTrigger (t : Time) (codes : List SenseReading) (dieTemp : Int) (s : State) :
    Host.Outcome State Fault Refusal :=
  act t (fun d => d.whenPorts (fun d => (d.convert codes dieTemp).checkDieTemp)) s

/-- THERMAL_LOOP_TRIGGER (R374); the gains hold while the control processors restart (R537). -/
def execThermalLoopTrigger (t : Time) (s : State) : Host.Outcome State Fault Refusal :=
  act t (fun d => d.whenPorts (fun d =>
    if d.controlRuns then d.checkRails d.thermalCycle else d.windowPasses)) s

/-! ### Facets (R226 to R237) -/

/-- LATCH_POINT (R233). -/
def execLatchPoint (t : Time) (upsets : Upsets) (s : State) : Host.Outcome State Fault Refusal :=
  act t (fun d => d.whenPorts (fun d => d.latchPoint upsets)) s

/-- FACET_BOUNDARY (R230). -/
def execFacetBoundary (t : Time) (s : State) : Host.Outcome State Fault Refusal :=
  act t (fun d => d.whenPorts (fun d => d.facetBoundary)) s

end Sys2Proof.Machine
end

