-- ==== Sys2Proof/Machine/RowsUpdate.lean ====
section
/-!
DEFINITION. Sys2Proof/Machine/RowsUpdate.lean: the meanings of the commands of 17_update.md and 18_integrity.md: firmware
update, the persistent fault log, stalls and lockstep, core voltage, configuration stores, and one-time storage.
-/
namespace Sys2Proof.Machine

/-! ### Update (R485 to R519) -/

/-- UPD_IMAGE (R493 to R495). -/
def execUpdImage (t : Time) (sid : SessionId) (b : Chunk) (s : State) : Host.Outcome State Fault Refusal :=
  act t (fun d => d.rowChunk sid K.UPD_IMAGE b true) s

/-- UPD_VERIFY_DONE (R496, R500). -/
def execUpdVerifyDone (t : Time) (readBackOk : Bool) (s : State) : Host.Outcome State Fault Refusal :=
  act t (fun d => d.whenControl (fun d => d.updVerified readBackOk)) s

/-- UPD_CHUNK_TIMEOUT (R495). -/
def execUpdChunkTimeout (t : Time) (s : State) : Host.Outcome State Fault Refusal :=
  act t (fun d => d.whenControl (fun d => d.updChunkLate)) s

/-- UPD_ACTIVATE (R501, R502). -/
def execUpdActivate (t : Time) (sid : SessionId) (v : Nat) (s : State) : Host.Outcome State Fault Refusal :=
  act t (fun d => d.rowWrite sid K.UPD_ACTIVATE v) s

/-- UPD_PREPARATION_DONE (R503, R515, R516). -/
def execUpdPreparationDone (t : Time) (s : State) : Host.Outcome State Fault Refusal :=
  act t (fun d => d.whenControl (fun d => d.updPrepared)) s

/-- UPD_ACTIVATION_INSTANT (R504). -/
def execUpdActivationInstant (t : Time) (s : State) : Host.Outcome State Fault Refusal :=
  act t (fun d => d.whenControl (fun d => d.updInstant)) s

/-- UPD_TRIAL_ENTRY (R506). -/
def execUpdTrialEntry (t : Time) (s : State) : Host.Outcome State Fault Refusal :=
  act t (fun d => d.whenControl (fun d => d.updTrialEntry)) s

/-- UPD_CONFIRM (R510). -/
def execUpdConfirm (t : Time) (sid : SessionId) (v : Nat) (s : State) : Host.Outcome State Fault Refusal :=
  act t (fun d => d.rowWrite sid K.UPD_CONFIRM v) s

/-- UPD_ABORT (R511, R512). -/
def execUpdAbort (t : Time) (sid : SessionId) (v : Nat) (s : State) : Host.Outcome State Fault Refusal :=
  act t (fun d => d.rowWrite sid K.UPD_ABORT v) s

/-- UPD_TRIAL_EXPIRY (R511, R512). -/
def execUpdTrialExpiry (t : Time) (s : State) : Host.Outcome State Fault Refusal :=
  act t (fun d => d.whenControl (fun d => d.updTrialExpiry)) s

/-! ### The persistent fault log (R523, R525) -/

/-- FLOG_PERSIST_WRITE. -/
def execFlogPersistWrite (t : Time) (s : State) : Host.Outcome State Fault Refusal :=
  act t (fun d => d.whenControl (fun d => d.flogPersist)) s

/-- FLOG_CLEAR. -/
def execFlogClear (t : Time) (sid : SessionId) (v : Nat) (s : State) : Host.Outcome State Fault Refusal :=
  act t (fun d => d.rowWrite sid K.FLOG_CLEAR v) s

/-! ### Watchdogs, lockstep, core voltage, configuration stores (R530 to R537) -/

/-- STAGE_STALL (R531, R532). -/
def execStageStall (t : Time) (stage : Nat) (port : PortId) (dist : Nat) (wale : Nat) (s : State) :
    Host.Outcome State Fault Refusal :=
  act t (fun d => d.whenPorts (fun d => d.stageStall stage port dist wale)) s

/-- LOCKSTEP_DIVERGENCE (R537, R538). -/
def execLockstepDivergence (t : Time) (poisoned : Option PoisonAt) (s : State) : Host.Outcome State Fault Refusal :=
  act t (fun d => d.whenFirmware (fun d => d.diverge poisoned)) s

/-- CONTROL_RESTART_DONE: Pliuk resumes, and messages that wait in the SPI target port are taken (R44, R537). -/
def execControlRestartDone (t : Time) (s : State) : Host.Outcome State Fault Refusal :=
  act t (fun d => d.whenFirmware (fun d => d.restartDone.drainSpi 5)) s

/-- CONTROL_RESTART_TIMEOUT (R538). -/
def execControlRestartTimeout (t : Time) (s : State) : Host.Outcome State Fault Refusal :=
  act t (fun d => d.whenFirmware (fun d => d.restartTimeout)) s

/-- AVS_ADJUST (R533). -/
def execAvsAdjust (t : Time) (rate : Nat) (x : AvsStep) (s : State) : Host.Outcome State Fault Refusal :=
  act t (fun d => d.whenPorts (fun d => d.avsAdjust rate x)) s

/-- AVS_READ (R534). -/
def execAvsRead (t : Time) (answer : Option (Nat × Nat)) (s : State) : Host.Outcome State Fault Refusal :=
  act t (fun d => d.whenFirmware (fun d => d.avsRead answer)) s

/-- CONFIG_SCRUB (R535). -/
def execConfigScrub (t : Time) (store : Nat) (e : EccKind) (s : State) : Host.Outcome State Fault Refusal :=
  act t (fun d => d.whenFirmware (fun d => d.configScrub store e)) s

/-- CONFIG_RELOAD_DONE (R535, R536). -/
def execConfigReloadDone (t : Time) (store : Nat) (s : State) : Host.Outcome State Fault Refusal :=
  act t (fun d => d.whenFirmware (fun d => d.reloadDone store)) s

/-! ### Safe states and one-time storage (R541 to R544) -/

/-- INTEG_CLEAR_SAFE (R541, R542). -/
def execIntegClearSafe (t : Time) (sid : SessionId) (v : Nat) (stalled : Nat) (crcOk : Bool) (s : State) :
    Host.Outcome State Fault Refusal :=
  act t (fun d => d.rowClearSafe sid v stalled crcOk) s

/-- OTP_SAFETY_KEY (R543). -/
def execOtpSafetyKey (t : Time) (sid : SessionId) (key : Bytes) (s : State) : Host.Outcome State Fault Refusal :=
  act t (fun d => d.rowChunk sid K.OTP_SAFETY_KEY (Dev.wholeChunk key) true) s

/-- OTP_KEY_REVOKE (R544). -/
def execOtpKeyRevoke (t : Time) (sid : SessionId) (v : Nat) (s : State) : Host.Outcome State Fault Refusal :=
  act t (fun d => d.rowWrite sid K.OTP_KEY_REVOKE v) s

end Sys2Proof.Machine
end

