-- ==== Sys2Proof/Machine/RowsWear.lean ====
section
/-!
DEFINITION. Sys2Proof/Machine/RowsWear.lean: the meanings of the commands of 10_overlay_checks.md and
11_wear_ledger.md: authenticated overlay commands and images, the ledger's second, its checkpoints and service writes,
and ceiling requests.
-/
namespace Sys2Proof.Machine

/-! ### Overlays (R321 to R332) -/

/-- OVL_LOAD: CMD 1. -/
def execOvlLoad (t : Time) (sid : SessionId) (body : Bytes) (s : State) : Host.Outcome State Fault Refusal :=
  act t (fun d => d.rowOverlay sid 1 body) s

/-- OVL_ACTIVATE: CMD 2. -/
def execOvlActivate (t : Time) (sid : SessionId) (body : Bytes) (s : State) : Host.Outcome State Fault Refusal :=
  act t (fun d => d.rowOverlay sid 2 body) s

/-- OVL_DEACTIVATE: CMD 3. -/
def execOvlDeactivate (t : Time) (sid : SessionId) (body : Bytes) (s : State) : Host.Outcome State Fault Refusal :=
  act t (fun d => d.rowOverlay sid 3 body) s

/-- OVL_CLEAR: CMD 4. -/
def execOvlClear (t : Time) (sid : SessionId) (body : Bytes) (s : State) : Host.Outcome State Fault Refusal :=
  act t (fun d => d.rowOverlay sid 4 body) s

/-- OVL_DEACTIVATE_ALL: CMD 5. -/
def execOvlDeactivateAll (t : Time) (sid : SessionId) (body : Bytes) (s : State) : Host.Outcome State Fault Refusal :=
  act t (fun d => d.rowOverlay sid 5 body) s

/-- OVL_RESERVED_CMD: refused with RANGE where the checks before it pass (R326). -/
def execOvlReservedCmd (t : Time) (sid : SessionId) (cmd : Nat) (body : Bytes) (s : State) :
    Host.Outcome State Fault Refusal :=
  act t (fun d => d.rowOverlay sid cmd body) s

/-- OVL_DATA_WRITE (R323, R324). -/
def execOvlDataWrite (t : Time) (sid : SessionId) (k : Nat) (b : Chunk) (s : State) : Host.Outcome State Fault Refusal :=
  act t (fun d => d.rowChunkAt 4 k sid (K.OVL_DATA k) b) s

/-! ### The wear ledger (R338 to R361) -/

/-- LEDGER_FOLD (R340). -/
def execLedgerFold (t : Time) (reads : FoldReads) (s : State) : Host.Outcome State Fault Refusal :=
  act t (fun d => d.whenPorts (fun d => d.onTile (fun d => d.ledgerTick reads))) s

/-- CHECKPOINT_COMPLETE (R352). -/
def execCheckpointComplete (t : Time) (failing : List (Nat × Nat)) (s : State) : Host.Outcome State Fault Refusal :=
  act t (fun d => d.whenFirmware (fun d => d.onTile (fun d => d.finishCkpt failing))) s

/-- LEDG_CHECKPOINT_NOW. -/
def execLedgCheckpointNow (t : Time) (sid : SessionId) (v : Nat) (s : State) : Host.Outcome State Fault Refusal :=
  act t (fun d => d.rowWrite sid K.LEDG_CHECKPOINT_NOW v) s

/-- LEDG_FORMAT (R359). -/
def execLedgFormat (t : Time) (sid : SessionId) (v : Nat) (s : State) : Host.Outcome State Fault Refusal :=
  act t (fun d => d.rowWrite sid K.LEDG_FORMAT v) s

/-- LEDG_LAMP_RESET (R359). -/
def execLedgLampReset (t : Time) (sid : SessionId) (v : Nat) (s : State) : Host.Outcome State Fault Refusal :=
  act t (fun d => d.rowWrite sid K.LEDG_LAMP_RESET v) s

/-- LEDG_TILE_CEILING_RESET (R359). -/
def execLedgTileCeilingReset (t : Time) (sid : SessionId) (v : Nat) (s : State) : Host.Outcome State Fault Refusal :=
  act t (fun d => d.rowWrite sid K.LEDG_TILE_CEILING_RESET v) s

/-- CEILING_REQUEST_RESEND (R348). -/
def execCeilingRequestResend (t : Time) (s : State) : Host.Outcome State Fault Refusal :=
  act t (fun d => d.whenPorts (fun d => d.requestResend)) s

/-- CTL_CEILING_REQUEST: a sender notes it; a tile forwards it (R348, R414). -/
def execCtlCeilingRequest (t : Time) (port : PortId) (p : Packet) (s : State) : Host.Outcome State Fault Refusal :=
  act t (fun d => d.wire port p (fun d => if d.isTile then d.ctlRx port p else d.ceilingRequestRx port p)) s

/-- CEILING_REQUEST_EXPIRY (R349). -/
def execCeilingRequestExpiry (t : Time) (uid : Nat) (s : State) : Host.Outcome State Fault Refusal :=
  act t (fun d => d.whenPorts (fun d => d.requestExpiry uid)) s

end Sys2Proof.Machine
end

