-- ==== Sys2Proof/Machine/RowsWithy.lean ====
section
/-!
DEFINITION. Sys2Proof/Machine/RowsWithy.lean: the meanings of the commands of 13_withy.md: lanes and bring-up, columns and
grant runs, link checks, reserved classes, and enumeration.
-/
namespace Sys2Proof.Machine

/-! ### Lanes and bring-up (R387, R394 to R402) -/

/-- LANE_LOCK_GAINED. -/
def execLaneLockGained (t : Time) (port : PortId) (lane : Nat) (align : LaneAlign) (s : State) :
    Host.Outcome State Fault Refusal :=
  act t (fun d => d.whenPorts (fun d => d.laneGained port lane align)) s

/-- LANE_LOCK_LOST. -/
def execLaneLockLost (t : Time) (link : PortErrors) (lane : Nat) (midPacket : Option Packet)
    (s : State) : Host.Outcome State Fault Refusal :=
  act t (fun d => d.whenPorts (fun d => d.laneLost link.port lane midPacket link.syncErrors)) s

/-- HELLO_RECEIVED. -/
def execHelloReceived (t : Time) (port : PortId) (p : Packet) (s : State) : Host.Outcome State Fault Refusal :=
  act t (fun d => d.whenPorts (fun d => d.helloRx port p)) s

/-- HELLO_SEND. -/
def execHelloSend (t : Time) (port : PortId) (s : State) : Host.Outcome State Fault Refusal :=
  act t (fun d => d.whenPorts (fun d => d.helloTick port)) s

/-- STEP_LOCK_TIMEOUT. -/
def execStepLockTimeout (t : Time) (port : PortId) (s : State) : Host.Outcome State Fault Refusal :=
  act t (fun d => d.whenPorts (fun d => d.stepLockLate port)) s

/-- STEP_VERIFY_END. -/
def execStepVerifyEnd (t : Time) (link : PortErrors) (s : State) : Host.Outcome State Fault Refusal :=
  act t (fun d => d.whenPorts (fun d => d.verifyEnd link.port link.syncErrors)) s

/-- CHK_PATTERN_RECEIVED. -/
def execChkPatternReceived (t : Time) (port : PortId) (p : Packet) (s : State) : Host.Outcome State Fault Refusal :=
  act t (fun d => d.whenPorts (fun d => d.chkPatternRx port p)) s

/-- HELLO_TIMEOUT. -/
def execHelloTimeout (t : Time) (port : PortId) (s : State) : Host.Outcome State Fault Refusal :=
  act t (fun d => d.whenPorts (fun d => d.helloLate port)) s

/-- ATTEMPT_BACKOFF_EXPIRY. -/
def execAttemptBackoffExpiry (t : Time) (port : PortId) (s : State) : Host.Outcome State Fault Refusal :=
  act t (fun d => d.whenPorts (fun d => d.backoffOver port)) s

/-- DARK_BEACON. -/
def execDarkBeacon (t : Time) (port : PortId) (start : Bool) (s : State) : Host.Outcome State Fault Refusal :=
  act t (fun d => d.whenPorts (fun d => d.beaconTurn port start)) s

/-- WITHY_RETRAIN (R399). -/
def execWithyRetrain (t : Time) (sid : SessionId) (h : PortId) (v : Nat) (s : State) :
    Host.Outcome State Fault Refusal :=
  act t (fun d => d.rowWriteAt 4 h sid (K.WITHY_RETRAIN h) v) s

/-- WITHY_ENABLE (R398's table, R399). -/
def execWithyEnable (t : Time) (sid : SessionId) (h : PortId) (v : Nat) (s : State) :
    Host.Outcome State Fault Refusal :=
  act t (fun d => d.rowWriteAt 4 h sid (K.WITHY_ENABLE h) v) s

/-- STEP_UP_RETRY (R402). -/
def execStepUpRetry (t : Time) (port : PortId) (s : State) : Host.Outcome State Fault Refusal :=
  act t (fun d => d.whenPorts (fun d => d.stepUpTick port)) s

/-- EQ_TABLE_WRITE (R393). -/
def execEqTableWrite (t : Time) (sid : SessionId) (b : Chunk) (s : State) : Host.Outcome State Fault Refusal :=
  act t (fun d => d.rowChunk sid K.EQ_TABLE b true) s

/-! ### Columns (R386 to R390, R416, R417) -/

/-- SLACK_COLUMN_RECEIVED. -/
def execSlackColumnReceived (t : Time) (port : PortId) (depth : Nat) (s : State) : Host.Outcome State Fault Refusal :=
  act t (fun d => d.whenForwarding (fun d => d.slackRx port depth)) s

/-- SLACK_SEND. -/
def execSlackSend (t : Time) (port : PortId) (s : State) : Host.Outcome State Fault Refusal :=
  act t (fun d => d.whenPorts (fun d => d.slackTick port)) s

/-- ALIGN_SEND. -/
def execAlignSend (t : Time) (port : PortId) (s : State) : Host.Outcome State Fault Refusal :=
  act t (fun d => d.whenPorts (fun d => d.alignTick port)) s

/-- SLACK_INSERT. -/
def execSlackInsert (t : Time) (slot : FifoSlot) (s : State) : Host.Outcome State Fault Refusal :=
  act t (fun d => d.whenForwarding (fun d => d.slackInsert slot)) s

/-- BLOCK_ERROR. -/
def execBlockError (t : Time) (place : BlockPlace) (s : State) : Host.Outcome State Fault Refusal :=
  act t (fun d => d.whenForwarding (fun d => d.blockErr place)) s

/-- GRANT_RUN_OPEN. -/
def execGrantRunOpen (t : Time) (tx : SyncTx) (s : State) : Host.Outcome State Fault Refusal :=
  act t (fun d => d.whenPorts (fun d => d.grantTick tx)) s

/-- GRANT_RECEIVED. -/
def execGrantReceived (t : Time) (port : PortId) (run : GrantRun) (s : State) : Host.Outcome State Fault Refusal :=
  act t (fun d => d.whenForwarding (fun d => d.grantRx port run)) s

/-- GRANT_TIMEOUT. -/
def execGrantTimeout (t : Time) (port : PortId) (s : State) : Host.Outcome State Fault Refusal :=
  act t (fun d => d.whenPorts (fun d => d.grantLate port)) s

/-! ### Packets (R406, R411, R413, R420 to R425) -/

/-- CHK_SEND. -/
def execChkSend (t : Time) (link : PortErrors) (s : State) : Host.Outcome State Fault Refusal :=
  act t (fun d => d.whenPorts (fun d => d.chkTx link.port link.syncErrors)) s

/-- CHK_RECEIVED. -/
def execChkReceived (t : Time) (port : PortId) (p : Packet) (s : State) : Host.Outcome State Fault Refusal :=
  act t (fun d => d.whenPorts (fun d => d.chkRx port p)) s

/-- UNKNOWN_CLASS_PACKET. -/
def execUnknownClassPacket (t : Time) (port : PortId) (p : Packet) (s : State) : Host.Outcome State Fault Refusal :=
  act t (fun d => d.wire port p (fun d => d.unknownPacket port p)) s

/-- ENUM_SEND on a sender. -/
def execEnumSend (t : Time) (port : PortId) (s : State) : Host.Outcome State Fault Refusal :=
  act t (fun d => d.whenPorts (fun d => d.onSender (fun d => d.enumTx port))) s

/-- ENUM_RECEIVED on a tile: the first enumeration settles its position (R420, R421, R444). -/
def execEnumReceived (t : Time) (port : PortId) (p : Packet) (s : State) : Host.Outcome State Fault Refusal :=
  act t (fun d => d.wire port p (fun d => d.onTile (fun d => ((d.enumRx port p).takePosition).scanFollow))) s

/-- ENUM_RECEIVED_SENDER (R424): tiles without a placement entry are counted (R443), and a region that an arm has enlarged
may make the committed state fail its planning rules (R21). -/
def execEnumReceivedSender (t : Time) (port : PortId) (p : Packet) (s : State) : Host.Outcome State Fault Refusal :=
  act t (fun d => d.whenPorts (fun d => d.onSender (fun d =>
    (if d.enumTaken port p then (d.enumRxSender port p).countUnplaced port else d.enumRxSender port p).reviewPlan))) s

/-- HOOP_OPEN_TIMEOUT (R424). -/
def execHoopOpenTimeout (t : Time) (port : PortId) (s : State) : Host.Outcome State Fault Refusal :=
  act t (fun d => d.whenFirmware (fun d => d.hoopOpen port)) s

/-- ENUM_PORT_TIMEOUT (R423). -/
def execEnumPortTimeout (t : Time) (port : PortId) (s : State) : Host.Outcome State Fault Refusal :=
  act t (fun d => d.whenFirmware (fun d => (d.enumLate port).scanFollow)) s

end Sys2Proof.Machine
end

