-- ==== Sys2Proof/Machine/Dispatch.lean ====
section
/-!
DEFINITION. Sys2Proof/Machine/Dispatch.lean: one arm per constructor of `Instr`, each one call of its meaning.
-/
namespace Sys2Proof.Machine

def exec (i : Instr) (s : State) : Host.Outcome State Fault Refusal :=
  match i with
  | .read t c m => Sys2Proof.Machine.execRead t c m s
  | .write t c m => Sys2Proof.Machine.execWrite t c m s
  | .readBlock t c m => Sys2Proof.Machine.execReadBlock t c m s
  | .writeBlock t c m => Sys2Proof.Machine.execWriteBlock t c m s
  | .begin t c m => Sys2Proof.Machine.execBegin t c m s
  | .commit t c m => Sys2Proof.Machine.execCommit t c m s
  | .wallCommit t c m => Sys2Proof.Machine.execWallCommit t c m s
  | .rollback t c m => Sys2Proof.Machine.execRollback t c m s
  | .status t c m => Sys2Proof.Machine.execStatus t c m s
  | .notifyAck t c m => Sys2Proof.Machine.execNotifyAck t c m s
  | .subscribe t c m => Sys2Proof.Machine.execSubscribe t c m s
  | .authChallenge t c m => Sys2Proof.Machine.execAuthChallenge t c m s
  | .authResponse t c m => Sys2Proof.Machine.execAuthResponse t c m s
  | .broadcastWrite t c m => Sys2Proof.Machine.execBroadcastWrite t c m s
  | .pairExpired t key => Sys2Proof.Machine.execPairExpired t key s
  | .txnTimeout t txn => Sys2Proof.Machine.execTxnTimeout t txn s
  | .sessionIdleTimeout t sid => Sys2Proof.Machine.execSessionIdleTimeout t sid s
  | .authResponseTimeout t sid => Sys2Proof.Machine.execAuthResponseTimeout t sid s
  | .authLockoutExpiry t src => Sys2Proof.Machine.execAuthLockoutExpiry t src s
  | .blobStagingTimeout t sid key => Sys2Proof.Machine.execBlobStagingTimeout t sid key s
  | .notifyRetryTimeout t sid seq => Sys2Proof.Machine.execNotifyRetryTimeout t sid seq s
  | .notifyIntervalExpiry t sid key => Sys2Proof.Machine.execNotifyIntervalExpiry t sid key s
  | .commitValidationEnd t txn => Sys2Proof.Machine.execCommitValidationEnd t txn s
  | .wallCommitApplyAtW t => Sys2Proof.Machine.execWallCommitApplyAtW t s
  | .relayDatagram t src uid m => Sys2Proof.Machine.execRelayDatagram t src uid m s
  | .ctlFromTile t port p => Sys2Proof.Machine.execCtlFromTile t port p s
  | .spiMessageWrite t m => Sys2Proof.Machine.execSpiMessageWrite t m s
  | .spiMessageRead t => Sys2Proof.Machine.execSpiMessageRead t s
  | .spiPortStatus t => Sys2Proof.Machine.execSpiPortStatus t s
  | .spiReservedOperation t op => Sys2Proof.Machine.execSpiReservedOperation t op s
  | .settingsWrite t stopAfter => Sys2Proof.Machine.execSettingsWrite t stopAfter s
  | .ctlBroadcast t port p => Sys2Proof.Machine.execCtlBroadcast t port p s
  | .ctlToTile t port p => Sys2Proof.Machine.execCtlToTile t port p s
  | .ptpSyncReceived t port m => Sys2Proof.Machine.execPtpSyncReceived t port m s
  | .ptpFollowUpReceived t port m => Sys2Proof.Machine.execPtpFollowUpReceived t port m s
  | .ptpAnnounceReceived t port m => Sys2Proof.Machine.execPtpAnnounceReceived t port m s
  | .ptpDelayRespReceived t port m => Sys2Proof.Machine.execPtpDelayRespReceived t port m s
  | .delayReqSend t port egressPs => Sys2Proof.Machine.execDelayReqSend t port egressPs s
  | .announceReceiptTimeout t port => Sys2Proof.Machine.execAnnounceReceiptTimeout t port s
  | .holdoverLimitExpiry t => Sys2Proof.Machine.execHoldoverLimitExpiry t s
  | .timeLocked t => Sys2Proof.Machine.execTimeLocked t s
  | .syncLossTimeout t => Sys2Proof.Machine.execSyncLossTimeout t s
  | .timeSourceSwitch t => Sys2Proof.Machine.execTimeSourceSwitch t s
  | .withySyncSend t tx => Sys2Proof.Machine.execWithySyncSend t tx s
  | .withyAnnounceSend t port => Sys2Proof.Machine.execWithyAnnounceSend t port s
  | .pdelayReqSend t port egressPs => Sys2Proof.Machine.execPdelayReqSend t port egressPs s
  | .timSyncReceived t port p ingressPs egressPs => Sys2Proof.Machine.execTimSyncReceived t port p ingressPs egressPs s
  | .timAnnounceReceived t port p => Sys2Proof.Machine.execTimAnnounceReceived t port p s
  | .pdelayReqReceived t port p ingressPs egressPs => Sys2Proof.Machine.execPdelayReqReceived t port p ingressPs egressPs s
  | .pdelayRespReceived t port p ingressPs => Sys2Proof.Machine.execPdelayRespReceived t port p ingressPs s
  | .pairSyncReceived t port p ingressPs => Sys2Proof.Machine.execPairSyncReceived t port p ingressPs s
  | .pairOffsetFault t => Sys2Proof.Machine.execPairOffsetFault t s
  | .dirCheckFault t => Sys2Proof.Machine.execDirCheckFault t s
  | .timeBaseCheck t pllLocked ppm => Sys2Proof.Machine.execTimeBaseCheck t pllLocked ppm s
  | .captureEdge t n rising width => Sys2Proof.Machine.execCaptureEdge t n rising width s
  | .shutterOpenTimeout t n => Sys2Proof.Machine.execShutterOpenTimeout t n s
  | .capFifoRead t c m => Sys2Proof.Machine.execCapFifoRead t c m s
  | .trigModeWrite t sid n v => Sys2Proof.Machine.execTrigModeWrite t sid n v s
  | .triggerEdge t n => Sys2Proof.Machine.execTriggerEdge t n s
  | .senseConversionTrigger t codes dieTemp => Sys2Proof.Machine.execSenseConversionTrigger t codes dieTemp s
  | .thermalLoopTrigger t => Sys2Proof.Machine.execThermalLoopTrigger t s
  | .latchPoint t upsets => Sys2Proof.Machine.execLatchPoint t upsets s
  | .facetBoundary t => Sys2Proof.Machine.execFacetBoundary t s
  | .ingestRtpPacket t port p => Sys2Proof.Machine.execIngestRtpPacket t port p s
  | .ingestArpRequest t frame target sender senderMac => Sys2Proof.Machine.execIngestArpRequest t frame target sender senderMac s
  | .ingestIcmpEcho t frame dst src data => Sys2Proof.Machine.execIngestIcmpEcho t frame dst src data s
  | .frameIncompleteTimeout t slot => Sys2Proof.Machine.execFrameIncompleteTimeout t slot s
  | .legLossTimeout t slot leg => Sys2Proof.Machine.execLegLossTimeout t slot leg s
  | .stillDataWrite t sid n b => Sys2Proof.Machine.execStillDataWrite t sid n b s
  | .stillCapture t sid n v => Sys2Proof.Machine.execStillCapture t sid n v s
  | .stillCaptureInstant t n => Sys2Proof.Machine.execStillCaptureInstant t n s
  | .stillCaptureTimeout t n => Sys2Proof.Machine.execStillCaptureTimeout t n s
  | .stillRelease t sid n v => Sys2Proof.Machine.execStillRelease t sid n v s
  | .encodeWale t port dist wale met => Sys2Proof.Machine.execEncodeWale t port dist wale met s
  | .waleDeadline t port dist wale => Sys2Proof.Machine.execWaleDeadline t port dist wale s
  | .pixFragmentReceived t port p canStart => Sys2Proof.Machine.execPixFragmentReceived t port p canStart s
  | .decodeWale t path frame facet wale met => Sys2Proof.Machine.execDecodeWale t path frame facet wale met s
  | .pathSelectionClose t wale => Sys2Proof.Machine.execPathSelectionClose t wale s
  | .lossHoldExpiry t => Sys2Proof.Machine.execLossHoldExpiry t s
  | .prismWaleDone t wale met => Sys2Proof.Machine.execPrismWaleDone t wale met s
  | .waleLoad t wale => Sys2Proof.Machine.execWaleLoad t wale s
  | .waleLoadDeadline t wale => Sys2Proof.Machine.execWaleLoadDeadline t wale s
  | .flpSend t port second => Sys2Proof.Machine.execFlpSend t port second s
  | .flpReceived t port p => Sys2Proof.Machine.execFlpReceived t port p s
  | .timgDataWrite t sid n b => Sys2Proof.Machine.execTimgDataWrite t sid n b s
  | .timgClear t sid n v => Sys2Proof.Machine.execTimgClear t sid n v s
  | .prismCalImage t sid b readBackOk => Sys2Proof.Machine.execPrismCalImage t sid b readBackOk s
  | .prismCalErase t sid v => Sys2Proof.Machine.execPrismCalErase t sid v s
  | .canvasDerivationDone t => Sys2Proof.Machine.execCanvasDerivationDone t s
  | .ldlBringupDone t results => Sys2Proof.Machine.execLdlBringupDone t results s
  | .sretEcho t strand words => Sys2Proof.Machine.execSretEcho t strand words s
  | .echoTimeout t strand => Sys2Proof.Machine.execEchoTimeout t strand s
  | .brokenProbe t strand back => Sys2Proof.Machine.execBrokenProbe t strand back s
  | .diagRead t => Sys2Proof.Machine.execDiagRead t s
  | .lampVerifyExpiry t lamp => Sys2Proof.Machine.execLampVerifyExpiry t lamp s
  | .lampClear t sid v => Sys2Proof.Machine.execLampClear t sid v s
  | .writeRow t strand pos p => Sys2Proof.Machine.execWriteRow t strand pos p s
  | .setPlan t strand pos p => Sys2Proof.Machine.execSetPlan t strand pos p s
  | .flip t strand pos p => Sys2Proof.Machine.execFlip t strand pos p s
  | .setRange t strand pos p => Sys2Proof.Machine.execSetRange t strand pos p s
  | .blank t strand pos p => Sys2Proof.Machine.execBlank t strand pos p s
  | .unblank t strand pos p => Sys2Proof.Machine.execUnblank t strand pos p s
  | .test t strand pos p => Sys2Proof.Machine.execTest t strand pos p s
  | .readDiagRowFlags t strand pos p => Sys2Proof.Machine.execReadDiagRowFlags t strand pos p s
  | .readDiagStatus t strand pos p => Sys2Proof.Machine.execReadDiagStatus t strand pos p s
  | .readDiagIdent t strand pos p => Sys2Proof.Machine.execReadDiagIdent t strand pos p s
  | .readDiagReserved t strand pos p => Sys2Proof.Machine.execReadDiagReserved t strand pos p s
  | .enumerate t strand pos p => Sys2Proof.Machine.execEnumerate t strand pos p s
  | .ldlReservedOpcode t strand pos p => Sys2Proof.Machine.execLdlReservedOpcode t strand pos p s
  | .gclkMark t strand pos => Sys2Proof.Machine.execGclkMark t strand pos s
  | .bankExchange t strand pos => Sys2Proof.Machine.execBankExchange t strand pos s
  | .litIntervalEnd t strand pos row seg volts => Sys2Proof.Machine.execLitIntervalEnd t strand pos row seg volts s
  | .testPulse t strand pos volts => Sys2Proof.Machine.execTestPulse t strand pos volts s
  | .ovlLoad t sid body => Sys2Proof.Machine.execOvlLoad t sid body s
  | .ovlActivate t sid body => Sys2Proof.Machine.execOvlActivate t sid body s
  | .ovlDeactivate t sid body => Sys2Proof.Machine.execOvlDeactivate t sid body s
  | .ovlClear t sid body => Sys2Proof.Machine.execOvlClear t sid body s
  | .ovlDeactivateAll t sid body => Sys2Proof.Machine.execOvlDeactivateAll t sid body s
  | .ovlReservedCmd t sid cmd body => Sys2Proof.Machine.execOvlReservedCmd t sid cmd body s
  | .ovlDataWrite t sid k b => Sys2Proof.Machine.execOvlDataWrite t sid k b s
  | .ledgerFold t reads => Sys2Proof.Machine.execLedgerFold t reads s
  | .checkpointComplete t failing => Sys2Proof.Machine.execCheckpointComplete t failing s
  | .ledgCheckpointNow t sid v => Sys2Proof.Machine.execLedgCheckpointNow t sid v s
  | .ledgFormat t sid v => Sys2Proof.Machine.execLedgFormat t sid v s
  | .ledgLampReset t sid v => Sys2Proof.Machine.execLedgLampReset t sid v s
  | .ledgTileCeilingReset t sid v => Sys2Proof.Machine.execLedgTileCeilingReset t sid v s
  | .ceilingRequestResend t => Sys2Proof.Machine.execCeilingRequestResend t s
  | .ctlCeilingRequest t port p => Sys2Proof.Machine.execCtlCeilingRequest t port p s
  | .ceilingRequestExpiry t uid => Sys2Proof.Machine.execCeilingRequestExpiry t uid s
  | .senseCalStepEnd t m => Sys2Proof.Machine.execSenseCalStepEnd t m s
  | .snsCalStart t sid v => Sys2Proof.Machine.execSnsCalStart t sid v s
  | .senseStartCalDone t results => Sys2Proof.Machine.execSenseStartCalDone t results s
  | .thermalInputFailTimeout t slot => Sys2Proof.Machine.execThermalInputFailTimeout t slot s
  | .pdDarkCapture t sid n => Sys2Proof.Machine.execPdDarkCapture t sid n s
  | .pdBaselineCapture t sid n => Sys2Proof.Machine.execPdBaselineCapture t sid n s
  | .pdDarkCaptureDone t n => Sys2Proof.Machine.execPdDarkCaptureDone t n s
  | .laneLockGained t port lane align => Sys2Proof.Machine.execLaneLockGained t port lane align s
  | .laneLockLost t link lane midPacket => Sys2Proof.Machine.execLaneLockLost t link lane midPacket s
  | .helloReceived t port p => Sys2Proof.Machine.execHelloReceived t port p s
  | .helloSend t port => Sys2Proof.Machine.execHelloSend t port s
  | .stepLockTimeout t port => Sys2Proof.Machine.execStepLockTimeout t port s
  | .stepVerifyEnd t link => Sys2Proof.Machine.execStepVerifyEnd t link s
  | .chkPatternReceived t port p => Sys2Proof.Machine.execChkPatternReceived t port p s
  | .helloTimeout t port => Sys2Proof.Machine.execHelloTimeout t port s
  | .attemptBackoffExpiry t port => Sys2Proof.Machine.execAttemptBackoffExpiry t port s
  | .darkBeacon t port start => Sys2Proof.Machine.execDarkBeacon t port start s
  | .withyRetrain t sid h v => Sys2Proof.Machine.execWithyRetrain t sid h v s
  | .withyEnable t sid h v => Sys2Proof.Machine.execWithyEnable t sid h v s
  | .stepUpRetry t port => Sys2Proof.Machine.execStepUpRetry t port s
  | .eqTableWrite t sid b => Sys2Proof.Machine.execEqTableWrite t sid b s
  | .slackColumnReceived t port depth => Sys2Proof.Machine.execSlackColumnReceived t port depth s
  | .slackSend t port => Sys2Proof.Machine.execSlackSend t port s
  | .alignSend t port => Sys2Proof.Machine.execAlignSend t port s
  | .grantRunOpen t tx => Sys2Proof.Machine.execGrantRunOpen t tx s
  | .grantReceived t port run => Sys2Proof.Machine.execGrantReceived t port run s
  | .grantTimeout t port => Sys2Proof.Machine.execGrantTimeout t port s
  | .chkSend t link => Sys2Proof.Machine.execChkSend t link s
  | .chkReceived t port p => Sys2Proof.Machine.execChkReceived t port p s
  | .unknownClassPacket t port p => Sys2Proof.Machine.execUnknownClassPacket t port p s
  | .enumSend t port => Sys2Proof.Machine.execEnumSend t port s
  | .enumReceived t port p => Sys2Proof.Machine.execEnumReceived t port p s
  | .enumReceivedSender t port p => Sys2Proof.Machine.execEnumReceivedSender t port p s
  | .hoopOpenTimeout t port => Sys2Proof.Machine.execHoopOpenTimeout t port s
  | .enumPortTimeout t port => Sys2Proof.Machine.execEnumPortTimeout t port s
  | .partnerFlpReceived t port p => Sys2Proof.Machine.execPartnerFlpReceived t port p s
  | .pairTakeover t sid v => Sys2Proof.Machine.execPairTakeover t sid v s
  | .partnerSilentTimeout t => Sys2Proof.Machine.execPartnerSilentTimeout t s
  | .partnerFreerunTimeout t => Sys2Proof.Machine.execPartnerFreerunTimeout t s
  | .pairJoinWaitExpiry t => Sys2Proof.Machine.execPairJoinWaitExpiry t s
  | .pairStateConfirm t sid v => Sys2Proof.Machine.execPairStateConfirm t sid v s
  | .retrainEpoch t ch count => Sys2Proof.Machine.execRetrainEpoch t ch count s
  | .mr4Read t die range => Sys2Proof.Machine.execMr4Read t die range s
  | .setpointChange t target urgent => Sys2Proof.Machine.execSetpointChange t target urgent s
  | .perBankRefresh t ch bank issued => Sys2Proof.Machine.execPerBankRefresh t ch bank issued s
  | .patrolScrub t e => Sys2Proof.Machine.execPatrolScrub t e s
  | .selfRefreshEntry t => Sys2Proof.Machine.execSelfRefreshEntry t s
  | .cuClaim t sid n v => Sys2Proof.Machine.execCuClaim t sid n v s
  | .cuAlgorithm t sid n v => Sys2Proof.Machine.execCuAlgorithm t sid n v s
  | .cuInit t sid n v => Sys2Proof.Machine.execCuInit t sid n v s
  | .cuFeed8 t sid n v => Sys2Proof.Machine.execCuFeed8 t sid n v s
  | .cuFeed16 t sid n v => Sys2Proof.Machine.execCuFeed16 t sid n v s
  | .cuFeed32 t sid n v => Sys2Proof.Machine.execCuFeed32 t sid n v s
  | .cuFeed64 t sid n v => Sys2Proof.Machine.execCuFeed64 t sid n v s
  | .cuState t sid n v => Sys2Proof.Machine.execCuState t sid n v s
  | .updImage t sid b => Sys2Proof.Machine.execUpdImage t sid b s
  | .updVerifyDone t readBackOk => Sys2Proof.Machine.execUpdVerifyDone t readBackOk s
  | .updChunkTimeout t => Sys2Proof.Machine.execUpdChunkTimeout t s
  | .updActivate t sid v => Sys2Proof.Machine.execUpdActivate t sid v s
  | .updPreparationDone t => Sys2Proof.Machine.execUpdPreparationDone t s
  | .updTrialEntry t => Sys2Proof.Machine.execUpdTrialEntry t s
  | .updConfirm t sid v => Sys2Proof.Machine.execUpdConfirm t sid v s
  | .updAbort t sid v => Sys2Proof.Machine.execUpdAbort t sid v s
  | .updTrialExpiry t => Sys2Proof.Machine.execUpdTrialExpiry t s
  | .flogPersistWrite t => Sys2Proof.Machine.execFlogPersistWrite t s
  | .flogClear t sid v => Sys2Proof.Machine.execFlogClear t sid v s
  | .stageStall t stage port dist wale => Sys2Proof.Machine.execStageStall t stage port dist wale s
  | .lockstepDivergence t poisoned => Sys2Proof.Machine.execLockstepDivergence t poisoned s
  | .controlRestartDone t => Sys2Proof.Machine.execControlRestartDone t s
  | .controlRestartTimeout t => Sys2Proof.Machine.execControlRestartTimeout t s
  | .avsAdjust t rate x => Sys2Proof.Machine.execAvsAdjust t rate x s
  | .avsRead t answer => Sys2Proof.Machine.execAvsRead t answer s
  | .configScrub t store e => Sys2Proof.Machine.execConfigScrub t store e s
  | .configReloadDone t store => Sys2Proof.Machine.execConfigReloadDone t store s
  | .integClearSafe t sid v stalled crcOk => Sys2Proof.Machine.execIntegClearSafe t sid v stalled crcOk s
  | .otpSafetyKey t sid key => Sys2Proof.Machine.execOtpSafetyKey t sid key s
  | .otpKeyRevoke t sid v => Sys2Proof.Machine.execOtpKeyRevoke t sid v s
  | .resetRelease t straps => Sys2Proof.Machine.execResetRelease t straps s
  | .resetAssert t width => Sys2Proof.Machine.execResetAssert t width s
  | .startStepComplete t r => Sys2Proof.Machine.execStartStepComplete t r s
  | .modeCommitTimeout t => Sys2Proof.Machine.execModeCommitTimeout t s
  | .standbyRequest t => Sys2Proof.Machine.execStandbyRequest t s
  | .standbyExitRequest t => Sys2Proof.Machine.execStandbyExitRequest t s
  | .offRequest t => Sys2Proof.Machine.execOffRequest t s
  | .offReady t => Sys2Proof.Machine.execOffReady t s
  | .powerLoss t => Sys2Proof.Machine.execPowerLoss t s
  | .driverPowerOn t strand pos => Sys2Proof.Machine.execDriverPowerOn t strand pos s
  | .slackInsert t slot => Sys2Proof.Machine.execSlackInsert t slot s
  | .blockError t place => Sys2Proof.Machine.execBlockError t place s
  | .ingestLinkChange t port up => Sys2Proof.Machine.execIngestLinkChange t port up s
  | .mgmtLinkChange t up => Sys2Proof.Machine.execMgmtLinkChange t up s
  | .igmpMembershipReport t port => Sys2Proof.Machine.execIgmpMembershipReport t port s
  | .broadcastApplyAtW t => Sys2Proof.Machine.execBroadcastApplyAtW t s
  | .updActivationInstant t => Sys2Proof.Machine.execUpdActivationInstant t s

end Sys2Proof.Machine
end

