-- ==== Sys2Proof/Safety.lean ====
section
/-!
DEFINITION. Sys2Proof/Safety.lean: what counts as a safe run, and the conditions on state and operands in which the
statements say what a command does.
-/
namespace Sys2Proof.Safety

open Sys2Proof.Machine

/-! ### Runs -/

/-- The block goes on: its step answers a next state. -/
def GoesOn (s : State) : Prop := ∃ u, step s = .next u

/-- A predicate that every step keeps. -/
def Kept (inv : State → Prop) : Prop := ∀ s u, inv s → step s = .next u → inv u

/-- The lamps are dark as far as the tile sees to it: its drivers are blanked, or it is a sender. -/
def LampsBlanked (s : State) : Prop := s.dev.isTile = true → s.dev.ldl.blanked = true

/-- No command waits that would stop the block: a rise of RST_N with STRAP_TEST high. -/
def NoTestStrap (s : State) : Prop := ∀ t x, Instr.resetRelease t x ∈ s.pending → x.test = false

/-! ### Requests (R45 to R56) -/

/-- A message as its row reads it: the row's opcode, with the row's flag bits set or clear. -/
def rowMsg (op set clear : Nat) (m : Msg) : Msg := { m with opcode := op, flags := (m.flags &&& (255 - clear)) ||| set }

/-- A request that arrives whole on a carrier the device answers. -/
def Arrives (d : Dev) (c : Carrier) (m : Msg) : Prop := d.carrierOpen c = true ∧ Dev.msgBad m = false

/-- A request of an open session that passes the checks of R48 up to its opcode: VERSION, SESSION, SEQUENCE, and no
reserved flag.  No COMMIT of the session is in validation. -/
def Admitted (d : Dev) (c : Carrier) (m : Msg) (x : Session) : Prop :=
  d.carrierOpen c = true ∧ Dev.msgBad m = false ∧ m.version = 1 ∧ m.flags < 16 ∧ d.sess m.session = some x ∧
    x.halfOpen = false ∧ d.validatingIn x.id = false ∧ m.sequence ≠ x.lastSeq ∧ m.sequence = (x.lastSeq + 1) % 2 ^ 32

/-! ### Writes of one object (R27, R30, R38, R58) -/

/-- An open session that can reach the object with this key. -/
def Writes (d : Dev) (sid k : Nat) (x : Session) : Prop :=
  d.controlRuns = true ∧ d.sess sid = some x ∧ x.halfOpen = false ∧ d.carrierOpen x.peer = true ∧ d.reaches k = true

/-- A write of a scalar object that the dictionary, the role, the device's state and other holders all allow. -/
def ScalarOpen (d : Dev) (sid k v : Nat) (x : Session) : Prop :=
  Writes d sid k x ∧ d.scalarRefused (Dev.writerOf x false) k v = none ∧ d.deviceRefuses k = false ∧
    d.lockedFor x.id k = false

/-- A chunk of a BLOB object that the dictionary, the role, the device's state and other holders all allow, and that no
update of the settings holds up.  The image of an update and an overlay command have checks of their own. -/
def ChunkOpen (d : Dev) (sid k : Nat) (b : Chunk) (x : Session) : Prop :=
  Writes d sid k x ∧ d.entryRefused (Dev.writerOf x false) k = none ∧
    (∃ o, findDef d.pers k = some o ∧ o.ty = .blob) ∧ Dev.chunkSized b = true ∧ k ≠ K.UPD_IMAGE ∧
    k ≠ K.OVL_COMMAND ∧ d.deviceRefuses k = false ∧ d.loadingFor x.id 0 k = false ∧ d.lockedFor x.id k = false ∧
    (d.persists k = false ∨ (d.updState ≠ 5 ∧ d.updState ≠ 6))

/-- An overlay command outside a transaction that the dictionary, the role, the device's state and other holders all
allow: its own checks (R326) follow. -/
def OverlayOpen (d : Dev) (sid : Nat) (x : Session) : Prop :=
  Writes d sid K.OVL_COMMAND x ∧ d.entryRefused (Dev.writerOf x false) K.OVL_COMMAND = none ∧
    (∃ o, findDef d.pers K.OVL_COMMAND = some o ∧ o.ty = .blob) ∧ d.deviceRefuses K.OVL_COMMAND = false ∧
    d.lockedFor x.id K.OVL_COMMAND = false ∧
    (d.persists K.OVL_COMMAND = false ∨ (d.updState ≠ 5 ∧ d.updState ≠ 6))

/-! ### Ports and drivers -/

/-- A sender, or a tile, whose Withy ports run. -/
def SenderRuns (d : Dev) : Prop := d.portsRun = true ∧ d.isSender = true
def TileRuns (d : Dev) : Prop := d.portsRun = true ∧ d.isTile = true

/-- A tile that has power, so that its column drivers have. -/
def DriverPowered (d : Dev) : Prop := d.isTile = true ∧ d.start.run ≠ .off

/-! ### What follows a command -/

/-- Nothing is due on a strand: its state is what its drivers and dark rows make it, no bring-up of it is to begin, and no
packet waits on it. -/
def StrandQuiet (e : Dev) (n : Nat) : Prop :=
  ((e.obj (K.STR_STATE n) ≠ 2 ∧ e.obj (K.STR_STATE n) ≠ 3) ∨ (e.strand n).bringing = true ∨
      e.obj (K.STR_STATE n) = e.strandGood n) ∧
    (∀ u, (e.strand n).again = some u → e.now < u) ∧ (e.strand n).waiting = []

/-- No change of the DRAM set point is to be asked for or made: the controller does not run, the set point in force is the
one that is due and no change waits, or the change that is due waits for an epoch's end. -/
def SetpointQuiet (e : Dev) : Prop :=
  e.dramRuns = false ∨ (e.dram.waiting = none ∧ e.setpointDue = e.obj K.DRAM_SETPOINT) ∨
    (e.dram.waiting = some e.setpointDue ∧ e.anyEpoch = true)

/-- Nothing follows the effect of a command that left the device as `e`: it is off, in reset or Halted, or no session
subscribes, the mode and the time state have been followed, no step of a start or Standby is to be taken, no fallback is due,
the power state and the DRAM set point are those in force, no cross-rule raised before holds again, the confirmed pair digest
still is the digest, nothing is due on a strand, and nothing waits to be written to flash. -/
def NothingDue (e : Dev) : Prop :=
  e.alive = false ∨
    (e.events = [] ∧ (∀ s ∈ e.pliuk.sessions, s.subs = []) ∧ e.mode = e.enc.modeAt.1 ∧
      (e.isSender = true ∨ e.obj K.SCAN_STATE = 1 ∨ (e.tstate ≠ tsUnlocked ↔ e.obj K.SCAN_STATE ≠ 8)) ∧
      (e.obj K.INTEG_STATE ≠ 1 ∨ (e.stepNow = none ∧ (e.start.run = .armed → e.start.stbyLow = false) ∧
        (e.start.run = .standby → e.start.stbyLow = true))) ∧
      ¬ (e.mode = 0 ∧ e.updState = 7 ∧ e.update.abort = true) ∧
      (e.start.run ≠ .armed ∨ e.powerDark = e.tile.dark) ∧ SetpointQuiet e ∧
      (∀ c ∈ e.pliuk.rulesRaised, c ∈ e.planFails.map (·.code)) ∧
      (e.isSender = false ∨ e.obj K.PAIR_READY ≠ 1 ∨ e.pairDigest = e.pair.confirmed) ∧
      (e.isTile = false ∨ e.ldl.driven = false ∨ ∀ n < 32, StrandQuiet e n) ∧
      (e.flash.urgent = [] ∨ e.start.run = .offReady))

end Sys2Proof.Safety
end

