-- ==== Sys2Proof/Certificates/Slice0/Obligations.lean ====
section
/-!
DEFINITION. Sys2Proof/Certificates/Slice0/Obligations.lean: the statements about the block, for the provers.

The command statements have one form: under hypotheses on the state and the operands, `exec` answers
`.next (after t s e)`, where `e` is the device with the command's own effect and `after` is what every command has in
common: the device's own states follow, notifications go out, and what is fixed stays.  `e` is written out as an update
of `s.dev.begin t`, so whatever it does not name is as it was.
-/

open Sys2Proof Sys2Proof.Machine Sys2Proof.Safety

/-- Machine: one step runs the command in front of the queue on the state with the queue's rest. -/
def Obligations.StepRunsTheCommandInFront : Prop :=
  ∀ (c : Instr) (rest : List Instr) (s : State), s.pending = c :: rest → step s = exec c { s with pending := rest }

/-- Machine: an empty queue idles (log entry 2), and the table spells no command by bits. -/
def Obligations.AnEmptyQueueIdles : Prop :=
  (∀ s : State, s.pending = [] → step s = .next s) ∧
    (∀ nbits w : Nat, decodeTableWord nbits w = none) ∧
    ∀ (s : State) (nbits w : Nat), s.withFetchWord nbits w = s

/-- Reset: the values of State.reset. -/
def Obligations.ResetHoldsTheDefaults : Prop :=
  State.reset.pending = [] ∧ State.reset.dev.start.run = .inReset ∧
    (∀ k, State.reset.dev.obj k = defaultOf .tile k) ∧ (∀ k, State.reset.dev.blob k = []) ∧
    State.reset.dev.pliuk.sessions = [] ∧ State.reset.dev.pliuk.txns = [] ∧ State.reset.dev.pliuk.halves = [] ∧
    State.reset.dev.pliuk.stages = [] ∧ State.reset.dev.pliuk.shadow = [] ∧ State.reset.dev.pliuk.bcasts = [] ∧
    State.reset.dev.ldl.blanked = true ∧ State.reset.dev.fix.otp = { safetyKey := none, revoked := 0 } ∧
    State.reset.dev.integ.log = [] ∧ State.reset.dev.out = [] ∧ State.reset.dev.events = []

/-- Fixed storage: fuses, the written Safety key and revoked bits survive every step. -/
def Obligations.FixedStorageSurvivesEveryStep : Prop :=
  ∀ f : Fixed, Kept (fun s =>
    s.dev.fix.fuses = f.fuses ∧ (∀ k, f.otp.safetyKey = some k → s.dev.fix.otp.safetyKey = some k) ∧
      f.otp.revoked ||| s.dev.fix.otp.revoked = s.dev.fix.otp.revoked ∧ s.dev.events = [])

/-- Fixed storage: the invariant at reset. -/
def Obligations.ResetMeetsTheFixedStorageInvariant : Prop :=
  State.reset.dev.fix.fuses = Fixed.reset.fuses ∧
    (∀ k, Fixed.reset.otp.safetyKey = some k → State.reset.dev.fix.otp.safetyKey = some k) ∧
    Fixed.reset.otp.revoked ||| State.reset.dev.fix.otp.revoked = State.reset.dev.fix.otp.revoked ∧
    State.reset.dev.events = []

/-- Halted (R539): every command but RESET_ASSERT and POWER_LOSS leaves it Halted and changes nothing it keeps. -/
def Obligations.HaltedIsLeftOnlyByResetOrPower : Prop :=
  ∀ (c : Instr) (s : State), s.dev.start.run = .halted → s.dev.events = [] →
    (∀ t w, c ≠ .resetAssert t w) → (∀ t, c ≠ .powerLoss t) →
    ∃ u, exec c s = .next u ∧ u.dev.start.run = .halted ∧ u.dev.dict = s.dev.dict ∧ u.dev.blobs = s.dev.blobs ∧
      u.dev.pliuk = s.dev.pliuk ∧ u.dev.flash = s.dev.flash ∧ u.dev.ledger = s.dev.ledger ∧
      u.dev.integ = s.dev.integ ∧ u.dev.time = s.dev.time ∧ u.dev.fix = s.dev.fix ∧ u.pending = s.pending ∧
      ∀ o ∈ u.dev.out, ∀ a m, o ≠ .pliuk a m

/-- Off and in reset: what no command but the three of power and reset changes. -/
def Obligations.NothingHappensWithoutPowerOrInReset : Prop :=
  ∀ (c : Instr) (s : State), (s.dev.start.run = .off ∨ s.dev.start.run = .inReset) → s.dev.events = [] →
    (∀ t x, c ≠ .resetRelease t x) → (∀ t w, c ≠ .resetAssert t w) → (∀ t, c ≠ .powerLoss t) →
    ∃ u, exec c s = .next u ∧ u.dev.start.run = s.dev.start.run ∧ u.dev.dict = s.dev.dict ∧
      u.dev.blobs = s.dev.blobs ∧ u.dev.pliuk = s.dev.pliuk ∧ u.dev.flash = s.dev.flash ∧
      u.dev.ledger = s.dev.ledger ∧ u.dev.integ = s.dev.integ ∧ u.dev.time = s.dev.time ∧
      u.dev.withy = s.dev.withy ∧ u.dev.fix = s.dev.fix ∧ u.pending = s.pending ∧
      (s.dev.start.run = .off → u.dev.ldl = s.dev.ldl)

/-- What follows a command: nothing, where nothing is due. -/
def Obligations.ACommandFollowsUpOnlyWhatIsDue : Prop :=
  (∀ (c : Instr) (s u : State), exec c s = .next u → u.pending = s.pending ∧ u.dev.events = []) ∧
    ∀ (t : Time) (s : State) (e : Dev), NothingDue e → e.fix = s.dev.fix →
      after t s e = { s with dev := { e with events := [] } }

/-! ### Pliuk requests (02_control.md) -/

/-- Pliuk: reads and subscriptions of an open session. -/
def Obligations.ReadsAndSubscriptionsAreAnswered : Prop :=
  ∀ (s : State) (t : Time) (c : Carrier) (m : Msg) (x : Session), Admitted (s.dev.begin t) c m x →
    (∀ ks, parseRefs m.payload = some ks →
      exec (.read t c m) s = .next (after t s
        (let m' := rowMsg 1 0 1 m
         let r := ks.foldl (fun (y : Bytes × Dev) k => let z := y.2.readRef k; (y.1 ++ z.1, z.2))
           (([] : Bytes), (s.dev.begin t).accept c m')
         r.2.reply c m' (Status.OK, countedBytes ks.length r.1)))) ∧
    (∀ k off len o, m.payload = Dev.refBytes k ++ be 4 off ++ be 4 len → k < 2 ^ 24 → off < 2 ^ 32 →
      1 ≤ len → len ≤ 1024 → (s.dev.begin t).reachDef k = some o → o.acc (s.dev.begin t).pers ≠ .wo → o.ty = .blob →
      ¬ ((s.dev.begin t).baseRun = .standby ∧ Dev.inDram k = true) →
      (let m' := rowMsg 3 0 1 m
       let e := (s.dev.begin t).accept c m'
       let all := e.readBlob k
       let data := slice off (min len (all.length - off)) all
       let u := after t s ((e.takeStamps k off data.length).reply c m'
         (Status.OK, Dev.refBytes k ++ be 4 off ++ be 4 all.length ++ data))
       exec (.readBlock t c m) s = .next u ∧ exec (.capFifoRead t c m) s = .next u)) ∧
    (∀ n, countOf m.payload = some n → m.payload.length = 4 + 8 * n → (s.dev.begin t).baseRun ≠ .startFailed →
      exec (.subscribe t c m) s = .next (after t s
        (let m' := rowMsg 10 0 1 m
         let r := (List.range n).foldl (fun (y : Bytes × Dev) i =>
             let z := y.2.subscribeOne x.id (slice (4 + 8 * i) 8 m.payload); (y.1 ++ be 1 z.1 ++ be 3 0, z.2))
           (([] : Bytes), (s.dev.begin t).accept c m')
         r.2.reply c m' (Status.OK, countedBytes n r.1))))

/-- R52: the STATUS block. -/
def Obligations.StatusAnswersTheBlockOfR52 : Prop :=
  ∀ (s : State) (t : Time) (c : Carrier) (m : Msg) (x : Session), Admitted (s.dev.begin t) c m x → m.payload = [] →
    (let d := s.dev.begin t
     let m' := rowMsg 8 0 1 m
     exec (.status t c m) s = .next (after t s ((d.accept c m').reply c m' (Status.OK,
       be 1 d.deviceState ++ be 1 d.pliuk.sessions.length ++ be 1 (d.pliuk.txns.filter (fun x => x.isOpen)).length ++
         be 1 d.pliuk.halves.length ++ be 8 d.armedAt ++ be 2 d.pliuk.bootOld.length ++ be 2 0 ++
         be 4 d.pliuk.lastBcast ++ be 2 (min d.pliuk.lastRefused 65535) ++ be 2 0)))) ∧
    ((s.dev.begin t).armedTxn = none → (s.dev.begin t).armedAt = 0)

/-- Pliuk: BEGIN, WRITE and WRITE_BLOCK. -/
def Obligations.TransactionsOpenAndWritesAreTaken : Prop :=
  ∀ (s : State) (t : Time) (c : Carrier) (m : Msg) (x : Session), Admitted (s.dev.begin t) c m x →
    (∀ ms, m.payload = be 4 ms → ms = 0 ∨ (100 ≤ ms ∧ ms ≤ 60000) →
      (s.dev.begin t).obj K.INTEG_STATE ≠ 2 → (s.dev.begin t).obj K.INTEG_STATE ≠ 3 →
      (s.dev.begin t).writesShut = false → ((s.dev.begin t).accept c (rowMsg 5 0 1 m)).openTxn x.id = none →
      (((s.dev.begin t).accept c (rowMsg 5 0 1 m)).pliuk.txns.filter (fun y => y.isOpen)).length < 4 →
      exec (.begin t c m) s = .next (after t s
        (let d := s.dev.begin t
         let m' := rowMsg 5 0 1 m
         let n := d.pliuk.nextTxn
         let y : Txn :=
           { number := n, session := x.id, timeoutMs := if ms = 0 then d.obj K.TXN_DEFAULT_TIMEOUT else ms, lastMsg := t,
             phase := .staging, entries := [], request := none, intact := true }
         ((d.accept c m').setPliuk (fun p =>
           { p with txns := p.txns ++ [y], nextTxn := if n + 1 = 2 ^ 32 then 1 else n + 1 })).reply c m'
             (Status.OK, be 4 n)))) ∧
    (∀ es, parseWrites m.payload = some es → m.txn = 0 →
      exec (.write t c m) s = .next (after t s
        (let m' := rowMsg 2 0 1 m
         let r := es.foldl (fun (y : Bytes × Dev) e =>
             let z := y.2.writeEntry (Dev.writerOf { x with peer := c } false) e
             (y.1 ++ Dev.writeStatus e.key z.1, z.2.readyFollow)) (([] : Bytes), (s.dev.begin t).accept c m')
         r.2.reply c m' (Status.OK, countedBytes es.length r.1)))) ∧
    (∀ es y, parseWrites m.payload = some es → m.txn ≠ 0 →
      (let m' := rowMsg 2 0 1 m
       let d := (s.dev.begin t).accept c m'
       let sts := d.stageAll (Dev.writerOf { x with peer := c } true) y.entries es
       let new := (sts.filter (fun z => Dev.isOk z.2)).map (fun z => (⟨z.1.key, beVal z.1.val, none⟩ : Staged))
       let open' := d.stagingOf y none
       d.openTxn x.id = some y → y.number = m.txn → y.phase = .staging →
       (y.entries ++ new).length + open'.length ≤ 256 →
       open'.foldl (fun a z => a + z.data.length) 0 + d.stagedBytes (y.entries ++ new) ≤ 65536 →
       exec (.write t c m) s = .next (after t s
         (((sts.filter (fun z => z.1.key == K.OVL_COMMAND && z.2 == Status.ACCESS)).foldl (fun e _ => e.ovlRefuse false)
           (d.setTxn y.number (fun z => { z with entries := y.entries ++ new }))).reply c m'
           (Status.OK, countedBytes es.length
             (sts.flatMap (fun z => Dev.writeStatus z.1.key (if Dev.isOk z.2 then 0 else z.2)))))))) ∧
    (∀ k b, parseChunk (bit 2 (rowMsg 4 0 1 m).flags) m.payload = some (k, b) → m.txn = 0 →
      k ≠ K.PRISM_CAL_IMAGE → (s.dev.begin t).writesShut = false → (s.dev.begin t).reaches k = true →
      (let m' := rowMsg 4 0 1 m
       let r := ((s.dev.begin t).accept c m').writeChunk (Dev.writerOf { x with peer := c } false) k b true
       r.1 = Status.OK →
       exec (.writeBlock t c m) s = .next (after t s (r.2.reply c m' (Status.OK, Dev.refBytes k ++ be 4 b.offset)))))

/-- Pliuk: commits and rollbacks. -/
def Obligations.CommitsAndRollbacks : Prop :=
  (∀ (s : State) (t : Time) (c : Carrier) (m : Msg) (x : Session) (y : Txn), Admitted (s.dev.begin t) c m x →
    (s.dev.begin t).writesShut = false → y.phase = .staging → y.session = x.id → y.number = m.txn →
    (m.payload = [] → ((s.dev.begin t).accept c (rowMsg 6 0 9 m)).openTxn x.id = some y →
      ((s.dev.begin t).accept c (rowMsg 6 0 9 m)).txnFail y false = none →
      exec (.commit t c m) s = .next (after t s (((s.dev.begin t).accept c (rowMsg 6 0 9 m)).setTxn y.number
        (fun z => { z with phase := .validating, request := some (c, rowMsg 6 0 9 m) })))) ∧
    (∀ w, m.payload = be 8 w → w < 2 ^ 48 →
      ((s.dev.begin t).accept c (rowMsg 6 8 1 m)).openTxn x.id = some y →
      ((s.dev.begin t).accept c (rowMsg 6 8 1 m)).armedTxn = none → 20000000 ≤ wallDiff w (s.dev.begin t).wall →
      wallDiff w (s.dev.begin t).wall ≤ 60000000000 →
      ((s.dev.begin t).accept c (rowMsg 6 8 1 m)).txnFail y true = none →
      exec (.wallCommit t c m) s = .next (after t s
        (let d := (s.dev.begin t).accept c (rowMsg 6 8 1 m)
         let a := wallToAbs t w
         let f := if d.mode = 0 then a else d.boundaryFrom a
         (((d.setTxn y.number (fun z => { z with phase := .armed a })).dropShadows y f).reportArmed).reply c
           (rowMsg 6 8 1 m) (Status.OK, be 8 (f % 2 ^ 48))))) ∧
    (m.payload = [] → ((s.dev.begin t).accept c (rowMsg 7 0 1 m)).txnBy m.txn = some y →
      exec (.rollback t c m) s = .next (after t s
        ((((s.dev.begin t).accept c (rowMsg 7 0 1 m)).dropTxn y.number).reply c (rowMsg 7 0 1 m) (Status.OK, []))))) ∧
  (∀ (s : State) (t : Time) (n : Nat) (y : Txn) (c : Carrier) (m : Msg), (s.dev.begin t).controlRuns = true →
    (s.dev.begin t).txnBy n = some y → y.phase = .validating → y.request = some (c, m) →
    (s.dev.begin t).txnFail y false = none →
    exec (.commitValidationEnd t n) s = .next (after t s
      (let d := s.dev.begin t
       let e := if d.mode = 0 then
           ((d.setTxn n (fun z => { z with phase := .scheduled t, request := none })).reply c m
             (Status.OK, be 8 d.wall)).settleTxn y
         else
           ((d.setTxn n (fun z => { z with phase := .scheduled d.applyBoundary, request := none })).dropShadows y
             d.applyBoundary).reply c m (Status.OK, be 8 (d.applyBoundary % 2 ^ 48))
       (Dev.drainQueue 9 y.session e).lateArmed))) ∧
  (∀ (s : State) (t w : Time) (y : Txn), (s.dev.begin t).pliukRuns = true → (s.dev.begin t).baseRun ≠ .recovery →
    (s.dev.begin t).armedTxn = some y → y.phase = .armed w → (s.dev.begin t).mode = 0 → w ≤ t →
    (s.dev.begin t).rollbackHeld y = false →
    exec (.wallCommitApplyAtW t) s = .next (after t s ((s.dev.begin t).applyTxn y)))

/-- Pliuk: sessions open and close. -/
def Obligations.SessionsOpenAndClose : Prop :=
  (∀ (s : State) (t : Time) (c : Carrier) (m : Msg) (role : Nat), Arrives (s.dev.begin t) c m → m.version = 1 →
    m.flags < 16 → m.session = 0 → m.payload.length = 20 → fieldAt 0 1 m.payload = role → fieldAt 1 3 m.payload = 0 →
    (s.dev.begin t).roleOpens role c = true → (s.dev.begin t).placeFree c role = true →
    (s.dev.begin t).lockedOut c = false → (∀ x ∈ (s.dev.begin t).pliuk.sessions, x.halfOpen = false) →
    exec (.authChallenge t c m) s = .next (after t s
      (let d := s.dev.begin t
       let m' := rowMsg 11 0 1 m
       let sid := freshSid (d.pliuk.sessions.map (·.id)) (Config.freeValue d.free % 2 ^ 32)
       let nonce := be 16 (Config.freeValue (d.free + 1) % 2 ^ 128)
       let a := Dev.responseTo m' sid 0 (be 4 sid ++ nonce ++ be 8 d.fix.fuses.uid)
       let x : Session :=
         { id := sid, role := role, halfOpen := true, source := c, peer := c, hostNonce := slice 4 16 m.payload,
           devNonce := nonce, since := t, lastSeq := m.sequence, cached := some a, lastHeard := t, notifySeq := 0,
           queue := [], subs := [], unacked := [] }
       ((({ d with free := d.free + 2 }).setPliuk (fun p => { p with sessions := p.sessions ++ [x] })).reportSessions).sendPliuk
         c a))) ∧
  (∀ (s : State) (t : Time) (c : Carrier) (m : Msg) (x : Session), Arrives (s.dev.begin t) c m → m.version = 1 →
    m.flags < 16 → (s.dev.begin t).sess m.session = some x → x.id = m.session → x.halfOpen = true →
    t ≤ x.since + 2000000000 → (s.dev.begin t).validatingIn x.id = false → m.sequence ≠ x.lastSeq →
    m.sequence = (x.lastSeq + 1) % 2 ^ 32 → (s.dev.begin t).keyless x.role x.source = false →
    (s.dev.begin t).roleKey x.role ≠ [] →
    (let d := s.dev.begin t
     let m' := rowMsg 12 0 1 m
     let fields := authFields x.role x.id d.fix.fuses.uid x.devNonce x.hostNonce
     let key := d.roleKey x.role
     m.payload = hmacSha256 key (be 4 0x504C4B31 ++ fields) → m.payload.length = 32 →
     exec (.authResponse t c m) s = .next (after t s
       (((d.accept c m').setSess x.id (fun z => { z with halfOpen := false })).reply c m'
         (Status.OK, hmacSha256 key (be 4 0x504C4B32 ++ fields)))))) ∧
  (∀ (s : State) (t : Time) (sid : SessionId) (x : Session), (s.dev.begin t).controlRuns = true →
    (s.dev.begin t).sess sid = some x →
    (x.halfOpen = true → x.since + 2000000000 ≤ t →
      exec (.authResponseTimeout t sid) s =
        .next (after t s (((s.dev.begin t).failOpening x.source).closeSession sid))) ∧
    (x.halfOpen = false → x.lastHeard + (s.dev.begin t).obj K.SESSION_IDLE_TIMEOUT * 1000000000 ≤ t →
      exec (.sessionIdleTimeout t sid) s = .next (after t s ((s.dev.begin t).closeSession sid)))) ∧
  (∀ (s : State) (t : Time) (c : Carrier), (s.dev.begin t).controlRuns = true →
    exec (.authLockoutExpiry t c) s = .next (after t s ((s.dev.begin t).setPliuk (fun p => { p with
      lockouts := p.lockouts.filter (fun l => !(l.source == c && match l.lockedTill with
        | some e => decide (e ≤ t)
        | none => false)) }))))

/-- R47: discarded messages. -/
def Obligations.DamagedMessagesAreDiscardedAndCounted : Prop :=
  ∀ (s : State) (t : Time) (c : Carrier) (m : Msg), (s.dev.begin t).carrierOpen c = true →
    (m.crc ≠ crc32c (be 1 m.version ++ be 1 m.flags ++ be 1 m.opcode ++ be 1 m.status ++ be 4 m.session ++
        be 4 m.sequence ++ be 4 m.txn ++ be 4 m.length ++ m.payload) ∨
      m.length ≠ m.payload.length ∨ 1440 < m.payload.length) →
    ∀ i ∈ [Instr.read t c m, .write t c m, .readBlock t c m, .writeBlock t c m, .begin t c m, .commit t c m,
        .wallCommit t c m, .rollback t c m, .status t c m, .notifyAck t c m, .subscribe t c m, .authChallenge t c m,
        .authResponse t c m, .broadcastWrite t c m, .capFifoRead t c m],
      exec i s = .next (after t s ((s.dev.begin t).setObj K.MSG_DISCARD_CRC
        (satInc 32 ((s.dev.begin t).obj K.MSG_DISCARD_CRC))))

/-- R56: repeats and wrong sequences. -/
def Obligations.RepeatsAreAnsweredFromTheCache : Prop :=
  ∀ (s : State) (t : Time) (c : Carrier) (m : Msg) (x : Session), Arrives (s.dev.begin t) c m → m.version = 1 →
    m.flags < 16 → (s.dev.begin t).sess m.session = some x → x.halfOpen = false →
    (s.dev.begin t).validatingIn x.id = false →
    ∀ i ∈ [(Instr.read t c m, rowMsg 1 0 1 m), (.write t c m, rowMsg 2 0 1 m), (.readBlock t c m, rowMsg 3 0 1 m),
        (.writeBlock t c m, rowMsg 4 0 1 m), (.begin t c m, rowMsg 5 0 1 m), (.commit t c m, rowMsg 6 0 9 m),
        (.wallCommit t c m, rowMsg 6 8 1 m), (.rollback t c m, rowMsg 7 0 1 m), (.status t c m, rowMsg 8 0 1 m),
        (.subscribe t c m, rowMsg 10 0 1 m), (.authResponse t c m, rowMsg 12 0 1 m)],
      (∀ a, m.sequence = x.lastSeq → x.cached = some a →
        exec i.1 s = .next (after t s (((s.dev.begin t).setSess x.id (fun z =>
          { z with peer := c, lastHeard := t })).sendPliuk c a))) ∧
      (m.sequence ≠ x.lastSeq → m.sequence ≠ (x.lastSeq + 1) % 2 ^ 32 →
        exec i.1 s = .next (after t s ((s.dev.begin t).sendPliuk c
          (Dev.responseTo i.2 m.session Status.SEQUENCE []))))

/-- Pliuk: timers. -/
def Obligations.PliukTimersEndWhatTheyTime : Prop :=
  (∀ (s : State) (t : Time) (c : Carrier) (m : Msg), Arrives (s.dev.begin t) c m →
    exec (.notifyAck t c m) s = .next (after t s ((s.dev.begin t).setSess m.session (fun z =>
      { z with unacked := z.unacked.filter (fun o => o.seq != m.sequence) })))) ∧
  (∀ (s : State) (t : Time), (s.dev.begin t).controlRuns = true →
    (∀ key h, (s.dev.begin t).pliuk.halves.find? (fun h => h.key == key && decide (h.since + 1000000000 ≤ t)) = some h →
      exec (.pairExpired t key) s = .next (after t s
        ((((s.dev.begin t).setPliuk (fun p => { p with halves := p.halves.filter (fun y => y != h) })).bump
          K.PAIR_EXPIRED_COUNT).notify h.session 4 (Dev.refBytes key)))) ∧
    (∀ n y, (s.dev.begin t).txnBy n = some y → y.phase = .staging → y.lastMsg + y.timeoutMs * 1000000 ≤ t →
      exec (.txnTimeout t n) s = .next (after t s
        (((s.dev.begin t).dropTxn n).notify y.session 3 (be 4 n)))) ∧
    (∀ sid key y, (s.dev.begin t).pliuk.stages = [y] → y.session = sid → y.key = key → y.txn = 0 →
      y.lastChunk + 5000000000 ≤ t →
      exec (.blobStagingTimeout t sid key) s = .next (after t s (((s.dev.begin t).dropStage sid 0 key).blobAbort key))) ∧
    (∀ sid seq y o, (s.dev.begin t).sess sid = some y → y.unacked.find? (fun o => o.seq == seq) = some o →
      o.sentAt + 100000000 ≤ t →
      exec (.notifyRetryTimeout t sid seq) s = .next (after t s
        (if o.repeats < 3 then
          ((s.dev.begin t).setSess sid (fun z => { z with unacked := z.unacked.map (fun u =>
            if u.seq == seq then { u with sentAt := t, repeats := u.repeats + 1 } else u) })).sendPliuk y.peer o.msg
        else
          ((s.dev.begin t).setSess sid (fun z => { z with unacked := z.unacked.filter (fun u => u.seq != seq) })).bump
            K.NOTIFY_DROPPED))) ∧
    (∀ sid key y u, (s.dev.begin t).sess sid = some y → y.subs.find? (fun v => !v.isEvent && v.code == key) = some u →
      u.waiting = true → (s.dev.begin t).subFree u = true →
      exec (.notifyIntervalExpiry t sid key) s = .next (after t s ((s.dev.begin t).sendChanged sid key))) ∧
    ((s.dev.begin t).flash.dirty ≠ [] → (s.dev.begin t).start.run ≠ .offReady → ∀ stop, 3 ≤ stop →
      exec (.settingsWrite t stop) s = .next (after t s ((s.dev.begin t).saveSettings)))) ∧
  (∀ (s : State) (t : Time), (s.dev.begin t).pliukRuns = true → (s.dev.begin t).baseRun ≠ .recovery →
    (s.dev.begin t).mode = 0 →
    exec (.broadcastApplyAtW t) s = .next (after t s
      (let d := s.dev.begin t
       (d.pliuk.bcasts.filter (fun x => decide (x.applyAt ≤ t))).foldl (fun d x => d.applyItems 0 x.entries)
         (d.setPliuk (fun p => { p with bcasts := p.bcasts.filter (fun x => !decide (x.applyAt ≤ t)) })))))

/-- Pliuk: relays, broadcasts and the SPI target port. -/
def Obligations.RelaysBroadcastsAndSpi : Prop :=
  (∀ (s : State) (t : Time) (src : Carrier) (uid : Nat) (m : Msg) (h : PortId) (dist : Nat),
    (s.dev.begin t).isSender = true → Arrives (s.dev.begin t) src m → uid ≠ 2 ^ 64 - 1 →
    (s.dev.begin t).findTile uid = some (h, dist) →
    exec (.relayDatagram t src uid m) s = .next (after t s
      (((s.dev.begin t).setPliuk (fun p => { p with
        relays := p.relays.filter (fun r => !(r.1 == uid && r.2.1 == m.session)) ++ [(uid, m.session, src)] })).sendCtl
          h 0 dist uid (msgWire m)))) ∧
  (∀ (s : State) (t : Time) (h : PortId) (p : Packet) (m : Msg) (src : Carrier), SenderRuns (s.dev.begin t) →
    (s.dev.begin t).portUp h = true → (s.dev.begin t).controlRuns = true → pktPasses p = true →
    fieldAt 0 1 p.body = 1 → msgOfBytes (p.body.drop 16) = some m → m.opcode ≠ 11 →
    ((s.dev.begin t).countRx h p).pliuk.relays.find? (fun r => r.1 == fieldAt 4 8 p.body && r.2.1 == m.session) =
      some (fieldAt 4 8 p.body, m.session, src) →
    exec (.ctlFromTile t h p) s = .next (after t s
      ((((s.dev.begin t).countRx h p).setPliuk (fun q => { q with
        relays := q.relays.filter (fun r => !(r.1 == fieldAt 4 8 p.body && r.2.1 == m.session)) ++
          [(fieldAt 4 8 p.body, m.session, src)] })).emit (.relayed src (fieldAt 4 8 p.body) m)))) ∧
  (∀ (s : State) (t : Time) (c : Carrier) (m : Msg) (x : Session) (w id : Nat) (es : List WriteEntry),
    Admitted (s.dev.begin t) c m x → (s.dev.begin t).isSender = true → roleOperator ≤ x.role → m.txn = 0 →
    Dev.parseBcast m.payload = some (w, id, es) → (s.dev.begin t).writesShut = false →
    (s.dev.begin t).obj K.INTEG_STATE = 1 →
    (∀ e ∈ es, ∃ o, findDef .tile e.key = some o ∧ mayWrite x.role e.key o.level = true) →
    exec (.broadcastWrite t c m) s = .next (after t s
      (((List.range 4).foldl (fun d h => d.sendCtl h 2 255 (2 ^ 64 - 1) (msgWire (rowMsg 13 0 1 m)))
        ((s.dev.begin t).accept c (rowMsg 13 0 1 m))).reply c (rowMsg 13 0 1 m) (Status.OK, [])))) ∧
  (∀ (s : State) (t : Time) (h : PortId) (p : Packet), TileRuns (s.dev.begin t) → (s.dev.begin t).portUp h = true →
    (∀ m, fieldAt 0 1 p.body = 2 → pktLink p = false → pktPasses p = true → (s.dev.begin t).integ.restart = none →
      msgOfBytes (p.body.drop 16) = some m → Dev.msgBad m = false → m.opcode = 13 → m.version = 1 → m.flags < 16 →
      bit 0 m.flags = false →
      exec (.ctlBroadcast t h p) s = .next (after t s
        ((((s.dev.begin t).countRx h p).forward h p p.body).takeBroadcast m))) ∧
    (∀ m, fieldAt 0 1 p.body = 0 → Dev.isMine p = true → Dev.targetsMe p = true → pktPasses p = true →
      fieldAt 4 8 p.body = (s.dev.begin t).fix.fuses.uid → msgOfBytes (p.body.drop 16) = some m →
      exec (.ctlToTile t h p) s = .next (after t s (((s.dev.begin t).countRx h p).receive (.ctl h) m))) ∧
    (fieldAt 0 1 p.body ≤ 1 → Dev.isMine p = false →
      exec (.ctlToTile t h p) s = .next (after t s (((s.dev.begin t).countRx h p).forward h p p.body)) ∧
      exec (.ctlFromTile t h p) s = .next (after t s (((s.dev.begin t).countRx h p).forward h p p.body)))) ∧
  (∀ (s : State) (t : Time), (s.dev.begin t).spiRuns = true →
    (∀ m, exec (.spiMessageWrite t m) s = .next (after t s
      (if 4 ≤ (s.dev.begin t).pliuk.spiIn.length then (s.dev.begin t).bump K.SPI_DISCARDS
       else Dev.drainSpi 5 ((s.dev.begin t).setPliuk (fun p => { p with spiIn := p.spiIn ++ [m] }))))) ∧
    (∀ m rest, (s.dev.begin t).pliuk.spiOut = m :: rest →
      exec (.spiMessageRead t) s = .next (after t s
        (((s.dev.begin t).setPliuk (fun p => { p with spiOut := rest })).emit
          (.spi (be 2 (msgWire m).length ++ msgWire m))))) ∧
    ((s.dev.begin t).pliuk.spiOut = [] →
      exec (.spiMessageRead t) s = .next (after t s ((s.dev.begin t).emit (.spi [0, 0])))) ∧
    exec (.spiPortStatus t) s = .next (after t s ((s.dev.begin t).emit (.spi
      (be 1 (b2n (decide ((s.dev.begin t).pliuk.spiIn.length < 4)) +
        2 * b2n (!(s.dev.begin t).pliuk.spiOut.isEmpty))))))) ∧
  (∀ (s : State) (t : Time) (op : Nat), exec (.spiReservedOperation t op) s = .next (after t s (s.dev.begin t)))

/-! ### Wall time (03_wall_time.md) -/

/-- PTP on the ingest ports of a sender. -/
def Obligations.PtpOnIngestSteersASender : Prop :=
  ∀ (s : State) (t : Time) (port : Nat) (m : PtpMsg), let d0 := s.dev.begin t
    SenderRuns d0 → d0.portExists port = true → m.vlan = false → m.frameLen ≤ 1522 →
    let d := d0.smpteRx port m
    (∀ g, d.ptpInProfile port m (-7) (-1) = true → d.time.selected = some g → g.port = port → g.source = m.source →
      d.steered = true →
      (let ms := d.ingestRxStamp port m.ingressPs - (m.stampPs : Int) - corrToPs m.correction
       let off := ms - (d.obj K.MEAN_PATH_DELAY : Int)
       let e := (d.setTb (fun b => { b with masterToSlave := ms, frac := d.timeFraction, slewAt := t })).setObjI 32
         K.OFFSET_FROM_SOURCE off
       (m.twoStep = false → d.time.stepDue = true →
         exec (.ptpSyncReceived t port m) s = .next (after t s
           ((e.setTb (fun b => { b with
             stepDue := false, lastStepPs := off, slewPs := 0, run := 0, frac := fracAfter b.frac (-off) })).setObjI 32
             K.OFFSET_FROM_SOURCE 0))) ∧
       (m.twoStep = false → d.time.stepDue = false → off.natAbs ≤ 100000 →
         exec (.ptpSyncReceived t port m) s = .next (after t s
           (e.setTb (fun b => { b with slewPs := off, slewPpm := 50, run := b.run + 1 })))) ∧
       (m.twoStep = false → d.time.stepDue = false → 100000 < off.natAbs → d.tstate = tsLocked →
         exec (.ptpSyncReceived t port m) s = .next (after t s
           ((e.setTb (fun b => { b with slewPs := off, slewPpm := 50, run := 0 })).setTimeState tsAcquiring))) ∧
       (m.twoStep = true →
         exec (.ptpSyncReceived t port m) s = .next (after t s (d.setTb (fun b => { b with
           awaiting := (b.awaiting.filter (fun a => a.1 != port)) ++ [(port, m.sequence, d.ingestRxStamp port m.ingressPs, m.correction)] })))) ∧
       (∀ a, d.time.awaiting.find? (fun a => a.1 == port && a.2.1 == m.sequence) = some a →
         exec (.ptpFollowUpReceived t port m) s = .next (after t s
           ((d.setTb (fun b => { b with awaiting := b.awaiting.filter (fun x => x.1 != port) })).ptpOffset a.2.2.1
             m.stampPs (a.2.2.2 + m.correction)))))) ∧
    (∀ g t3, d.ptpInProfile port m (-7) 0 = true → d.time.selected = some g → g.port = port → g.source = m.source →
      d.time.delayReq = some (port, m.sequence, t3) → m.forMe = true →
      exec (.ptpDelayRespReceived t port m) s = .next (after t s
        ((d.setTb (fun b => { b with delayReq := none })).setObj K.MEAN_PATH_DELAY
          (clampI 0 ((2 ^ 32 : Nat) - 1 : Int)
            ((d.time.masterToSlave + ((m.stampPs : Int) - (t3 : Int) - corrToPs m.correction)) / 2)).toNat))) ∧
    (∀ g egress, d0.time.selected = some g → g.port = port →
      exec (.delayReqSend t port egress) s = .next (after t s
        (let seq := (d0.time.delaySeq + 1) % 2 ^ 16
         (d0.setTb (fun b => { b with delaySeq := seq, delayReq := some (port, seq, d0.ingestTxStamp port egress) })).emit
           (.delayReq port seq (d0.bootObj K.PTP_DELAY_UNICAST == 1))))) ∧
    (d.ptpInProfile port m (-3) 1 = true →
      (∀ y ∈ d.time.masters, ¬ (y.port = port ∧ y.source = m.source)) →
      exec (.ptpAnnounceReceived t port m) s = .next (after t s
        ((d.setTb (fun b => { b with masters := b.masters ++
          [{ port := port, gm := m.gm, priority1 := m.priority1, clockClass := m.clockClass, accuracy := m.accuracy,
             variance := m.variance, priority2 := m.priority2, stepsRemoved := m.stepsRemoved, source := m.source,
             utcOffset := m.utcOffset, ptpTimescale := m.ptpTimescale, heard := 1, lastAt := t,
             interval := 10 ^ 9 * 2 ^ (m.logInterval + 3).toNat / 8 }] })).selectMaster))) ∧
    (let late := fun (x : ForeignMaster) => x.port == port && decide (x.lastAt + 3 * x.interval ≤ t)
     (d0.time.masters.any late = true →
       exec (.announceReceiptTimeout t port) s = .next (after t s
         (((d0.bump K.ANNOUNCE_TIMEOUTS).setTb (fun b => { b with
           masters := b.masters.filter (fun x => !late x) })).selectMaster))) ∧
     (d0.time.masters.any late = false → exec (.announceReceiptTimeout t port) s = .next (after t s d0)))

/-- PTP on ingest: what every message does. -/
def Obligations.EveryPtpMessageCompletesOnASender : Prop :=
  ∀ (s : State) (t : Time) (port : Nat) (m : PtpMsg), let d0 := s.dev.begin t
    SenderRuns d0 → d0.portExists port = true →
    (m.vlan = true ∨ 1522 < m.frameLen → ∀ i ∈ [Instr.ptpSyncReceived t port m, .ptpFollowUpReceived t port m,
        .ptpAnnounceReceived t port m, .ptpDelayRespReceived t port m],
      exec i s = .next (after t s (d0.bump (K.ING_DROPPED port)))) ∧
    (m.vlan = false → m.frameLen ≤ 1522 →
      let d := d0.smpteRx port m
      let at' := d.ingestRxStamp port m.ingressPs
      let mine := d.fromSelected port m
      let waits := d.time.awaiting.find? (fun a => a.1 == port && a.2.1 == m.sequence)
      exec (.ptpSyncReceived t port m) s = .next (after t s
        (if d.ptpInProfile port m (-7) (-1) = false then d.bump K.PTP_FOREIGN_COUNT
         else if mine = false then d
         else if m.twoStep = true then d.setTb (fun b => { b with
           awaiting := b.awaiting.filter (fun a => a.1 != port) ++ [(port, m.sequence, at', m.correction)] })
         else d.ptpOffset at' m.stampPs m.correction)) ∧
      exec (.ptpFollowUpReceived t port m) s = .next (after t s
        (if d.ptpInProfile port m (-7) (-1) = false then d.bump K.PTP_FOREIGN_COUNT
         else if mine = false then d
         else match waits with
           | none => d
           | some a => (d.setTb (fun b => { b with awaiting := b.awaiting.filter (fun x => x.1 != port) })).ptpOffset
               a.2.2.1 m.stampPs (a.2.2.2 + m.correction))) ∧
      exec (.ptpDelayRespReceived t port m) s = .next (after t s
        (if d.ptpInProfile port m (-7) 0 = false then d.bump K.PTP_FOREIGN_COUNT
         else match d.time.delayReq with
           | none => d
           | some (q, seq, t3) =>
             if q = port ∧ seq = m.sequence ∧ m.forMe = true ∧ mine = true then
               (d.setTb (fun b => { b with delayReq := none })).setObj K.MEAN_PATH_DELAY
                 (clampI 0 ((2 ^ 32 : Nat) - 1 : Int)
                   ((d.time.masterToSlave + ((m.stampPs : Int) - (t3 : Int) - corrToPs m.correction)) / 2)).toNat
             else d)) ∧
      exec (.ptpAnnounceReceived t port m) s = .next (after t s
        (if d.ptpInProfile port m (-3) 1 = false then d.bump K.PTP_FOREIGN_COUNT
         else
           let same := fun (y : ForeignMaster) => y.port == port && y.source == m.source
           let interval := 10 ^ 9 * 2 ^ (m.logInterval + 3).toNat / 8
           let heard := match d.time.masters.find? same with
             | some o => if t ≤ o.lastAt + 4 * interval then o.heard + 1 else 1
             | none => 1
           (d.setTb (fun b => { b with masters := b.masters.filter (fun y => !same y) ++
             [{ port := port, gm := m.gm, priority1 := m.priority1, clockClass := m.clockClass, accuracy := m.accuracy,
                variance := m.variance, priority2 := m.priority2, stepsRemoved := m.stepsRemoved, source := m.source,
                utcOffset := m.utcOffset, ptpTimescale := m.ptpTimescale, heard := heard, lastAt := t,
                interval := interval }] })).selectMaster)))

/-- R90: when a device locks. -/
def Obligations.TheRunOfSyncsLocksTheTimeBase : Prop :=
  (∀ (s : State) (t : Time), let d := s.dev.begin t
    d.portsRun = true → d.steered = true → d.tstate = tsAcquiring →
    ((if d.isSender then 16 else 64) ≤ d.time.run →
      exec (.timeLocked t) s = .next (after t s (d.setTimeState tsLocked))) ∧
    (d.time.run < (if d.isSender then 16 else 64) → exec (.timeLocked t) s = .next (after t s d))) ∧
  (∀ (d : Dev) (off : Int), d.time.stepDue = false → (d.tstate ≠ tsAcquiring ∨ d.mode ≠ 0) →
    (d.steer off).time.run =
      if off.natAbs ≤ (if d.isSender then 100000 else 2000) then d.time.run + 1 else 0)

/-- Time states and their watches. -/
def Obligations.TimeStatesAreLeftAndWatched : Prop :=
  ∀ (s : State) (t : Time), let d := s.dev.begin t
    (∀ u, d.pliukRuns = true → d.baseRun ≠ .recovery → d.tstate = tsHoldover → d.time.holdoverAt = some u →
      (u + d.obj K.HOLDOVER_LIMIT * 1000000 ≤ t → exec (.holdoverLimitExpiry t) s = .next (after t s
        (d.setTimeState (if d.isSender then tsFreerun else tsUnlocked)))) ∧
      (t < u + d.obj K.HOLDOVER_LIMIT * 1000000 → exec (.holdoverLimitExpiry t) s = .next (after t s d))) ∧
    (TileRuns d →
      (let quiet := fun (h : PortId) => ∀ u, d.time.lastSync.getD h none = some u → u + eightSyncs ≤ t
       (quiet 0 → quiet 1 →
         (d.tstate = tsLocked → exec (.syncLossTimeout t) s = .next (after t s
           (((d.setObj K.TIME_SOURCE 255).setTimeState tsHoldover).fault 3 K.TIME_STATE 0))) ∧
         (d.tstate = tsAcquiring → exec (.syncLossTimeout t) s = .next (after t s
           ((d.setObj K.TIME_SOURCE 255).setTimeState tsUnlocked)))) ∧
       (∀ u, d.obj K.PATH_ACTIVE ≤ 1 → quiet (d.obj K.PATH_ACTIVE) →
         d.time.lastSync.getD (Dev.otherPort (d.obj K.PATH_ACTIVE)) none = some u → t < u + eightSyncs →
         exec (.timeSourceSwitch t) s = .next (after t s
           (((d.setTb (fun b => { b with followed := some (Dev.otherPort (d.obj K.PATH_ACTIVE)) })).setObj K.TIME_SOURCE
             (Dev.otherPort (d.obj K.PATH_ACTIVE))).reportClass)))) ∧
      (128 ≤ d.time.dirBad → exec (.dirCheckFault t) s = .next (after t s
        ((d.setTb (fun b => { b with dirBad := 0 })).bumpFault 3 K.DIR_CHECK_FAULTS 0)))) ∧
    (∀ u, SenderRuns d → d.obj K.PAIR_OFFSET_LIMIT * 1000 < (d.objI 32 K.PAIR_TIME_OFFSET).natAbs →
      d.time.pairBeyond = some u → u + 10 ^ 9 ≤ t →
      exec (.pairOffsetFault t) s = .next (after t s
        ((d.setTb (fun b => { b with pairBeyond := some t })).fault 3 K.PAIR_TIME_OFFSET 0))) ∧
    (d.pliukRuns = true → d.baseRun ≠ .recovery → ∀ pll ppm,
      (let bad := if ppm.natAbs > 200 then d.time.ppmBad + 1 else 0
       ((pll = true ∧ bad < 8) → exec (.timeBaseCheck t pll ppm) s = .next (after t s
         (d.setTb (fun b => { b with ppmBad := bad, baseBad := false })))) ∧
       ((pll = false ∨ 8 ≤ bad) → d.tstate = tsLocked →
         exec (.timeBaseCheck t pll ppm) s = .next (after t s
           (let e := (d.setTb (fun b => { b with ppmBad := bad, baseBad := true })).setTimeState tsHoldover
            if d.time.baseBad = true then e else e.fault 3 K.TIME_STATE 0)))))

/-- Time inside the wall. -/
def Obligations.TimeTravelsTheWall : Prop :=
  ∀ (s : State) (t : Time) (h : PortId), let d := s.dev.begin t
    d.portsRun = true → d.portUp h = true →
    (d.serving = true →
      (∀ egress, exec (.withySyncSend t { port := h, egressPs := egress }) s = .next (after t s
        ((d.transmit h (mkPacket clsTim 0xFF 0
          (let ps := d.txStamp h egress
           timBytes 0 (d.bootObj K.PTP_DOMAIN) 0 (d.time.syncSeq.getD h 0) (psToCorr ((ps % 1000 : Nat) : Int))
             d.fix.fuses.uid (h + 1) (-13) (stampBytes ps)))).setTb (fun b =>
          { b with syncSeq := upd h (fun q => (q + 1) % 2 ^ 16) b.syncSeq })))) ∧
      (∃ body, timClass body = d.classNow % 256 ∧ timType body = 0xB ∧
        exec (.withyAnnounceSend t h) s = .next (after t s
          ((d.transmit h (mkPacket clsTim 0xFF 0 body)).setTb (fun b =>
            { b with announceSeq := upd h (fun q => (q + 1) % 2 ^ 16) b.announceSeq }))))) ∧
    (∀ egress, let seq := (d.time.pdelaySeq.getD h 0 + 1) % 2 ^ 16
      let q := mkPacket clsTim 0 1
        (timBytes 2 (if d.isSender then d.bootObj K.PTP_DOMAIN else d.time.domain) 0 seq 0 d.fix.fuses.uid (h + 1) (-3)
          (stampBytes 0 ++ zeros 10))
      let e := d.setTb (fun b => { b with pdelaySeq := upd h (fun _ => seq) b.pdelaySeq })
      (d.isSender = true → d.time.everTimed = true → exec (.pdelayReqSend t h egress) s = .next (after t s
        ((e.transmit h q).setTb (fun b =>
          { b with pdelayOut := upd h (fun _ => some (seq, d.txStamp h egress)) b.pdelayOut })))) ∧
      (d.isTile = true → exec (.pdelayReqSend t h egress) s = .next (after t s
        (e.setPort h (fun x => { x with own := x.own ++ [q] }))))) ∧
    (∀ p ingress, pktPasses p = true →
      (∀ egress, pktLink p = true →
        (let b := timBytes 3 (timDomain p.body) 0 (timSeq p.body) (timCorr p.body) d.fix.fuses.uid (h + 1) 0x7F
           (stampBytes 0 ++ be 8 (timClock p.body) ++ slice 28 2 p.body)
         (d.isSender = true → d.time.everTimed = true → (d.port h).respIn = [] → h < d.withy.ports.length →
           exec (.pdelayReqReceived t h p ingress egress) s = .next (after t s
             (((d.countRx h p).setPort h (fun x => { x with respIn := [] })).transmit h (mkPacket clsTim 0 1
               (splice 8 (be 8 (ofSigned 64
                 (timCorr b + psToCorr ((d.txStamp h egress : Int) - d.rxStamp h ingress)))) b))))) ∧
         (d.isTile = true →
           exec (.pdelayReqReceived t h p ingress egress) s = .next (after t s
             (((d.countRx h p).setPort h (fun x => { x with respIn := x.respIn ++ [d.rxStamp h ingress] })).setPort h
               (fun x => { x with own := x.own ++ [mkPacket clsTim 0 1 b] })))))) ∧
      (∀ t1, pktLink p = true → d.time.pdelayOut.getD h none = some (timSeq p.body, t1) →
        fieldAt 44 8 p.body = d.fix.fuses.uid →
        exec (.pdelayRespReceived t h p ingress) s = .next (after t s
          (let m := ((d.rxStamp h ingress - (t1 : Int) - corrToPs (timCorr p.body)) / 2).toNat
           let hist := ((d.time.pdelayHist.getD h []) ++ [m]).drop ((d.time.pdelayHist.getD h []).length - 15)
           ((d.countRx h p).setTb (fun b => { b with
             pdelayOut := upd h (fun _ => none) b.pdelayOut,
             pdelayHist := upd h (fun _ => hist) b.pdelayHist })).setLinkDelay h
               ((medianOf (hist.map Int.ofNat)).toNat)))) ∧
      (∀ egress, d.isTile = true → pktLink p = false → d.portUp (Dev.otherPort h) = true →
        exec (.timSyncReceived t h p ingress egress) s = .next (after t s
          (let e := (d.countRx h p).useSync h p ingress
           let k := K.WITHY_RESIDENCE_MAX (Dev.otherPort h)
           let e := if e.portUp (Dev.otherPort h) then
               e.setObj k (clampN (e.obj k) 65535
                 (ceilDiv ((e.txStamp (Dev.otherPort h) egress : Int) - e.rxStamp h ingress).toNat 1000)) else e
           e.forward h p (splice 8 (be 8 (ofSigned 64
             (timCorr p.body + psToCorr ((e.txStamp (Dev.otherPort h) egress : Int) - e.rxStamp h ingress +
               (e.linkDelay h : Int))))) p.body)))) ∧
      (d.isTile = true → pktLink p = false →
        exec (.timAnnounceReceived t h p) s = .next (after t s
          (((((d.countRx h p).setTb (fun b =>
            { b with portClass := upd h (fun _ => timClass p.body) b.portClass,
                     portGm := upd h (fun _ => timGm p.body) b.portGm,
                     domain := timDomain p.body })).reportClass)).forward h p p.body))) ∧
      (d.isSender = true →
        (timType p.body = 0xB →
          exec (.pairSyncReceived t h p ingress) s = .next (after t s
            ((d.countRx h p).setTb (fun b => { b with
              portClass := upd h (fun _ => timClass p.body) b.portClass
              partnerFreerunSince := if timClass p.body = 248 then (match b.partnerFreerunSince with
                | some u => some u
                | none => some t) else none })))) ∧
        (timType p.body ≠ 0xB → d.hoopClosed h = true → h < d.time.pairOffset.length → h < 4 →
          exec (.pairSyncReceived t h p ingress) s = .next (after t s
            (let e := d.countRx h p
             let raw := e.rxStamp h ingress - ((timStamp p.body : Int) + corrToPs (timCorr p.body)) - (e.linkDelay h : Int)
             let e := e.setTb (fun b => { b with
               lastSync := upd h (fun _ => some t) b.lastSync, pairOffset := upd h (fun _ => some (-raw)) b.pairOffset })
             (e.setObjI 32 K.PAIR_TIME_OFFSET (medianOf ((List.range 4).filterMap (fun k =>
               if e.hoopClosed k then e.time.pairOffset.getD k none else none)))).watchPair)))))

/-- Capture inputs. -/
def Obligations.CaptureEdgesAreStamped : Prop :=
  ∀ (s : State) (t : Time) (n : Nat), let d := s.dev.begin t
    d.pliukRuns = true → d.baseRun ≠ .recovery →
    (∀ rising width, n < 8 → 20 ≤ width → (d.cap n).level ≠ some rising → d.obj (K.CAP_MODE n) ≠ 0 →
      (let d := d.setCap n (fun c => { c with level := some rising })
       let at' := ((t : Int) - d.objI 32 (K.CAP_DELAY_COMP n)).toNat
       let stamp := b2n rising * 2 ^ 63 + at' % 2 ^ 48
       let wanted := d.obj (K.CAP_EDGE n) == 2 || (d.obj (K.CAP_EDGE n) == 0 && rising) ||
         (d.obj (K.CAP_EDGE n) == 1 && !rising)
       let e := if wanted then
           (let e := d.setObj (K.CAP_LAST_EDGE n) (at' % 2 ^ 48)
            if (d.cap n).fifo.length < 64 then e.setCap n (fun c => { c with fifo := c.fifo ++ [stamp] })
            else e.bump (K.CAP_FIFO_OVERFLOW n))
         else d
       exec (.captureEdge t n rising width) s = .next (after t s
         (if d.obj (K.CAP_MODE n) = 2 then e.shutterEdge n at' (rising != (e.obj (K.CAP_INVERT n) == 1))
          else if d.obj (K.CAP_MODE n) = 3 ∧ wanted = true then e.syncEdge n at' else e)))) ∧
    (∀ rising width, n < 8 → width < 20 ∨ (d.cap n).level = some rising →
      exec (.captureEdge t n rising width) s = .next (after t s
        (d.setCap n (fun c => { c with level := some ((d.cap n).level.getD (!rising)) })))) ∧
    (∀ o, (d.cap n).openAt = some o → d.mode ≠ 0 →
      o + d.baseFrame ≤ ((t : Int) - d.objI 32 (K.CAP_DELAY_COMP n)).toNat →
      exec (.shutterOpenTimeout t n) s = .next (after t s
        ((d.setCap n (fun c => { c with openAt := none })).bump (K.CAP_OUTSIDE_COUNT n))))

/-- Trigger outputs. -/
def Obligations.TriggersAreProgrammedAndFire : Prop :=
  ∀ (s : State) (t : Time) (n : Nat), n < 8 → let d := s.dev.begin t
    (∀ sid v x, ScalarOpen d sid (K.TRIG_MODE n) v x →
      ((∃ p, d.trigPeriod n v = some p ∧ p ≤ d.obj (K.TRIG_WIDTH n) + 20) →
        exec (.trigModeWrite t sid n v) s = .next (after t s (d.emit (.entry sid (K.TRIG_MODE n) Status.RANGE)))) ∧
      (v = 1 → wallDiff (d.obj (K.TRIG_START n)) d.wall < 10000 →
        exec (.trigModeWrite t sid n v) s = .next (after t s (d.emit (.entry sid (K.TRIG_MODE n) Status.TOO_LATE)))) ∧
      ((∀ p, d.trigPeriod n v = some p → d.obj (K.TRIG_WIDTH n) + 20 < p) →
        (v = 1 → 10000 ≤ wallDiff (d.obj (K.TRIG_START n)) d.wall) →
        exec (.trigModeWrite t sid n v) s = .next (after t s
          (((d.keepObj (K.TRIG_MODE n) v).setTrig n (fun g =>
            { g with writtenAt := t, base := (t : Int) + wallDiff (d.obj (K.TRIG_START n)) d.wall, fired := false })).emit
            (.entry sid (K.TRIG_MODE n) Status.OK))))) ∧
    (d.pliukRuns = true → d.baseRun ≠ .recovery → d.trigDue n = true →
      exec (.triggerEdge t n) s = .next (after t s
        (let w := d.obj (K.TRIG_WIDTH n)
         ((((d.setTrig n (fun g => { g with fired := true, pulseEnd := some (t + w) })).bumpWrap
           (K.TRIG_FIRED_COUNT n)).setObj (K.TRIG_LAST_EDGE n) d.wall).emit
             (.trig n (d.obj (K.TRIG_INVERT n) == 0) w)))))

/-! ### Ingest (04_ingest.md) -/

/-- Ingest: packets and links. -/
def Obligations.IngestPortsTakeTheirPackets : Prop :=
  ∀ (s : State) (t : Time) (port : Nat), let d := s.dev.begin t
    SenderRuns d →
    (d.portExists port = true →
      (∀ p, p.vlan = true ∨ 1522 < p.frameLen ∨ (∀ nl ∈ Dev.allLegs, d.legMatches port p nl.1 nl.2 = false) →
        exec (.ingestRtpPacket t port p) s = .next (after t s (d.bump (K.ING_DROPPED port)))) ∧
      (∀ p n l, p.vlan = false → p.frameLen ≤ 1522 → d.findLeg port p = some (n, l) →
        (let e := ((d.setStream n (fun q => { q with legAt := upd l (fun _ => some t) q.legAt })).setObj
           (K.STR_LEG_STATE n) (setBit l true (d.obj (K.STR_LEG_STATE n)))).ageSeen n
         let seq := (p.extended % 65536) * 65536 + p.sequence % 65536
         let e' := e.setStream n (fun q => { q with seen := (seq, l, t) :: q.seen })
         (p.version ≠ 2 ∨ 3 < p.segments.length →
           exec (.ingestRtpPacket t port p) s = .next (after t s e)) ∧
         (p.version = 2 → p.segments.length ≤ 3 →
           (p.segments.any (e.segmentBad n) = true →
             exec (.ingestRtpPacket t port p) s = .next (after t s (e.bump (K.STR_PKT_MALFORMED n)))) ∧
           (p.segments.any (e.segmentBad n) = false →
             (e.skewed n l seq = true →
               exec (.ingestRtpPacket t port p) s = .next (after t s (e.bump (K.STR_SKEW_EXCEEDED n)))) ∧
             (e.skewed n l seq = false →
               (((e.stream n).seen.any (fun x => x.1 == seq)) = true →
                 exec (.ingestRtpPacket t port p) s = .next (after t s e)) ∧
               (((e.stream n).seen.any (fun x => x.1 == seq)) = false →
                 exec (.ingestRtpPacket t port p) s = .next (after t s
                   (if (e'.stream n).frames.any (fun f => f.stamp == p.timestamp) ||
                       (e'.stream n).dropped.any (fun z => z.1 == p.timestamp && decide (t < z.2 + 2000000000)) then
                     e'.placePacket n seq p
                    else (e'.openFrame n p.timestamp).placePacket n seq p)))))))) ∧
      (∀ sender mac len, d.obj (K.ING_IPV4_ADDR port) ≠ 0 → len ≤ 1522 →
        exec (.ingestArpRequest t ⟨port, false, len⟩ (d.obj (K.ING_IPV4_ADDR port)) sender mac) s =
          .next (after t s (d.emit (.arpReply port sender mac)))) ∧
      (∀ src data len, d.obj (K.ING_IPV4_ADDR port) ≠ 0 → len ≤ 1522 →
        exec (.ingestIcmpEcho t ⟨port, false, len⟩ (d.obj (K.ING_IPV4_ADDR port)) src data) s =
          .next (after t s (d.emit (.icmpReply port src data)))) ∧
      (∀ vlan len target src mac data, vlan = true ∨ 1522 < len →
        exec (.ingestArpRequest t ⟨port, vlan, len⟩ target src mac) s = .next (after t s (d.bump (K.ING_DROPPED port))) ∧
        exec (.ingestIcmpEcho t ⟨port, vlan, len⟩ target src data) s = .next (after t s (d.bump (K.ING_DROPPED port)))) ∧
      (d.groupsOf port ≠ [] →
        exec (.igmpMembershipReport t port) s = .next (after t s (d.emit (.igmpReport port (d.groupsOf port))))) ∧
      (port < 8 →
        exec (.ingestLinkChange t port true) s = .next (after t s
          ((({ d with free := d.free + 1 }).setTb (fun b => { b with
            ingestPhase := upd port (fun _ => Config.freeValue d.free % 2 ^ 32) b.ingestPhase })).setObj (K.ING_LINK port) 1)) ∧
        exec (.ingestLinkChange t port false) s = .next (after t s
          ((d.setTb (fun b => { b with
            ingestPhase := upd port (fun _ => d.time.ingestPhase.getD port 0) b.ingestPhase })).setObj (K.ING_LINK port) 0)))) ∧
    (∀ up, exec (.mgmtLinkChange t up) s = .next (after t s (d.setObj K.MGMT_LINK (b2n up))))

/-- Ingest: time-outs and stills. -/
def Obligations.FramesAndStillsFollowTheirStates : Prop :=
  ∀ (s : State) (t : Time) (n : Nat), let d := s.dev.begin t
    (SenderRuns d →
      (let due := fun (f : InFrame) => f.completeAt.isNone && !f.closed &&
         (match f.endAt with
           | none => false
           | some e => decide (e + 20000000 ≤ t))
       exec (.frameIncompleteTimeout t n) s = .next (after t s
         (((d.stream n).frames.filter due).foldl
           (fun e f => (e.bump (K.STR_FRAMES_INCOMPLETE n)).recordFrame n f.delay none)
           (d.setStream n (fun q => { q with
             frames := q.frames.map (fun f => if due f then { f with closed := true } else f) }))))) ∧
      (∀ l a, (d.stream n).legAt.getD l none = some a → a + 10000000 ≤ t →
        exec (.legLossTimeout t n l) s = .next (after t s
          ((d.setStream n (fun q => { q with legAt := upd l (fun _ => none) q.legAt })).setObj (K.STR_LEG_STATE n)
            (setBit l false (d.obj (K.STR_LEG_STATE n)))))) ∧
      (∀ m w f u, (d.stillSt n).capture = some (m, w) → w ≤ t → d.candidate m w = some f → f.completeAt = some u →
        exec (.stillCaptureInstant t n) s = .next (after t s
          ((d.setStill n (fun q => { q with rows := f.rows, capture := none })).setObj (K.STILL_STATE n) 2))) ∧
      (∀ m w, (d.stillSt n).capture = some (m, w) → w + 1000000000 ≤ t →
        exec (.stillCaptureTimeout t n) s = .next (after t s
          ((d.setStill n (fun q => { q with rows := [], capture := none })).setObj (K.STILL_STATE n) 4)))) ∧
    (n < 16 → ∀ sid x,
      (∀ v, ScalarOpen d sid (K.STILL_CAPTURE n) v x → d.captureCheck n v = Status.OK →
        exec (.stillCapture t sid n v) s = .next (after t s
          ((((d.setStill n (fun q => { q with
            stored := true, rows := [], capture := some (v / 2 ^ 48 % 16, wallToAbs t (v % 2 ^ 48)) })).setObj
              (K.STILL_STATE n) 1).tryCapture n).emit (.entry sid (K.STILL_CAPTURE n) Status.OK)))) ∧
      (∀ v, ScalarOpen d sid (K.STILL_RELEASE n) v x →
        (d.stillState n = 3 → exec (.stillRelease t sid n v) s = .next (after t s
          ((d.setStill n (fun q => { q with releasing := true })).emit (.entry sid (K.STILL_RELEASE n) Status.OK)))) ∧
        (d.stillState n = 2 ∨ d.stillState n = 4 → exec (.stillRelease t sid n v) s = .next (after t s
          (((d.setStill n (fun _ => { rows := [], stored := false, capture := none, releasing := false })).setObj
            (K.STILL_STATE n) 0).emit (.entry sid (K.STILL_RELEASE n) Status.OK)))) ∧
        (d.stillState n = 1 → exec (.stillRelease t sid n v) s = .next (after t s
          (d.emit (.entry sid (K.STILL_RELEASE n) Status.BUSY)))) ∧
        (d.stillState n = 0 → exec (.stillRelease t sid n v) s = .next (after t s
          (d.emit (.entry sid (K.STILL_RELEASE n) Status.OK))))) ∧
      (∀ b g, ChunkOpen d sid (K.STILL_DATA n) b x → d.stageOf x.id 0 (K.STILL_DATA n) = some g →
        Dev.chunkFits g b = true → b.more = false →
        exec (.stillDataWrite t sid n b) s = .next (after t s
          (let data := g.data ++ b.data
           let lb := lineBytes (d.obj (K.STILL_FORMAT n)) (d.obj (K.STILL_WIDTH n))
           ((((d.dropStage x.id 0 (K.STILL_DATA n)).setStill n (fun q => { q with
             stored := true
             rows := (List.range (d.obj (K.STILL_HEIGHT n))).map (fun y => (y, 0, slice (y * lb) lb data)) })).setObj
               (K.STILL_STATE n) 2).emit (.entry sid (K.STILL_DATA n) Status.OK))))))

/-- BLOB rows: staging. -/
def Obligations.BlobsAreStagedChunkByChunk : Prop :=
  ∀ (s : State) (t : Time) (sid : SessionId) (n : Nat) (b : Chunk) (x : Session), let d := s.dev.begin t
    ∀ i ∈ [(Instr.stillDataWrite t sid n b, K.STILL_DATA n, 16), (.timgDataWrite t sid n b, K.TIMG_DATA n, 2),
        (.ovlDataWrite t sid n b, K.OVL_DATA n, 4), (.prismCalImage t sid b true, K.PRISM_CAL_IMAGE, n + 1),
        (.eqTableWrite t sid b, K.EQ_TABLE, n + 1)], n < i.2.2 → ChunkOpen d sid i.2.1 b x →
      (let stage := fun (data : Bytes) =>
         ({ key := i.2.1, session := x.id, txn := 0, total := b.total, data := data, lastChunk := t } : BlobStage)
       (d.blobNext i.2.1 b.total ≠ Status.OK →
         exec i.1 s = .next (after t s (((d.dropStage x.id 0 i.2.1).stageAbort (d.stageOf x.id 0 i.2.1)).emit
           (.entry sid i.2.1 (d.blobNext i.2.1 b.total))))) ∧
       (d.blobNext i.2.1 b.total = Status.OK → d.stageOf x.id 0 i.2.1 = none →
         (Dev.chunkBad b = true →
           exec i.1 s = .next (after t s (d.emit (.entry sid i.2.1 Status.LENGTH)))) ∧
         (Dev.chunkBad b = false → d.blobFirst i.2.1 b.total ≠ Status.OK →
           exec i.1 s = .next (after t s (d.emit (.entry sid i.2.1 (d.blobFirst i.2.1 b.total))))) ∧
         (Dev.chunkBad b = false → d.blobFirst i.2.1 b.total = Status.OK → b.more = true →
           exec i.1 s = .next (after t s
             (((((d.blobBegin i.2.1).dropStage x.id 0 i.2.1).setPliuk (fun p => { p with
               stages := p.stages ++ [stage b.data] })).emit (.entry sid i.2.1 Status.OK)))))) ∧
       (∀ g, d.blobNext i.2.1 b.total = Status.OK → d.stageOf x.id 0 i.2.1 = some g →
         (Dev.chunkFits g b = true → b.more = true →
           exec i.1 s = .next (after t s
             (((d.dropStage x.id 0 i.2.1).setPliuk (fun p => { p with
               stages := p.stages ++ [stage (g.data ++ b.data)] })).emit (.entry sid i.2.1 Status.OK)))) ∧
         (Dev.chunkFits g b = false →
           exec i.1 s = .next (after t s
             (((d.dropStage x.id 0 i.2.1).blobAbort i.2.1).emit (.entry sid i.2.1 Status.LENGTH))))))

/-! ### The Wale codec and scan-out (06_wale_codec.md, 07_facet_scanout.md) -/

/-- Wale codec on a sender. -/
def Obligations.WalesAreCodedAndSent : Prop :=
  ∀ (s : State) (t : Time) (h : PortId) (dist i q : Nat) (g : EncRegion),
    SenderRuns (s.dev.begin t) → let d := (s.dev.begin t).settleSelection (t + 1)
    d.regionAt h dist i = some (q, g) →
    (let c := facetCount d.mode
     let ref := refFor g.refs (q % c) i ((q / c) % 2 ^ 32) g.w16
     (t ≤ d.encodeDeadline q g.h16 i →
       exec (.encodeWale t h dist i { fault := .sound }) s = .next (after t s
         (let b := g.w16 * 16 * (g.h16 * 16) * d.obj (K.ENC_BPP_BUDGET h) / 256
          let lim := b - (g.h16 - 1 - i) * (b / (16 * g.h16))
          let o := codeWale (d.bandMode h) g.e (d.obj (K.ENC_E_MAX h)) ref
            (if d.bandMode h then none else some ((q / c) % g.w16)) (d.composedWale (q % c) g i) (lim - g.spent)
          let e := (d.notePassed g i false).emitWale h dist q i g ref o
          if e.facetPassed q then e.senderChecks q else e))) ∧
     (d.encodeDeadline q g.h16 i ≤ t →
       exec (.waleDeadline t h dist i) s = .next (after t s
         (let e := ((d.bump K.COMP_WALES_LATE).notePassed g i true).emitWale h dist q i g ref (truncForm ref)
          if e.facetPassed q then e.senderChecks q else e))))

/-- The tile's facet pipeline. -/
def Obligations.ATileTakesDecodesAndLoadsWales : Prop :=
  ∀ (s : State) (t : Time), let d := s.dev.begin t
    TileRuns d →
    (∀ h p, d.portUp h = true → pktLink p = false →
      (Dev.targetsMe p = true → pktPasses p = true → 17 ≤ p.body.length →
        (fieldAt 0 4 p.body = d.fix.fuses.uid % 2 ^ 32 → (d.countRx h p).tileActive = true → ∀ can,
          exec (.pixFragmentReceived t h p can) s = .next (after t s ((d.countRx h p).takeFragment h p.body))) ∧
        (fieldAt 0 4 p.body ≠ d.fix.fuses.uid % 2 ^ 32 → ∀ can,
          exec (.pixFragmentReceived t h p can) s =
            .next (after t s ((d.countRx h p).bump (K.WITHY_MISADDRESSED h))))) ∧
      (Dev.targetsMe p = false → (d.countRx h p).portUp (Dev.otherPort h) = true →
        (∀ can, can = true ∨ ((d.countRx h p).port h).rate ≤ ((d.countRx h p).port (Dev.otherPort h)).rate →
          exec (.pixFragmentReceived t h p can) s = .next (after t s ((d.countRx h p).forward h p p.body))) ∧
        (((d.countRx h p).port (Dev.otherPort h)).rate < ((d.countRx h p).port h).rate →
          exec (.pixFragmentReceived t h p false) s =
            .next (after t s ((d.countRx h p).bump (K.WITHY_PIX_DROPPED (Dev.otherPort h))))))) ∧
    (∀ path frame facet wale, exec (.decodeWale t path frame facet wale { fault := .sound }) s =
      .next (after t s (d.decodeWale path frame facet wale))) ∧
    (∀ q f i, d.tile.pass = some (q, f) → d.tileActive = true → i < d.wales → d.closeTime q i ≤ t →
      d.tile.sel.any (fun y => y.wale == i) = false → d.passUncomposed q = false →
      exec (.pathSelectionClose t i) s = .next (after t s
        (let c := facetCount d.mode
         let j := q % c
         let e := ((d.armTests q).decodeWale 0 ((q / c) % 2 ^ 32) j i).decodeWale 1 ((q / c) % 2 ^ 32) j i
         let back := if e.tile.endShow then e.endRow i else e.dispRow j i
         let r := e.pickWale i back
         let src := match r.2.obj K.SCAN_SOURCE with
           | 0 => r.1
           | 1 => if r.2.tile.endShow then back else r.2.patternRow i
           | _ => if r.2.tile.endShow then back else r.2.imageRow (r.2.obj K.SCAN_IMAGE_SELECT) i
         let e := r.2.setTile (fun z => { z with sel := z.sel ++
           [{ wale := i, picked := r.1, src := src, shown := r.2.overlayRow i src, prism := none, loaded := false,
              missed := false }] })
         if i + 1 = e.wales then e.judgeLost else e))) ∧
    (d.obj K.SCAN_STATE = 4 → d.obj K.LOSS_HOLD_FACETS ≤ d.tile.lostRun →
      exec (.lossHoldExpiry t) s = .next (after t s (d.setScan 5))) ∧
    (∀ q f i y, d.tile.pass = some (q, f) → d.selOf i = some y → y.missed = false →
      (y.prism = none → d.tile.abandoned.contains i = false →
        exec (.prismWaleDone t i { fault := .sound }) s = .next (after t s
          (let outs := (y.shown.zip (List.range y.shown.length)).flatMap (fun z =>
             d.prismPixel (16 * i * d.regionW + z.2) (z.1.r, z.1.g, z.1.b) (fun p => d.rangeBit (q % facetCount d.mode) i (4 * z.2 + p)))
           let e := (d.bumpBy (outs.filter (·.clipNeg)).length K.PRISM_CLIP_NEG).bumpBy
             (outs.filter (·.clipFull)).length K.PRISM_CLIP_FULL
           let e := e.setSel i (fun z => { z with prism := some (outs.map (fun o => { count := o.count, low := o.low })) })
           if i + 1 = e.wales then e.bumpWrap K.PRISM_FACETS else e))) ∧
      (∀ ws, y.prism = some ws → y.loaded = false → d.loadedBefore i = true → t ≤ d.waleDue (facetAt d.mode q) i →
        exec (.waleLoad t i) s = .next (after t s
          (let words := d.driveWords i ws
           let row : LoadRow := { facet := q % facetCount d.mode, wale := i, words := words, counts := true }
           (((d.sendWaleRows i words).setTile (fun z => { z with back := Dev.putLoad row z.back })).setSel i
             (fun z => { z with loaded := true })).setTile (fun z => { z with
             image := Dev.putLoad row z.image,
             disp := Dev.putDisp { facet := q % facetCount d.mode, wale := i, px := y.src } z.disp }))))) ∧
    (∀ q f i, d.tile.pass = some (q, f) → d.tileActive = true → i < d.wales → d.waleDue (facetAt d.mode q) i ≤ t →
      d.passUncomposed q = false → d.selOf i = none →
      exec (.waleLoadDeadline t i) s = .next (after t s (d.loadFromImage q i)))

/-- Flip packets, latch points and boundaries. -/
def Obligations.FlipsAndBoundaries : Prop :=
  ∀ (s : State) (t : Time), let d := s.dev.begin t
    d.portsRun = true →
    (∀ h second, d.isSender = true → d.mode ≠ 0 → d.tstate ≠ tsUnlocked → d.pair.sending = true →
      d.portUp h = true → d.obj K.INTEG_STATE = 1 →
      (let a := facetAt d.mode (facetNo d.mode t)
       t = (if second then a + (facetAt d.mode (facetNo d.mode t + 1) - a) / 2 else a + 20000) → d.enc.modeAt.2 ≤ a →
       exec (.flpSend t h second) s = .next (after t s
         (let e := d.checkKept false Dev.atFlp
          (e.sendOwn h (mkPacket clsFlp 0xFF 0 (flpBytes e.flpNext))).bumpWrap K.FLP_SENT)))) ∧
    (∀ h p, d.isTile = true → d.portUp h = true →
      (let e := d.countRx h p
       let e := if pktLink p = true then e else e.forward h p p.body
       (pktPasses p = false → exec (.flpReceived t h p) s = .next (after t s e)) ∧
       (pktPasses p = true → e.validFlp p.body = none →
         exec (.flpReceived t h p) s = .next (after t s (e.bumpFault 8 K.SCAN_FLP_INVALID h))) ∧
       (∀ y, pktPasses p = true → e.validFlp p.body = some y →
         exec (.flpReceived t h p) s = .next (after t s
           (let clamped := 768 < y.fader ∨ 0x8000 < y.ceiling
            let e := (if clamped then e.bump K.PRISM_PARAM_CLAMPED else e).holdFlp h y
            match e.flpFor y.f with
            | none => e
            | some z => ((if z.kind = 0 ∧ z.mode ≠ e.mode then e.adoptMode z else e).planFor z).armIfGoverned))))) ∧
    (d.mode ≠ 0 →
      (∀ u, t + Dev.latchLead = d.comingBoundary →
        exec (.latchPoint t u) s = .next (after t s
          (let e := d.complementChecks u
           let e := if e.isTile then e.tileLatch (facetAfter d.mode t) d.comingBoundary else e
           (e.setInteg (fun g => { g with reloading := g.reloading.filter (fun s => s != 4) })).updLatch
             d.comingBoundary))) ∧
      (isBoundary d.mode t = true →
        exec (.facetBoundary t) s = .next (after t s
          (let e := d.checkKept false Dev.atUse
           let q := facetNo e.mode t
           let e := if e.isSender && e.enc.composing == some q then e.senderChecks q else e
           let e := e.updBoundary t
           if e.start.run = .step 1 then e
           else
             let e := e.applyDue (some t)
             let e := if e.isTile then e.ovlApplyDue t else e
             let e := e.fallbackDue
             if e.isTile then e.tileBoundary q t else e.senderBoundary t)))) ∧
    (d.mode = 0 ∨ isBoundary d.mode t = false →
      exec (.facetBoundary t) s = .next (after t s (if d.isSender && d.adoptDue then d.senderBoundary t else d)))

/-- Tile images, the calibration image and the canvas. -/
def Obligations.ImagesAndCalibrationAreStored : Prop :=
  ∀ (s : State) (t : Time) (sid : SessionId) (x : Session), let d := s.dev.begin t
    (∀ i, i < 2 →
      (∀ b g, ChunkOpen d sid (K.TIMG_DATA i) b x → d.stageOf x.id 0 (K.TIMG_DATA i) = some g →
        d.imageShown i = false → b.total = d.regionPixels * 6 → Dev.chunkFits g b = true → b.more = false →
        exec (.timgDataWrite t sid i b) s = .next (after t s
          ((((d.dropStage x.id 0 (K.TIMG_DATA i)).keepBlob (K.TIMG_DATA i) (g.data ++ b.data)).setObj
            (K.TIMG_STATE i) 2).emit (.entry sid (K.TIMG_DATA i) Status.OK)))) ∧
      (∀ v, ScalarOpen d sid (K.TIMG_CLEAR i) v x → d.imageShown i = false →
        exec (.timgClear t sid i v) s = .next (after t s
          (((d.keepBlob (K.TIMG_DATA i) []).setObj (K.TIMG_STATE i) 0).emit
            (.entry sid (K.TIMG_CLEAR i) Status.OK))))) ∧
    (∀ b g, ChunkOpen d sid K.PRISM_CAL_IMAGE b x → d.stageOf x.id 0 K.PRISM_CAL_IMAGE = some g →
      d.obj K.SCAN_STATE = 1 → d.obj K.PRISM_CAL_STATE = 6 → Dev.chunkFits g b = true → b.more = false →
      (let img := g.data ++ b.data
       img.length = 64 + fieldAt 40 4 img → calCause d.fix.fuses.uid d.regionW d.regionH d.lampsPer img = 0 →
       exec (.prismCalImage t sid b true) s = .next (after t s
         (((((d.dropStage x.id 0 K.PRISM_CAL_IMAGE).setCopies img).loadCorrections).2.judgeCurves).emit
           (.entry sid K.PRISM_CAL_IMAGE Status.OK))) ∧
       exec (.prismCalImage t sid b false) s = .next (after t s
         ((d.dropStage x.id 0 K.PRISM_CAL_IMAGE).emit (.entry sid K.PRISM_CAL_IMAGE Status.DEVICE))))) ∧
    (∀ v, ScalarOpen d sid K.PRISM_CAL_ERASE v x →
      (d.obj K.SCAN_STATE = 1 → exec (.prismCalErase t sid v) s = .next (after t s
        ((((d.setCopies []).loadCorrections).2.judgeCurves).emit
          (.entry sid K.PRISM_CAL_ERASE Status.OK)))) ∧
      (d.obj K.SCAN_STATE ≠ 1 → exec (.prismCalErase t sid v) s = .next (after t s
        (d.emit (.entry sid K.PRISM_CAL_ERASE Status.NOT_IDLE))))) ∧
    (TileRuns d → d.prism.derivePending = true → d.prism.use = .copyA ∨ d.prism.use = .copyB →
      exec (.canvasDerivationDone t) s = .next (after t s
        (let e := d.setPrism (fun q => { q with colorimetry := d.obj K.PRISM_IN_COLORIMETRY, derivePending := false })
         (e.bumpBy e.derivedClamps K.PRISM_PARAM_CLAMPED).scanFollow)))

/-! ### The Lamp Driver Link (09_lamp_driver_link.md) -/

/-- R283: what a driver does with a packet it must not act on. -/
def Obligations.UnsoundAndForeignPacketsAreNotActedOn : Prop :=
  ∀ (st : State) (t : Time) (s p : Nat) (k : LdlPkt), let d := st.dev.begin t
    DriverPowered d → s < 32 → p < 24 →
    let v := d.driver s p
    let put := fun (w : Driver) (onward : LdlPkt) =>
      (d.setLdl (fun l => { l with drivers := Dev.putDriver (s * 24 + p) w l.drivers })).emit (.driver s p onward)
    ∀ i ∈ [(Instr.writeRow t s p k, Dev.asOpcode 1 k), (.setPlan t s p k, Dev.asOpcode 2 k),
        (.flip t s p k, Dev.asOpcode 3 k), (.setRange t s p k, Dev.asOpcode 4 k), (.blank t s p k, Dev.asBlank true k),
        (.unblank t s p k, Dev.asBlank false k), (.test t s p k, Dev.asOpcode 6 k),
        (.readDiagRowFlags t s p k, Dev.asItem 1 k), (.readDiagStatus t s p k, Dev.asItem 2 k),
        (.readDiagIdent t s p k, Dev.asItem 3 k), (.readDiagReserved t s p k, Dev.asOpcode 7 k),
        (.enumerate t s p k, Dev.asOpcode 8 k), (.ldlReservedOpcode t s p k, k)],
      (ldlSound i.2 = false →
        exec i.1 st = .next (after t st (put { v with crcErrors := min (v.crcErrors + 1) 0xFFFF } i.2))) ∧
      (ldlSound i.2 = true → v.hears i.2 = false → v.blockOf i.2 = none →
        exec i.1 st = .next (after t st (put v i.2)))

/-- LDL packets in a driver. -/
def Obligations.DriversActOnSoundPackets : Prop :=
  ∀ (st : State) (t : Time) (s p : Nat) (k : LdlPkt), let d := st.dev.begin t
    DriverPowered d → s < 32 → p < 24 →
    let v := d.driver s p
    let put := fun (d : Dev) (w : Driver) (onward : LdlPkt) =>
      (d.setLdl (fun l => { l with drivers := Dev.putDriver (s * 24 + p) w l.drivers })).emit (.driver s p onward)
    let w := fun i => k.words.getD i 0
    (ldlSound (Dev.asOpcode 1 k) = true → ∀ a, v.addr = some a → k.addr < 24 → k.addr ≤ a → a < k.addr + k.count →
      k.count ≤ 24 →
      exec (.writeRow t s p k) st = .next (after t st (put d
        (let row := unpackDrive ((k.words.drop (1 + 60 * (a - k.addr))).take 60)
         if v.front = 0 then
           { v with written := setBit (w 0 % 32) true v.written, bank1 := putRow (w 0 % 32) row v.bank1 }
         else { v with written := setBit (w 0 % 32) true v.written, bank0 := putRow (w 0 % 32) row v.bank0 })
        (Dev.asOpcode 1 k)))) ∧
    (ldlSound (Dev.asOpcode 2 k) = true → k.addr = 31 →
      exec (.setPlan t s p k) st = .next (after t st (put d
        { v with staged := some { segs := 16 * 2 ^ (w 0 / 2 ^ 14), mux := bits 9 5 (w 0) + 1,
                                  g := (w 0 % 16) * 65536 + w 1, dead := w 2 / 256, det := w 2 % 256 } }
        (Dev.asOpcode 2 k)))) ∧
    (ldlSound (Dev.asOpcode 3 k) = true → k.addr = 31 →
      exec (.flip t s p k) st = .next (after t st (put d
        { v with flips := v.flips ++ [{ exchange := bit 15 (w 0), plan := bit 14 (w 0), na0 := (w 0 % 256) * 65536 + w 1,
                                        nfc := (w 2 % 16) * 65536 + w 3, at' := t }] } (Dev.asOpcode 3 k)))) ∧
    (k.addr = 31 ∨ (k.addr < 24 ∧ v.addr = some k.addr) →
      (ldlSound (Dev.asOpcode 4 k) = true →
        exec (.setRange t s p k) st = .next (after t st (put d { v with ratio := w 0 } (Dev.asOpcode 4 k)))) ∧
      (ldlSound (Dev.asBlank true k) = true →
        exec (.blank t s p k) st = .next (after t st (put d
          { v with blanked := true, unblank := false, armed := [], running := [] } (Dev.asBlank true k)))) ∧
      (ldlSound (Dev.asBlank false k) = true →
        exec (.unblank t s p k) st = .next (after t st (put d { v with unblank := true } (Dev.asBlank false k))))) ∧
    (ldlSound (Dev.asOpcode 6 k) = true → ∀ a, v.addr = some a → k.addr < 24 → k.addr ≤ a → a < k.addr + k.count →
      k.count ≤ 24 →
      exec (.test t s p k) st = .next (after t st (put d
        (if v.blanked then v
         else if 32 ≤ v.armed.length then { v with crcErrors := min (v.crcErrors + 1) 0xFFFF }
         else { v with armed := v.armed ++ [
           { row := w 0 % 32, mask := wordsMask ((k.words.drop (3 + 3 * (a - k.addr))).take 3),
             start := (w 1 % 16) * 65536 + w 2, width := w 0 / 256 }] })
        (Dev.asOpcode 6 k)))) ∧
    (k.addr < 24 → v.addr = some k.addr →
      (ldlSound (Dev.asItem 1 k) = true →
        exec (.readDiagRowFlags t s p k) st = .next (after t st (put d
          { v with flags := v.flags.filter (fun f => f.row != w 0 % 256 % 32) }
          (diagAnswer (Dev.asItem 1 k)
            (let f := v.rowFlags (w 0 % 256 % 32)
             maskWords f.opens ++ maskWords f.shorts ++ maskWords f.seen))))) ∧
      (ldlSound (Dev.asItem 2 k) = true →
        exec (.readDiagStatus t s p k) st = .next (after t st (put { d with free := d.free + 1 }
          { v with darkSeen := 0, crcErrors := 0 }
          (diagAnswer (Dev.asItem 2 k)
            [b2n v.blanked * 2 ^ 15 + b2n v.plan.isSome * 2 ^ 14 + v.front * 2 ^ 13 +
              (Config.freeValue d.free % 2 ^ 1) * 2 ^ 12, v.darkSeen / 65536, v.darkSeen % 65536, v.crcErrors])))) ∧
      (ldlSound (Dev.asItem 3 k) = true →
        exec (.readDiagIdent t s p k) st = .next (after t st (put d v
          (diagAnswer (Dev.asItem 3 k)
            (let word := Config.driverIdent (s * 24 + p)
             [word 0 % 65536, word 1 % 65536, word 2 % 256 * 256, 1])))))) ∧
    (ldlSound (Dev.asOpcode 7 k) = true →
      exec (.readDiagReserved t s p k) st = .next (after t st (put d v (Dev.asOpcode 7 k)))) ∧
    (ldlSound (Dev.asOpcode 8 k) = true → k.addr = 31 →
      exec (.enumerate t s p k) st = .next (after t st (put d
        { v with addr := if w 0 < 24 then some (w 0) else none, blanked := true, unblank := false, written := 0,
                 armed := [], running := [] }
        (mkLdl 8 31 k.count [min (w 0 + 1) 0xFFFF])))) ∧
    (ldlSound k = true → exec (.ldlReservedOpcode t s p k) st = .next (after t st (put d v k)))

/-- LDL: marks, exchanges, intervals, tests and power-on. -/
def Obligations.DriversFollowMarksAndPulses : Prop :=
  ∀ (st : State) (t : Time) (s p : Nat), let d := st.dev.begin t
    DriverPowered d → s < 32 → p < 24 →
    let v := d.driver s p
    let put := fun (w : Driver) => d.setLdl (fun l => { l with drivers := Dev.putDriver (s * 24 + p) w l.drivers })
    let soon := fun (f : FlipCmd) => decide (f.at' + 1000 ≤ t)
    let c := (v.markAt.map (fun m =>
      (gclkPhase d.gclk d.gspread (m % 2 ^ 48 + (t - m)) - gclkPhase d.gclk d.gspread (m % 2 ^ 48)) / 31250000000)).getD 0
    (∀ f, (v.flips.filter soon).getLast? = some f →
      exec (.gclkMark t s p) st = .next (after t st (put
        { v with blanked := v.blanked && !v.unblank, unblank := false, flips := v.flips.filter (fun f => !soon f),
                 flip := some f, due := some f, markAt := some t, armed := [],
                 running := v.armed.filter (fun x =>
                   decide (x.start + (v.plan.map (·.dead)).getD 0 + x.width < f.na0)) }))) ∧
    (v.flips.filter soon = [] →
      exec (.gclkMark t s p) st = .next (after t st (put
        { v with blanked := v.blanked && !v.unblank, unblank := false, due := none, markAt := some t, armed := [],
                 darkSeen := if v.flip.isSome then v.darkSeen ||| (v.dark % 2 ^ ((v.plan.map (·.mux)).getD 0)) else v.darkSeen,
                 running := v.armed.filter (fun x =>
                   decide (x.start + (v.plan.map (·.dead)).getD 0 + x.width < (v.flip.map (·.na0)).getD 0)) }))) ∧
    (v.due = none → exec (.bankExchange t s p) st = .next (after t st (put v))) ∧
    (∀ f, v.due = some f → c < f.nfc → exec (.bankExchange t s p) st = .next (after t st (put v))) ∧
    (∀ f, v.due = some f → f.nfc ≤ c →
      exec (.bankExchange t s p) st = .next (after t st (put
        (let dark := 2 ^ 32 - 1 - v.written % 2 ^ 32
         let u := if f.plan then { v with plan := v.staged.orElse (fun _ => v.plan), staged := none } else v
         let u := if f.exchange then { u with front := 1 - v.front, dark := dark, written := 0,
                                              darkSeen := v.darkSeen ||| (dark % 2 ^ ((u.plan.map Plan.mux).getD 0)) }
           else { u with darkSeen := v.darkSeen ||| (v.dark % 2 ^ ((u.plan.map Plan.mux).getD 0)) }
         { u with due := none })))) ∧
    (∀ r g (xs : List LampVolt),
      let lit := xs.filter (fun x => decide (x.ch < 48) && bit 17 ((v.frontRow r).getD x.ch 0) &&
        (v.interval r g x.ch).any (fun n => decide (n.1 ≤ c) && decide ((v.plan.map (·.det)).getD 0 ≤ n.2)))
      exec (.litIntervalEnd t s p r g xs) st = .next (after t st (put
        (if lit.isEmpty then v
         else { v with flags := lit.foldl judge (v.rowFlags r) ::
                  v.flags.filter (fun f => f.row != (lit.foldl judge (v.rowFlags r)).row) })))) ∧
    (∀ x rest xs, v.running = x :: rest →
      let dead := (v.plan.map (·.dead)).getD 0
      (c < x.start + dead + x.width → exec (.testPulse t s p xs) st = .next (after t st (put v))) ∧
      (x.start + dead + x.width ≤ c →
        exec (.testPulse t s p xs) st = .next (after t st (put
          (let hit := xs.filter (fun y => decide (y.ch < 48) && decide (x.mask &&& chanBit y.ch ≠ 0))
           let f := hit.foldl judge (v.rowFlags x.row)
           if v.addr.isSome && v.plan.isSome && !v.blanked && v.markAt.isSome &&
               decide ((v.plan.map (·.det)).getD 0 ≤ x.width) then
             { v with running := rest, flags := f :: v.flags.filter (fun g => g.row != f.row) }
           else { v with running := rest }))))) ∧
    exec (.driverPowerOn t s p) st = .next (after t st
      (d.setLdl (fun l => { l with drivers := l.drivers.filter (fun x => x.1 != s * 24 + p) }))) ∧
    (d.setLdl (fun l => { l with drivers := l.drivers.filter (fun x => x.1 != s * 24 + p) })).driver s p = Driver.powerOn

/-- LDL: the tile's side. -/
def Obligations.TheTileWatchesItsStrands : Prop :=
  ∀ (s : State) (t : Time), let d := s.dev.begin t
    (TileRuns d →
      (∀ rs, exec (.ldlBringupDone t rs) s = .next (after t s
        (let e := rs.foldl (fun e r => e.bringupEnd r) d
         (List.range 32).foldl (fun e n =>
           if bit n (e.obj K.LDL_STRAND_MASK) then e
           else if e.obj (K.STR_STATE n) = 1 then e
           else (e.setObj (K.STR_STATE n) 1).fault 2 (K.STR_STATE n) n) e))) ∧
      (∀ n k again rest, (d.strand n).sent = (k, again) :: rest →
        let e := d.setStrand n (fun x => { x with sent := rest })
        let e' := e.setStrand n (fun x => { x with fails := 0 })
        let failed := e.echoFailed n k again
        (∀ ws, ws = ldlWords k → k.opcode ≠ 7 → k.opcode ≠ 8 →
          exec (.sretEcho t n ws) s = .next (after t s e')) ∧
        (∀ ws, Dev.echoOk k ws = true → k.opcode = 7 → bit 7 (ws.getD 1 0) = true →
          (k.words.headD 0 / 256 = 1 →
            exec (.sretEcho t n ws) s = .next (after t s (e'.rowRead n k.addr (k.words.headD 0 % 32) (ws.drop 2)))) ∧
          (k.words.headD 0 / 256 = 2 →
            exec (.sretEcho t n ws) s = .next (after t s (e'.statusRead n (ws.drop 2))))) ∧
        (∀ ws, Dev.echoOk k ws = false → exec (.sretEcho t n ws) s = .next (after t s failed)) ∧
        exec (.echoTimeout t n) s = .next (after t s failed) ∧
        failed =
          (let f := (e.bump (K.STR_ECHO_FAIL n)).setStrand n (fun x =>
             { x with fails := ((e.bump (K.STR_ECHO_FAIL n)).strand n).fails + 1 })
           let g := if !again && f.mayRepeat n k then
               (if k.opcode = 3 then (f.bump (K.STR_RETRIES n)).sendLow n k true
                else (f.bump (K.STR_RETRIES n)).sendLdl n k true) else f
           if 8 ≤ ((e.bump (K.STR_ECHO_FAIL n)).strand n).fails + 1 then g.setStrandState n 4 else g)) ∧
      (∀ n, n < 32 → d.start.run = .armed → d.obj (K.STR_STATE n) = 4 → (d.strand n).bringing = false →
        (d.strand n).again = none →
        (∀ m, (d.strand n).probedAt = some m → m + 1000000000 ≤ t) → d.inDarkGap = true →
        d.mayStart n (Dev.diagPkt 0 2 0) = true →
        let e := (d.setStrand n (fun x => { x with probedAt := some t })).emit (.ldl n (Dev.diagPkt 0 2 0))
        (∀ ws, Dev.echoOk (Dev.diagPkt 0 2 0) ws = true →
          exec (.brokenProbe t n (some ws)) s = .next (after t s
            (let e := e.setStrand n (fun x => { x with again := some e.nextDarkGap })
             if bit 7 (ws.getD 1 0) then e.statusRead n (ws.drop 2) else e))) ∧
        (∀ ws, Dev.echoOk (Dev.diagPkt 0 2 0) ws = false →
          exec (.brokenProbe t n (some ws)) s = .next (after t s (e.bump (K.STR_ECHO_FAIL n)))) ∧
        exec (.brokenProbe t n none) s = .next (after t s (e.bump (K.STR_ECHO_FAIL n)))) ∧
      (d.start.run = .armed → (∀ m, d.ldl.diagAt = some m → m + d.obj K.DIAG_READ_PERIOD * 1000000 ≤ t) →
        let f := d.setLdl (fun l => { l with diagAt := some t })
        exec (.diagRead t) s = .next (after t s (f.strandsLive.foldl (fun e n =>
          let e := (e.mappedRows n).foldl (fun e x => e.sendLow n (Dev.diagPkt x.1 1 x.2) false) e
          (List.range (min 24 (e.obj (K.STR_DRIVERS_FOUND n)))).foldl (fun e a =>
            e.sendLow n (Dev.diagPkt a 2 0) false) e) f))) ∧
      (∀ lamp, d.lampState lamp = 2 → d.verifiedOlder lamp (d.obj K.DIAG_VERIFY_MAX_AGE) = true →
        exec (.lampVerifyExpiry t lamp) s = .next (after t s
          (d.setLdl (fun l => { l with lamps := Store.del lamp l.lamps }))))) ∧
    (∀ sid x v, d.isTile = true → ScalarOpen d sid K.LAMP_CLEAR v x → v = 0xFFFFFFFF ∨ d.lampExists v = true →
      exec (.lampClear t sid v) s = .next (after t s
        ((let hit := fun (x : Nat × Nat) => v == 0xFFFFFFFF || x.1 == v
          d.setLdl (fun l => { l with lamps := l.lamps.filter (fun x => !(hit x && decide (3 ≤ x.2))),
                                      openRun := l.openRun.filter (fun x => !hit x),
                                      shortRun := l.shortRun.filter (fun x => !hit x) })).emit
          (.entry sid K.LAMP_CLEAR Status.OK))))

/-! ### Overlays (10_overlay_checks.md) -/

/-- Overlay commands and images. -/
def Obligations.OverlayCommandsTakeEffectOrAreCounted : Prop :=
  ∀ (s : State) (t : Time) (sid : SessionId) (body : Bytes) (x : Session), let d := s.dev.begin t
    (∀ cmd, cmd < 256 → body.length < 1024 →
      let b := be 1 cmd ++ body
      let f := ovlFields b
      OverlayOpen d sid x →
      let ok := fun (r : Dev) => after t s (r.emit (.entry sid K.OVL_COMMAND Status.OK))
      let e := d.putFlash K.OVL_SEQUENCE f.seq
      let e1 := e.ovlDropData f.slot
      let wait := e.setOvl (fun l => l ++ [
        { cmd := cmd, slot := f.slot, seq := f.seq, x := f.x, y := f.y, w := f.w, h := f.h, crc := f.crc,
          applyAt := if f.applyAt = 0 then 0 else wallToAbs t f.applyAt, taken := t, held := false }])
      let keyOk := d.fix.otp.safetyKey.map (fun key => ovlMac key b) == some (slice 72 32 b)
      let bad := b.length == 104 && keyOk && slice 36 36 b != complement (b.take 36)
      let refused := after t s ((d.ovlRefuse bad).emit (.entry sid K.OVL_COMMAND (d.ovlCheck b)))
      (d.ovlCheck b = Status.OK →
        (cmd = 1 → exec (.ovlLoad t sid body) s = .next (ok
          ((((((e1.setBlob (K.OVL_DATA f.slot) []).flashBlob (K.OVL_DATA f.slot)).setOvlState f.slot 1).putFlash
            (K.OVL_W f.slot) f.w).putFlash (K.OVL_H f.slot) f.h).putFlash (K.OVL_IMAGE_CRC f.slot) f.crc))) ∧
        (cmd = 4 → exec (.ovlClear t sid body) s = .next (ok
          ((((((((e1.setBlob (K.OVL_DATA f.slot) []).flashBlob (K.OVL_DATA f.slot)).putFlash (K.OVL_W f.slot) 0).putFlash
            (K.OVL_H f.slot) 0).putFlash (K.OVL_IMAGE_CRC f.slot) 0).putFlash (K.OVL_X f.slot) 0).putFlash
              (K.OVL_Y f.slot) 0).setOvlState f.slot 0))) ∧
        (∀ i ∈ [(2, Instr.ovlActivate t sid body), (3, .ovlDeactivate t sid body), (5, .ovlDeactivateAll t sid body)],
          cmd = i.1 →
          (d.mode ≠ 0 → exec i.2 s = .next (ok wait)) ∧
          (d.mode = 0 → exec i.2 s = .next (ok (wait.ovlApplyDue t))))) ∧
      (∀ i ∈ [(1, Instr.ovlLoad t sid body), (2, .ovlActivate t sid body), (3, .ovlDeactivate t sid body),
          (4, .ovlClear t sid body), (5, .ovlDeactivateAll t sid body), (cmd, .ovlReservedCmd t sid cmd body)],
        cmd = i.1 → d.ovlCheck b ≠ Status.OK → exec i.2 s = .next refused) ∧
      (cmd = 0 ∨ 5 < cmd →
        d.ovlCheck b ≠ Status.OK ∧
        (b.length = 104 → keyOk = true → slice 36 36 b = complement (b.take 36) →
          f.target = d.fix.fuses.uid ∨ f.target = 2 ^ 64 - 1 → d.obj K.OVL_SEQUENCE < f.seq →
          exec (.ovlReservedCmd t sid cmd body) s = .next (after t s
            ((d.ovlRefuse false).emit (.entry sid K.OVL_COMMAND Status.RANGE)))))) ∧
    (∀ k b g, k < 4 → ChunkOpen d sid (K.OVL_DATA k) b x → d.stageOf x.id 0 (K.OVL_DATA k) = some g →
      Dev.chunkFits g b = true → b.more = false →
      d.ovlState k = 1 → b.total = d.obj (K.OVL_W k) * d.obj (K.OVL_H k) * 6 →
      let data := g.data ++ b.data
      let e := ((d.dropStage x.id 0 (K.OVL_DATA k)).setBlob (K.OVL_DATA k) data).flashBlob (K.OVL_DATA k)
      let ok := fun (r : Dev) => after t s (r.emit (.entry sid (K.OVL_DATA k) Status.OK))
      (crc32c data = e.obj (K.OVL_IMAGE_CRC k) → exec (.ovlDataWrite t sid k b) s = .next (ok (e.setOvlState k 2))) ∧
      (crc32c data ≠ e.obj (K.OVL_IMAGE_CRC k) →
        exec (.ovlDataWrite t sid k b) s = .next (ok
          (let r := (e.setOvlState k 4).fault 8 (K.OVL_STATE k) k
           (r.flash.ovl.filter (fun c => c.cmd == 2 && c.slot == k)).foldl (fun r _ => r.fault 14 (K.OVL_STATE k) k)
             (r.setOvl (fun l => l.filter (fun c => !(c.cmd == 2 && c.slot == k)))))))
    )

/-! ### The wear ledger (11_wear_ledger.md) -/

/-- Wear ledger: seconds, checkpoints and Service writes. -/
def Obligations.TheWearLedgerFoldsAndCheckpoints : Prop :=
  ∀ (s : State) (t : Time), let d := s.dev.begin t
    (TileRuns d → d.integ.restart = none →
      (t % 1000000000 ≠ 0 → exec (.ledgerFold t {}) s = .next (after t s d)) ∧
      (t % 1000000000 = 0 →
        let u := d.gclk * (2000 - d.gspread) * 125 / 16
        let sec := t / 1000000000
        let e := d.setLedger (fun l => { l with
          acc := l.work.foldl (fun a x => Dev.putCount x.1 (min ((a.look x.1).getD 0 + x.2 / u) (2 ^ 32 - 1)) a) l.acc,
          work := (l.work.map (fun x => (x.1, x.2 % u))).filter (fun x => x.2 != 0) })
        let due := match e.ledger.next with
          | none => e
          | some c =>
            let f := e.setLedger (fun l => { l with next := none })
            if c.snapTime ≠ t % 2 ^ 48 then f
            else if e.ledger.ckpt.isSome then f.bump K.LEDG_SNAPSHOTS_SKIPPED
            else f.takeSnapshot c
        let paced := if sec % due.obj K.LEDG_INTERVAL_IN_FORCE = 0 then
            due.setObj K.LEDG_INTERVAL_IN_FORCE due.intervalNow else due
        let opened := paced.openCkpt ((t + 1000000000) % 2 ^ 48) false
        let e2 :=
          if e.journalWritable = false ∨ d.start.run = .toStandby ∨ d.start.run = .toOff then e
          else if (sec + 1) % paced.obj K.LEDG_INTERVAL_IN_FORCE = 0 then
            opened.2.setLedger (fun l => { l with next := some opened.1 })
          else paced
        (sec % 60 ≠ 0 → exec (.ledgerFold t {}) s = .next (after t s e2)) ∧
        (sec % 60 = 0 → exec (.ledgerFold t {}) s = .next (after t s
          ((List.range 16).foldl (fun r k => r.closePdWindow k) e2.gainUpdate))))) ∧
    (TileRuns d → ∀ c failing, d.ledger.ckpt = some c → d.journalWritable = true →
      let n := ceilDiv d.entryCount 8176
      let f := d.setJournal (fun j => { j with failing := j.failing ++ failing })
      let e := ((List.range n).foldl (fun r i => r.writeRecord (r.segmentRecord c.seq i)) f).appendRecord
        (mkRecord 3 c.seq 0 [c.snapTime / 2 ^ 32 % 2 ^ 16, c.snapTime % 2 ^ 32, d.entryCount, n])
      (e.journalWritable = false → exec (.checkpointComplete t failing) s = .next (after t s e)) ∧
      (e.journalWritable = true →
        exec (.checkpointComplete t failing) s = .next (after t s
          (let e := (e.setObj K.LEDG_LAST_SNAPSHOT (c.snapTime % 2 ^ 48)).setLedger (fun l => { l with ckpt := none })
           (if c.close then e.appendRecord (mkRecord 4 c.seq 0 [e.wall / 2 ^ 32, e.wall % 2 ^ 32])
            else e).reportJournal)))) ∧
    (d.isTile = true → ∀ sid x v,
      let ok := fun (k : Nat) (r : Dev) => after t s (r.emit (.entry sid k Status.OK))
      (ScalarOpen d sid K.LEDG_CHECKPOINT_NOW v x →
        (d.journalWritable = false →
          exec (.ledgCheckpointNow t sid v) s = .next (ok K.LEDG_CHECKPOINT_NOW d)) ∧
        (d.journalWritable = true →
          let c := d.openCkpt d.wall false
          (c.2.journalWritable = false →
            exec (.ledgCheckpointNow t sid v) s = .next (ok K.LEDG_CHECKPOINT_NOW c.2)) ∧
          (c.2.journalWritable = true →
            exec (.ledgCheckpointNow t sid v) s = .next (ok K.LEDG_CHECKPOINT_NOW
              (c.2.setLedger (fun l => { l with snap := l.acc, prev := l.acc, ckpt := some c.1 })))))) ∧
      (ScalarOpen d sid K.LEDG_FORMAT v x →
        exec (.ledgFormat t sid v) s = .next (ok K.LEDG_FORMAT
          (let e := (d.logFault 12 1 K.LEDG_FORMAT 0 (d.obj K.LEDG_SEQUENCE)).formatJournal
           let e := e.setLedgerState (if e.ledger.journal.ring.length < 3 * e.ckptBlocks + 1 then 6 else 2)
           (e.immediateCkpt false).reportJournal))) ∧
      (ScalarOpen d sid K.LEDG_LAMP_RESET v x → v = 0xFFFFFFFF ∨ d.lampExists v = true →
        exec (.ledgLampReset t sid v) s = .next (ok K.LEDG_LAMP_RESET
          ((((d.resetLamps v).foldl (fun r k =>
            (r.logFault 12 1 K.LEDG_LAMP_RESET k ((d.ledger.acc.look k).getD 0)).logFault 12 1 K.LEDG_LAMP_RESET k
              ((d.ledger.work.look k).getD 0)) d).setLedger (fun l => { l with
            acc := if v = 0xFFFFFFFF then [] else Store.del v l.acc,
            work := if v = 0xFFFFFFFF then [] else Store.del v l.work })).immediateCkpt false))) ∧
      (ScalarOpen d sid K.LEDG_TILE_CEILING_RESET v x →
        exec (.ledgTileCeilingReset t sid v) s = .next (ok K.LEDG_TILE_CEILING_RESET
          ((d.logFault 12 1 K.LEDG_TILE_CEILING 0 (d.obj K.LEDG_TILE_CEILING)).keepObj K.LEDG_TILE_CEILING 0x8000))))

/-- Wear ledger: ceiling requests. -/
def Obligations.CeilingRequestsStandAndLapse : Prop :=
  ∀ (s : State) (t : Time) (h : PortId) (p : Packet), let d := s.dev.begin t
    let report := fun (e : Dev) =>
      let live := e.ledger.requests.filter (fun r => decide (t < r.2.2 + 30000000000))
      let best := live.foldl (fun (a : Nat × Nat) r => if r.2.1 < a.1 then (r.2.1, r.1) else a) (0x8000, 0)
      ((e.setLedger (fun l => { l with requests := live })).setObj K.LEDG_WALL_REQUEST_MIN best.1).setObj
        K.LEDG_WALL_REQUEST_TILE best.2
    (TileRuns d → d.obj K.LEDG_WALL_REQUEST < 0x8000 →
      (∀ m, d.ledger.requestAt = some m → m + 10000000000 ≤ t) →
      exec (.ceilingRequestResend t) s = .next (after t s
        (let body := be 2 (d.obj K.LEDG_WALL_REQUEST) ++ be 2 (65535 - d.obj K.LEDG_WALL_REQUEST)
         ((d.sendCtl 0 4 0 d.fix.fuses.uid body).sendCtl 1 4 0 d.fix.fuses.uid body).setLedger (fun l =>
           { l with requestAt := some t })))) ∧
    (TileRuns d → d.portUp h = true → fieldAt 0 1 p.body = 4 → Dev.isMine p = false →
      exec (.ctlCeilingRequest t h p) s = .next (after t s ((d.countRx h p).forward h p p.body))) ∧
    (SenderRuns d → d.portUp h = true → pktPasses p = true →
      (p.body.length = 20 → fieldAt 18 2 p.body = 65535 - fieldAt 16 2 p.body →
        exec (.ctlCeilingRequest t h p) s = .next (after t s
          (report ((d.countRx h p).setLedger (fun l => { l with
            requests := l.requests ++ [(fieldAt 4 8 p.body, fieldAt 16 2 p.body, t)] }))))) ∧
      (p.body.length ≠ 20 ∨ fieldAt 18 2 p.body ≠ 65535 - fieldAt 16 2 p.body →
        exec (.ctlCeilingRequest t h p) s = .next (after t s (d.countRx h p)))) ∧
    (SenderRuns d → ∀ r ∈ d.ledger.requests, r.2.2 + 30000000000 ≤ t →
      exec (.ceilingRequestExpiry t r.1) s = .next (after t s (report d)))

/-! ### Sense (12_sense.md) -/

/-- Sense: conversions and thermal cycles. -/
def Obligations.ConversionsAndThermalCycles : Prop :=
  ∀ (s : State) (t : Time), let d := s.dev.begin t
    d.portsRun = true →
    (∀ rs temp, t % 2 ^ 48 % 500000 = 0 →
      let e := d.setObjI 16 K.SNS_DIE_TEMP temp
      let sampled := fun (e : Dev) => (List.range 16).foldl (fun e i =>
        if e.obj (K.SNS_KIND i) = 0 then e
        else match e.inputSample rs i with
          | none => e
          | some (_, false) => e.bump (K.SNS_SATURATED i)
          | some (v, true) =>
            (e.setSenseIn i (fun q => { q with
              sum := q.sum + e.senseConvert i v, count := q.count + 1,
              dark := q.dark.map (fun (t0, a, n) => (t0, a + v, n + 1)) })).setObj (K.SNS_VOLTAGE i) v) e
      (d.sense.phase = .starting → exec (.senseConversionTrigger t rs temp) s = .next (after t s
        (sampled (e.setSense (fun q => { q with
          periods := q.periods + 1,
          startTemp := if q.periods = 0 then e.objI 16 K.SNS_DIE_TEMP else q.startTemp }))).checkDieTemp)) ∧
      (d.sense.due = true → d.sense.phase = .idle →
        exec (.senseConversionTrigger t rs temp) s = .next (after t s
          (sampled ((((e.setSense (fun q => { q with phase := .spare, periods := 0, due := false,
                                                     startTemp := e.objI 16 K.SNS_DIE_TEMP })).setObj K.SNS_STATE
            3).setObj (K.ADC_STATE 8) 3).setSense (fun q => { q with periods := 1 }))).checkDieTemp)) ∧
      (∀ c, d.sense.phase = .back c → d.sense.periods = 0 →
        exec (.senseConversionTrigger t rs temp) s = .next (after t s
          (let e := e.setSense (fun q => { q with periods := 1 })
           let far := [2 * c, 2 * c + 1].any (fun i =>
             match e.sampleOf rs 8 i, e.sampleOf rs c i with
             | some a, some b => decide (e.obj K.SNS_HANDOVER_TOL < ((a.1 : Int) - (b.1 : Int)).natAbs)
             | _, _ => false)
           sampled (if far then (e.retireConverter c).calRunEnd false else e)).checkDieTemp)) ∧
      (d.sense.phase ≠ .starting → (d.sense.phase = .idle → d.sense.due = false) →
        (∀ c, d.sense.phase = .back c → d.sense.periods ≠ 0) →
        exec (.senseConversionTrigger t rs temp) s = .next (after t s
          (sampled (e.setSense (fun q => { q with periods := q.periods + 1 }))).checkDieTemp))) ∧
    (d.controlRuns = true → t % 2 ^ 48 % 100000000 = 0 →
      exec (.thermalLoopTrigger t) s = .next (after t s
        (d.checkRails (
          let e := (List.range 16).foldl (fun e i =>
            let q := e.senseIn i
            let e := e.setSenseIn i (fun q => { q with sum := 0, count := 0, absent := decide (q.count < 100) })
            (if e.obj (K.SNS_KIND i) = 0 then e.setObj (K.SNS_VALUE i) 0
             else if q.count < 100 then e
             else (e.setObjI 32 (K.SNS_VALUE i) (unstatedDiv q.sum q.count)).setSenseIn i (fun r => { r with
               pdSum := r.pdSum + unstatedDiv q.sum q.count, pdCount := r.pdCount + 1 })).checkLimits i) d
          let e := if e.isTile then
              let ready := (List.range e.lampsPer).all (fun p =>
                (e.slotInputs p).isEmpty || (e.slotInputs p).any (fun i => !(e.senseIn i).absent))
              let first := ready && !e.sense.settled && e.sense.phase != .starting
              let e := ((List.range e.lampsPer).foldl (fun e p => e.thermSlot first p) e).bumpWrap K.THERM_CYCLES
              if first then e.setSense (fun q => { q with settled := true }) else e
            else e
          if e.calStartCheck = Status.OK ∧ e.calAutoDue then e.setSense (fun q => { q with due := true }) else e)))) ∧
    (t % 2 ^ 48 % 500000 ≠ 0 → ∀ rs temp, exec (.senseConversionTrigger t rs temp) s = .next (after t s d.checkDieTemp)) ∧
    (d.controlRuns = true → t % 2 ^ 48 % 100000000 ≠ 0 →
      exec (.thermalLoopTrigger t) s = .next (after t s (d.checkRails d))) ∧
    (d.controlRuns = false → t % 2 ^ 48 % 100000000 = 0 → exec (.thermalLoopTrigger t) s = .next (after t s
      ((List.range 16).foldl (fun e i => e.setSenseIn i (fun q => { q with sum := 0, count := 0 })) d)))

/-- Sense: calibration runs. -/
def Obligations.CalibrationRunsStepByStep : Prop :=
  ∀ (s : State) (t : Time) (m : CalMeasure), let d := s.dev.begin t
    let goes := fun (p : CalPhase) (e : Dev) => e.setSense (fun q => { q with phase := p, periods := 0 })
    let z := phaseMean m.zeros
    let ref := phaseMean m.refs
    let correct := fun (c : Nat) (z : Int) =>
      (d.setObjI 32 (K.ADC_ZERO c) z).setObj (K.ADC_GAIN c) (calGain z ref)
    (d.portsRun = true → d.calStepRun = true →
      (d.sense.phase = .spare →
        (calFails z ref = false → exec (.senseCalStepEnd t m) s = .next (after t s
          (goes (.toSpare 0) (((correct 8 z).setObj (K.ADC_STATE 8) 6).setObj (K.ADC_STATE 0) 2)))) ∧
        (calFails z ref = true → exec (.senseCalStepEnd t m) s = .next (after t s
          (((d.bump (K.ADC_CAL_FAILS 8)).retireConverter 8).calRunEnd false)))) ∧
      (∀ c, d.sense.phase = .toSpare c → exec (.senseCalStepEnd t m) s = .next (after t s
        (goes (.zero c) (((d.setObj (K.ADC_STATE c) 3).setObj (K.ADC_STATE 8) 1).setObj K.SNS_SPARE_FOR c)))) ∧
      (∀ c, d.sense.phase = .zero c → exec (.senseCalStepEnd t m) s = .next (after t s
        (d.setSense (fun q => { q with zero := z, phase := .refer c, periods := 0 })))) ∧
      (∀ c, d.sense.phase = .refer c →
        let z := d.sense.zero
        (calFails z ref = false → exec (.senseCalStepEnd t m) s = .next (after t s
          (goes (.back c) ((correct c z).setObj (K.ADC_STATE c) 4)))) ∧
        (calFails z ref = true → exec (.senseCalStepEnd t m) s = .next (after t s
          (((d.bump (K.ADC_CAL_FAILS c)).retireConverter c).calRunEnd false)))) ∧
      (∀ c, d.sense.phase = .back c →
        let e := ((d.setObj (K.ADC_STATE c) 1).setObj (K.ADC_STATE 8) 6).setObj K.SNS_SPARE_FOR 255
        (c < 7 → exec (.senseCalStepEnd t m) s = .next (after t s
          (goes (.toSpare (c + 1)) (e.setObj (K.ADC_STATE (c + 1)) 2)))) ∧
        (7 ≤ c → exec (.senseCalStepEnd t m) s = .next (after t s
          (((((e.setSense (fun q => { q with phase := .idle, periods := 0, lastEnd := some t })).setObj K.SNS_CAL_LAST
            e.wall).bumpWrap K.SNS_CAL_RUNS).setObjI 16 K.SNS_CAL_TEMP d.sense.startTemp).setObj K.SNS_STATE 2))))) ∧
    (∀ sid x v, ScalarOpen d sid K.SNS_CAL_START v x →
      let retired := ∃ k, k < 9 ∧ d.obj (K.ADC_STATE k) = 5
      let fin' := fun (e : Dev) (st : Nat) => after t s (e.emit (.entry sid K.SNS_CAL_START st))
      (¬ retired → d.sense.phase = .idle → d.sense.due = false → exec (.snsCalStart t sid v) s =
        .next (fin' (d.setSense (fun q => { q with due := true })) Status.OK)) ∧
      (¬ retired → d.sense.phase ≠ .idle → exec (.snsCalStart t sid v) s = .next (fin' d Status.BUSY)) ∧
      (retired → exec (.snsCalStart t sid v) s = .next (fin' d Status.DEVICE))) ∧
    (d.portsRun = true → d.sense.phase = .starting → 128 ≤ d.sense.periods → ∀ ms, ms.length = 9 →
      (∀ m ∈ ms, calFails (phaseMean m.zeros) (phaseMean m.refs) = false) →
      exec (.senseStartCalDone t ms) s = .next (after t s
        (let e := (List.range 9).foldl (fun e c => e.setObj (K.ADC_STATE c) (if c = 8 then 6 else 1)) d
         let e := ((e.setSense (fun q => { q with phase := .idle, periods := 0, lastEnd := some t })).setObj K.SNS_STATE
           2).setObjI 16 K.SNS_CAL_TEMP e.sense.startTemp
         ([8, 0, 1, 2, 3, 4, 5, 6, 7] : List Nat).foldl (fun e c =>
           let m := ms.getD c { zeros := [], refs := [] }
           let z := phaseMean m.zeros
           (e.setObjI 32 (K.ADC_ZERO c) z).setObj (K.ADC_GAIN c) (calGain z (phaseMean m.refs))) e)))

/-- Sense: failing inputs and photodiode captures. -/
def Obligations.AbsentInputsAndPhotodiodeCaptures : Prop :=
  ∀ (s : State) (t : Time), let d := s.dev.begin t
    (TileRuns d →
      (∀ p t0, (d.sense.absentSince[p]?).getD none = some t0 → t0 + 10000000000 ≤ t →
        exec (.thermalInputFailTimeout t p) s = .next (after t s
          (let e := d.setObjI 16 (K.LEDG_TEMP p) (d.objI 16 K.THERM_FAIL_TEMP)
           e.setObj (K.LEDG_TEMP_FACTOR p) (e.tempFactor p (d.objI 16 K.THERM_FAIL_TEMP))))) ∧
      (∀ i t0 sum n, (d.senseIn i).dark = some (t0, sum, n) → t0 + 1000000000 ≤ t → 0 < n →
        exec (.pdDarkCaptureDone t i) s = .next (after t s
          ((d.setSenseIn i (fun q => { q with dark := none })).keepObj (K.SNS_PD_DARK i) (unstatedDiv (sum : Int) n).toNat)))) ∧
    (∀ sid x i, i < 16 →
      let fin' := fun (e : Dev) (st : Nat) => after t s (e.emit (.entry sid (K.SNS_PD_CAPTURE i) st))
      (ScalarOpen d sid (K.SNS_PD_CAPTURE i) 1 x →
        (d.obj K.SCAN_STATE = 1 → exec (.pdDarkCapture t sid i) s =
          .next (fin' (d.setSenseIn i (fun q => { q with dark := some (t, 0, 0) })) Status.OK)) ∧
        (d.obj K.SCAN_STATE ≠ 1 → exec (.pdDarkCapture t sid i) s = .next (fin' d Status.NOT_IDLE))) ∧
      (ScalarOpen d sid (K.SNS_PD_CAPTURE i) 2 x →
        (d.obj K.SCAN_STATE = 3 → exec (.pdBaselineCapture t sid i) s =
          .next (fin' (d.setSenseIn i (fun q => { q with baseline := true })) Status.OK)) ∧
        (d.obj K.SCAN_STATE ≠ 3 → exec (.pdBaselineCapture t sid i) s = .next (fin' d Status.NOT_IDLE))))

/-! ### The Withy link (13_withy.md) -/

/-- Withy: lanes, steps and attempts. -/
def Obligations.PortsStepTheirRates : Prop :=
  ∀ (s : State) (t : Time) (h : PortId), let d := s.dev.begin t
    let q := d.port h
    d.portsRun = true → h < d.nPorts → d.linkState h ≠ 1 →
    let back := fun (prev : Nat) (e : Dev) => e.setPort h (fun z => { z with
      rate := prev, lanes := if z.rate = prev then z.lanes else [false, false, false, false],
      agreed := prev, phase := .hello, since := t,
      failedStepUps := if z.steppingUp then z.failedStepUps + 1 else z.failedStepUps })
    (∀ lane a, lane < 4 →
      let e := (d.setPort h (fun z => { z with
        lanes := upd lane (fun _ => true) z.lanes, align := upd lane (fun _ => (a.lane, a.skewPs)) z.align })).setObj
          K.LANE_RX_INVERTED (setBit (8 + 4 * h + lane) a.inverted (d.obj K.LANE_RX_INVERTED))
      let n := Dev.patternCount q.rate
      (∀ prev, q.phase = .locking prev → e.portLocked h = true →
        exec (.laneLockGained t h lane a) s = .next (after t s
          (((e.setPort h (fun z => { z with phase := .verify prev, intact := 0, errors := 0, since := t })).setPort h
            (fun z => { z with sent := z.sent + n })).emitAll
              (List.replicate n (.withy h (mkPacket clsChk 0 1 Dev.chkPattern)))))) ∧
      (e.portLocked h = false ∨ (∀ prev, q.phase ≠ .locking prev) →
        exec (.laneLockGained t h lane a) s = .next (after t s e))) ∧
    (∀ lane mid n, lane < 4 →
      let e := (d.countSync h n).setPort h (fun z => { z with lanes := upd lane (fun _ => false) z.lanes })
      let e := (if d.portLocked h then e.bump (K.WITHY_LOCK_LOSSES h) else e).abortRx h mid
      (d.linkState h = 3 → exec (.laneLockLost t ⟨h, n⟩ lane mid) s = .next (after t s
        ((((e.setPort h (fun z => { z with rate := (e.port h).rate - 1, agreed := (e.port h).rate - 1, phase := .hello,
                                           lanes := [false, false, false, false], own := [],
                                           respIn := [], since := t })).setObj
          (K.WITHY_STATE h) 2).setObj (K.WITHY_RATE h) 255).bumpFault 2 (K.WITHY_FALLBACKS h) h))) ∧
      (∀ prev, d.linkState h ≠ 3 → q.phase = .verify prev →
        exec (.laneLockLost t ⟨h, n⟩ lane mid) s = .next (after t s (back prev e))) ∧
      (d.linkState h ≠ 3 → q.phase = .hello ∨ (∃ x, q.phase = .request x) → d.portLocked h = true → 0 < q.rate →
        exec (.laneLockLost t ⟨h, n⟩ lane mid) s = .next (after t s (back (q.rate - 1) e)))) ∧
    (∀ prev, q.phase = .locking prev → d.linkState h = 2 → q.since + 2000000 ≤ t →
      exec (.stepLockTimeout t h) s = .next (after t s (back prev d))) ∧
    (∀ prev, q.phase = .verify prev →
      (∀ n, q.since + 1000000 ≤ t →
        let e := (d.countSync h n).sendHello h 3 0xFF
        (8 ≤ q.intact → q.errors + n = 0 →
          (q.agreed ≤ q.rate → exec (.stepVerifyEnd t ⟨h, n⟩) s = .next (after t s (e.enterUp h))) ∧
          (q.rate < q.agreed → exec (.stepVerifyEnd t ⟨h, n⟩) s = .next (after t s
            ((e.setPort h (fun z => { z with since := t })).sendRequest h)))) ∧
        (q.intact < 8 ∨ q.errors + n ≠ 0 →
          exec (.stepVerifyEnd t ⟨h, n⟩) s = .next (after t s (back prev (d.countSync h n))))) ∧
      (∀ p, pktPasses p = true → pktLink p = true → p.body.length = 1024 →
        exec (.chkPatternReceived t h p) s = .next (after t s
          ((d.countRx h p).setPort h (fun z => { z with intact := z.intact + 1 }))))) ∧
    (d.linkState h = 2 → q.phase = .hello ∨ (∃ n, q.phase = .request n) → q.since + 10000000 ≤ t →
      let slow := fun (z : Port) => { z with
        rate := 0, lanes := if z.rate = 0 then z.lanes else [false, false, false, false], steppingUp := false, since := t }
      (d.obj (K.WITHY_ATTEMPTS h) < 8 → exec (.helloTimeout t h) s = .next (after t s
        (d.setPort h (fun z => { slow z with phase := .backoff, partner := none })))) ∧
      (8 ≤ d.obj (K.WITHY_ATTEMPTS h) → exec (.helloTimeout t h) s = .next (after t s
        ((((d.setPort h (fun z => { slow z with phase := .dark, beacon := false, own := [], respIn := [] })).setObj
          (K.WITHY_STATE h) 4).setObj (K.WITHY_RATE h) 255).fault 2 (K.WITHY_STATE h) h)))) ∧
    (q.phase = .backoff → d.linkState h = 2 → q.since + Dev.backoffTime (d.obj (K.WITHY_ATTEMPTS h)) ≤ t →
      exec (.attemptBackoffExpiry t h) s = .next (after t s (d.startAttempt h (d.obj (K.WITHY_ATTEMPTS h) + 1))))

/-- Withy: hellos and the writes that train a port. -/
def Obligations.HellosTrainPorts : Prop :=
  ∀ (s : State) (t : Time) (h : PortId), let d := s.dev.begin t
    let q := d.port h
    (d.portsRun = true → h < d.nPorts →
      (∀ p x, d.linkState h ≠ 1 → pktPasses p = true → pktLink p = true → parseHello p.body = some x →
        let e := d.countRx h p
        let wrong := (d.isSender = true ∧ x.pers = 1) ∨ x.uid = d.fix.fuses.uid
        (wrong → exec (.helloReceived t h p) s = .next (after t s
          (((e.enterDark h).setObj (K.WITHY_PARTNER_ID h) x.uid).fault 14 (K.WITHY_STATE h) h))) ∧
        (¬ wrong →
          let e := if d.isSender then e.setObj K.PAIR_GEN_SEEN (max (e.obj K.PAIR_GEN_SEEN) (x.genSeen % 2 ^ 24)) else e
          (d.linkState h = 4 ∨ (d.linkState h = 2 ∧ q.phase = .backoff) →
            exec (.helloReceived t h p) s = .next (after t s (((e.startAttempt h 1).notePartner h x).trainOn h x))) ∧
          (d.linkState h = 2 → q.phase ≠ .backoff →
            exec (.helloReceived t h p) s = .next (after t s (((e.notePartner h x).helloSeen h).trainOn h x))) ∧
          (d.linkState h = 3 → x.step = 1 → x.next = q.rate + 1 →
            exec (.helloReceived t h p) s = .next (after t s
              ((((e.setPort h (fun z => { z with
                steppingUp := true, agreed := topRate (d.rateMask h &&& x.rateMask), phase := .hello, since := t })).setObj
                (K.WITHY_STATE h) 2).setObj (K.WITHY_RATE h) 255).trainOn h x))) ∧
          (d.linkState h = 3 → x.step ≠ 1 ∨ x.next ≠ q.rate + 1 →
            exec (.helloReceived t h p) s = .next (after t s e)))) ∧
      (d.linkState h = 2 → q.phase = .hello → exec (.helloSend t h) s = .next (after t s (d.sendHello h 0 0xFF))) ∧
      (∀ n, d.linkState h = 2 → q.phase = .request n →
        exec (.helloSend t h) s = .next (after t s (d.sendHello h 1 n))) ∧
      (d.linkState h = 4 → q.beacon = true → exec (.helloSend t h) s = .next (after t s (d.sendHello h 0 0xFF))) ∧
      (d.linkState h = 4 →
        (q.since + 1000000000 ≤ t → exec (.darkBeacon t h true) s = .next (after t s
          ((d.setPort h (fun z => { z with beacon := true, since := t })).sendHello h 0 0xFF))) ∧
        (q.since + 10000000 ≤ t → exec (.darkBeacon t h false) s = .next (after t s
          (d.setPort h (fun z => { z with beacon := false }))))) ∧
      (∀ x, q.partner = some x → d.portUp h = true → q.rate < topRate (d.rateMask h &&& x.rateMask) →
        q.failedStepUps < 3 → d.hoopClosed h = true → d.fix.fuses.uid < x.uid →
        q.since + d.obj (K.WITHY_RETRY_UP h) * 1000000 ≤ t →
        exec (.stepUpRetry t h) s = .next (after t s
          ((((d.setPort h (fun z => { z with steppingUp := true, since := t,
                                             agreed := topRate (d.rateMask h &&& x.rateMask) })).setObj
            (K.WITHY_STATE h) 2).setObj (K.WITHY_RATE h) 255).sendRequest h)))) ∧
    (∀ sid x v, h < 4 →
      (ScalarOpen d sid (K.WITHY_RETRAIN h) v x →
        let ok := fun (e : Dev) => after t s (e.emit (.entry sid (K.WITHY_RETRAIN h) Status.OK))
        (d.linkState h = 1 → exec (.withyRetrain t sid h v) s = .next (ok d)) ∧
        (d.linkState h ≠ 1 → d.portsRun = true →
          exec (.withyRetrain t sid h v) s = .next (ok (d.startAttempt h 1)))) ∧
      (ScalarOpen d sid (K.WITHY_ENABLE h) v x →
        let ok := fun (e : Dev) => after t s (e.emit (.entry sid (K.WITHY_ENABLE h) Status.OK))
        let e := d.keepObj (K.WITHY_ENABLE h) v
        (v = d.obj (K.WITHY_ENABLE h) → exec (.withyEnable t sid h v) s = .next (ok e)) ∧
        (v ≠ d.obj (K.WITHY_ENABLE h) → d.portsRun = true →
          (v = 1 → exec (.withyEnable t sid h v) s = .next (ok (e.startAttempt h 1))) ∧
          (v = 0 → exec (.withyEnable t sid h v) s = .next (ok (e.disablePort h)))))) ∧
    (∀ sid x b g, ChunkOpen d sid K.EQ_TABLE b x → d.stageOf x.id 0 K.EQ_TABLE = some g → Dev.chunkFits g b = true →
      b.more = false →
      let data := g.data ++ b.data
      let e := d.dropStage x.id 0 K.EQ_TABLE
      (eqTableOk data = true → exec (.eqTableWrite t sid b) s = .next (after t s
        (((e.keepBlob K.EQ_TABLE data).setPliuk (fun p => { p with bootOld := Store.put K.EQ_TABLE 0 p.bootOld })).emit
          (.entry sid K.EQ_TABLE Status.OK_BOOT)))) ∧
      (eqTableOk data = false → exec (.eqTableWrite t sid b) s = .next (after t s
        (e.emit (.entry sid K.EQ_TABLE Status.RANGE)))))

/-- Withy: columns and grant runs. -/
def Obligations.ColumnsAndGrantRunsPass : Prop :=
  ∀ (s : State) (t : Time) (h : PortId), let d := s.dev.begin t
    let o := Dev.otherPort h
    let start := fun (k : PortId) (ps : Nat) (p : Packet) (e : Dev) =>
      if p.cls = clsTim ∧ timType p.body = 2 then
        (e.transmit k p).setTb (fun b => { b with
          pdelayOut := upd k (fun _ => some (timSeq p.body, e.txStamp k ps)) b.pdelayOut })
      else if p.cls = clsTim ∧ timType p.body = 3 then
        match (e.port k).respIn with
        | r :: rest => (e.setPort k (fun z => { z with respIn := rest })).transmit k (mkPacket p.cls p.target p.flags
            (splice 8 (be 8 (ofSigned 64 (timCorr p.body + psToCorr ((e.txStamp k ps : Int) - r)))) p.body))
        | [] => e.transmit k p
      else if p.cls = clsChk then
        (e.transmit k (mkPacket p.cls p.target p.flags (p.body.take 4 ++ be 4 (e.port k).sent ++ p.body.drop 8))).setPort k
          (fun z => { z with sent := 0 })
      else e.transmit k p
    d.portsRun = true →
    (d.isTile = true → d.portUp h = true →
      (∀ depth, let holds := fun (n : Nat) => d.setPort o (fun z => { z with fifo := n })
        (3 < depth → exec (.slackColumnReceived t h depth) s = .next (after t s
          ((holds depth).setObj (K.WITHY_SLACK_DELETED h)
            ((d.obj (K.WITHY_SLACK_DELETED h) + 1) % 2 ^ d.objBits (K.WITHY_SLACK_DELETED h))))) ∧
        (depth ≤ 3 → d.portUp o = true → exec (.slackColumnReceived t h depth) s = .next (after t s
          ((holds (depth + 1)).emit (.column o .slack))))) ∧
      (h < d.withy.ports.length →
        let holds := fun (n : Nat) => d.setPort h (fun z => { z with fifo := n })
        exec (.slackInsert t ⟨h, 0⟩) s = .next (after t s
          (((holds 0).bumpWrap (K.WITHY_SLACK_INSERTED h)).emit (.column h .slack))) ∧
        (∀ depth, 0 < depth → exec (.slackInsert t ⟨h, depth⟩) s = .next (after t s (holds depth))))) ∧
    (d.isSender = true → d.sendsColumns h = true →
      exec (.slackSend t h) s = .next (after t s (d.emit (.column h .slack)))) ∧
    (d.sendsColumns h = true → exec (.alignSend t h) s = .next (after t s (d.emit (.column h (.align (d.port h).rate))))) ∧
    (∀ types mid, mid = none ∨ columnBad types = false →
      exec (.blockError t ⟨h, types, mid⟩) s = .next (after t s d)) ∧
    (h < d.nPorts → d.linkState h ≠ 1 → ∀ types p, columnBad types = true →
      let e := d.setPort h (fun z => { z with started := z.started + 1 })
      (d.isSender = true ∨ Dev.isMine p = true ∨ d.portUp o = false →
        exec (.blockError t ⟨h, types, some p⟩) s = .next (after t s e)) ∧
      (d.isTile = true → Dev.isMine p = false → d.portUp o = true →
        exec (.blockError t ⟨h, types, some p⟩) s = .next (after t s (e.transmit o
          (let q := Dev.onward p p.body
           { q with term := 3, crc := inv32 (pktCrc q) }))))) ∧
    (d.portUp h = true → d.isSender = true ∨ (d.port h).grants = true →
      ∀ ps,
      (∀ p rest, (d.port h).own = p :: rest → pktColumns p ≤ 191 →
        exec (.grantRunOpen t ⟨h, ps⟩) s = .next (after t s
          ((start h ps p (d.setPort h (fun z => { z with own := rest }))).emit (.column h (.grant (191 - pktColumns p)))))) ∧
      ((d.port h).own = [] ∨ (∃ p rest, (d.port h).own = p :: rest ∧ 191 < pktColumns p) →
        exec (.grantRunOpen t ⟨h, ps⟩) s = .next (after t s (d.emit (.column h (.grant 191)))))) ∧
    (d.isTile = true → d.portUp h = true → h < 2 → ∀ n ps,
      let e := (d.setPort h (fun z => { z with lastGrant := some t })).setPort o (fun z => { z with grants := false })
      (d.portUp o = false → exec (.grantReceived t h ⟨n, ps⟩) s = .next (after t s e)) ∧
      (d.portUp o = true →
        (∀ p rest, (e.port o).own = p :: rest → pktColumns p ≤ n →
          exec (.grantReceived t h ⟨n, ps⟩) s = .next (after t s
            ((start o ps p (e.setPort o (fun z => { z with own := rest }))).emit (.column o (.grant (n - pktColumns p)))))) ∧
        ((e.port o).own = [] ∨ (∃ p rest, (e.port o).own = p :: rest ∧ n < pktColumns p) →
          exec (.grantReceived t h ⟨n, ps⟩) s = .next (after t s (e.emit (.column o (.grant n))))))) ∧
    (d.isTile = true → h < 2 → d.portUp o = true →
      (d.port h).lastGrant = none ∨ (∃ g, (d.port h).lastGrant = some g ∧ g + 1000000 ≤ t) →
      exec (.grantTimeout t h) s = .next (after t s (d.setPort o (fun z => { z with grants := true }))))

/-- Withy: link checks and enumeration. -/
def Obligations.LinkChecksAndEnumeration : Prop :=
  ∀ (s : State) (t : Time) (h : PortId) (p : Packet), let d := s.dev.begin t
    let q := d.port h
    let e := d.countRx h p
    d.portsRun = true →
    (d.portUp h = true →
      (∀ n,
        let e := d.countSync h n
        let z := e.port h
        let f := e.setPort h (fun z => { z with chkSeq := (z.chkSeq + 1) % 2 ^ 32, rxErrors := 0 })
        let chk := fun (sent : Nat) => mkPacket clsChk 0 1 (be 4 z.chkSeq ++ be 4 sent ++ be 4 z.rxErrors ++ zeros 4)
        (d.isSender = true → exec (.chkSend t ⟨h, n⟩) s = .next (after t s
          ((f.transmit h (chk z.sent)).setPort h (fun z => { z with sent := 0 })))) ∧
        (d.isTile = true → exec (.chkSend t ⟨h, n⟩) s = .next (after t s
          (f.setPort h (fun z => { z with own := z.own ++ [chk 0] }))))) ∧
      (pktPasses p = true → pktLink p = true → p.body.length = 16 →
        let seq := fieldAt 0 4 p.body
        let r := e.setPort h (fun z => { z with chkLast := some seq, started := 0 })
        (∀ l, q.chkLast = some l → seq ≠ (l + 1) % 2 ^ 32 ∨ fieldAt 4 4 p.body ≠ q.started →
          exec (.chkReceived t h p) s = .next (after t s (r.bumpFault 2 (K.WITHY_CHK_MISMATCH h) h))) ∧
        (q.chkLast = none ∨ (q.chkLast = some ((seq + 2 ^ 32 - 1) % 2 ^ 32) ∧ fieldAt 4 4 p.body = q.started) →
          exec (.chkReceived t h p) s = .next (after t s r))) ∧
      (p.cls ≠ clsTim →
        let r := if pktPasses p then e.bump (K.WITHY_UNKNOWN h) else e
        (d.isSender = true ∨ pktLink p = true → exec (.unknownClassPacket t h p) s = .next (after t s r)) ∧
        (d.isTile = true → pktLink p = false →
          exec (.unknownClassPacket t h p) s = .next (after t s (r.forward h p p.body)))) ∧
      (p.cls = clsTim →
        (pktPasses p = true → timType p.body ∉ [0x0, 0x2, 0x3, 0xB] →
          exec (.unknownClassPacket t h p) s = .next (after t s (e.bump (K.WITHY_UNKNOWN h)))) ∧
        (pktPasses p = false ∨ timType p.body ∈ [0x0, 0x2, 0x3, 0xB] →
          exec (.unknownClassPacket t h p) s = .next (after t s e))) ∧
      (d.isSender = true →
        exec (.enumSend t h) s = .next (after t s
          ((d.sendCtl h 3 0xFF d.fix.fuses.uid (zeros 1536)).setPort h (fun z => { z with lastEnum := some t }))) ∧
        (pktPasses p = true → p.body.length = 1552 →
          let recs := writtenRecs (parseEnum 96 (p.body.drop 16))
          (fieldAt 4 8 p.body ≠ d.fix.fuses.uid → pktTurned p = false →
            exec (.enumReceivedSender t h p) s = .next (after t s
              (((e.setHoop h { tiles := recs.reverse, closed := true, partner := fieldAt 4 8 p.body,
                               lastPartner := some t, slowest := Dev.slowestOf recs }).countUnplaced h).reviewPlan))) ∧
          (fieldAt 4 8 p.body = d.fix.fuses.uid → pktTurned p = true → (d.hoopOf h).closed = false →
            exec (.enumReceivedSender t h p) s = .next (after t s
              (((e.setHoop h { (d.hoopOf h) with tiles := recs, slowest := Dev.slowestOf recs }).countUnplaced h).reviewPlan))))) ∧
      (d.isTile = true → Dev.isMine p = false → pktPasses p = true → p.body.length = 1552 → pktTurned p = false →
        let n := p.hops + 1
        let r := ({ e with withy := { e.withy with
          tileEnum := upd h (fun z => {
            dist := if n ≤ 96 then n else if z.sender = fieldAt 4 8 p.body then z.dist else 0, hops := n,
            sender := fieldAt 4 8 p.body, lastAt := some t }) e.withy.tileEnum } }).reportEnum
        let body := if n ≤ 96 then splice (16 + 16 * (n - 1)) (enumRecBytes (r.enumRecord h)) p.body else p.body
        (r.portUp (Dev.otherPort h) = true →
          exec (.enumReceived t h p) s = .next (after t s (((r.forward h p body).takePosition).scanFollow))) ∧
        (r.portUp (Dev.otherPort h) = false →
          exec (.enumReceived t h p) s = .next (after t s
            (((r.sendOwn h (let z := { p with hops := min (p.hops + 1) 255, flags := p.flags + 2, body := body }
                            { z with crc := pktCrc z })).takePosition).scanFollow))))) ∧
    (d.isSender = true → h < 4 → (d.hoopOf h).closed = true → ∀ u, (d.hoopOf h).lastPartner = some u →
      u + 300000000 ≤ t →
      exec (.hoopOpenTimeout t h) s = .next (after t s (d.setHoop h { (d.hoopOf h) with closed := false, partner := 0 }))) ∧
    (d.isTile = true → ∀ u, (d.tileEnumOf h).lastAt = some u → u + 300000000 ≤ t →
      exec (.enumPortTimeout t h) s = .next (after t s
        (({ d with withy := { d.withy with
          tileEnum := upd h (fun _ => { dist := 0, hops := 0, sender := 0, lastAt := none }) d.withy.tileEnum } }).reportEnum.scanFollow)))

/-! ### Pairs of senders (14_hoops.md) -/

/-- Sender pairs. -/
def Obligations.SenderPairsSettleTheirRoles : Prop :=
  ∀ (s : State) (t : Time), let d := s.dev.begin t
    let takeOver := fun (cause : Nat) =>
      let e := (d.keepObj K.PAIR_GENERATION (min (d.obj K.PAIR_GEN_SEEN + 1) 0xFFFFFF))
      let e := e.setObj K.PAIR_GEN_SEEN (max (e.obj K.PAIR_GEN_SEEN) (min (d.obj K.PAIR_GEN_SEEN + 1) 0xFFFFFF))
      let e := ((e.bump K.PAIR_FAILOVERS).setObj K.PAIR_LAST_CAUSE cause).setObj K.PAIR_LAST_FAILOVER d.wall
      (e.fault 1 K.PAIR_FAILOVERS 0).compareRole
    (SenderRuns d →
      (∀ h p x, d.portUp h = true → pktPasses p = true → (d.countRx h p).validFlp p.body = some x →
        let e := ((d.countRx h p).setObj K.PAIR_PARTNER_CLAIM x.claim).setObj K.PAIR_GEN_SEEN
          (max (d.obj K.PAIR_GEN_SEEN) (claimGen x.claim))
        let clash := claimRank x.claim == d.bootObj K.PAIR_RANK && !d.pair.clashLogged
        let e := e.setPair (fun q => { q with quietSince := t, clashLogged := q.clashLogged || clash })
        let e := if clash then e.fault 14 K.PAIR_RANK 0 else e
        (d.role ≠ 1 → d.role ≠ 5 → exec (.partnerFlpReceived t h p) s = .next (after t s
          (if x.claim < e.claim then e.setObj K.PAIR_ROLE 2 else if e.claim < x.claim then e.setObj K.PAIR_ROLE 3 else e))) ∧
        (d.role = 1 ∨ d.role = 5 → exec (.partnerFlpReceived t h p) s = .next (after t s
          (let e := (e.setObj K.PAIR_ROLE 5).rejoin x.claim
           if e.pair.settled then e.setPair (fun q => { q with adopt := some x }) else e)))) ∧
      (d.role ≠ 1 → d.obj K.PAIR_AUTO_TAKEOVER = 1 → d.claim < d.obj K.PAIR_PARTNER_CLAIM →
        ((∃ h, h < 4 ∧ d.obj (K.ENUM_CLOSED h) = 1) →
          (∀ h, h < 4 → d.obj (K.ENUM_CLOSED h) = 1 → d.pathSilent h = true) →
          exec (.partnerSilentTimeout t) s = .next (after t s (takeOver 1))) ∧
        (∀ u, d.time.partnerFreerunSince = some u → u + 10 ^ 9 ≤ t → d.tstate = tsLocked ∨ d.tstate = tsHoldover →
          exec (.partnerFreerunTimeout t) s = .next (after t s (takeOver 2)))) ∧
      (d.role = 1 ∨ d.role = 3 → d.pair.quietSince + d.obj K.PAIR_JOIN_WAIT * 1000000 ≤ t →
        exec (.pairJoinWaitExpiry t) s = .next (after t s
          (let e := if d.obj K.PAIR_GENERATION = 0 then
               (d.keepObj K.PAIR_GENERATION 1).setObj K.PAIR_GEN_SEEN (max (d.obj K.PAIR_GEN_SEEN) 1) else d
           ((e.setObj K.PAIR_ROLE 4).setObj K.PAIR_PARTNER_CLAIM 0).setPair (fun q => { q with
             sending := d.obj K.INTEG_STATE == 1 }))))) ∧
    (∀ sid x v,
      (ScalarOpen d sid K.PAIR_TAKEOVER v x →
        (d.role ≠ 1 → d.claim < d.obj K.PAIR_PARTNER_CLAIM → exec (.pairTakeover t sid v) s = .next (after t s
          ((takeOver 3).emit (.entry sid K.PAIR_TAKEOVER Status.OK)))) ∧
        (d.role = 1 ∨ d.obj K.PAIR_PARTNER_CLAIM ≤ d.claim → exec (.pairTakeover t sid v) s = .next (after t s
          (d.emit (.entry sid K.PAIR_TAKEOVER Status.OK))))) ∧
      (ScalarOpen d sid K.PAIR_STATE_CONFIRM v x → exec (.pairStateConfirm t sid v) s = .next (after t s
        (((d.setObj K.PAIR_READY (b2n (v == d.pairDigest))).setPair (fun q => { q with confirmed := d.pairDigest })).emit
          (.entry sid K.PAIR_STATE_CONFIRM Status.OK)))))

/-! ### DRAM (15_dram.md) -/

/-- DRAM. -/
def Obligations.TheMemoryIsTrainedRefreshedAndScrubbed : Prop :=
  ∀ (s : State) (t : Time) (c : Nat), let d := s.dev.begin t
    (d.portsRun = true → d.dramRuns = true →
      (d.chServes c = true →
        (∀ count, d.epochRuns c = true →
          let total := d.objI 16 (K.CH_DRIFT c)
          let drift := Config.epochDrift ((d.dramCh c).base.getD (d.obj K.DRAM_SETPOINT) 0) count total
          let bad := decide (drift < -8) || decide (8 < drift) || decide (total + drift < -16) || decide (16 < total + drift)
          let e := (d.setObjI 16 (K.CH_DRIFT c) (clampI (-16) 16 (total + clampI (-8) 8 drift))).bumpWrap (K.CH_RETRAINS c)
          let e := e.setDramCh c (fun x => { x with
            epochEnd := t, epochAgain := none, driftRun := if bad then x.driftRun + 1 else 0 })
          let e := if bad then e.bumpFault 7 (K.CH_DRIFT_FAULTS c) c else e
          exec (.retrainEpoch t c count) s = .next (after t s
            (if 3 ≤ (e.dramCh c).driftRun ∧ e.obj (K.CH_STATE c) = 2 then
              (e.setObj (K.CH_STATE c) 3).setDram (fun m => { m with retireNext := m.retireNext ++ [c] })
            else e).releaseSetpoint)) ∧
        (∀ bank issued, bank < 16 → exec (.perBankRefresh t c bank issued) s = .next (after t s
          ((d.setDramCh c (fun x => { x with
            debts := upd bank (fun b => if issued then 0 else min 8 (b + 1)) x.debts })).noteDebt c))) ∧
        (∀ w : EccEvent, w.ch = c → (d.dramCh c).scrub < channelBursts →
          let u := (d.dramCh c).scrub
          let e := w.words.foldl (fun e x =>
            match x.2 with
            | .none => e
            | .corrected => (e.bump (K.CH_ECC_CORRECTED c)).bump K.SCRUB_CORRECTED
            | .uncorrectable => e.uncorrectable c u x.1) d
          let e := e.setDramCh c (fun x => { x with scrub := x.scrub + 1 })
          let live := (List.range e.channelCount).filter (fun k => e.chServes k)
          (live.all (fun k => decide (channelBursts ≤ (e.dramCh k).scrub)) = true →
            exec (.patrolScrub t w) s = .next (after t s
              (((live.foldl (fun e k => e.setDramCh k (fun x => { x with scrub := 0 })) e).bumpWrap K.SCRUB_PASSES).setObj
                K.SCRUB_PROGRESS 0))) ∧
          (live.all (fun k => decide (channelBursts ≤ (e.dramCh k).scrub)) = false →
            exec (.patrolScrub t w) s = .next (after t s (e.setObj K.SCRUB_PROGRESS
              (live.foldl (fun a k => a + (e.dramCh k).scrub) 0 * 1000 / (live.length * channelBursts))))))) ∧
      (∀ die r, die < d.dieCount → 1 ≤ r → (d.isSender = true → t % 2 ^ 48 % 16000000 = die * 4000000) →
        (∀ u, d.dram.rangeAt.getD die none = some u → u < t ∧ (d.isSender = false → (t - u) % 16000000 = 0)) →
        (r < 4 → exec (.mr4Read t die r) s = .next (after t s (((d.takeRange die r).derate r).reviewPlan))) ∧
        (r = 4 → exec (.mr4Read t die r) s = .next (after t s
          (let e := (d.takeRange die 4).derate 4
           (e.enterSafe .dramRange4 7 K.DRAM_STATE die (e.obj K.DRAM_STATE)).reviewPlan)))) ∧
      (d.obj K.DRAM_SETPOINT ≠ d.setpointDue →
        let go := fun (e : Dev) =>
          (((e.setDram (fun m => { m with waiting := none })).setObj K.DRAM_SETPOINT d.setpointDue).setObj K.DRAM_RATE
            (e.dramRate d.setpointDue)).bumpWrap K.DRAM_FREQ_CHANGES
        (d.setpointUrgent = true → exec (.setpointChange t d.setpointDue true) s = .next (after t s
          (go ((List.range d.channelCount).foldl (fun e k => e.discardEpoch k) d)))) ∧
        (d.setpointUrgent = false → d.anyEpoch = false →
          exec (.setpointChange t d.setpointDue false) s = .next (after t s (go d))) ∧
        (d.setpointUrgent = false → d.anyEpoch = true →
          exec (.setpointChange t d.setpointDue false) s = .next (after t s
            (d.setDram (fun m => { m with waiting := some d.setpointDue }))))) ∧
      (∀ target u, target ≠ d.setpointDue ∨ u ≠ d.setpointUrgent →
        exec (.setpointChange t target u) s = .next (after t s d))) ∧
    (d.start.run = .toStandby → d.ledger.ckpt = none → d.anyEpoch = false → d.dramRuns = true →
      exec (.selfRefreshEntry t) s = .next (after t s
        (let e := (d.setDram (fun m => { m with
           waiting := none, derated := d.obj K.DRAM_STATE == 3,
           chans := m.chans.map (fun x => { x with debts := x.debts.map (fun _ => 0) }) })).setObj
             K.DRAM_STATE 4
         let e := (List.range e.nPorts).foldl (fun e h => e.disablePort h) e
         let e := if e.isSender then (List.range 8).foldl (fun e p => e.ingestLink p false) e else e
         (e.requestVolts 620).goTo .standby)))

/-! ### Check units (16_check_units.md) -/

/-- Check units. -/
def Obligations.CheckUnitsFeedAndHold : Prop :=
  ∀ (s : State) (t : Time) (sid : SessionId) (n v : Nat) (x : Session), let d := s.dev.begin t
    n < 4 →
    let alg := crcAlg (d.obj (K.CU_ALGORITHM n))
    let reg := d.obj (K.CU_STATE n)
    let held := (d.cuHolder[n]?).getD none
    let hold := fun (y : Option Nat) =>
      ({ d with cuHolder := upd n (fun _ => y) d.cuHolder } : Dev).setObj (K.CU_CLAIM n) (b2n y.isSome)
    let fin' := fun (k st : Nat) (e : Dev) => after t s (e.emit (.entry sid k st))
    let feed := fun (bytes : Bytes) => d.setObj (K.CU_STATE n) (bytes.foldl (fun r b => crcByte alg r b) reg)
    (ScalarOpen d sid (K.CU_CLAIM n) v x →
      (held = none → v = 1 → exec (.cuClaim t sid n v) s = .next (fin' (K.CU_CLAIM n) Status.OK (hold (some x.id)))) ∧
      (held = none → v = 0 → exec (.cuClaim t sid n v) s = .next (fin' (K.CU_CLAIM n) Status.OK d)) ∧
      (held = some x.id → v = 1 → exec (.cuClaim t sid n v) s = .next (fin' (K.CU_CLAIM n) Status.OK d)) ∧
      (held = some x.id → v = 0 → exec (.cuClaim t sid n v) s = .next (fin' (K.CU_CLAIM n) Status.OK (hold none))) ∧
      (∀ y, held = some y → y ≠ x.id → exec (.cuClaim t sid n v) s = .next (fin' (K.CU_CLAIM n) Status.LOCKED d))) ∧
    (∀ i ∈ [(Instr.cuAlgorithm t sid n v, K.CU_ALGORITHM n), (.cuInit t sid n v, K.CU_INIT n),
        (.cuFeed8 t sid n v, K.CU_FEED8 n), (.cuFeed16 t sid n v, K.CU_FEED16 n), (.cuFeed32 t sid n v, K.CU_FEED32 n),
        (.cuFeed64 t sid n v, K.CU_FEED64 n), (.cuState t sid n v, K.CU_STATE n)],
      ScalarOpen d sid i.2 v x → held ≠ some x.id → exec i.1 s = .next (fin' i.2 Status.LOCKED d)) ∧
    (held = some x.id →
      (ScalarOpen d sid (K.CU_ALGORITHM n) v x → exec (.cuAlgorithm t sid n v) s = .next
        (fin' (K.CU_ALGORITHM n) Status.OK ((d.setObj (K.CU_ALGORITHM n) v).setObj (K.CU_STATE n) (crcAlg v).init))) ∧
      (ScalarOpen d sid (K.CU_INIT n) v x → exec (.cuInit t sid n v) s = .next
        (fin' (K.CU_INIT n) Status.OK (d.setObj (K.CU_STATE n) alg.init))) ∧
      (ScalarOpen d sid (K.CU_FEED8 n) v x → exec (.cuFeed8 t sid n v) s = .next
        (fin' (K.CU_FEED8 n) Status.OK (feed [BitVec.ofNat 8 v]))) ∧
      (ScalarOpen d sid (K.CU_FEED16 n) v x → exec (.cuFeed16 t sid n v) s = .next
        (fin' (K.CU_FEED16 n) Status.OK (feed [BitVec.ofNat 8 (v / 2 ^ 8), BitVec.ofNat 8 v]))) ∧
      (ScalarOpen d sid (K.CU_FEED32 n) v x → exec (.cuFeed32 t sid n v) s = .next
        (fin' (K.CU_FEED32 n) Status.OK (feed ((List.range 4).map (fun i => BitVec.ofNat 8 (v / 2 ^ (24 - 8 * i))))))) ∧
      (ScalarOpen d sid (K.CU_FEED64 n) v x → exec (.cuFeed64 t sid n v) s = .next
        (fin' (K.CU_FEED64 n) Status.OK (feed ((List.range 8).map (fun i => BitVec.ofNat 8 (v / 2 ^ (56 - 8 * i))))))) ∧
      (ScalarOpen d sid (K.CU_STATE n) v x →
        (v < 2 ^ alg.width → exec (.cuState t sid n v) s = .next
          (fin' (K.CU_STATE n) Status.OK (d.setObj (K.CU_STATE n) v))) ∧
        (2 ^ alg.width ≤ v → exec (.cuState t sid n v) s = .next (fin' (K.CU_STATE n) Status.RANGE d))))

/-! ### Firmware update (17_update.md) -/

/-- Update: download and verification. -/
def Obligations.UpdatesAreDownloadedAndVerified : Prop :=
  ∀ (s : State) (t : Time), let d := s.dev.begin t
    (∀ sid x b, Writes d sid K.UPD_IMAGE x → d.entryRefused (Dev.writerOf x false) K.UPD_IMAGE = none →
      (∃ o, findDef d.pers K.UPD_IMAGE = some o ∧ o.ty = .blob) → Dev.chunkSized b = true →
      d.deviceRefuses K.UPD_IMAGE = false →
      let fin' := fun (st : Nat) (e : Dev) => after t s (e.emit (.entry sid K.UPD_IMAGE st))
      let take := fun (e : Dev) =>
        let img := e.update.image ++ b.data
        ((((e.setSlot e.spareSlot img).setUpd (fun u => { u with
          image := img, total := b.total, session := x.id, lastChunk := t })).setObj K.UPD_PROGRESS img.length).setObj
            K.UPD_STATE (if img.length = b.total then 3 else 2))
      (b.offset = 0 → d.updState = 1 ∨ d.updState = 4 ∨ d.updState = 8 → b.data.length = 512 →
          b.more = decide (512 < b.total) →
        (d.headerFail b.data b.total = none → exec (.updImage t sid b) s = .next (fin' Status.OK
          (take ((d.writeBoot (BootRec.setMark d.spareSlot 0)).setUpd (fun u => { u with image := [] }))))) ∧
        (∀ reason st, d.headerFail b.data b.total = some (reason, st) →
          exec (.updImage t sid b) s = .next (fin' st (d.setObj K.UPD_LAST_REASON reason)))) ∧
      (b.offset ≠ 0 → d.updState = 2 → d.update.session = x.id →
        let follows := b.offset = d.update.image.length ∧ b.total = d.update.total ∧
          b.more = decide (b.offset + b.data.length < b.total) ∧ b.offset + b.data.length ≤ b.total
        (follows → exec (.updImage t sid b) s = .next (fin' Status.OK (take d))) ∧
        (¬ follows → exec (.updImage t sid b) s = .next (fin' Status.LENGTH
          ((d.setObj K.UPD_STATE d.updRest).setUpd (fun u => { u with image := [], total := 0, session := 0 })))))) ∧
    (d.controlRuns = true → d.updState = 3 →
      let img := d.slotBytes d.spareSlot
      let clear := d.updAlert.setUpd (fun u => { u with image := [], total := 0, session := 0 })
      (digestsOk img = true → imageSigOk img = true →
        (d.recovering = false → exec (.updVerifyDone t true) s = .next (after t s
          ((clear.writeBoot (BootRec.setMark d.spareSlot 1)).setObj K.UPD_STATE 4))) ∧
        (d.recovering = true → exec (.updVerifyDone t true) s = .next (after t s
          (((clear.writeBoot (fun r => { r.setMark d.spareSlot 2 with active := d.spareSlot, trial := 0 })).setObj
            K.UPD_STATE 8).bootStart)))) ∧
      (∀ ok, ok = false ∨ digestsOk img = false ∨ imageSigOk img = false →
        exec (.updVerifyDone t ok) s = .next (after t s
          ((((d.updAlert.setObj K.UPD_STATE d.updRest).setUpd (fun u => { u with
            image := [], total := 0, session := 0 })).setObj K.UPD_LAST_REASON
              (if ok = false then 11 else if digestsOk img = false then 9 else 10)).fault 16 K.UPD_LAST_REASON 0)))) ∧
    (d.controlRuns = true → d.updState = 2 → d.update.lastChunk + 60000000000 ≤ t →
      exec (.updChunkTimeout t) s = .next (after t s
        (((d.setObj K.UPD_STATE d.updRest).setUpd (fun u => { u with image := [], total := 0, session := 0 })).setObj
          K.UPD_LAST_REASON 12))) ∧
    (∀ sid x v, ScalarOpen d sid K.UPD_ABORT v x →
      let ok := fun (e : Dev) => after t s (e.emit (.entry sid K.UPD_ABORT Status.OK))
      (d.updState = 4 → d.slotMark d.spareSlot = 2 → exec (.updAbort t sid v) s = .next (ok
        ((d.setObj K.UPD_STATE 1).setObj K.UPD_LAST_REASON 13))) ∧
      (d.updState = 2 ∨ d.updState = 3 ∨ (d.updState = 4 ∧ d.slotMark d.spareSlot ≠ 2) →
        exec (.updAbort t sid v) s = .next (ok
        (let e := if d.slotMark d.spareSlot = 0 then d else d.writeBoot (BootRec.setMark d.spareSlot 0)
         ((e.setObj K.UPD_STATE e.updRest).setUpd (fun u => { u with image := [], total := 0, session := 0 })).setObj
           K.UPD_LAST_REASON 13))) ∧
      (d.updState = 5 ∨ (d.updState = 6 ∧ d.update.previous = none) →
        exec (.updAbort t sid v) s = .next (ok (d.updAbandon 13))) ∧
      ((d.updState = 6 ∧ d.update.previous ≠ none) ∨ d.updState = 7 →
        exec (.updAbort t sid v) s = .next (ok (d.setUpd (fun u => { u with abort := true })))))

/-- Update: activation and trial. -/
def Obligations.UpdatesAreActivatedAndTried : Prop :=
  ∀ (s : State) (t : Time), let d := s.dev.begin t
    let changed := fun (e : Dev) (fa : Time) =>
      match e.migrationFault e.passedSettings with
      | some reason => e.updAbandon reason
      | none => (e.setUpd (fun u => { u with
          handed := true, migrated := some (e.migrate e.passedSettings) })).contextChange fa
    (∀ sid x v, ScalarOpen d sid K.UPD_ACTIVATE v x → v < 2 ^ 48 →
      let fin' := fun (st : Nat) (e : Dev) => after t s (e.emit (.entry sid K.UPD_ACTIVATE st))
      (d.updReady = true →
        (v = 0 → d.slotWallWide d.spareSlot = true → exec (.updActivate t sid v) s = .next (fin' Status.RANGE d)) ∧
        ((v = 0 ∧ d.slotWallWide d.spareSlot = false) ∨
            (v ≠ 0 ∧ 1000000000 ≤ wallDiff v d.wall ∧ wallDiff v d.wall ≤ 3600000000000) →
          exec (.updActivate t sid v) s = .next (fin' Status.OK
            ((d.setObj K.UPD_STATE 5).setUpd (fun u => { u with
              slot := d.spareSlot, w := if v = 0 then 0 else wallToAbs t v, migrated := none, handed := false }))))) ∧
      (d.updReady = false → exec (.updActivate t sid v) s = .next (fin' Status.BUSY d))) ∧
    (d.controlRuns = true →
      (d.updState = 5 → d.flashOpen = true →
        let late := d.update.w ≠ 0 ∧ (if d.mode = 0 then d.update.w ≤ t else d.updTarget ≤ t + Dev.latchLead)
        let old := d.oldSettings
        (late → exec (.updPreparationDone t) s = .next (after t s (d.updAbandon 18))) ∧
        (¬ late → ∀ reason, d.migrationFault old = some reason →
          exec (.updPreparationDone t) s = .next (after t s
            ((d.setRegion d.update.slot { newest := none, older := none }).updAbandon reason))) ∧
        (¬ late → d.migrationFault old = none →
          let e := (d.logMigration old).setRegion d.update.slot { newest := some (d.migrate old), older := none }
          let w := if e.update.w ≠ 0 then e.update.w else if e.mode = 0 then e.now else e.applyBoundary
          let f := (e.setObj K.UPD_STATE 6).setUpd (fun u => { u with w := w, migrated := some (d.migrate old) })
          (e.update.w = 0 ∧ f.mode = 0 → exec (.updPreparationDone t) s = .next (after t s (changed f f.now))) ∧
          (e.update.w ≠ 0 ∨ f.mode ≠ 0 → exec (.updPreparationDone t) s = .next (after t s f)))) ∧
      (d.mode = 0 → d.update.w ≠ 0 → d.update.w ≤ t → d.flashOpen = true →
        (d.updState = 5 → exec (.updActivationInstant t) s = .next (after t s (d.updAbandon 18))) ∧
        (d.updState = 6 → d.update.previous = none →
          exec (.updActivationInstant t) s = .next (after t s (changed d t)))) ∧
      (d.updState = 6 → d.update.previous ≠ none → d.flashOpen = true →
        exec (.updTrialEntry t) s = .next (after t s
          (let e := d.trialWrite
           (e.setObj K.UPD_STATE 7).setObj K.UPD_TRIAL_END e.bootNow.trialEnd))) ∧
      (d.updState = 7 → d.flashOpen = true → d.trialOver = true → d.mode = 0 ∨ isBoundary d.mode t = true →
        exec (.updTrialExpiry t) s = .next (after t s (d.fallback 16)))) ∧
    (∀ sid x v, ScalarOpen d sid K.UPD_CONFIRM v x →
      let fin' := fun (st : Nat) (e : Dev) => after t s (e.emit (.entry sid K.UPD_CONFIRM st))
      (d.updState = 7 → exec (.updConfirm t sid v) s = .next (fin' Status.OK
        (let slot := d.update.running
         let sec := imgSecurity (d.slotBytes slot)
         (((d.writeBoot (fun r => { r.setMark slot 2 with trial := 0, secMin := max r.secMin sec })).setUpd (fun u =>
           { u with previous := none, w := 0, migrated := none, abort := false, startedLate := false })).setObj
             K.UPD_STATE 1).setObj K.UPD_TRIAL_END 0))) ∧
      (d.updState ≠ 7 → exec (.updConfirm t sid v) s = .next (fin' Status.BUSY d)))

/-! ### Integrity, pacing and faults (18_integrity.md) -/

/-- Integrity: log, stalls, voltage and scrub. -/
def Obligations.IntegrityWatchesLogStallsVoltageAndStores : Prop :=
  ∀ (s : State) (t : Time), let d := s.dev.begin t
    (d.controlRuns = true → d.flashOpen = true → exec (.flogPersistWrite t) s = .next (after t s
      (d.integ.toPersist.foldl (fun e x => e.flogWrite x) (d.setInteg (fun g => { g with toPersist := [] }))))) ∧
    (∀ sid x v, ScalarOpen d sid K.FLOG_CLEAR v x → exec (.flogClear t sid v) s = .next (after t s
      (let e := d.setInteg (fun g => { g with log := [], toPersist := [], blocks := [[], []], block := 0 })
       let e := e.logFault 8 1 K.FLOG_COUNT 0 ((d.integ.nextSeq + 2 ^ 32 - 1) % 2 ^ 32)
       ((e.integ.log.getLast?).elim e (fun x => e.flogWrite x)).emit (.entry sid K.FLOG_CLEAR Status.OK)))) ∧
    (d.portsRun = true →
      (∀ stage h dist i,
        let l := ((stage, t) :: d.integ.stalls).filter (fun x => decide (t < x.2 + 1000000000))
        let e := (d.bump K.PACE_STALLS).setInteg (fun g => { g with stalls := l })
        let e := if 3 ≤ (l.filter (fun x => x.1 == stage)).length then
            e.enterSafe (.stalls stage) 5 K.PACE_STALLS stage (e.obj K.PACE_STALLS)
          else e.fault 5 K.PACE_STALLS stage
        exec (.stageStall t stage h dist i) s = .next (after t s
          (if e.isTile then e.abandonWale i else e.brokenWale h dist i))) ∧
      (∀ rate slack written, d.avsRuns = true → rate < d.obj K.AVS_RATE_TARGET → rate < 65536 → 2000 ≤ rate →
        10000 ≤ slack →
        let mv := min 800 (d.integ.vreq + 5)
        let e := (d.setObj K.PACE_RATE rate).setInteg (fun g => { g with
          slacks := (t, slack) :: g.slacks.filter (fun x => decide (t < x.1 + 1000000000)),
          fastSince := none,
          slowSince := none })
        (d.integ.vreq = mv → exec (.avsAdjust t rate ⟨slack, written⟩) s = .next (after t s e)) ∧
        (d.integ.vreq ≠ mv → exec (.avsAdjust t rate ⟨slack, written⟩) s = .next (after t s
          (let n := if written then 0 else d.integ.avsFails + 1
           let e := (e.requestVolts mv).setInteg (fun g => { g with avsFails := n })
           if n = 3 then e.bumpFault 15 K.AVS_FAULTS 0 else e))))) ∧
    (d.pliukRuns = true → d.baseRun ≠ .recovery →
      (d.avsRuns = true →
        (d.integ.avsFails = 2 → exec (.avsRead t none) s = .next (after t s
          ((d.setInteg (fun g => { g with avsFails := 3 })).bumpFault 15 K.AVS_FAULTS 0))) ∧
        (d.integ.avsFails ≠ 2 → exec (.avsRead t none) s = .next (after t s
          (d.setInteg (fun g => { g with avsFails := g.avsFails + 1 })))) ∧
        (∀ mv i, mv < 65536 → i < 65536 → mv ≤ d.integ.vreq + 20 → d.integ.vreq ≤ mv + 20 →
          exec (.avsRead t (some (mv, i))) s = .next (after t s
            (((d.setObj K.AVS_VOUT_READ mv).setObj K.AVS_IOUT_READ i).setInteg (fun g => { g with
              avsFails := 0, voltOffSince := none }))))) ∧
      (∀ st, d.hasStore st = true →
        let e := if d.integ.scrubAt + 250000000 ≤ t then
            (d.setInteg (fun g => { g with scrubAt := t })).bumpWrap K.CSCRUB_PASSES
          else d
        exec (.configScrub t st .none) s = .next (after t s e) ∧
        exec (.configScrub t st .corrected) s = .next (after t s (e.bump K.CSCRUB_CORRECTED)) ∧
        (e.integ.reloading.contains st = false → exec (.configScrub t st .uncorrectable) s = .next (after t s
          ((e.setInteg (fun g => { g with reloading := g.reloading ++ [st] })).bumpFault 4 K.CSCRUB_RELOADS 0))) ∧
        (e.integ.reloading.contains st = true → exec (.configScrub t st .uncorrectable) s = .next (after t s e))) ∧
      (∀ st, d.integ.restart = none → exec (.configReloadDone t st) s = .next (after t s
        (let e := d.setInteg (fun g => { g with reloading := g.reloading.filter (fun x => x != st) })
         if st = 5 then e.setPrism (fun p => { p with rebuilding := [] }) else e))))

/-- Integrity: restarts, safe states and one-time storage. -/
def Obligations.RestartsSafeStatesAndOneTimeStorage : Prop :=
  ∀ (s : State) (t : Time), let d := s.dev.begin t
    (d.pliukRuns = true → d.baseRun ≠ .recovery →
      (∀ p : Option PoisonAt,
        let e := match p with
          | some a =>
            let r := d.route a.addr
            if d.holdsAddr a.addr then d.uncorrectable r.1 (r.2 / 64) (r.2 % 64 / 8) else d
          | none => d
        let stops := fun (e : Dev) =>
          if e.start.run = .offReady then e
          else (e.logFault 6 3 K.LOCKSTEP_RESTARTS 0 (e.obj K.LOCKSTEP_RESTARTS)).halt
        (d.integ.restart = none → (∀ u, d.integ.lastRestart = some u → u + 10000000000 ≤ t) →
          exec (.lockstepDivergence t p) s = .next (after t s
            ((((e.keepObj K.LOCKSTEP_RESTARTS (satInc 32 (e.obj K.LOCKSTEP_RESTARTS))).fault 6 K.LOCKSTEP_RESTARTS 0).setInteg
              (fun g => { g with restart := some t })).closeAll))) ∧
        (d.integ.restart ≠ none ∨ (∃ u, d.integ.lastRestart = some u ∧ t < u + 10000000000) →
          exec (.lockstepDivergence t p) s = .next (after t s
            (stops e)))) ∧
      (∀ u, d.integ.restart = some u →
        exec (.controlRestartDone t) s = .next (after t s
          ((d.setInteg (fun g => { g with restart := none, lastRestart := some t })).drainSpi 5)) ∧
        (u + 300000000 ≤ t → d.start.run ≠ .offReady → exec (.controlRestartTimeout t) s = .next (after t s
          ((d.logFault 6 3 K.LOCKSTEP_RESTARTS 0 (d.obj K.LOCKSTEP_RESTARTS)).halt))))) ∧
    (∀ sid x v stalled ok, ScalarOpen d sid K.INTEG_CLEAR_SAFE v x → d.obj K.INTEG_STATE = 1 →
      exec (.integClearSafe t sid v stalled ok) s = .next (after t s (d.emit (.entry sid K.INTEG_CLEAR_SAFE Status.OK)))) ∧
    (∀ sid x v stalled ok, ScalarOpen d sid K.INTEG_CLEAR_SAFE v x → d.obj K.INTEG_STATE ≠ 1 →
      let test := d.integ.causes.any (fun c => match c with
        | .stalls _ => true
        | _ => false)
      let passed := stalled == 0 && ok
      let e := if test then d.bumpBy stalled K.PACE_STALLS else d
      let e := if test && !passed then e.fault 5 K.PACE_STALLS 0 else e
      let fin' := fun (st : Nat) (r : Dev) => after t s (r.emit (.entry sid K.INTEG_CLEAR_SAFE st))
      (e.integ.causes.all (fun c => e.causeEnded passed c) = true →
        exec (.integClearSafe t sid v stalled ok) s = .next (fin' Status.OK
          (let r := ((e.setInteg (fun g => { g with causes := [], okSince := [], mismatches := [], stalls := [] })).setObj
             K.INTEG_STATE 1).setObj K.INTEG_SAFE_CAUSE 0
           if r.isTile then r.scanFollow else r.pairStart))) ∧
      (e.integ.causes.all (fun c => e.causeEnded passed c) = false →
        exec (.integClearSafe t sid v stalled ok) s = .next (fin' Status.BUSY e))) ∧
    (∀ sid x key, ChunkOpen d sid K.OTP_SAFETY_KEY (Dev.wholeChunk key) x → key.length = 32 →
      d.fix.otp.safetyKey = none → d.stageOf x.id 0 K.OTP_SAFETY_KEY = none →
      exec (.otpSafetyKey t sid key) s = .next (after t s
        (let e := d.dropStage x.id 0 K.OTP_SAFETY_KEY
         ({ e with fix := { e.fix with otp := { e.fix.otp with safetyKey := some key } } } : Dev).emit
           (.entry sid K.OTP_SAFETY_KEY Status.OK)))) ∧
    (∀ sid x v, ScalarOpen d sid K.OTP_KEY_REVOKE v x →
      let r := d.fix.otp.revoked ||| v % 16
      (r % 16 ≠ 15 → exec (.otpKeyRevoke t sid v) s = .next (after t s
        (({ d with fix := { d.fix with otp := { d.fix.otp with revoked := r } } } : Dev).emit
          (.entry sid K.OTP_KEY_REVOKE Status.OK)))) ∧
      (r % 16 = 15 → exec (.otpKeyRevoke t sid v) s = .next (after t s
        (d.emit (.entry sid K.OTP_KEY_REVOKE Status.RANGE)))))

/-! ### Start-up, Standby and Off (19_startup.md) -/

/-- Start-up: reset and the sequence. -/
def Obligations.StartsGoStepByStep : Prop :=
  ∀ (s : State) (t : Time), let d := s.dev.begin t
    let dark :=
      let e := d.setLdl (fun l => { l with driven := false })
      if d.start.trigOn then
        (List.range 8).foldl (fun e n => e.emit (.trig n false 0)) (e.setStart (fun z => { z with trigOn := false }))
      else e
    (∀ x : Straps, s.dev.start.run = .inReset ∨ s.dev.start.run = .off →
      (x.test = true → exec (.resetRelease t x) s = .fault .productionTest) ∧
      (x.test = false → exec (.resetRelease t x) s = .next (after t s
        ((d.setStart (fun z => { z with straps := x })).bootStart)))) ∧
    (∀ w, exec (.resetAssert t w) s = .next (after t s
      (if 1000 ≤ w ∧ d.start.run ≠ .off then dark.setStart (fun z => { z with run := .inReset, stepAt := t }) else d))) ∧
    exec (.powerLoss t) s = .next (after t s (dark.setStart (fun z => { z with run := .off, stepAt := t }))) ∧
    (d.obj K.INTEG_STATE = 1 → ∀ r : StepResult,
      let e := (d.setStart (fun z => { z with calFail := r.calFail })).journalErrors r.journal
      (d.start.run = .step 1 →
        (d.fix.fuses.complementsAgree = true → exec (.startStepComplete t r) s = .next (after t s (e.goTo (.step 2)))) ∧
        (d.fix.fuses.complementsAgree = false → exec (.startStepComplete t r) s = .next (after t s e.halt))) ∧
      (d.start.run = .step 2 →
        (r.ok = true → exec (.startStepComplete t r) s = .next (after t s (e.goTo (.step 3)))) ∧
        (r.ok = false → exec (.startStepComplete t r) s = .next (after t s e.halt))) ∧
      (d.start.run = .step 3 →
        (r.ok = false → exec (.startStepComplete t r) s = .next (after t s (e.goTo .startFailed))) ∧
        (r.ok = true → d.start.straps.recovery = true →
          exec (.startStepComplete t r) s = .next (after t s e.flogRestore.enterRecovery)) ∧
        (r.ok = true → d.start.straps.recovery = false →
          exec (.startStepComplete t r) s = .next (after t s (e.flogRestore.goTo (.step 4))))) ∧
      (d.start.run = .step 4 →
        let written := e.putBoot e.bootChoice.2
        (e.bootChoice.1 = none → exec (.startStepComplete t r) s = .next (after t s written.enterRecovery)) ∧
        (∀ slot, e.bootChoice.1 = some slot → exec (.startStepComplete t r) s = .next (after t s
          (let f := (written.setUpd (fun u => { u with running := slot })).loadSettings
           let f := ((f.setObj K.ACTIVE_SLOT slot).showVersions slot).bootUpdate slot f.bootNow
           ((f.goTo (.step 5)).firmwareStart).requestVolts 750)))) ∧
      (d.start.run = .step 5 →
        ((e.dramTrain r.training).1 = true → exec (.startStepComplete t r) s = .next (after t s
          ((e.dramTrain r.training).2.migrationCheck.senseStart.stepTo 6))) ∧
        ((e.dramTrain r.training).1 = false → exec (.startStepComplete t r) s = .next (after t s
          ((e.dramTrain r.training).2.goTo .startFailed)))) ∧
      (d.start.run = .step 6 → exec (.startStepComplete t r) s = .next (after t s
        ((e.loadEqTable.startPorts).stepTo 7))) ∧
      (d.start.run = .step 8 → d.isSender = true → exec (.startStepComplete t r) s = .next (after t s
        (e.step9Begin.reviewPlan))) ∧
      (d.start.run = .step 9 → e.step9Over = true → exec (.startStepComplete t r) s = .next (after t s e.arm))) ∧
    (d.isTile = true → d.start.run = .step 8 → d.start.stepAt + 1000000000 ≤ t → d.obj K.INTEG_STATE = 1 →
      exec (.modeCommitTimeout t) s = .next (after t s d.step9Begin))

/-- Standby and Off. -/
def Obligations.StandbyAndOffAreEnteredAndLeft : Prop :=
  ∀ (s : State) (t : Time), let d := s.dev.begin t
    let low := d.setStart (fun z => { z with stbyLow := true })
    let high := d.setStart (fun z => { z with stbyLow := false })
    let off := d.setStart (fun z => { z with offLow := true })
    let leave := fun (e : Dev) => (e.setStart (fun z => { z with offFrom := d.start.run })).goTo .toOff
    (d.start.run ≠ .armed → exec (.standbyRequest t) s = .next (after t s low)) ∧
    (d.start.run = .armed → exec (.standbyRequest t) s = .next (after t s
      (let e := low.stopShow.updStandby
       let e := (if e.calStepRun || e.sense.phase != .idle then e.calRunEnd false else e).setObj K.TIME_SOURCE 255
       let e := if e.tstate = tsLocked ∨ e.tstate = tsAcquiring then e.enterHoldover else e
       let e := e.goTo .toStandby
       if e.isTile then ((e.immediateCkpt true).setObj K.MODE_NUMBER 0).setTile (fun z => { z with dark := true })
       else e))) ∧
    (d.start.run ≠ .standby → exec (.standbyExitRequest t) s = .next (after t s high)) ∧
    (d.start.run = .standby → exec (.standbyExitRequest t) s = .next (after t s
      ((high.requestVolts 750).pairStart.goTo (.fromStandby 5)))) ∧
    (d.obj K.INTEG_STATE = 1 → ∀ r : StepResult,
      let e := (d.setStart (fun z => { z with calFail := r.calFail })).journalErrors r.journal
      (d.start.run = .fromStandby 5 →
        let x := e.selfRefreshExit r.ranges r.counts r.retrain
        let f := (List.range x.2.dieCount).foldl (fun e k => e.hotDie k (r.ranges.getD k 0)) x.2
        (e.exitReady r.ranges r.counts = false → exec (.startStepComplete t r) s = .next (after t s e)) ∧
        (e.exitReady r.ranges r.counts = true →
          exec (.startStepComplete t r) s = .next (after t s
            (if x.1 = true then f.senseStart.stepTo 6 else f.goTo .startFailed)))) ∧
      (d.start.run = .fromStandby 6 → exec (.startStepComplete t r) s = .next (after t s
        ((e.loadEqTable.startPorts).stepTo 7))) ∧
      (d.start.run = .fromStandby 8 → d.isSender = true → exec (.startStepComplete t r) s = .next (after t s
        (e.step9Begin.reviewPlan))) ∧
      (d.start.run = .fromStandby 9 → e.step9Over = true → exec (.startStepComplete t r) s = .next (after t s e.arm))) ∧
    (d.start.run = .armed ∨ d.start.run = .standby ∨ d.start.run = .toStandby ∨ (∃ n, d.start.run = .fromStandby n) ∨
        (∃ n, 5 ≤ n ∧ d.start.run = .step n) →
      exec (.offRequest t) s = .next (after t s
        (let e := off.stopShow
         let e := if e.flash.dirty.isEmpty && e.flash.urgent.isEmpty then e else e.saveSettings
         let e := if d.start.run = .toStandby ∧ e.ledger.ckpt.isSome then
             e.setLedger (fun l => { l with ckpt := l.ckpt.map (fun c => { c with close := true }) })
           else e.immediateCkpt true
         (e.flogPersist.setStart (fun z => { z with offFrom := d.start.run })).goTo .toOff))) ∧
    (d.start.run = .recovery ∨ d.start.run = .startFailed →
      exec (.offRequest t) s = .next (after t s (leave off.stopShow.flogPersist))) ∧
    (∀ n, n < 5 → d.start.run = .step n → exec (.offRequest t) s = .next (after t s (leave off))) ∧
    (d.start.run = .toOff → d.ledger.ckpt = none → exec (.offReady t) s = .next (after t s
      (d.setStart (fun z => { z with run := .offReady, stepAt := t }))))

/-! ### Encodings -/

/-- Round trips of the wire formats. -/
def Obligations.WireFormatsAreReadBackAsWritten : Prop :=
  (∀ m : Msg, m.version < 2 ^ 8 → m.flags < 2 ^ 8 → m.opcode < 2 ^ 8 → m.status < 2 ^ 8 → m.session < 2 ^ 32 →
    m.sequence < 2 ^ 32 → m.txn < 2 ^ 32 → m.length < 2 ^ 32 → m.crc < 2 ^ 32 →
    msgOfBytes (msgWire m) = some m ∧ (msgWire m).length = 24 + m.payload.length) ∧
  (∀ x : Flp, x.kind < 2 ^ 8 → x.facet < 2 ^ 8 → x.mode < 2 ^ 8 → x.fraction < 2 ^ 8 → x.f < 2 ^ 48 → x.frame < 2 ^ 32 →
    x.paramGen < 2 ^ 32 → x.claim < 2 ^ 32 → x.fader < 2 ^ 16 → x.ceiling < 2 ^ 16 → x.fNew < 2 ^ 48 →
    x.off0 < 2 ^ 32 → x.off1 < 2 ^ 32 → x.off2 < 2 ^ 32 → x.off3 < 2 ^ 32 →
    parseFlp (flpBytes x) = some x ∧ (flpBytes x).length = 88) ∧
  (∀ x : Hello, x.pers = 1 ∨ x.pers = 2 → x.dieRev < 2 ^ 16 → x.verPhy < 2 ^ 32 → x.uid < 2 ^ 64 → x.port < 2 ^ 8 →
    x.rateNow < 2 ^ 8 → x.rateMask < 2 ^ 8 → x.step ≤ 3 → x.next < 2 ^ 8 → x.cableClass < 2 ^ 8 → x.claim < 2 ^ 32 →
    x.genSeen < 2 ^ 32 → x.attempt < 2 ^ 8 →
    parseHello (helloBytes x) = some x ∧ helloClaimOk (helloBytes x) = true ∧ (helloBytes x).length = 48) ∧
  (∀ r : EnumRec, r.uid < 2 ^ 64 → r.ingress < 2 → r.rates < 2 ^ 8 → r.w16 < 2 ^ 8 → r.h16 < 2 ^ 8 → r.lamps < 2 ^ 8 →
    r.held < 2 → parseEnumRec (enumRecBytes r) = r ∧ (enumRecBytes r).length = 16)

/-- Round trip of drive words and soundness of packets. -/
def Obligations.DriveWordsSurviveTheirPacking : Prop :=
  (∀ ws : List Nat, ws.length = 48 → (∀ w ∈ ws, w < 2 ^ 20) →
    unpackDrive (packDrive ws) = ws ∧ (packDrive ws).length = 60 ∧ ∀ w ∈ packDrive ws, w < 2 ^ 16) ∧
  (∀ op addr count words, (mkLdl op addr count words).crc = ldlCrc (mkLdl op addr count words) ∧
    (ldlLength (mkLdl op addr count words) = none ∨ ldlLength (mkLdl op addr count words) = some words.length →
      ldlSound (mkLdl op addr count words) = true)) ∧
  (∀ m, m < 2 ^ 48 → wordsMask (maskWords m) = m ∧ (maskWords m).length = 3)

/-- CRC check values. -/
def Obligations.CrcsGiveTheirCheckValues : Prop :=
  let nine : Bytes := [0x31, 0x32, 0x33, 0x34, 0x35, 0x36, 0x37, 0x38, 0x39]
  let value := fun (n : Nat) => crcFeed (crcAlg n) (crcAlg n).init nine ^^^ (crcAlg n).xorOut
  value 1 = 0xCBF43926 ∧ value 2 = 0xE3069283 ∧ value 3 = 0x29B1 ∧ value 4 = 0x6C40DF5F0B497347 ∧
    crc32c nine = 0xE3069283 ∧ crc16 nine = 0x29B1 ∧
    ∀ (n r : Nat) (a b : Bytes), crcFeed (crcAlg n) r (a ++ b) = crcFeed (crcAlg n) (crcFeed (crcAlg n) r a) b
end

