-- ==== Sys2Proof/Laws/State.lean ====
section
/-!
SUPPORT. Sys2Proof/Laws/State.lean: what each update of the device leaves alone, field by field, so that no proof
unfolds a record update.
-/
namespace Sys2Proof.Machine.Dev

variable (d : Dev)

/-! ### setObj -/

@[simp] theorem setObj_fix (k v : Nat) : (d.setObj k v).fix = d.fix := rfl
@[simp] theorem setObj_now (k v : Nat) : (d.setObj k v).now = d.now := rfl
@[simp] theorem setObj_blobs (k v : Nat) : (d.setObj k v).blobs = d.blobs := rfl
@[simp] theorem setObj_start (k v : Nat) : (d.setObj k v).start = d.start := rfl
@[simp] theorem setObj_time (k v : Nat) : (d.setObj k v).time = d.time := rfl
@[simp] theorem setObj_caps (k v : Nat) : (d.setObj k v).caps = d.caps := rfl
@[simp] theorem setObj_trigs (k v : Nat) : (d.setObj k v).trigs = d.trigs := rfl
@[simp] theorem setObj_streams (k v : Nat) : (d.setObj k v).streams = d.streams := rfl
@[simp] theorem setObj_stills (k v : Nat) : (d.setObj k v).stills = d.stills := rfl
@[simp] theorem setObj_layers (k v : Nat) : (d.setObj k v).layers = d.layers := rfl
@[simp] theorem setObj_enc (k v : Nat) : (d.setObj k v).enc = d.enc := rfl
@[simp] theorem setObj_chkFresh (k v : Nat) : (d.setObj k v).chkFresh = d.chkFresh := rfl
@[simp] theorem setObj_prism (k v : Nat) : (d.setObj k v).prism = d.prism := rfl
@[simp] theorem setObj_sense (k v : Nat) : (d.setObj k v).sense = d.sense := rfl
@[simp] theorem setObj_withy (k v : Nat) : (d.setObj k v).withy = d.withy := rfl
@[simp] theorem setObj_pair (k v : Nat) : (d.setObj k v).pair = d.pair := rfl
@[simp] theorem setObj_paths (k v : Nat) : (d.setObj k v).paths = d.paths := rfl
@[simp] theorem setObj_tile (k v : Nat) : (d.setObj k v).tile = d.tile := rfl
@[simp] theorem setObj_ldl (k v : Nat) : (d.setObj k v).ldl = d.ldl := rfl
@[simp] theorem setObj_ledger (k v : Nat) : (d.setObj k v).ledger = d.ledger := rfl
@[simp] theorem setObj_pliuk (k v : Nat) : (d.setObj k v).pliuk = d.pliuk := rfl
@[simp] theorem setObj_integ (k v : Nat) : (d.setObj k v).integ = d.integ := rfl
@[simp] theorem setObj_dram (k v : Nat) : (d.setObj k v).dram = d.dram := rfl
@[simp] theorem setObj_cuHolder (k v : Nat) : (d.setObj k v).cuHolder = d.cuHolder := rfl
@[simp] theorem setObj_flash (k v : Nat) : (d.setObj k v).flash = d.flash := rfl
@[simp] theorem setObj_update (k v : Nat) : (d.setObj k v).update = d.update := rfl
@[simp] theorem setObj_free (k v : Nat) : (d.setObj k v).free = d.free := rfl
@[simp] theorem setObj_out (k v : Nat) : (d.setObj k v).out = d.out := rfl
@[simp] theorem setObj_events (k v : Nat) : (d.setObj k v).events = d.events := rfl
@[simp] theorem setObj_blob (k v : Nat) (j : Nat) : (d.setObj k v).blob j = d.blob j := rfl
@[simp] theorem setObj_pers (k v : Nat) : (d.setObj k v).pers = d.pers := rfl
@[simp] theorem setObj_isTile (k v : Nat) : (d.setObj k v).isTile = d.isTile := rfl
@[simp] theorem setObj_isSender (k v : Nat) : (d.setObj k v).isSender = d.isSender := rfl

/-! ### setBlob -/

@[simp] theorem setBlob_fix (k : Nat) (v : Bytes) : (d.setBlob k v).fix = d.fix := rfl
@[simp] theorem setBlob_now (k : Nat) (v : Bytes) : (d.setBlob k v).now = d.now := rfl
@[simp] theorem setBlob_dict (k : Nat) (v : Bytes) : (d.setBlob k v).dict = d.dict := rfl
@[simp] theorem setBlob_start (k : Nat) (v : Bytes) : (d.setBlob k v).start = d.start := rfl
@[simp] theorem setBlob_time (k : Nat) (v : Bytes) : (d.setBlob k v).time = d.time := rfl
@[simp] theorem setBlob_caps (k : Nat) (v : Bytes) : (d.setBlob k v).caps = d.caps := rfl
@[simp] theorem setBlob_trigs (k : Nat) (v : Bytes) : (d.setBlob k v).trigs = d.trigs := rfl
@[simp] theorem setBlob_streams (k : Nat) (v : Bytes) : (d.setBlob k v).streams = d.streams := rfl
@[simp] theorem setBlob_stills (k : Nat) (v : Bytes) : (d.setBlob k v).stills = d.stills := rfl
@[simp] theorem setBlob_layers (k : Nat) (v : Bytes) : (d.setBlob k v).layers = d.layers := rfl
@[simp] theorem setBlob_enc (k : Nat) (v : Bytes) : (d.setBlob k v).enc = d.enc := rfl
@[simp] theorem setBlob_chkFresh (k : Nat) (v : Bytes) : (d.setBlob k v).chkFresh = d.chkFresh := rfl
@[simp] theorem setBlob_prism (k : Nat) (v : Bytes) : (d.setBlob k v).prism = d.prism := rfl
@[simp] theorem setBlob_sense (k : Nat) (v : Bytes) : (d.setBlob k v).sense = d.sense := rfl
@[simp] theorem setBlob_withy (k : Nat) (v : Bytes) : (d.setBlob k v).withy = d.withy := rfl
@[simp] theorem setBlob_pair (k : Nat) (v : Bytes) : (d.setBlob k v).pair = d.pair := rfl
@[simp] theorem setBlob_paths (k : Nat) (v : Bytes) : (d.setBlob k v).paths = d.paths := rfl
@[simp] theorem setBlob_tile (k : Nat) (v : Bytes) : (d.setBlob k v).tile = d.tile := rfl
@[simp] theorem setBlob_ldl (k : Nat) (v : Bytes) : (d.setBlob k v).ldl = d.ldl := rfl
@[simp] theorem setBlob_ledger (k : Nat) (v : Bytes) : (d.setBlob k v).ledger = d.ledger := rfl
@[simp] theorem setBlob_pliuk (k : Nat) (v : Bytes) : (d.setBlob k v).pliuk = d.pliuk := rfl
@[simp] theorem setBlob_integ (k : Nat) (v : Bytes) : (d.setBlob k v).integ = d.integ := rfl
@[simp] theorem setBlob_dram (k : Nat) (v : Bytes) : (d.setBlob k v).dram = d.dram := rfl
@[simp] theorem setBlob_cuHolder (k : Nat) (v : Bytes) : (d.setBlob k v).cuHolder = d.cuHolder := rfl
@[simp] theorem setBlob_flash (k : Nat) (v : Bytes) : (d.setBlob k v).flash = d.flash := rfl
@[simp] theorem setBlob_update (k : Nat) (v : Bytes) : (d.setBlob k v).update = d.update := rfl
@[simp] theorem setBlob_free (k : Nat) (v : Bytes) : (d.setBlob k v).free = d.free := rfl
@[simp] theorem setBlob_out (k : Nat) (v : Bytes) : (d.setBlob k v).out = d.out := rfl
@[simp] theorem setBlob_events (k : Nat) (v : Bytes) : (d.setBlob k v).events = d.events := rfl
@[simp] theorem setBlob_obj (k : Nat) (v : Bytes) (j : Nat) : (d.setBlob k v).obj j = d.obj j := rfl
@[simp] theorem setBlob_pers (k : Nat) (v : Bytes) : (d.setBlob k v).pers = d.pers := rfl
@[simp] theorem setBlob_isTile (k : Nat) (v : Bytes) : (d.setBlob k v).isTile = d.isTile := rfl
@[simp] theorem setBlob_isSender (k : Nat) (v : Bytes) : (d.setBlob k v).isSender = d.isSender := rfl

/-! ### emit -/

@[simp] theorem emit_fix (o : Output) : (d.emit o).fix = d.fix := rfl
@[simp] theorem emit_now (o : Output) : (d.emit o).now = d.now := rfl
@[simp] theorem emit_dict (o : Output) : (d.emit o).dict = d.dict := rfl
@[simp] theorem emit_blobs (o : Output) : (d.emit o).blobs = d.blobs := rfl
@[simp] theorem emit_start (o : Output) : (d.emit o).start = d.start := rfl
@[simp] theorem emit_time (o : Output) : (d.emit o).time = d.time := rfl
@[simp] theorem emit_caps (o : Output) : (d.emit o).caps = d.caps := rfl
@[simp] theorem emit_trigs (o : Output) : (d.emit o).trigs = d.trigs := rfl
@[simp] theorem emit_streams (o : Output) : (d.emit o).streams = d.streams := rfl
@[simp] theorem emit_stills (o : Output) : (d.emit o).stills = d.stills := rfl
@[simp] theorem emit_layers (o : Output) : (d.emit o).layers = d.layers := rfl
@[simp] theorem emit_enc (o : Output) : (d.emit o).enc = d.enc := rfl
@[simp] theorem emit_chkFresh (o : Output) : (d.emit o).chkFresh = d.chkFresh := rfl
@[simp] theorem emit_prism (o : Output) : (d.emit o).prism = d.prism := rfl
@[simp] theorem emit_sense (o : Output) : (d.emit o).sense = d.sense := rfl
@[simp] theorem emit_withy (o : Output) : (d.emit o).withy = d.withy := rfl
@[simp] theorem emit_pair (o : Output) : (d.emit o).pair = d.pair := rfl
@[simp] theorem emit_paths (o : Output) : (d.emit o).paths = d.paths := rfl
@[simp] theorem emit_tile (o : Output) : (d.emit o).tile = d.tile := rfl
@[simp] theorem emit_ldl (o : Output) : (d.emit o).ldl = d.ldl := rfl
@[simp] theorem emit_ledger (o : Output) : (d.emit o).ledger = d.ledger := rfl
@[simp] theorem emit_pliuk (o : Output) : (d.emit o).pliuk = d.pliuk := rfl
@[simp] theorem emit_integ (o : Output) : (d.emit o).integ = d.integ := rfl
@[simp] theorem emit_dram (o : Output) : (d.emit o).dram = d.dram := rfl
@[simp] theorem emit_cuHolder (o : Output) : (d.emit o).cuHolder = d.cuHolder := rfl
@[simp] theorem emit_flash (o : Output) : (d.emit o).flash = d.flash := rfl
@[simp] theorem emit_update (o : Output) : (d.emit o).update = d.update := rfl
@[simp] theorem emit_free (o : Output) : (d.emit o).free = d.free := rfl
@[simp] theorem emit_events (o : Output) : (d.emit o).events = d.events := rfl
@[simp] theorem emit_obj (o : Output) (j : Nat) : (d.emit o).obj j = d.obj j := rfl
@[simp] theorem emit_blob (o : Output) (j : Nat) : (d.emit o).blob j = d.blob j := rfl
@[simp] theorem emit_pers (o : Output) : (d.emit o).pers = d.pers := rfl
@[simp] theorem emit_isTile (o : Output) : (d.emit o).isTile = d.isTile := rfl
@[simp] theorem emit_isSender (o : Output) : (d.emit o).isSender = d.isSender := rfl

/-! ### emitAll -/

@[simp] theorem emitAll_fix (os : List Output) : (d.emitAll os).fix = d.fix := rfl
@[simp] theorem emitAll_now (os : List Output) : (d.emitAll os).now = d.now := rfl
@[simp] theorem emitAll_dict (os : List Output) : (d.emitAll os).dict = d.dict := rfl
@[simp] theorem emitAll_blobs (os : List Output) : (d.emitAll os).blobs = d.blobs := rfl
@[simp] theorem emitAll_start (os : List Output) : (d.emitAll os).start = d.start := rfl
@[simp] theorem emitAll_time (os : List Output) : (d.emitAll os).time = d.time := rfl
@[simp] theorem emitAll_caps (os : List Output) : (d.emitAll os).caps = d.caps := rfl
@[simp] theorem emitAll_trigs (os : List Output) : (d.emitAll os).trigs = d.trigs := rfl
@[simp] theorem emitAll_streams (os : List Output) : (d.emitAll os).streams = d.streams := rfl
@[simp] theorem emitAll_stills (os : List Output) : (d.emitAll os).stills = d.stills := rfl
@[simp] theorem emitAll_layers (os : List Output) : (d.emitAll os).layers = d.layers := rfl
@[simp] theorem emitAll_enc (os : List Output) : (d.emitAll os).enc = d.enc := rfl
@[simp] theorem emitAll_chkFresh (os : List Output) : (d.emitAll os).chkFresh = d.chkFresh := rfl
@[simp] theorem emitAll_prism (os : List Output) : (d.emitAll os).prism = d.prism := rfl
@[simp] theorem emitAll_sense (os : List Output) : (d.emitAll os).sense = d.sense := rfl
@[simp] theorem emitAll_withy (os : List Output) : (d.emitAll os).withy = d.withy := rfl
@[simp] theorem emitAll_pair (os : List Output) : (d.emitAll os).pair = d.pair := rfl
@[simp] theorem emitAll_paths (os : List Output) : (d.emitAll os).paths = d.paths := rfl
@[simp] theorem emitAll_tile (os : List Output) : (d.emitAll os).tile = d.tile := rfl
@[simp] theorem emitAll_ldl (os : List Output) : (d.emitAll os).ldl = d.ldl := rfl
@[simp] theorem emitAll_ledger (os : List Output) : (d.emitAll os).ledger = d.ledger := rfl
@[simp] theorem emitAll_pliuk (os : List Output) : (d.emitAll os).pliuk = d.pliuk := rfl
@[simp] theorem emitAll_integ (os : List Output) : (d.emitAll os).integ = d.integ := rfl
@[simp] theorem emitAll_dram (os : List Output) : (d.emitAll os).dram = d.dram := rfl
@[simp] theorem emitAll_cuHolder (os : List Output) : (d.emitAll os).cuHolder = d.cuHolder := rfl
@[simp] theorem emitAll_flash (os : List Output) : (d.emitAll os).flash = d.flash := rfl
@[simp] theorem emitAll_update (os : List Output) : (d.emitAll os).update = d.update := rfl
@[simp] theorem emitAll_free (os : List Output) : (d.emitAll os).free = d.free := rfl
@[simp] theorem emitAll_events (os : List Output) : (d.emitAll os).events = d.events := rfl
@[simp] theorem emitAll_obj (os : List Output) (j : Nat) : (d.emitAll os).obj j = d.obj j := rfl
@[simp] theorem emitAll_blob (os : List Output) (j : Nat) : (d.emitAll os).blob j = d.blob j := rfl
@[simp] theorem emitAll_pers (os : List Output) : (d.emitAll os).pers = d.pers := rfl
@[simp] theorem emitAll_isTile (os : List Output) : (d.emitAll os).isTile = d.isTile := rfl
@[simp] theorem emitAll_isSender (os : List Output) : (d.emitAll os).isSender = d.isSender := rfl

/-! ### setPliuk -/

@[simp] theorem setPliuk_fix (f : Pliuk → Pliuk) : (d.setPliuk f).fix = d.fix := rfl
@[simp] theorem setPliuk_now (f : Pliuk → Pliuk) : (d.setPliuk f).now = d.now := rfl
@[simp] theorem setPliuk_dict (f : Pliuk → Pliuk) : (d.setPliuk f).dict = d.dict := rfl
@[simp] theorem setPliuk_blobs (f : Pliuk → Pliuk) : (d.setPliuk f).blobs = d.blobs := rfl
@[simp] theorem setPliuk_start (f : Pliuk → Pliuk) : (d.setPliuk f).start = d.start := rfl
@[simp] theorem setPliuk_time (f : Pliuk → Pliuk) : (d.setPliuk f).time = d.time := rfl
@[simp] theorem setPliuk_caps (f : Pliuk → Pliuk) : (d.setPliuk f).caps = d.caps := rfl
@[simp] theorem setPliuk_trigs (f : Pliuk → Pliuk) : (d.setPliuk f).trigs = d.trigs := rfl
@[simp] theorem setPliuk_streams (f : Pliuk → Pliuk) : (d.setPliuk f).streams = d.streams := rfl
@[simp] theorem setPliuk_stills (f : Pliuk → Pliuk) : (d.setPliuk f).stills = d.stills := rfl
@[simp] theorem setPliuk_layers (f : Pliuk → Pliuk) : (d.setPliuk f).layers = d.layers := rfl
@[simp] theorem setPliuk_enc (f : Pliuk → Pliuk) : (d.setPliuk f).enc = d.enc := rfl
@[simp] theorem setPliuk_chkFresh (f : Pliuk → Pliuk) : (d.setPliuk f).chkFresh = d.chkFresh := rfl
@[simp] theorem setPliuk_prism (f : Pliuk → Pliuk) : (d.setPliuk f).prism = d.prism := rfl
@[simp] theorem setPliuk_sense (f : Pliuk → Pliuk) : (d.setPliuk f).sense = d.sense := rfl
@[simp] theorem setPliuk_withy (f : Pliuk → Pliuk) : (d.setPliuk f).withy = d.withy := rfl
@[simp] theorem setPliuk_pair (f : Pliuk → Pliuk) : (d.setPliuk f).pair = d.pair := rfl
@[simp] theorem setPliuk_paths (f : Pliuk → Pliuk) : (d.setPliuk f).paths = d.paths := rfl
@[simp] theorem setPliuk_tile (f : Pliuk → Pliuk) : (d.setPliuk f).tile = d.tile := rfl
@[simp] theorem setPliuk_ldl (f : Pliuk → Pliuk) : (d.setPliuk f).ldl = d.ldl := rfl
@[simp] theorem setPliuk_ledger (f : Pliuk → Pliuk) : (d.setPliuk f).ledger = d.ledger := rfl
@[simp] theorem setPliuk_integ (f : Pliuk → Pliuk) : (d.setPliuk f).integ = d.integ := rfl
@[simp] theorem setPliuk_dram (f : Pliuk → Pliuk) : (d.setPliuk f).dram = d.dram := rfl
@[simp] theorem setPliuk_cuHolder (f : Pliuk → Pliuk) : (d.setPliuk f).cuHolder = d.cuHolder := rfl
@[simp] theorem setPliuk_flash (f : Pliuk → Pliuk) : (d.setPliuk f).flash = d.flash := rfl
@[simp] theorem setPliuk_update (f : Pliuk → Pliuk) : (d.setPliuk f).update = d.update := rfl
@[simp] theorem setPliuk_free (f : Pliuk → Pliuk) : (d.setPliuk f).free = d.free := rfl
@[simp] theorem setPliuk_out (f : Pliuk → Pliuk) : (d.setPliuk f).out = d.out := rfl
@[simp] theorem setPliuk_events (f : Pliuk → Pliuk) : (d.setPliuk f).events = d.events := rfl
@[simp] theorem setPliuk_obj (f : Pliuk → Pliuk) (j : Nat) : (d.setPliuk f).obj j = d.obj j := rfl
@[simp] theorem setPliuk_blob (f : Pliuk → Pliuk) (j : Nat) : (d.setPliuk f).blob j = d.blob j := rfl
@[simp] theorem setPliuk_pers (f : Pliuk → Pliuk) : (d.setPliuk f).pers = d.pers := rfl
@[simp] theorem setPliuk_isTile (f : Pliuk → Pliuk) : (d.setPliuk f).isTile = d.isTile := rfl
@[simp] theorem setPliuk_isSender (f : Pliuk → Pliuk) : (d.setPliuk f).isSender = d.isSender := rfl

/-! ### setStart -/

@[simp] theorem setStart_fix (f : Start → Start) : (d.setStart f).fix = d.fix := rfl
@[simp] theorem setStart_now (f : Start → Start) : (d.setStart f).now = d.now := rfl
@[simp] theorem setStart_dict (f : Start → Start) : (d.setStart f).dict = d.dict := rfl
@[simp] theorem setStart_blobs (f : Start → Start) : (d.setStart f).blobs = d.blobs := rfl
@[simp] theorem setStart_time (f : Start → Start) : (d.setStart f).time = d.time := rfl
@[simp] theorem setStart_caps (f : Start → Start) : (d.setStart f).caps = d.caps := rfl
@[simp] theorem setStart_trigs (f : Start → Start) : (d.setStart f).trigs = d.trigs := rfl
@[simp] theorem setStart_streams (f : Start → Start) : (d.setStart f).streams = d.streams := rfl
@[simp] theorem setStart_stills (f : Start → Start) : (d.setStart f).stills = d.stills := rfl
@[simp] theorem setStart_layers (f : Start → Start) : (d.setStart f).layers = d.layers := rfl
@[simp] theorem setStart_enc (f : Start → Start) : (d.setStart f).enc = d.enc := rfl
@[simp] theorem setStart_chkFresh (f : Start → Start) : (d.setStart f).chkFresh = d.chkFresh := rfl
@[simp] theorem setStart_prism (f : Start → Start) : (d.setStart f).prism = d.prism := rfl
@[simp] theorem setStart_sense (f : Start → Start) : (d.setStart f).sense = d.sense := rfl
@[simp] theorem setStart_withy (f : Start → Start) : (d.setStart f).withy = d.withy := rfl
@[simp] theorem setStart_pair (f : Start → Start) : (d.setStart f).pair = d.pair := rfl
@[simp] theorem setStart_paths (f : Start → Start) : (d.setStart f).paths = d.paths := rfl
@[simp] theorem setStart_tile (f : Start → Start) : (d.setStart f).tile = d.tile := rfl
@[simp] theorem setStart_ldl (f : Start → Start) : (d.setStart f).ldl = d.ldl := rfl
@[simp] theorem setStart_ledger (f : Start → Start) : (d.setStart f).ledger = d.ledger := rfl
@[simp] theorem setStart_pliuk (f : Start → Start) : (d.setStart f).pliuk = d.pliuk := rfl
@[simp] theorem setStart_integ (f : Start → Start) : (d.setStart f).integ = d.integ := rfl
@[simp] theorem setStart_dram (f : Start → Start) : (d.setStart f).dram = d.dram := rfl
@[simp] theorem setStart_cuHolder (f : Start → Start) : (d.setStart f).cuHolder = d.cuHolder := rfl
@[simp] theorem setStart_flash (f : Start → Start) : (d.setStart f).flash = d.flash := rfl
@[simp] theorem setStart_update (f : Start → Start) : (d.setStart f).update = d.update := rfl
@[simp] theorem setStart_free (f : Start → Start) : (d.setStart f).free = d.free := rfl
@[simp] theorem setStart_out (f : Start → Start) : (d.setStart f).out = d.out := rfl
@[simp] theorem setStart_events (f : Start → Start) : (d.setStart f).events = d.events := rfl
@[simp] theorem setStart_obj (f : Start → Start) (j : Nat) : (d.setStart f).obj j = d.obj j := rfl
@[simp] theorem setStart_blob (f : Start → Start) (j : Nat) : (d.setStart f).blob j = d.blob j := rfl
@[simp] theorem setStart_pers (f : Start → Start) : (d.setStart f).pers = d.pers := rfl
@[simp] theorem setStart_isTile (f : Start → Start) : (d.setStart f).isTile = d.isTile := rfl
@[simp] theorem setStart_isSender (f : Start → Start) : (d.setStart f).isSender = d.isSender := rfl

/-! ### setTb -/

@[simp] theorem setTb_fix (f : TimeBase → TimeBase) : (d.setTb f).fix = d.fix := rfl
@[simp] theorem setTb_now (f : TimeBase → TimeBase) : (d.setTb f).now = d.now := rfl
@[simp] theorem setTb_dict (f : TimeBase → TimeBase) : (d.setTb f).dict = d.dict := rfl
@[simp] theorem setTb_blobs (f : TimeBase → TimeBase) : (d.setTb f).blobs = d.blobs := rfl
@[simp] theorem setTb_start (f : TimeBase → TimeBase) : (d.setTb f).start = d.start := rfl
@[simp] theorem setTb_caps (f : TimeBase → TimeBase) : (d.setTb f).caps = d.caps := rfl
@[simp] theorem setTb_trigs (f : TimeBase → TimeBase) : (d.setTb f).trigs = d.trigs := rfl
@[simp] theorem setTb_streams (f : TimeBase → TimeBase) : (d.setTb f).streams = d.streams := rfl
@[simp] theorem setTb_stills (f : TimeBase → TimeBase) : (d.setTb f).stills = d.stills := rfl
@[simp] theorem setTb_layers (f : TimeBase → TimeBase) : (d.setTb f).layers = d.layers := rfl
@[simp] theorem setTb_enc (f : TimeBase → TimeBase) : (d.setTb f).enc = d.enc := rfl
@[simp] theorem setTb_chkFresh (f : TimeBase → TimeBase) : (d.setTb f).chkFresh = d.chkFresh := rfl
@[simp] theorem setTb_prism (f : TimeBase → TimeBase) : (d.setTb f).prism = d.prism := rfl
@[simp] theorem setTb_sense (f : TimeBase → TimeBase) : (d.setTb f).sense = d.sense := rfl
@[simp] theorem setTb_withy (f : TimeBase → TimeBase) : (d.setTb f).withy = d.withy := rfl
@[simp] theorem setTb_pair (f : TimeBase → TimeBase) : (d.setTb f).pair = d.pair := rfl
@[simp] theorem setTb_paths (f : TimeBase → TimeBase) : (d.setTb f).paths = d.paths := rfl
@[simp] theorem setTb_tile (f : TimeBase → TimeBase) : (d.setTb f).tile = d.tile := rfl
@[simp] theorem setTb_ldl (f : TimeBase → TimeBase) : (d.setTb f).ldl = d.ldl := rfl
@[simp] theorem setTb_ledger (f : TimeBase → TimeBase) : (d.setTb f).ledger = d.ledger := rfl
@[simp] theorem setTb_pliuk (f : TimeBase → TimeBase) : (d.setTb f).pliuk = d.pliuk := rfl
@[simp] theorem setTb_integ (f : TimeBase → TimeBase) : (d.setTb f).integ = d.integ := rfl
@[simp] theorem setTb_dram (f : TimeBase → TimeBase) : (d.setTb f).dram = d.dram := rfl
@[simp] theorem setTb_cuHolder (f : TimeBase → TimeBase) : (d.setTb f).cuHolder = d.cuHolder := rfl
@[simp] theorem setTb_flash (f : TimeBase → TimeBase) : (d.setTb f).flash = d.flash := rfl
@[simp] theorem setTb_update (f : TimeBase → TimeBase) : (d.setTb f).update = d.update := rfl
@[simp] theorem setTb_free (f : TimeBase → TimeBase) : (d.setTb f).free = d.free := rfl
@[simp] theorem setTb_out (f : TimeBase → TimeBase) : (d.setTb f).out = d.out := rfl
@[simp] theorem setTb_events (f : TimeBase → TimeBase) : (d.setTb f).events = d.events := rfl
@[simp] theorem setTb_obj (f : TimeBase → TimeBase) (j : Nat) : (d.setTb f).obj j = d.obj j := rfl
@[simp] theorem setTb_blob (f : TimeBase → TimeBase) (j : Nat) : (d.setTb f).blob j = d.blob j := rfl
@[simp] theorem setTb_pers (f : TimeBase → TimeBase) : (d.setTb f).pers = d.pers := rfl
@[simp] theorem setTb_isTile (f : TimeBase → TimeBase) : (d.setTb f).isTile = d.isTile := rfl
@[simp] theorem setTb_isSender (f : TimeBase → TimeBase) : (d.setTb f).isSender = d.isSender := rfl

/-! ### setInteg -/

@[simp] theorem setInteg_fix (f : Integ → Integ) : (d.setInteg f).fix = d.fix := rfl
@[simp] theorem setInteg_now (f : Integ → Integ) : (d.setInteg f).now = d.now := rfl
@[simp] theorem setInteg_dict (f : Integ → Integ) : (d.setInteg f).dict = d.dict := rfl
@[simp] theorem setInteg_blobs (f : Integ → Integ) : (d.setInteg f).blobs = d.blobs := rfl
@[simp] theorem setInteg_start (f : Integ → Integ) : (d.setInteg f).start = d.start := rfl
@[simp] theorem setInteg_time (f : Integ → Integ) : (d.setInteg f).time = d.time := rfl
@[simp] theorem setInteg_caps (f : Integ → Integ) : (d.setInteg f).caps = d.caps := rfl
@[simp] theorem setInteg_trigs (f : Integ → Integ) : (d.setInteg f).trigs = d.trigs := rfl
@[simp] theorem setInteg_streams (f : Integ → Integ) : (d.setInteg f).streams = d.streams := rfl
@[simp] theorem setInteg_stills (f : Integ → Integ) : (d.setInteg f).stills = d.stills := rfl
@[simp] theorem setInteg_layers (f : Integ → Integ) : (d.setInteg f).layers = d.layers := rfl
@[simp] theorem setInteg_enc (f : Integ → Integ) : (d.setInteg f).enc = d.enc := rfl
@[simp] theorem setInteg_chkFresh (f : Integ → Integ) : (d.setInteg f).chkFresh = d.chkFresh := rfl
@[simp] theorem setInteg_prism (f : Integ → Integ) : (d.setInteg f).prism = d.prism := rfl
@[simp] theorem setInteg_sense (f : Integ → Integ) : (d.setInteg f).sense = d.sense := rfl
@[simp] theorem setInteg_withy (f : Integ → Integ) : (d.setInteg f).withy = d.withy := rfl
@[simp] theorem setInteg_pair (f : Integ → Integ) : (d.setInteg f).pair = d.pair := rfl
@[simp] theorem setInteg_paths (f : Integ → Integ) : (d.setInteg f).paths = d.paths := rfl
@[simp] theorem setInteg_tile (f : Integ → Integ) : (d.setInteg f).tile = d.tile := rfl
@[simp] theorem setInteg_ldl (f : Integ → Integ) : (d.setInteg f).ldl = d.ldl := rfl
@[simp] theorem setInteg_ledger (f : Integ → Integ) : (d.setInteg f).ledger = d.ledger := rfl
@[simp] theorem setInteg_pliuk (f : Integ → Integ) : (d.setInteg f).pliuk = d.pliuk := rfl
@[simp] theorem setInteg_dram (f : Integ → Integ) : (d.setInteg f).dram = d.dram := rfl
@[simp] theorem setInteg_cuHolder (f : Integ → Integ) : (d.setInteg f).cuHolder = d.cuHolder := rfl
@[simp] theorem setInteg_flash (f : Integ → Integ) : (d.setInteg f).flash = d.flash := rfl
@[simp] theorem setInteg_update (f : Integ → Integ) : (d.setInteg f).update = d.update := rfl
@[simp] theorem setInteg_free (f : Integ → Integ) : (d.setInteg f).free = d.free := rfl
@[simp] theorem setInteg_out (f : Integ → Integ) : (d.setInteg f).out = d.out := rfl
@[simp] theorem setInteg_events (f : Integ → Integ) : (d.setInteg f).events = d.events := rfl
@[simp] theorem setInteg_obj (f : Integ → Integ) (j : Nat) : (d.setInteg f).obj j = d.obj j := rfl
@[simp] theorem setInteg_blob (f : Integ → Integ) (j : Nat) : (d.setInteg f).blob j = d.blob j := rfl
@[simp] theorem setInteg_pers (f : Integ → Integ) : (d.setInteg f).pers = d.pers := rfl
@[simp] theorem setInteg_isTile (f : Integ → Integ) : (d.setInteg f).isTile = d.isTile := rfl
@[simp] theorem setInteg_isSender (f : Integ → Integ) : (d.setInteg f).isSender = d.isSender := rfl

/-! ### setFlash -/

@[simp] theorem setFlash_fix (f : Flash → Flash) : (d.setFlash f).fix = d.fix := rfl
@[simp] theorem setFlash_now (f : Flash → Flash) : (d.setFlash f).now = d.now := rfl
@[simp] theorem setFlash_dict (f : Flash → Flash) : (d.setFlash f).dict = d.dict := rfl
@[simp] theorem setFlash_blobs (f : Flash → Flash) : (d.setFlash f).blobs = d.blobs := rfl
@[simp] theorem setFlash_start (f : Flash → Flash) : (d.setFlash f).start = d.start := rfl
@[simp] theorem setFlash_time (f : Flash → Flash) : (d.setFlash f).time = d.time := rfl
@[simp] theorem setFlash_caps (f : Flash → Flash) : (d.setFlash f).caps = d.caps := rfl
@[simp] theorem setFlash_trigs (f : Flash → Flash) : (d.setFlash f).trigs = d.trigs := rfl
@[simp] theorem setFlash_streams (f : Flash → Flash) : (d.setFlash f).streams = d.streams := rfl
@[simp] theorem setFlash_stills (f : Flash → Flash) : (d.setFlash f).stills = d.stills := rfl
@[simp] theorem setFlash_layers (f : Flash → Flash) : (d.setFlash f).layers = d.layers := rfl
@[simp] theorem setFlash_enc (f : Flash → Flash) : (d.setFlash f).enc = d.enc := rfl
@[simp] theorem setFlash_chkFresh (f : Flash → Flash) : (d.setFlash f).chkFresh = d.chkFresh := rfl
@[simp] theorem setFlash_prism (f : Flash → Flash) : (d.setFlash f).prism = d.prism := rfl
@[simp] theorem setFlash_sense (f : Flash → Flash) : (d.setFlash f).sense = d.sense := rfl
@[simp] theorem setFlash_withy (f : Flash → Flash) : (d.setFlash f).withy = d.withy := rfl
@[simp] theorem setFlash_pair (f : Flash → Flash) : (d.setFlash f).pair = d.pair := rfl
@[simp] theorem setFlash_paths (f : Flash → Flash) : (d.setFlash f).paths = d.paths := rfl
@[simp] theorem setFlash_tile (f : Flash → Flash) : (d.setFlash f).tile = d.tile := rfl
@[simp] theorem setFlash_ldl (f : Flash → Flash) : (d.setFlash f).ldl = d.ldl := rfl
@[simp] theorem setFlash_ledger (f : Flash → Flash) : (d.setFlash f).ledger = d.ledger := rfl
@[simp] theorem setFlash_pliuk (f : Flash → Flash) : (d.setFlash f).pliuk = d.pliuk := rfl
@[simp] theorem setFlash_integ (f : Flash → Flash) : (d.setFlash f).integ = d.integ := rfl
@[simp] theorem setFlash_dram (f : Flash → Flash) : (d.setFlash f).dram = d.dram := rfl
@[simp] theorem setFlash_cuHolder (f : Flash → Flash) : (d.setFlash f).cuHolder = d.cuHolder := rfl
@[simp] theorem setFlash_update (f : Flash → Flash) : (d.setFlash f).update = d.update := rfl
@[simp] theorem setFlash_free (f : Flash → Flash) : (d.setFlash f).free = d.free := rfl
@[simp] theorem setFlash_out (f : Flash → Flash) : (d.setFlash f).out = d.out := rfl
@[simp] theorem setFlash_events (f : Flash → Flash) : (d.setFlash f).events = d.events := rfl
@[simp] theorem setFlash_obj (f : Flash → Flash) (j : Nat) : (d.setFlash f).obj j = d.obj j := rfl
@[simp] theorem setFlash_blob (f : Flash → Flash) (j : Nat) : (d.setFlash f).blob j = d.blob j := rfl
@[simp] theorem setFlash_pers (f : Flash → Flash) : (d.setFlash f).pers = d.pers := rfl
@[simp] theorem setFlash_isTile (f : Flash → Flash) : (d.setFlash f).isTile = d.isTile := rfl
@[simp] theorem setFlash_isSender (f : Flash → Flash) : (d.setFlash f).isSender = d.isSender := rfl

/-! ### setUpd -/

@[simp] theorem setUpd_fix (f : UpdSt → UpdSt) : (d.setUpd f).fix = d.fix := rfl
@[simp] theorem setUpd_now (f : UpdSt → UpdSt) : (d.setUpd f).now = d.now := rfl
@[simp] theorem setUpd_dict (f : UpdSt → UpdSt) : (d.setUpd f).dict = d.dict := rfl
@[simp] theorem setUpd_blobs (f : UpdSt → UpdSt) : (d.setUpd f).blobs = d.blobs := rfl
@[simp] theorem setUpd_start (f : UpdSt → UpdSt) : (d.setUpd f).start = d.start := rfl
@[simp] theorem setUpd_time (f : UpdSt → UpdSt) : (d.setUpd f).time = d.time := rfl
@[simp] theorem setUpd_caps (f : UpdSt → UpdSt) : (d.setUpd f).caps = d.caps := rfl
@[simp] theorem setUpd_trigs (f : UpdSt → UpdSt) : (d.setUpd f).trigs = d.trigs := rfl
@[simp] theorem setUpd_streams (f : UpdSt → UpdSt) : (d.setUpd f).streams = d.streams := rfl
@[simp] theorem setUpd_stills (f : UpdSt → UpdSt) : (d.setUpd f).stills = d.stills := rfl
@[simp] theorem setUpd_layers (f : UpdSt → UpdSt) : (d.setUpd f).layers = d.layers := rfl
@[simp] theorem setUpd_enc (f : UpdSt → UpdSt) : (d.setUpd f).enc = d.enc := rfl
@[simp] theorem setUpd_chkFresh (f : UpdSt → UpdSt) : (d.setUpd f).chkFresh = d.chkFresh := rfl
@[simp] theorem setUpd_prism (f : UpdSt → UpdSt) : (d.setUpd f).prism = d.prism := rfl
@[simp] theorem setUpd_sense (f : UpdSt → UpdSt) : (d.setUpd f).sense = d.sense := rfl
@[simp] theorem setUpd_withy (f : UpdSt → UpdSt) : (d.setUpd f).withy = d.withy := rfl
@[simp] theorem setUpd_pair (f : UpdSt → UpdSt) : (d.setUpd f).pair = d.pair := rfl
@[simp] theorem setUpd_paths (f : UpdSt → UpdSt) : (d.setUpd f).paths = d.paths := rfl
@[simp] theorem setUpd_tile (f : UpdSt → UpdSt) : (d.setUpd f).tile = d.tile := rfl
@[simp] theorem setUpd_ldl (f : UpdSt → UpdSt) : (d.setUpd f).ldl = d.ldl := rfl
@[simp] theorem setUpd_ledger (f : UpdSt → UpdSt) : (d.setUpd f).ledger = d.ledger := rfl
@[simp] theorem setUpd_pliuk (f : UpdSt → UpdSt) : (d.setUpd f).pliuk = d.pliuk := rfl
@[simp] theorem setUpd_integ (f : UpdSt → UpdSt) : (d.setUpd f).integ = d.integ := rfl
@[simp] theorem setUpd_dram (f : UpdSt → UpdSt) : (d.setUpd f).dram = d.dram := rfl
@[simp] theorem setUpd_cuHolder (f : UpdSt → UpdSt) : (d.setUpd f).cuHolder = d.cuHolder := rfl
@[simp] theorem setUpd_flash (f : UpdSt → UpdSt) : (d.setUpd f).flash = d.flash := rfl
@[simp] theorem setUpd_free (f : UpdSt → UpdSt) : (d.setUpd f).free = d.free := rfl
@[simp] theorem setUpd_out (f : UpdSt → UpdSt) : (d.setUpd f).out = d.out := rfl
@[simp] theorem setUpd_events (f : UpdSt → UpdSt) : (d.setUpd f).events = d.events := rfl
@[simp] theorem setUpd_obj (f : UpdSt → UpdSt) (j : Nat) : (d.setUpd f).obj j = d.obj j := rfl
@[simp] theorem setUpd_blob (f : UpdSt → UpdSt) (j : Nat) : (d.setUpd f).blob j = d.blob j := rfl
@[simp] theorem setUpd_pers (f : UpdSt → UpdSt) : (d.setUpd f).pers = d.pers := rfl
@[simp] theorem setUpd_isTile (f : UpdSt → UpdSt) : (d.setUpd f).isTile = d.isTile := rfl
@[simp] theorem setUpd_isSender (f : UpdSt → UpdSt) : (d.setUpd f).isSender = d.isSender := rfl

/-! ### setEnc -/

@[simp] theorem setEnc_fix (f : EncState → EncState) : (d.setEnc f).fix = d.fix := rfl
@[simp] theorem setEnc_now (f : EncState → EncState) : (d.setEnc f).now = d.now := rfl
@[simp] theorem setEnc_dict (f : EncState → EncState) : (d.setEnc f).dict = d.dict := rfl
@[simp] theorem setEnc_blobs (f : EncState → EncState) : (d.setEnc f).blobs = d.blobs := rfl
@[simp] theorem setEnc_start (f : EncState → EncState) : (d.setEnc f).start = d.start := rfl
@[simp] theorem setEnc_time (f : EncState → EncState) : (d.setEnc f).time = d.time := rfl
@[simp] theorem setEnc_caps (f : EncState → EncState) : (d.setEnc f).caps = d.caps := rfl
@[simp] theorem setEnc_trigs (f : EncState → EncState) : (d.setEnc f).trigs = d.trigs := rfl
@[simp] theorem setEnc_streams (f : EncState → EncState) : (d.setEnc f).streams = d.streams := rfl
@[simp] theorem setEnc_stills (f : EncState → EncState) : (d.setEnc f).stills = d.stills := rfl
@[simp] theorem setEnc_layers (f : EncState → EncState) : (d.setEnc f).layers = d.layers := rfl
@[simp] theorem setEnc_chkFresh (f : EncState → EncState) : (d.setEnc f).chkFresh = d.chkFresh := rfl
@[simp] theorem setEnc_prism (f : EncState → EncState) : (d.setEnc f).prism = d.prism := rfl
@[simp] theorem setEnc_sense (f : EncState → EncState) : (d.setEnc f).sense = d.sense := rfl
@[simp] theorem setEnc_withy (f : EncState → EncState) : (d.setEnc f).withy = d.withy := rfl
@[simp] theorem setEnc_pair (f : EncState → EncState) : (d.setEnc f).pair = d.pair := rfl
@[simp] theorem setEnc_paths (f : EncState → EncState) : (d.setEnc f).paths = d.paths := rfl
@[simp] theorem setEnc_tile (f : EncState → EncState) : (d.setEnc f).tile = d.tile := rfl
@[simp] theorem setEnc_ldl (f : EncState → EncState) : (d.setEnc f).ldl = d.ldl := rfl
@[simp] theorem setEnc_ledger (f : EncState → EncState) : (d.setEnc f).ledger = d.ledger := rfl
@[simp] theorem setEnc_pliuk (f : EncState → EncState) : (d.setEnc f).pliuk = d.pliuk := rfl
@[simp] theorem setEnc_integ (f : EncState → EncState) : (d.setEnc f).integ = d.integ := rfl
@[simp] theorem setEnc_dram (f : EncState → EncState) : (d.setEnc f).dram = d.dram := rfl
@[simp] theorem setEnc_cuHolder (f : EncState → EncState) : (d.setEnc f).cuHolder = d.cuHolder := rfl
@[simp] theorem setEnc_flash (f : EncState → EncState) : (d.setEnc f).flash = d.flash := rfl
@[simp] theorem setEnc_update (f : EncState → EncState) : (d.setEnc f).update = d.update := rfl
@[simp] theorem setEnc_free (f : EncState → EncState) : (d.setEnc f).free = d.free := rfl
@[simp] theorem setEnc_out (f : EncState → EncState) : (d.setEnc f).out = d.out := rfl
@[simp] theorem setEnc_events (f : EncState → EncState) : (d.setEnc f).events = d.events := rfl
@[simp] theorem setEnc_obj (f : EncState → EncState) (j : Nat) : (d.setEnc f).obj j = d.obj j := rfl
@[simp] theorem setEnc_blob (f : EncState → EncState) (j : Nat) : (d.setEnc f).blob j = d.blob j := rfl
@[simp] theorem setEnc_pers (f : EncState → EncState) : (d.setEnc f).pers = d.pers := rfl
@[simp] theorem setEnc_isTile (f : EncState → EncState) : (d.setEnc f).isTile = d.isTile := rfl
@[simp] theorem setEnc_isSender (f : EncState → EncState) : (d.setEnc f).isSender = d.isSender := rfl

/-! ### setTile -/

@[simp] theorem setTile_fix (f : TileSt → TileSt) : (d.setTile f).fix = d.fix := rfl
@[simp] theorem setTile_now (f : TileSt → TileSt) : (d.setTile f).now = d.now := rfl
@[simp] theorem setTile_dict (f : TileSt → TileSt) : (d.setTile f).dict = d.dict := rfl
@[simp] theorem setTile_blobs (f : TileSt → TileSt) : (d.setTile f).blobs = d.blobs := rfl
@[simp] theorem setTile_start (f : TileSt → TileSt) : (d.setTile f).start = d.start := rfl
@[simp] theorem setTile_time (f : TileSt → TileSt) : (d.setTile f).time = d.time := rfl
@[simp] theorem setTile_caps (f : TileSt → TileSt) : (d.setTile f).caps = d.caps := rfl
@[simp] theorem setTile_trigs (f : TileSt → TileSt) : (d.setTile f).trigs = d.trigs := rfl
@[simp] theorem setTile_streams (f : TileSt → TileSt) : (d.setTile f).streams = d.streams := rfl
@[simp] theorem setTile_stills (f : TileSt → TileSt) : (d.setTile f).stills = d.stills := rfl
@[simp] theorem setTile_layers (f : TileSt → TileSt) : (d.setTile f).layers = d.layers := rfl
@[simp] theorem setTile_enc (f : TileSt → TileSt) : (d.setTile f).enc = d.enc := rfl
@[simp] theorem setTile_chkFresh (f : TileSt → TileSt) : (d.setTile f).chkFresh = d.chkFresh := rfl
@[simp] theorem setTile_prism (f : TileSt → TileSt) : (d.setTile f).prism = d.prism := rfl
@[simp] theorem setTile_sense (f : TileSt → TileSt) : (d.setTile f).sense = d.sense := rfl
@[simp] theorem setTile_withy (f : TileSt → TileSt) : (d.setTile f).withy = d.withy := rfl
@[simp] theorem setTile_pair (f : TileSt → TileSt) : (d.setTile f).pair = d.pair := rfl
@[simp] theorem setTile_paths (f : TileSt → TileSt) : (d.setTile f).paths = d.paths := rfl
@[simp] theorem setTile_ldl (f : TileSt → TileSt) : (d.setTile f).ldl = d.ldl := rfl
@[simp] theorem setTile_ledger (f : TileSt → TileSt) : (d.setTile f).ledger = d.ledger := rfl
@[simp] theorem setTile_pliuk (f : TileSt → TileSt) : (d.setTile f).pliuk = d.pliuk := rfl
@[simp] theorem setTile_integ (f : TileSt → TileSt) : (d.setTile f).integ = d.integ := rfl
@[simp] theorem setTile_dram (f : TileSt → TileSt) : (d.setTile f).dram = d.dram := rfl
@[simp] theorem setTile_cuHolder (f : TileSt → TileSt) : (d.setTile f).cuHolder = d.cuHolder := rfl
@[simp] theorem setTile_flash (f : TileSt → TileSt) : (d.setTile f).flash = d.flash := rfl
@[simp] theorem setTile_update (f : TileSt → TileSt) : (d.setTile f).update = d.update := rfl
@[simp] theorem setTile_free (f : TileSt → TileSt) : (d.setTile f).free = d.free := rfl
@[simp] theorem setTile_out (f : TileSt → TileSt) : (d.setTile f).out = d.out := rfl
@[simp] theorem setTile_events (f : TileSt → TileSt) : (d.setTile f).events = d.events := rfl
@[simp] theorem setTile_obj (f : TileSt → TileSt) (j : Nat) : (d.setTile f).obj j = d.obj j := rfl
@[simp] theorem setTile_blob (f : TileSt → TileSt) (j : Nat) : (d.setTile f).blob j = d.blob j := rfl
@[simp] theorem setTile_pers (f : TileSt → TileSt) : (d.setTile f).pers = d.pers := rfl
@[simp] theorem setTile_isTile (f : TileSt → TileSt) : (d.setTile f).isTile = d.isTile := rfl
@[simp] theorem setTile_isSender (f : TileSt → TileSt) : (d.setTile f).isSender = d.isSender := rfl

/-! ### setLdl -/

@[simp] theorem setLdl_fix (f : LdlSt → LdlSt) : (d.setLdl f).fix = d.fix := rfl
@[simp] theorem setLdl_now (f : LdlSt → LdlSt) : (d.setLdl f).now = d.now := rfl
@[simp] theorem setLdl_dict (f : LdlSt → LdlSt) : (d.setLdl f).dict = d.dict := rfl
@[simp] theorem setLdl_blobs (f : LdlSt → LdlSt) : (d.setLdl f).blobs = d.blobs := rfl
@[simp] theorem setLdl_start (f : LdlSt → LdlSt) : (d.setLdl f).start = d.start := rfl
@[simp] theorem setLdl_time (f : LdlSt → LdlSt) : (d.setLdl f).time = d.time := rfl
@[simp] theorem setLdl_caps (f : LdlSt → LdlSt) : (d.setLdl f).caps = d.caps := rfl
@[simp] theorem setLdl_trigs (f : LdlSt → LdlSt) : (d.setLdl f).trigs = d.trigs := rfl
@[simp] theorem setLdl_streams (f : LdlSt → LdlSt) : (d.setLdl f).streams = d.streams := rfl
@[simp] theorem setLdl_stills (f : LdlSt → LdlSt) : (d.setLdl f).stills = d.stills := rfl
@[simp] theorem setLdl_layers (f : LdlSt → LdlSt) : (d.setLdl f).layers = d.layers := rfl
@[simp] theorem setLdl_enc (f : LdlSt → LdlSt) : (d.setLdl f).enc = d.enc := rfl
@[simp] theorem setLdl_chkFresh (f : LdlSt → LdlSt) : (d.setLdl f).chkFresh = d.chkFresh := rfl
@[simp] theorem setLdl_prism (f : LdlSt → LdlSt) : (d.setLdl f).prism = d.prism := rfl
@[simp] theorem setLdl_sense (f : LdlSt → LdlSt) : (d.setLdl f).sense = d.sense := rfl
@[simp] theorem setLdl_withy (f : LdlSt → LdlSt) : (d.setLdl f).withy = d.withy := rfl
@[simp] theorem setLdl_pair (f : LdlSt → LdlSt) : (d.setLdl f).pair = d.pair := rfl
@[simp] theorem setLdl_paths (f : LdlSt → LdlSt) : (d.setLdl f).paths = d.paths := rfl
@[simp] theorem setLdl_tile (f : LdlSt → LdlSt) : (d.setLdl f).tile = d.tile := rfl
@[simp] theorem setLdl_ledger (f : LdlSt → LdlSt) : (d.setLdl f).ledger = d.ledger := rfl
@[simp] theorem setLdl_pliuk (f : LdlSt → LdlSt) : (d.setLdl f).pliuk = d.pliuk := rfl
@[simp] theorem setLdl_integ (f : LdlSt → LdlSt) : (d.setLdl f).integ = d.integ := rfl
@[simp] theorem setLdl_dram (f : LdlSt → LdlSt) : (d.setLdl f).dram = d.dram := rfl
@[simp] theorem setLdl_cuHolder (f : LdlSt → LdlSt) : (d.setLdl f).cuHolder = d.cuHolder := rfl
@[simp] theorem setLdl_flash (f : LdlSt → LdlSt) : (d.setLdl f).flash = d.flash := rfl
@[simp] theorem setLdl_update (f : LdlSt → LdlSt) : (d.setLdl f).update = d.update := rfl
@[simp] theorem setLdl_free (f : LdlSt → LdlSt) : (d.setLdl f).free = d.free := rfl
@[simp] theorem setLdl_out (f : LdlSt → LdlSt) : (d.setLdl f).out = d.out := rfl
@[simp] theorem setLdl_events (f : LdlSt → LdlSt) : (d.setLdl f).events = d.events := rfl
@[simp] theorem setLdl_obj (f : LdlSt → LdlSt) (j : Nat) : (d.setLdl f).obj j = d.obj j := rfl
@[simp] theorem setLdl_blob (f : LdlSt → LdlSt) (j : Nat) : (d.setLdl f).blob j = d.blob j := rfl
@[simp] theorem setLdl_pers (f : LdlSt → LdlSt) : (d.setLdl f).pers = d.pers := rfl
@[simp] theorem setLdl_isTile (f : LdlSt → LdlSt) : (d.setLdl f).isTile = d.isTile := rfl
@[simp] theorem setLdl_isSender (f : LdlSt → LdlSt) : (d.setLdl f).isSender = d.isSender := rfl

/-! ### setLedger -/

@[simp] theorem setLedger_fix (f : LedgerSt → LedgerSt) : (d.setLedger f).fix = d.fix := rfl
@[simp] theorem setLedger_now (f : LedgerSt → LedgerSt) : (d.setLedger f).now = d.now := rfl
@[simp] theorem setLedger_dict (f : LedgerSt → LedgerSt) : (d.setLedger f).dict = d.dict := rfl
@[simp] theorem setLedger_blobs (f : LedgerSt → LedgerSt) : (d.setLedger f).blobs = d.blobs := rfl
@[simp] theorem setLedger_start (f : LedgerSt → LedgerSt) : (d.setLedger f).start = d.start := rfl
@[simp] theorem setLedger_time (f : LedgerSt → LedgerSt) : (d.setLedger f).time = d.time := rfl
@[simp] theorem setLedger_caps (f : LedgerSt → LedgerSt) : (d.setLedger f).caps = d.caps := rfl
@[simp] theorem setLedger_trigs (f : LedgerSt → LedgerSt) : (d.setLedger f).trigs = d.trigs := rfl
@[simp] theorem setLedger_streams (f : LedgerSt → LedgerSt) : (d.setLedger f).streams = d.streams := rfl
@[simp] theorem setLedger_stills (f : LedgerSt → LedgerSt) : (d.setLedger f).stills = d.stills := rfl
@[simp] theorem setLedger_layers (f : LedgerSt → LedgerSt) : (d.setLedger f).layers = d.layers := rfl
@[simp] theorem setLedger_enc (f : LedgerSt → LedgerSt) : (d.setLedger f).enc = d.enc := rfl
@[simp] theorem setLedger_chkFresh (f : LedgerSt → LedgerSt) : (d.setLedger f).chkFresh = d.chkFresh := rfl
@[simp] theorem setLedger_prism (f : LedgerSt → LedgerSt) : (d.setLedger f).prism = d.prism := rfl
@[simp] theorem setLedger_sense (f : LedgerSt → LedgerSt) : (d.setLedger f).sense = d.sense := rfl
@[simp] theorem setLedger_withy (f : LedgerSt → LedgerSt) : (d.setLedger f).withy = d.withy := rfl
@[simp] theorem setLedger_pair (f : LedgerSt → LedgerSt) : (d.setLedger f).pair = d.pair := rfl
@[simp] theorem setLedger_paths (f : LedgerSt → LedgerSt) : (d.setLedger f).paths = d.paths := rfl
@[simp] theorem setLedger_tile (f : LedgerSt → LedgerSt) : (d.setLedger f).tile = d.tile := rfl
@[simp] theorem setLedger_ldl (f : LedgerSt → LedgerSt) : (d.setLedger f).ldl = d.ldl := rfl
@[simp] theorem setLedger_pliuk (f : LedgerSt → LedgerSt) : (d.setLedger f).pliuk = d.pliuk := rfl
@[simp] theorem setLedger_integ (f : LedgerSt → LedgerSt) : (d.setLedger f).integ = d.integ := rfl
@[simp] theorem setLedger_dram (f : LedgerSt → LedgerSt) : (d.setLedger f).dram = d.dram := rfl
@[simp] theorem setLedger_cuHolder (f : LedgerSt → LedgerSt) : (d.setLedger f).cuHolder = d.cuHolder := rfl
@[simp] theorem setLedger_flash (f : LedgerSt → LedgerSt) : (d.setLedger f).flash = d.flash := rfl
@[simp] theorem setLedger_update (f : LedgerSt → LedgerSt) : (d.setLedger f).update = d.update := rfl
@[simp] theorem setLedger_free (f : LedgerSt → LedgerSt) : (d.setLedger f).free = d.free := rfl
@[simp] theorem setLedger_out (f : LedgerSt → LedgerSt) : (d.setLedger f).out = d.out := rfl
@[simp] theorem setLedger_events (f : LedgerSt → LedgerSt) : (d.setLedger f).events = d.events := rfl
@[simp] theorem setLedger_obj (f : LedgerSt → LedgerSt) (j : Nat) : (d.setLedger f).obj j = d.obj j := rfl
@[simp] theorem setLedger_blob (f : LedgerSt → LedgerSt) (j : Nat) : (d.setLedger f).blob j = d.blob j := rfl
@[simp] theorem setLedger_pers (f : LedgerSt → LedgerSt) : (d.setLedger f).pers = d.pers := rfl
@[simp] theorem setLedger_isTile (f : LedgerSt → LedgerSt) : (d.setLedger f).isTile = d.isTile := rfl
@[simp] theorem setLedger_isSender (f : LedgerSt → LedgerSt) : (d.setLedger f).isSender = d.isSender := rfl

/-! ### setPrism -/

@[simp] theorem setPrism_fix (f : PrismSt → PrismSt) : (d.setPrism f).fix = d.fix := rfl
@[simp] theorem setPrism_now (f : PrismSt → PrismSt) : (d.setPrism f).now = d.now := rfl
@[simp] theorem setPrism_dict (f : PrismSt → PrismSt) : (d.setPrism f).dict = d.dict := rfl
@[simp] theorem setPrism_blobs (f : PrismSt → PrismSt) : (d.setPrism f).blobs = d.blobs := rfl
@[simp] theorem setPrism_start (f : PrismSt → PrismSt) : (d.setPrism f).start = d.start := rfl
@[simp] theorem setPrism_time (f : PrismSt → PrismSt) : (d.setPrism f).time = d.time := rfl
@[simp] theorem setPrism_caps (f : PrismSt → PrismSt) : (d.setPrism f).caps = d.caps := rfl
@[simp] theorem setPrism_trigs (f : PrismSt → PrismSt) : (d.setPrism f).trigs = d.trigs := rfl
@[simp] theorem setPrism_streams (f : PrismSt → PrismSt) : (d.setPrism f).streams = d.streams := rfl
@[simp] theorem setPrism_stills (f : PrismSt → PrismSt) : (d.setPrism f).stills = d.stills := rfl
@[simp] theorem setPrism_layers (f : PrismSt → PrismSt) : (d.setPrism f).layers = d.layers := rfl
@[simp] theorem setPrism_enc (f : PrismSt → PrismSt) : (d.setPrism f).enc = d.enc := rfl
@[simp] theorem setPrism_chkFresh (f : PrismSt → PrismSt) : (d.setPrism f).chkFresh = d.chkFresh := rfl
@[simp] theorem setPrism_sense (f : PrismSt → PrismSt) : (d.setPrism f).sense = d.sense := rfl
@[simp] theorem setPrism_withy (f : PrismSt → PrismSt) : (d.setPrism f).withy = d.withy := rfl
@[simp] theorem setPrism_pair (f : PrismSt → PrismSt) : (d.setPrism f).pair = d.pair := rfl
@[simp] theorem setPrism_paths (f : PrismSt → PrismSt) : (d.setPrism f).paths = d.paths := rfl
@[simp] theorem setPrism_tile (f : PrismSt → PrismSt) : (d.setPrism f).tile = d.tile := rfl
@[simp] theorem setPrism_ldl (f : PrismSt → PrismSt) : (d.setPrism f).ldl = d.ldl := rfl
@[simp] theorem setPrism_ledger (f : PrismSt → PrismSt) : (d.setPrism f).ledger = d.ledger := rfl
@[simp] theorem setPrism_pliuk (f : PrismSt → PrismSt) : (d.setPrism f).pliuk = d.pliuk := rfl
@[simp] theorem setPrism_integ (f : PrismSt → PrismSt) : (d.setPrism f).integ = d.integ := rfl
@[simp] theorem setPrism_dram (f : PrismSt → PrismSt) : (d.setPrism f).dram = d.dram := rfl
@[simp] theorem setPrism_cuHolder (f : PrismSt → PrismSt) : (d.setPrism f).cuHolder = d.cuHolder := rfl
@[simp] theorem setPrism_flash (f : PrismSt → PrismSt) : (d.setPrism f).flash = d.flash := rfl
@[simp] theorem setPrism_update (f : PrismSt → PrismSt) : (d.setPrism f).update = d.update := rfl
@[simp] theorem setPrism_free (f : PrismSt → PrismSt) : (d.setPrism f).free = d.free := rfl
@[simp] theorem setPrism_out (f : PrismSt → PrismSt) : (d.setPrism f).out = d.out := rfl
@[simp] theorem setPrism_events (f : PrismSt → PrismSt) : (d.setPrism f).events = d.events := rfl
@[simp] theorem setPrism_obj (f : PrismSt → PrismSt) (j : Nat) : (d.setPrism f).obj j = d.obj j := rfl
@[simp] theorem setPrism_blob (f : PrismSt → PrismSt) (j : Nat) : (d.setPrism f).blob j = d.blob j := rfl
@[simp] theorem setPrism_pers (f : PrismSt → PrismSt) : (d.setPrism f).pers = d.pers := rfl
@[simp] theorem setPrism_isTile (f : PrismSt → PrismSt) : (d.setPrism f).isTile = d.isTile := rfl
@[simp] theorem setPrism_isSender (f : PrismSt → PrismSt) : (d.setPrism f).isSender = d.isSender := rfl

/-! ### setSense -/

@[simp] theorem setSense_fix (f : SenseSt → SenseSt) : (d.setSense f).fix = d.fix := rfl
@[simp] theorem setSense_now (f : SenseSt → SenseSt) : (d.setSense f).now = d.now := rfl
@[simp] theorem setSense_dict (f : SenseSt → SenseSt) : (d.setSense f).dict = d.dict := rfl
@[simp] theorem setSense_blobs (f : SenseSt → SenseSt) : (d.setSense f).blobs = d.blobs := rfl
@[simp] theorem setSense_start (f : SenseSt → SenseSt) : (d.setSense f).start = d.start := rfl
@[simp] theorem setSense_time (f : SenseSt → SenseSt) : (d.setSense f).time = d.time := rfl
@[simp] theorem setSense_caps (f : SenseSt → SenseSt) : (d.setSense f).caps = d.caps := rfl
@[simp] theorem setSense_trigs (f : SenseSt → SenseSt) : (d.setSense f).trigs = d.trigs := rfl
@[simp] theorem setSense_streams (f : SenseSt → SenseSt) : (d.setSense f).streams = d.streams := rfl
@[simp] theorem setSense_stills (f : SenseSt → SenseSt) : (d.setSense f).stills = d.stills := rfl
@[simp] theorem setSense_layers (f : SenseSt → SenseSt) : (d.setSense f).layers = d.layers := rfl
@[simp] theorem setSense_enc (f : SenseSt → SenseSt) : (d.setSense f).enc = d.enc := rfl
@[simp] theorem setSense_chkFresh (f : SenseSt → SenseSt) : (d.setSense f).chkFresh = d.chkFresh := rfl
@[simp] theorem setSense_prism (f : SenseSt → SenseSt) : (d.setSense f).prism = d.prism := rfl
@[simp] theorem setSense_withy (f : SenseSt → SenseSt) : (d.setSense f).withy = d.withy := rfl
@[simp] theorem setSense_pair (f : SenseSt → SenseSt) : (d.setSense f).pair = d.pair := rfl
@[simp] theorem setSense_paths (f : SenseSt → SenseSt) : (d.setSense f).paths = d.paths := rfl
@[simp] theorem setSense_tile (f : SenseSt → SenseSt) : (d.setSense f).tile = d.tile := rfl
@[simp] theorem setSense_ldl (f : SenseSt → SenseSt) : (d.setSense f).ldl = d.ldl := rfl
@[simp] theorem setSense_ledger (f : SenseSt → SenseSt) : (d.setSense f).ledger = d.ledger := rfl
@[simp] theorem setSense_pliuk (f : SenseSt → SenseSt) : (d.setSense f).pliuk = d.pliuk := rfl
@[simp] theorem setSense_integ (f : SenseSt → SenseSt) : (d.setSense f).integ = d.integ := rfl
@[simp] theorem setSense_dram (f : SenseSt → SenseSt) : (d.setSense f).dram = d.dram := rfl
@[simp] theorem setSense_cuHolder (f : SenseSt → SenseSt) : (d.setSense f).cuHolder = d.cuHolder := rfl
@[simp] theorem setSense_flash (f : SenseSt → SenseSt) : (d.setSense f).flash = d.flash := rfl
@[simp] theorem setSense_update (f : SenseSt → SenseSt) : (d.setSense f).update = d.update := rfl
@[simp] theorem setSense_free (f : SenseSt → SenseSt) : (d.setSense f).free = d.free := rfl
@[simp] theorem setSense_out (f : SenseSt → SenseSt) : (d.setSense f).out = d.out := rfl
@[simp] theorem setSense_events (f : SenseSt → SenseSt) : (d.setSense f).events = d.events := rfl
@[simp] theorem setSense_obj (f : SenseSt → SenseSt) (j : Nat) : (d.setSense f).obj j = d.obj j := rfl
@[simp] theorem setSense_blob (f : SenseSt → SenseSt) (j : Nat) : (d.setSense f).blob j = d.blob j := rfl
@[simp] theorem setSense_pers (f : SenseSt → SenseSt) : (d.setSense f).pers = d.pers := rfl
@[simp] theorem setSense_isTile (f : SenseSt → SenseSt) : (d.setSense f).isTile = d.isTile := rfl
@[simp] theorem setSense_isSender (f : SenseSt → SenseSt) : (d.setSense f).isSender = d.isSender := rfl

/-! ### setDram -/

@[simp] theorem setDram_fix (f : DramSt → DramSt) : (d.setDram f).fix = d.fix := rfl
@[simp] theorem setDram_now (f : DramSt → DramSt) : (d.setDram f).now = d.now := rfl
@[simp] theorem setDram_dict (f : DramSt → DramSt) : (d.setDram f).dict = d.dict := rfl
@[simp] theorem setDram_blobs (f : DramSt → DramSt) : (d.setDram f).blobs = d.blobs := rfl
@[simp] theorem setDram_start (f : DramSt → DramSt) : (d.setDram f).start = d.start := rfl
@[simp] theorem setDram_time (f : DramSt → DramSt) : (d.setDram f).time = d.time := rfl
@[simp] theorem setDram_caps (f : DramSt → DramSt) : (d.setDram f).caps = d.caps := rfl
@[simp] theorem setDram_trigs (f : DramSt → DramSt) : (d.setDram f).trigs = d.trigs := rfl
@[simp] theorem setDram_streams (f : DramSt → DramSt) : (d.setDram f).streams = d.streams := rfl
@[simp] theorem setDram_stills (f : DramSt → DramSt) : (d.setDram f).stills = d.stills := rfl
@[simp] theorem setDram_layers (f : DramSt → DramSt) : (d.setDram f).layers = d.layers := rfl
@[simp] theorem setDram_enc (f : DramSt → DramSt) : (d.setDram f).enc = d.enc := rfl
@[simp] theorem setDram_chkFresh (f : DramSt → DramSt) : (d.setDram f).chkFresh = d.chkFresh := rfl
@[simp] theorem setDram_prism (f : DramSt → DramSt) : (d.setDram f).prism = d.prism := rfl
@[simp] theorem setDram_sense (f : DramSt → DramSt) : (d.setDram f).sense = d.sense := rfl
@[simp] theorem setDram_withy (f : DramSt → DramSt) : (d.setDram f).withy = d.withy := rfl
@[simp] theorem setDram_pair (f : DramSt → DramSt) : (d.setDram f).pair = d.pair := rfl
@[simp] theorem setDram_paths (f : DramSt → DramSt) : (d.setDram f).paths = d.paths := rfl
@[simp] theorem setDram_tile (f : DramSt → DramSt) : (d.setDram f).tile = d.tile := rfl
@[simp] theorem setDram_ldl (f : DramSt → DramSt) : (d.setDram f).ldl = d.ldl := rfl
@[simp] theorem setDram_ledger (f : DramSt → DramSt) : (d.setDram f).ledger = d.ledger := rfl
@[simp] theorem setDram_pliuk (f : DramSt → DramSt) : (d.setDram f).pliuk = d.pliuk := rfl
@[simp] theorem setDram_integ (f : DramSt → DramSt) : (d.setDram f).integ = d.integ := rfl
@[simp] theorem setDram_cuHolder (f : DramSt → DramSt) : (d.setDram f).cuHolder = d.cuHolder := rfl
@[simp] theorem setDram_flash (f : DramSt → DramSt) : (d.setDram f).flash = d.flash := rfl
@[simp] theorem setDram_update (f : DramSt → DramSt) : (d.setDram f).update = d.update := rfl
@[simp] theorem setDram_free (f : DramSt → DramSt) : (d.setDram f).free = d.free := rfl
@[simp] theorem setDram_out (f : DramSt → DramSt) : (d.setDram f).out = d.out := rfl
@[simp] theorem setDram_events (f : DramSt → DramSt) : (d.setDram f).events = d.events := rfl
@[simp] theorem setDram_obj (f : DramSt → DramSt) (j : Nat) : (d.setDram f).obj j = d.obj j := rfl
@[simp] theorem setDram_blob (f : DramSt → DramSt) (j : Nat) : (d.setDram f).blob j = d.blob j := rfl
@[simp] theorem setDram_pers (f : DramSt → DramSt) : (d.setDram f).pers = d.pers := rfl
@[simp] theorem setDram_isTile (f : DramSt → DramSt) : (d.setDram f).isTile = d.isTile := rfl
@[simp] theorem setDram_isSender (f : DramSt → DramSt) : (d.setDram f).isSender = d.isSender := rfl

/-! ### setPair -/

@[simp] theorem setPair_fix (f : Pair → Pair) : (d.setPair f).fix = d.fix := rfl
@[simp] theorem setPair_now (f : Pair → Pair) : (d.setPair f).now = d.now := rfl
@[simp] theorem setPair_dict (f : Pair → Pair) : (d.setPair f).dict = d.dict := rfl
@[simp] theorem setPair_blobs (f : Pair → Pair) : (d.setPair f).blobs = d.blobs := rfl
@[simp] theorem setPair_start (f : Pair → Pair) : (d.setPair f).start = d.start := rfl
@[simp] theorem setPair_time (f : Pair → Pair) : (d.setPair f).time = d.time := rfl
@[simp] theorem setPair_caps (f : Pair → Pair) : (d.setPair f).caps = d.caps := rfl
@[simp] theorem setPair_trigs (f : Pair → Pair) : (d.setPair f).trigs = d.trigs := rfl
@[simp] theorem setPair_streams (f : Pair → Pair) : (d.setPair f).streams = d.streams := rfl
@[simp] theorem setPair_stills (f : Pair → Pair) : (d.setPair f).stills = d.stills := rfl
@[simp] theorem setPair_layers (f : Pair → Pair) : (d.setPair f).layers = d.layers := rfl
@[simp] theorem setPair_enc (f : Pair → Pair) : (d.setPair f).enc = d.enc := rfl
@[simp] theorem setPair_chkFresh (f : Pair → Pair) : (d.setPair f).chkFresh = d.chkFresh := rfl
@[simp] theorem setPair_prism (f : Pair → Pair) : (d.setPair f).prism = d.prism := rfl
@[simp] theorem setPair_sense (f : Pair → Pair) : (d.setPair f).sense = d.sense := rfl
@[simp] theorem setPair_withy (f : Pair → Pair) : (d.setPair f).withy = d.withy := rfl
@[simp] theorem setPair_paths (f : Pair → Pair) : (d.setPair f).paths = d.paths := rfl
@[simp] theorem setPair_tile (f : Pair → Pair) : (d.setPair f).tile = d.tile := rfl
@[simp] theorem setPair_ldl (f : Pair → Pair) : (d.setPair f).ldl = d.ldl := rfl
@[simp] theorem setPair_ledger (f : Pair → Pair) : (d.setPair f).ledger = d.ledger := rfl
@[simp] theorem setPair_pliuk (f : Pair → Pair) : (d.setPair f).pliuk = d.pliuk := rfl
@[simp] theorem setPair_integ (f : Pair → Pair) : (d.setPair f).integ = d.integ := rfl
@[simp] theorem setPair_dram (f : Pair → Pair) : (d.setPair f).dram = d.dram := rfl
@[simp] theorem setPair_cuHolder (f : Pair → Pair) : (d.setPair f).cuHolder = d.cuHolder := rfl
@[simp] theorem setPair_flash (f : Pair → Pair) : (d.setPair f).flash = d.flash := rfl
@[simp] theorem setPair_update (f : Pair → Pair) : (d.setPair f).update = d.update := rfl
@[simp] theorem setPair_free (f : Pair → Pair) : (d.setPair f).free = d.free := rfl
@[simp] theorem setPair_out (f : Pair → Pair) : (d.setPair f).out = d.out := rfl
@[simp] theorem setPair_events (f : Pair → Pair) : (d.setPair f).events = d.events := rfl
@[simp] theorem setPair_obj (f : Pair → Pair) (j : Nat) : (d.setPair f).obj j = d.obj j := rfl
@[simp] theorem setPair_blob (f : Pair → Pair) (j : Nat) : (d.setPair f).blob j = d.blob j := rfl
@[simp] theorem setPair_pers (f : Pair → Pair) : (d.setPair f).pers = d.pers := rfl
@[simp] theorem setPair_isTile (f : Pair → Pair) : (d.setPair f).isTile = d.isTile := rfl
@[simp] theorem setPair_isSender (f : Pair → Pair) : (d.setPair f).isSender = d.isSender := rfl

/-! ### setCap -/

@[simp] theorem setCap_fix (n : Nat) (f : Capture → Capture) : (d.setCap n f).fix = d.fix := rfl
@[simp] theorem setCap_now (n : Nat) (f : Capture → Capture) : (d.setCap n f).now = d.now := rfl
@[simp] theorem setCap_dict (n : Nat) (f : Capture → Capture) : (d.setCap n f).dict = d.dict := rfl
@[simp] theorem setCap_blobs (n : Nat) (f : Capture → Capture) : (d.setCap n f).blobs = d.blobs := rfl
@[simp] theorem setCap_start (n : Nat) (f : Capture → Capture) : (d.setCap n f).start = d.start := rfl
@[simp] theorem setCap_time (n : Nat) (f : Capture → Capture) : (d.setCap n f).time = d.time := rfl
@[simp] theorem setCap_trigs (n : Nat) (f : Capture → Capture) : (d.setCap n f).trigs = d.trigs := rfl
@[simp] theorem setCap_streams (n : Nat) (f : Capture → Capture) : (d.setCap n f).streams = d.streams := rfl
@[simp] theorem setCap_stills (n : Nat) (f : Capture → Capture) : (d.setCap n f).stills = d.stills := rfl
@[simp] theorem setCap_layers (n : Nat) (f : Capture → Capture) : (d.setCap n f).layers = d.layers := rfl
@[simp] theorem setCap_enc (n : Nat) (f : Capture → Capture) : (d.setCap n f).enc = d.enc := rfl
@[simp] theorem setCap_chkFresh (n : Nat) (f : Capture → Capture) : (d.setCap n f).chkFresh = d.chkFresh := rfl
@[simp] theorem setCap_prism (n : Nat) (f : Capture → Capture) : (d.setCap n f).prism = d.prism := rfl
@[simp] theorem setCap_sense (n : Nat) (f : Capture → Capture) : (d.setCap n f).sense = d.sense := rfl
@[simp] theorem setCap_withy (n : Nat) (f : Capture → Capture) : (d.setCap n f).withy = d.withy := rfl
@[simp] theorem setCap_pair (n : Nat) (f : Capture → Capture) : (d.setCap n f).pair = d.pair := rfl
@[simp] theorem setCap_paths (n : Nat) (f : Capture → Capture) : (d.setCap n f).paths = d.paths := rfl
@[simp] theorem setCap_tile (n : Nat) (f : Capture → Capture) : (d.setCap n f).tile = d.tile := rfl
@[simp] theorem setCap_ldl (n : Nat) (f : Capture → Capture) : (d.setCap n f).ldl = d.ldl := rfl
@[simp] theorem setCap_ledger (n : Nat) (f : Capture → Capture) : (d.setCap n f).ledger = d.ledger := rfl
@[simp] theorem setCap_pliuk (n : Nat) (f : Capture → Capture) : (d.setCap n f).pliuk = d.pliuk := rfl
@[simp] theorem setCap_integ (n : Nat) (f : Capture → Capture) : (d.setCap n f).integ = d.integ := rfl
@[simp] theorem setCap_dram (n : Nat) (f : Capture → Capture) : (d.setCap n f).dram = d.dram := rfl
@[simp] theorem setCap_cuHolder (n : Nat) (f : Capture → Capture) : (d.setCap n f).cuHolder = d.cuHolder := rfl
@[simp] theorem setCap_flash (n : Nat) (f : Capture → Capture) : (d.setCap n f).flash = d.flash := rfl
@[simp] theorem setCap_update (n : Nat) (f : Capture → Capture) : (d.setCap n f).update = d.update := rfl
@[simp] theorem setCap_free (n : Nat) (f : Capture → Capture) : (d.setCap n f).free = d.free := rfl
@[simp] theorem setCap_out (n : Nat) (f : Capture → Capture) : (d.setCap n f).out = d.out := rfl
@[simp] theorem setCap_events (n : Nat) (f : Capture → Capture) : (d.setCap n f).events = d.events := rfl
@[simp] theorem setCap_obj (n : Nat) (f : Capture → Capture) (j : Nat) : (d.setCap n f).obj j = d.obj j := rfl
@[simp] theorem setCap_blob (n : Nat) (f : Capture → Capture) (j : Nat) : (d.setCap n f).blob j = d.blob j := rfl
@[simp] theorem setCap_pers (n : Nat) (f : Capture → Capture) : (d.setCap n f).pers = d.pers := rfl
@[simp] theorem setCap_isTile (n : Nat) (f : Capture → Capture) : (d.setCap n f).isTile = d.isTile := rfl
@[simp] theorem setCap_isSender (n : Nat) (f : Capture → Capture) : (d.setCap n f).isSender = d.isSender := rfl

/-! ### setTrig -/

@[simp] theorem setTrig_fix (n : Nat) (f : Trigger → Trigger) : (d.setTrig n f).fix = d.fix := rfl
@[simp] theorem setTrig_now (n : Nat) (f : Trigger → Trigger) : (d.setTrig n f).now = d.now := rfl
@[simp] theorem setTrig_dict (n : Nat) (f : Trigger → Trigger) : (d.setTrig n f).dict = d.dict := rfl
@[simp] theorem setTrig_blobs (n : Nat) (f : Trigger → Trigger) : (d.setTrig n f).blobs = d.blobs := rfl
@[simp] theorem setTrig_start (n : Nat) (f : Trigger → Trigger) : (d.setTrig n f).start = d.start := rfl
@[simp] theorem setTrig_time (n : Nat) (f : Trigger → Trigger) : (d.setTrig n f).time = d.time := rfl
@[simp] theorem setTrig_caps (n : Nat) (f : Trigger → Trigger) : (d.setTrig n f).caps = d.caps := rfl
@[simp] theorem setTrig_streams (n : Nat) (f : Trigger → Trigger) : (d.setTrig n f).streams = d.streams := rfl
@[simp] theorem setTrig_stills (n : Nat) (f : Trigger → Trigger) : (d.setTrig n f).stills = d.stills := rfl
@[simp] theorem setTrig_layers (n : Nat) (f : Trigger → Trigger) : (d.setTrig n f).layers = d.layers := rfl
@[simp] theorem setTrig_enc (n : Nat) (f : Trigger → Trigger) : (d.setTrig n f).enc = d.enc := rfl
@[simp] theorem setTrig_chkFresh (n : Nat) (f : Trigger → Trigger) : (d.setTrig n f).chkFresh = d.chkFresh := rfl
@[simp] theorem setTrig_prism (n : Nat) (f : Trigger → Trigger) : (d.setTrig n f).prism = d.prism := rfl
@[simp] theorem setTrig_sense (n : Nat) (f : Trigger → Trigger) : (d.setTrig n f).sense = d.sense := rfl
@[simp] theorem setTrig_withy (n : Nat) (f : Trigger → Trigger) : (d.setTrig n f).withy = d.withy := rfl
@[simp] theorem setTrig_pair (n : Nat) (f : Trigger → Trigger) : (d.setTrig n f).pair = d.pair := rfl
@[simp] theorem setTrig_paths (n : Nat) (f : Trigger → Trigger) : (d.setTrig n f).paths = d.paths := rfl
@[simp] theorem setTrig_tile (n : Nat) (f : Trigger → Trigger) : (d.setTrig n f).tile = d.tile := rfl
@[simp] theorem setTrig_ldl (n : Nat) (f : Trigger → Trigger) : (d.setTrig n f).ldl = d.ldl := rfl
@[simp] theorem setTrig_ledger (n : Nat) (f : Trigger → Trigger) : (d.setTrig n f).ledger = d.ledger := rfl
@[simp] theorem setTrig_pliuk (n : Nat) (f : Trigger → Trigger) : (d.setTrig n f).pliuk = d.pliuk := rfl
@[simp] theorem setTrig_integ (n : Nat) (f : Trigger → Trigger) : (d.setTrig n f).integ = d.integ := rfl
@[simp] theorem setTrig_dram (n : Nat) (f : Trigger → Trigger) : (d.setTrig n f).dram = d.dram := rfl
@[simp] theorem setTrig_cuHolder (n : Nat) (f : Trigger → Trigger) : (d.setTrig n f).cuHolder = d.cuHolder := rfl
@[simp] theorem setTrig_flash (n : Nat) (f : Trigger → Trigger) : (d.setTrig n f).flash = d.flash := rfl
@[simp] theorem setTrig_update (n : Nat) (f : Trigger → Trigger) : (d.setTrig n f).update = d.update := rfl
@[simp] theorem setTrig_free (n : Nat) (f : Trigger → Trigger) : (d.setTrig n f).free = d.free := rfl
@[simp] theorem setTrig_out (n : Nat) (f : Trigger → Trigger) : (d.setTrig n f).out = d.out := rfl
@[simp] theorem setTrig_events (n : Nat) (f : Trigger → Trigger) : (d.setTrig n f).events = d.events := rfl
@[simp] theorem setTrig_obj (n : Nat) (f : Trigger → Trigger) (j : Nat) : (d.setTrig n f).obj j = d.obj j := rfl
@[simp] theorem setTrig_blob (n : Nat) (f : Trigger → Trigger) (j : Nat) : (d.setTrig n f).blob j = d.blob j := rfl
@[simp] theorem setTrig_pers (n : Nat) (f : Trigger → Trigger) : (d.setTrig n f).pers = d.pers := rfl
@[simp] theorem setTrig_isTile (n : Nat) (f : Trigger → Trigger) : (d.setTrig n f).isTile = d.isTile := rfl
@[simp] theorem setTrig_isSender (n : Nat) (f : Trigger → Trigger) : (d.setTrig n f).isSender = d.isSender := rfl

/-! ### setStream -/

@[simp] theorem setStream_fix (n : Nat) (f : StreamSt → StreamSt) : (d.setStream n f).fix = d.fix := rfl
@[simp] theorem setStream_now (n : Nat) (f : StreamSt → StreamSt) : (d.setStream n f).now = d.now := rfl
@[simp] theorem setStream_dict (n : Nat) (f : StreamSt → StreamSt) : (d.setStream n f).dict = d.dict := rfl
@[simp] theorem setStream_blobs (n : Nat) (f : StreamSt → StreamSt) : (d.setStream n f).blobs = d.blobs := rfl
@[simp] theorem setStream_start (n : Nat) (f : StreamSt → StreamSt) : (d.setStream n f).start = d.start := rfl
@[simp] theorem setStream_time (n : Nat) (f : StreamSt → StreamSt) : (d.setStream n f).time = d.time := rfl
@[simp] theorem setStream_caps (n : Nat) (f : StreamSt → StreamSt) : (d.setStream n f).caps = d.caps := rfl
@[simp] theorem setStream_trigs (n : Nat) (f : StreamSt → StreamSt) : (d.setStream n f).trigs = d.trigs := rfl
@[simp] theorem setStream_stills (n : Nat) (f : StreamSt → StreamSt) : (d.setStream n f).stills = d.stills := rfl
@[simp] theorem setStream_layers (n : Nat) (f : StreamSt → StreamSt) : (d.setStream n f).layers = d.layers := rfl
@[simp] theorem setStream_enc (n : Nat) (f : StreamSt → StreamSt) : (d.setStream n f).enc = d.enc := rfl
@[simp] theorem setStream_chkFresh (n : Nat) (f : StreamSt → StreamSt) : (d.setStream n f).chkFresh = d.chkFresh := rfl
@[simp] theorem setStream_prism (n : Nat) (f : StreamSt → StreamSt) : (d.setStream n f).prism = d.prism := rfl
@[simp] theorem setStream_sense (n : Nat) (f : StreamSt → StreamSt) : (d.setStream n f).sense = d.sense := rfl
@[simp] theorem setStream_withy (n : Nat) (f : StreamSt → StreamSt) : (d.setStream n f).withy = d.withy := rfl
@[simp] theorem setStream_pair (n : Nat) (f : StreamSt → StreamSt) : (d.setStream n f).pair = d.pair := rfl
@[simp] theorem setStream_paths (n : Nat) (f : StreamSt → StreamSt) : (d.setStream n f).paths = d.paths := rfl
@[simp] theorem setStream_tile (n : Nat) (f : StreamSt → StreamSt) : (d.setStream n f).tile = d.tile := rfl
@[simp] theorem setStream_ldl (n : Nat) (f : StreamSt → StreamSt) : (d.setStream n f).ldl = d.ldl := rfl
@[simp] theorem setStream_ledger (n : Nat) (f : StreamSt → StreamSt) : (d.setStream n f).ledger = d.ledger := rfl
@[simp] theorem setStream_pliuk (n : Nat) (f : StreamSt → StreamSt) : (d.setStream n f).pliuk = d.pliuk := rfl
@[simp] theorem setStream_integ (n : Nat) (f : StreamSt → StreamSt) : (d.setStream n f).integ = d.integ := rfl
@[simp] theorem setStream_dram (n : Nat) (f : StreamSt → StreamSt) : (d.setStream n f).dram = d.dram := rfl
@[simp] theorem setStream_cuHolder (n : Nat) (f : StreamSt → StreamSt) : (d.setStream n f).cuHolder = d.cuHolder := rfl
@[simp] theorem setStream_flash (n : Nat) (f : StreamSt → StreamSt) : (d.setStream n f).flash = d.flash := rfl
@[simp] theorem setStream_update (n : Nat) (f : StreamSt → StreamSt) : (d.setStream n f).update = d.update := rfl
@[simp] theorem setStream_free (n : Nat) (f : StreamSt → StreamSt) : (d.setStream n f).free = d.free := rfl
@[simp] theorem setStream_out (n : Nat) (f : StreamSt → StreamSt) : (d.setStream n f).out = d.out := rfl
@[simp] theorem setStream_events (n : Nat) (f : StreamSt → StreamSt) : (d.setStream n f).events = d.events := rfl
@[simp] theorem setStream_obj (n : Nat) (f : StreamSt → StreamSt) (j : Nat) : (d.setStream n f).obj j = d.obj j := rfl
@[simp] theorem setStream_blob (n : Nat) (f : StreamSt → StreamSt) (j : Nat) : (d.setStream n f).blob j = d.blob j := rfl
@[simp] theorem setStream_pers (n : Nat) (f : StreamSt → StreamSt) : (d.setStream n f).pers = d.pers := rfl
@[simp] theorem setStream_isTile (n : Nat) (f : StreamSt → StreamSt) : (d.setStream n f).isTile = d.isTile := rfl
@[simp] theorem setStream_isSender (n : Nat) (f : StreamSt → StreamSt) : (d.setStream n f).isSender = d.isSender := rfl

/-! ### setStill -/

@[simp] theorem setStill_fix (n : Nat) (f : StillSt → StillSt) : (d.setStill n f).fix = d.fix := rfl
@[simp] theorem setStill_now (n : Nat) (f : StillSt → StillSt) : (d.setStill n f).now = d.now := rfl
@[simp] theorem setStill_dict (n : Nat) (f : StillSt → StillSt) : (d.setStill n f).dict = d.dict := rfl
@[simp] theorem setStill_blobs (n : Nat) (f : StillSt → StillSt) : (d.setStill n f).blobs = d.blobs := rfl
@[simp] theorem setStill_start (n : Nat) (f : StillSt → StillSt) : (d.setStill n f).start = d.start := rfl
@[simp] theorem setStill_time (n : Nat) (f : StillSt → StillSt) : (d.setStill n f).time = d.time := rfl
@[simp] theorem setStill_caps (n : Nat) (f : StillSt → StillSt) : (d.setStill n f).caps = d.caps := rfl
@[simp] theorem setStill_trigs (n : Nat) (f : StillSt → StillSt) : (d.setStill n f).trigs = d.trigs := rfl
@[simp] theorem setStill_streams (n : Nat) (f : StillSt → StillSt) : (d.setStill n f).streams = d.streams := rfl
@[simp] theorem setStill_layers (n : Nat) (f : StillSt → StillSt) : (d.setStill n f).layers = d.layers := rfl
@[simp] theorem setStill_enc (n : Nat) (f : StillSt → StillSt) : (d.setStill n f).enc = d.enc := rfl
@[simp] theorem setStill_chkFresh (n : Nat) (f : StillSt → StillSt) : (d.setStill n f).chkFresh = d.chkFresh := rfl
@[simp] theorem setStill_prism (n : Nat) (f : StillSt → StillSt) : (d.setStill n f).prism = d.prism := rfl
@[simp] theorem setStill_sense (n : Nat) (f : StillSt → StillSt) : (d.setStill n f).sense = d.sense := rfl
@[simp] theorem setStill_withy (n : Nat) (f : StillSt → StillSt) : (d.setStill n f).withy = d.withy := rfl
@[simp] theorem setStill_pair (n : Nat) (f : StillSt → StillSt) : (d.setStill n f).pair = d.pair := rfl
@[simp] theorem setStill_paths (n : Nat) (f : StillSt → StillSt) : (d.setStill n f).paths = d.paths := rfl
@[simp] theorem setStill_tile (n : Nat) (f : StillSt → StillSt) : (d.setStill n f).tile = d.tile := rfl
@[simp] theorem setStill_ldl (n : Nat) (f : StillSt → StillSt) : (d.setStill n f).ldl = d.ldl := rfl
@[simp] theorem setStill_ledger (n : Nat) (f : StillSt → StillSt) : (d.setStill n f).ledger = d.ledger := rfl
@[simp] theorem setStill_pliuk (n : Nat) (f : StillSt → StillSt) : (d.setStill n f).pliuk = d.pliuk := rfl
@[simp] theorem setStill_integ (n : Nat) (f : StillSt → StillSt) : (d.setStill n f).integ = d.integ := rfl
@[simp] theorem setStill_dram (n : Nat) (f : StillSt → StillSt) : (d.setStill n f).dram = d.dram := rfl
@[simp] theorem setStill_cuHolder (n : Nat) (f : StillSt → StillSt) : (d.setStill n f).cuHolder = d.cuHolder := rfl
@[simp] theorem setStill_flash (n : Nat) (f : StillSt → StillSt) : (d.setStill n f).flash = d.flash := rfl
@[simp] theorem setStill_update (n : Nat) (f : StillSt → StillSt) : (d.setStill n f).update = d.update := rfl
@[simp] theorem setStill_free (n : Nat) (f : StillSt → StillSt) : (d.setStill n f).free = d.free := rfl
@[simp] theorem setStill_out (n : Nat) (f : StillSt → StillSt) : (d.setStill n f).out = d.out := rfl
@[simp] theorem setStill_events (n : Nat) (f : StillSt → StillSt) : (d.setStill n f).events = d.events := rfl
@[simp] theorem setStill_obj (n : Nat) (f : StillSt → StillSt) (j : Nat) : (d.setStill n f).obj j = d.obj j := rfl
@[simp] theorem setStill_blob (n : Nat) (f : StillSt → StillSt) (j : Nat) : (d.setStill n f).blob j = d.blob j := rfl
@[simp] theorem setStill_pers (n : Nat) (f : StillSt → StillSt) : (d.setStill n f).pers = d.pers := rfl
@[simp] theorem setStill_isTile (n : Nat) (f : StillSt → StillSt) : (d.setStill n f).isTile = d.isTile := rfl
@[simp] theorem setStill_isSender (n : Nat) (f : StillSt → StillSt) : (d.setStill n f).isSender = d.isSender := rfl

/-! ### setLayer -/

@[simp] theorem setLayer_fix (n : Nat) (f : LayerRun → LayerRun) : (d.setLayer n f).fix = d.fix := rfl
@[simp] theorem setLayer_now (n : Nat) (f : LayerRun → LayerRun) : (d.setLayer n f).now = d.now := rfl
@[simp] theorem setLayer_dict (n : Nat) (f : LayerRun → LayerRun) : (d.setLayer n f).dict = d.dict := rfl
@[simp] theorem setLayer_blobs (n : Nat) (f : LayerRun → LayerRun) : (d.setLayer n f).blobs = d.blobs := rfl
@[simp] theorem setLayer_start (n : Nat) (f : LayerRun → LayerRun) : (d.setLayer n f).start = d.start := rfl
@[simp] theorem setLayer_time (n : Nat) (f : LayerRun → LayerRun) : (d.setLayer n f).time = d.time := rfl
@[simp] theorem setLayer_caps (n : Nat) (f : LayerRun → LayerRun) : (d.setLayer n f).caps = d.caps := rfl
@[simp] theorem setLayer_trigs (n : Nat) (f : LayerRun → LayerRun) : (d.setLayer n f).trigs = d.trigs := rfl
@[simp] theorem setLayer_streams (n : Nat) (f : LayerRun → LayerRun) : (d.setLayer n f).streams = d.streams := rfl
@[simp] theorem setLayer_stills (n : Nat) (f : LayerRun → LayerRun) : (d.setLayer n f).stills = d.stills := rfl
@[simp] theorem setLayer_enc (n : Nat) (f : LayerRun → LayerRun) : (d.setLayer n f).enc = d.enc := rfl
@[simp] theorem setLayer_chkFresh (n : Nat) (f : LayerRun → LayerRun) : (d.setLayer n f).chkFresh = d.chkFresh := rfl
@[simp] theorem setLayer_prism (n : Nat) (f : LayerRun → LayerRun) : (d.setLayer n f).prism = d.prism := rfl
@[simp] theorem setLayer_sense (n : Nat) (f : LayerRun → LayerRun) : (d.setLayer n f).sense = d.sense := rfl
@[simp] theorem setLayer_withy (n : Nat) (f : LayerRun → LayerRun) : (d.setLayer n f).withy = d.withy := rfl
@[simp] theorem setLayer_pair (n : Nat) (f : LayerRun → LayerRun) : (d.setLayer n f).pair = d.pair := rfl
@[simp] theorem setLayer_paths (n : Nat) (f : LayerRun → LayerRun) : (d.setLayer n f).paths = d.paths := rfl
@[simp] theorem setLayer_tile (n : Nat) (f : LayerRun → LayerRun) : (d.setLayer n f).tile = d.tile := rfl
@[simp] theorem setLayer_ldl (n : Nat) (f : LayerRun → LayerRun) : (d.setLayer n f).ldl = d.ldl := rfl
@[simp] theorem setLayer_ledger (n : Nat) (f : LayerRun → LayerRun) : (d.setLayer n f).ledger = d.ledger := rfl
@[simp] theorem setLayer_pliuk (n : Nat) (f : LayerRun → LayerRun) : (d.setLayer n f).pliuk = d.pliuk := rfl
@[simp] theorem setLayer_integ (n : Nat) (f : LayerRun → LayerRun) : (d.setLayer n f).integ = d.integ := rfl
@[simp] theorem setLayer_dram (n : Nat) (f : LayerRun → LayerRun) : (d.setLayer n f).dram = d.dram := rfl
@[simp] theorem setLayer_cuHolder (n : Nat) (f : LayerRun → LayerRun) : (d.setLayer n f).cuHolder = d.cuHolder := rfl
@[simp] theorem setLayer_flash (n : Nat) (f : LayerRun → LayerRun) : (d.setLayer n f).flash = d.flash := rfl
@[simp] theorem setLayer_update (n : Nat) (f : LayerRun → LayerRun) : (d.setLayer n f).update = d.update := rfl
@[simp] theorem setLayer_free (n : Nat) (f : LayerRun → LayerRun) : (d.setLayer n f).free = d.free := rfl
@[simp] theorem setLayer_out (n : Nat) (f : LayerRun → LayerRun) : (d.setLayer n f).out = d.out := rfl
@[simp] theorem setLayer_events (n : Nat) (f : LayerRun → LayerRun) : (d.setLayer n f).events = d.events := rfl
@[simp] theorem setLayer_obj (n : Nat) (f : LayerRun → LayerRun) (j : Nat) : (d.setLayer n f).obj j = d.obj j := rfl
@[simp] theorem setLayer_blob (n : Nat) (f : LayerRun → LayerRun) (j : Nat) : (d.setLayer n f).blob j = d.blob j := rfl
@[simp] theorem setLayer_pers (n : Nat) (f : LayerRun → LayerRun) : (d.setLayer n f).pers = d.pers := rfl
@[simp] theorem setLayer_isTile (n : Nat) (f : LayerRun → LayerRun) : (d.setLayer n f).isTile = d.isTile := rfl
@[simp] theorem setLayer_isSender (n : Nat) (f : LayerRun → LayerRun) : (d.setLayer n f).isSender = d.isSender := rfl

/-! ### setPath -/

@[simp] theorem setPath_fix (n : Nat) (f : PathSt → PathSt) : (d.setPath n f).fix = d.fix := rfl
@[simp] theorem setPath_now (n : Nat) (f : PathSt → PathSt) : (d.setPath n f).now = d.now := rfl
@[simp] theorem setPath_dict (n : Nat) (f : PathSt → PathSt) : (d.setPath n f).dict = d.dict := rfl
@[simp] theorem setPath_blobs (n : Nat) (f : PathSt → PathSt) : (d.setPath n f).blobs = d.blobs := rfl
@[simp] theorem setPath_start (n : Nat) (f : PathSt → PathSt) : (d.setPath n f).start = d.start := rfl
@[simp] theorem setPath_time (n : Nat) (f : PathSt → PathSt) : (d.setPath n f).time = d.time := rfl
@[simp] theorem setPath_caps (n : Nat) (f : PathSt → PathSt) : (d.setPath n f).caps = d.caps := rfl
@[simp] theorem setPath_trigs (n : Nat) (f : PathSt → PathSt) : (d.setPath n f).trigs = d.trigs := rfl
@[simp] theorem setPath_streams (n : Nat) (f : PathSt → PathSt) : (d.setPath n f).streams = d.streams := rfl
@[simp] theorem setPath_stills (n : Nat) (f : PathSt → PathSt) : (d.setPath n f).stills = d.stills := rfl
@[simp] theorem setPath_layers (n : Nat) (f : PathSt → PathSt) : (d.setPath n f).layers = d.layers := rfl
@[simp] theorem setPath_enc (n : Nat) (f : PathSt → PathSt) : (d.setPath n f).enc = d.enc := rfl
@[simp] theorem setPath_chkFresh (n : Nat) (f : PathSt → PathSt) : (d.setPath n f).chkFresh = d.chkFresh := rfl
@[simp] theorem setPath_prism (n : Nat) (f : PathSt → PathSt) : (d.setPath n f).prism = d.prism := rfl
@[simp] theorem setPath_sense (n : Nat) (f : PathSt → PathSt) : (d.setPath n f).sense = d.sense := rfl
@[simp] theorem setPath_withy (n : Nat) (f : PathSt → PathSt) : (d.setPath n f).withy = d.withy := rfl
@[simp] theorem setPath_pair (n : Nat) (f : PathSt → PathSt) : (d.setPath n f).pair = d.pair := rfl
@[simp] theorem setPath_tile (n : Nat) (f : PathSt → PathSt) : (d.setPath n f).tile = d.tile := rfl
@[simp] theorem setPath_ldl (n : Nat) (f : PathSt → PathSt) : (d.setPath n f).ldl = d.ldl := rfl
@[simp] theorem setPath_ledger (n : Nat) (f : PathSt → PathSt) : (d.setPath n f).ledger = d.ledger := rfl
@[simp] theorem setPath_pliuk (n : Nat) (f : PathSt → PathSt) : (d.setPath n f).pliuk = d.pliuk := rfl
@[simp] theorem setPath_integ (n : Nat) (f : PathSt → PathSt) : (d.setPath n f).integ = d.integ := rfl
@[simp] theorem setPath_dram (n : Nat) (f : PathSt → PathSt) : (d.setPath n f).dram = d.dram := rfl
@[simp] theorem setPath_cuHolder (n : Nat) (f : PathSt → PathSt) : (d.setPath n f).cuHolder = d.cuHolder := rfl
@[simp] theorem setPath_flash (n : Nat) (f : PathSt → PathSt) : (d.setPath n f).flash = d.flash := rfl
@[simp] theorem setPath_update (n : Nat) (f : PathSt → PathSt) : (d.setPath n f).update = d.update := rfl
@[simp] theorem setPath_free (n : Nat) (f : PathSt → PathSt) : (d.setPath n f).free = d.free := rfl
@[simp] theorem setPath_out (n : Nat) (f : PathSt → PathSt) : (d.setPath n f).out = d.out := rfl
@[simp] theorem setPath_events (n : Nat) (f : PathSt → PathSt) : (d.setPath n f).events = d.events := rfl
@[simp] theorem setPath_obj (n : Nat) (f : PathSt → PathSt) (j : Nat) : (d.setPath n f).obj j = d.obj j := rfl
@[simp] theorem setPath_blob (n : Nat) (f : PathSt → PathSt) (j : Nat) : (d.setPath n f).blob j = d.blob j := rfl
@[simp] theorem setPath_pers (n : Nat) (f : PathSt → PathSt) : (d.setPath n f).pers = d.pers := rfl
@[simp] theorem setPath_isTile (n : Nat) (f : PathSt → PathSt) : (d.setPath n f).isTile = d.isTile := rfl
@[simp] theorem setPath_isSender (n : Nat) (f : PathSt → PathSt) : (d.setPath n f).isSender = d.isSender := rfl

/-! ### What the updates write -/

@[simp] theorem emit_out (o : Output) : (d.emit o).out = d.out ++ [o] := rfl
@[simp] theorem emitAll_out (os : List Output) : (d.emitAll os).out = d.out ++ os := rfl
@[simp] theorem setPliuk_pliuk (f : Pliuk → Pliuk) : (d.setPliuk f).pliuk = f d.pliuk := rfl
@[simp] theorem setStart_start (f : Start → Start) : (d.setStart f).start = f d.start := rfl
@[simp] theorem setTb_time (f : TimeBase → TimeBase) : (d.setTb f).time = f d.time := rfl
@[simp] theorem setInteg_integ (f : Integ → Integ) : (d.setInteg f).integ = f d.integ := rfl
@[simp] theorem setFlash_flash (f : Flash → Flash) : (d.setFlash f).flash = f d.flash := rfl
@[simp] theorem setUpd_update (f : UpdSt → UpdSt) : (d.setUpd f).update = f d.update := rfl
@[simp] theorem setEnc_enc (f : EncState → EncState) : (d.setEnc f).enc = f d.enc := rfl
@[simp] theorem setTile_tile (f : TileSt → TileSt) : (d.setTile f).tile = f d.tile := rfl
@[simp] theorem setLdl_ldl (f : LdlSt → LdlSt) : (d.setLdl f).ldl = f d.ldl := rfl
@[simp] theorem setLedger_ledger (f : LedgerSt → LedgerSt) : (d.setLedger f).ledger = f d.ledger := rfl
@[simp] theorem setPrism_prism (f : PrismSt → PrismSt) : (d.setPrism f).prism = f d.prism := rfl
@[simp] theorem setSense_sense (f : SenseSt → SenseSt) : (d.setSense f).sense = f d.sense := rfl
@[simp] theorem setDram_dram (f : DramSt → DramSt) : (d.setDram f).dram = f d.dram := rfl
@[simp] theorem setPair_pair (f : Pair → Pair) : (d.setPair f).pair = f d.pair := rfl
@[simp] theorem setCap_caps (n : Nat) (f : Capture → Capture) : (d.setCap n f).caps = upd n f d.caps := rfl
@[simp] theorem setTrig_trigs (n : Nat) (f : Trigger → Trigger) : (d.setTrig n f).trigs = upd n f d.trigs := rfl
@[simp] theorem setStream_streams (n : Nat) (f : StreamSt → StreamSt) : (d.setStream n f).streams = upd n f d.streams := rfl
@[simp] theorem setStill_stills (n : Nat) (f : StillSt → StillSt) : (d.setStill n f).stills = upd n f d.stills := rfl
@[simp] theorem setLayer_layers (n : Nat) (f : LayerRun → LayerRun) : (d.setLayer n f).layers = upd n f d.layers := rfl
@[simp] theorem setPath_paths (n : Nat) (f : PathSt → PathSt) : (d.setPath n f).paths = upd n f d.paths := rfl

end Sys2Proof.Machine.Dev
end

