-- ==== Sys2Proof/Laws/Objects.lean ====
section
/-!
SUPPORT. Sys2Proof/Laws/Objects.lean: the object store and the blob store: what is read after a write, here and elsewhere,
and that both keep their canonical form.
-/
namespace Sys2Proof.Machine

/-! ### Reading after writing -/

theorem Store.look_put_same (k v : Nat) (s : Store) : Store.look k (Store.put k v s) = some v := by
  induction s with
  | nil => simp [Store.put, Store.look]
  | cons p s ih =>
    obtain ⟨a, w⟩ := p
    unfold Store.put
    split
    · simp [Store.look]
    · split
      · simp [Store.look]
      · rename_i h
        simp [Store.look, ih, Ne.symm h]

theorem Store.look_put_other {j k : Nat} (v : Nat) (s : Store) (h : j ≠ k) :
    Store.look j (Store.put k v s) = Store.look j s := by
  induction s with
  | nil => simp [Store.put, Store.look, Ne.symm h]
  | cons p s ih =>
    obtain ⟨a, w⟩ := p
    unfold Store.put
    split
    · simp [Store.look, Ne.symm h]
    · split
      · rename_i e
        subst e
        simp [Store.look, Ne.symm h]
      · simp [Store.look, ih]

theorem Store.look_del_same (k : Nat) (s : Store) : Store.look k (Store.del k s) = none := by
  induction s with
  | nil => rfl
  | cons p s ih =>
    obtain ⟨a, w⟩ := p
    unfold Store.del
    split
    · exact ih
    · rename_i h
      simp [Store.look, h, ih]

theorem Store.look_del_other {j k : Nat} (s : Store) (h : j ≠ k) : Store.look j (Store.del k s) = Store.look j s := by
  induction s with
  | nil => rfl
  | cons p s ih =>
    obtain ⟨a, w⟩ := p
    unfold Store.del
    split
    · rename_i e
      subst e
      simp [Store.look, ih, Ne.symm h]
    · simp [Store.look, ih]

theorem BlobStore.look_put_same (k : Nat) (v : Bytes) (s : BlobStore) :
    BlobStore.look k (BlobStore.put k v s) = v := by
  induction s with
  | nil => simp [BlobStore.put, BlobStore.look]
  | cons p s ih =>
    obtain ⟨a, w⟩ := p
    unfold BlobStore.put
    split
    · simp [BlobStore.look]
    · split
      · simp [BlobStore.look]
      · rename_i h
        simp [BlobStore.look, ih, Ne.symm h]

theorem BlobStore.look_put_other {j k : Nat} (v : Bytes) (s : BlobStore) (h : j ≠ k) :
    BlobStore.look j (BlobStore.put k v s) = BlobStore.look j s := by
  induction s with
  | nil => simp [BlobStore.put, BlobStore.look, Ne.symm h]
  | cons p s ih =>
    obtain ⟨a, w⟩ := p
    unfold BlobStore.put
    split
    · simp [BlobStore.look, Ne.symm h]
    · split
      · rename_i e
        subst e
        simp [BlobStore.look, Ne.symm h]
      · simp [BlobStore.look, ih]

namespace Dev

@[simp] theorem setObj_obj_same (k v : Nat) (d : Dev) : (d.setObj k v).obj k = v := by
  unfold setObj obj
  by_cases h : v = defaultOf d.pers k
  · simp only [if_pos h, Store.look_del_same]
    exact h.symm
  · simp only [if_neg h, Store.look_put_same]

@[simp] theorem setObj_obj_other {j k : Nat} (v : Nat) (d : Dev) (h : j ≠ k) : (d.setObj k v).obj j = d.obj j := by
  unfold setObj obj
  by_cases e : v = defaultOf d.pers k
  · simp only [if_pos e, Store.look_del_other _ h]
    rfl
  · simp only [if_neg e, Store.look_put_other _ _ h]
    rfl

@[simp] theorem setBlob_blob_same (k : Nat) (v : Bytes) (d : Dev) : (d.setBlob k v).blob k = v :=
  BlobStore.look_put_same k v d.blobs

@[simp] theorem setBlob_blob_other {j k : Nat} (v : Bytes) (d : Dev) (h : j ≠ k) : (d.setBlob k v).blob j = d.blob j :=
  BlobStore.look_put_other v d.blobs h

end Dev

/-! ### The canonical form -/

/-- Every key of a store is above `a`. -/
def Store.above (a : Nat) (s : Store) : Prop := ∀ p ∈ s, a < p.1

theorem Store.rising_cons (p : Nat × Nat) (s : Store) :
    Store.rising (p :: s) = true ↔ Store.above p.1 s ∧ Store.rising s = true := by
  induction s generalizing p with
  | nil => simp [Store.rising, Store.above]
  | cons q s ih =>
    obtain ⟨a, v⟩ := p
    obtain ⟨b, w⟩ := q
    have hq := ih (b, w)
    simp only [Store.rising, Bool.and_eq_true, decide_eq_true_eq, Store.above, List.mem_cons] at hq ⊢
    constructor
    · rintro ⟨h, r⟩
      refine ⟨?_, r⟩
      rintro x (rfl | hx)
      · exact h
      · exact Nat.lt_trans h ((hq.mp r).1 x hx)
    · rintro ⟨h, r⟩
      exact ⟨h (b, w) (Or.inl rfl), r⟩

theorem Store.above_put {a k : Nat} (v : Nat) {s : Store} (hk : a < k) (hs : Store.above a s) :
    Store.above a (Store.put k v s) := by
  induction s with
  | nil => simp [Store.put, Store.above, hk]
  | cons p s ih =>
    obtain ⟨b, w⟩ := p
    have hb : a < b := hs (b, w) (by simp)
    have ht : Store.above a s := fun x hx => hs x (by simp [hx])
    unfold Store.put
    split
    · intro x hx
      simp only [List.mem_cons] at hx
      rcases hx with rfl | rfl | hx
      · exact hk
      · exact hb
      · exact ht x hx
    · split
      · intro x hx
        simp only [List.mem_cons] at hx
        rcases hx with rfl | hx
        · exact hk
        · exact ht x hx
      · intro x hx
        simp only [List.mem_cons] at hx
        rcases hx with rfl | hx
        · exact hb
        · exact ih ht x hx

theorem Store.put_rising (k v : Nat) {s : Store} (hs : Store.rising s = true) : Store.rising (Store.put k v s) = true := by
  induction s with
  | nil => rfl
  | cons p s ih =>
    obtain ⟨a, w⟩ := p
    obtain ⟨ha, hr⟩ := (Store.rising_cons _ _).mp hs
    unfold Store.put
    split
    · rename_i h
      refine (Store.rising_cons _ _).mpr ⟨?_, hs⟩
      intro x hx
      simp only [List.mem_cons] at hx
      rcases hx with rfl | hx
      · exact h
      · exact Nat.lt_trans h (ha x hx)
    · split
      · rename_i e
        subst e
        exact (Store.rising_cons _ _).mpr ⟨ha, hr⟩
      · rename_i h e
        exact (Store.rising_cons _ _).mpr ⟨Store.above_put v (show a < k by omega) ha, ih hr⟩

theorem Store.mem_del {k : Nat} {s : Store} {x : Nat × Nat} (h : x ∈ Store.del k s) : x ∈ s := by
  induction s with
  | nil => exact h
  | cons p s ih =>
    obtain ⟨b, w⟩ := p
    unfold Store.del at h
    split at h
    · exact List.mem_cons_of_mem _ (ih h)
    · simp only [List.mem_cons] at h ⊢
      exact h.imp id ih

theorem Store.del_rising (k : Nat) {s : Store} (hs : Store.rising s = true) : Store.rising (Store.del k s) = true := by
  induction s with
  | nil => rfl
  | cons p s ih =>
    obtain ⟨a, w⟩ := p
    obtain ⟨ha, hr⟩ := (Store.rising_cons _ _).mp hs
    unfold Store.del
    split
    · exact ih hr
    · exact (Store.rising_cons _ _).mpr ⟨fun x hx => ha x (Store.mem_del hx), ih hr⟩

/-- Writing an object keeps the store canonical. -/
theorem Dev.setObj_rising (k v : Nat) {d : Dev} (h : Store.rising d.dict = true) :
    Store.rising (d.setObj k v).dict = true := by
  unfold Dev.setObj
  show Store.rising (if _ then _ else _) = true
  split
  · exact Store.del_rising k h
  · exact Store.put_rising k v h

end Sys2Proof.Machine
end

