-- ==== Sys2Proof/Laws/Gates.lean ====
section
/-!
SUPPORT. Sys2Proof/Laws/Gates.lean: what the gates around a command's effect do where they are open, and that every
command but RESET_RELEASE answers a next state with the same queue.
-/
namespace Sys2Proof.Machine
open Sys2Proof.Safety

/-! ### `act` and `after` -/

theorem act_eq (t : Time) (f : Dev → Dev) (s : State) : act t f s = .next (after t s (f (s.dev.begin t))) := rfl

@[simp] theorem after_pending (t : Time) (s : State) (e : Dev) : (after t s e).pending = s.pending := rfl

@[simp] theorem after_fuses (t : Time) (s : State) (e : Dev) : (after t s e).dev.fix.fuses = s.dev.fix.fuses := rfl

theorem after_safetyKey (t : Time) (s : State) (e : Dev) {k : Bytes} (h : s.dev.fix.otp.safetyKey = some k) :
    (after t s e).dev.fix.otp.safetyKey = some k := by
  show s.dev.fix.otp.safetyKey.orElse _ = some k
  rw [h]; rfl

theorem after_revoked (t : Time) (s : State) (e : Dev) :
    s.dev.fix.otp.revoked ||| (after t s e).dev.fix.otp.revoked = (after t s e).dev.fix.otp.revoked := by
  show s.dev.fix.otp.revoked ||| (s.dev.fix.otp.revoked ||| _) = s.dev.fix.otp.revoked ||| _
  rw [← Nat.or_assoc, Nat.or_self]

theorem sweep_events (b e : Dev) : (b.sweep e).events = [] := by
  unfold Dev.sweep
  split <;> rfl

@[simp] theorem after_events (t : Time) (s : State) (e : Dev) : (after t s e).dev.events = [] :=
  sweep_events _ _

/-- A device that is off, in reset or Halted follows nothing up. -/
theorem sweep_dead (b e : Dev) (h : e.alive = false) : b.sweep e = { e with events := [] } := by
  simp [Dev.sweep, h]

/-! ### Gates -/

namespace Dev

theorem whenPorts_open {d : Dev} (f : Dev → Dev) (h : d.portsRun = true) : d.whenPorts f = f d := by simp [whenPorts, h]
theorem whenPorts_shut {d : Dev} (f : Dev → Dev) (h : d.portsRun = false) : d.whenPorts f = d := by simp [whenPorts, h]
theorem whenControl_open {d : Dev} (f : Dev → Dev) (h : d.controlRuns = true) : d.whenControl f = f d := by
  simp [whenControl, h]
theorem whenControl_shut {d : Dev} (f : Dev → Dev) (h : d.controlRuns = false) : d.whenControl f = d := by
  simp [whenControl, h]
theorem whenFirmware_open {d : Dev} (f : Dev → Dev) (h : d.pliukRuns = true) (r : d.baseRun ≠ .recovery) :
    d.whenFirmware f = f d := by simp [whenFirmware, h, r]
theorem whenFirmware_shut {d : Dev} (f : Dev → Dev) (h : d.pliukRuns = false) : d.whenFirmware f = d := by
  simp [whenFirmware, h]
theorem onTile_open {d : Dev} (f : Dev → Dev) (h : d.isTile = true) : d.onTile f = f d := by simp [onTile, h]
theorem onSender_open {d : Dev} (f : Dev → Dev) (h : d.isSender = true) : d.onSender f = f d := by simp [onSender, h]
theorem whenDriver_open {d : Dev} (f : Dev → Dev) (h : DriverPowered d) : d.whenDriver f = f d := by
  simp [whenDriver, h.1, h.2]
theorem wire_open {d : Dev} (h : PortId) (p : Packet) (f : Dev → Dev) (r : d.portsRun = true) : d.wire h p f = f d := by
  simp [wire, r]

theorem tile_not_sender {d : Dev} (h : d.isTile = true) : d.isSender = false := by
  simp only [isTile, isSender, beq_iff_eq] at *
  rw [h]; rfl

theorem sender_not_tile {d : Dev} (h : d.isSender = true) : d.isTile = false := by
  simp only [isTile, isSender, beq_iff_eq] at *
  rw [h]; rfl

/-! ### Row writes -/

theorem bySession_open {d : Dev} {sid k : Nat} {x : Session} (f : Writer → Dev → Nat × Dev) (h : Writes d sid k x) :
    d.bySession sid k f = entryDone sid k (f (writerOf x false) d) := by
  obtain ⟨h1, h2, h3, h4, h5⟩ := h
  simp [bySession, h1, h2, h3, h4, h5]

theorem findDef_of_open {d : Dev} {x : Writer} {k v : Nat} (h : d.scalarRefused x k v = none) :
    ∃ o, findDef d.pers k = some o := by
  unfold scalarRefused at h
  split at h
  · cases h
  · split at h
    · cases h
    · rename_i o ho
      exact ⟨o, ho⟩

/-- A row write of a scalar that is allowed is the write of its value. -/
theorem rowWrite_open {d : Dev} {sid k v : Nat} {x : Session} (h : ScalarOpen d sid k v x) :
    ∃ o, findDef d.pers k = some o ∧ d.rowWrite sid k v = entryDone sid k (d.writeValue (writerOf x false) o k v) := by
  obtain ⟨hw, hr, _, _⟩ := h
  obtain ⟨o, ho⟩ := findDef_of_open hr
  refine ⟨o, ho, ?_⟩
  unfold rowWrite
  rw [bySession_open _ hw]
  simp only [writeScalar, hr, ho]

/-- A row write of an object whose write is an action of its own. -/
theorem rowWrite_action {d : Dev} {sid k v : Nat} {x : Session} {r : Nat × Dev} (h : ScalarOpen d sid k v x)
    (ha : d.action false x.id k v = some r) : d.rowWrite sid k v = entryDone sid k r := by
  obtain ⟨o, _, he⟩ := rowWrite_open h
  obtain ⟨_, _, hd, hl⟩ := h
  rw [he]
  have hl' : d.lockedFor (writerOf x false).sid k = false := hl
  have ha' : d.action false (writerOf x false).sid k v = some r := ha
  simp [writeValue, hd, hl', ha']

/-! ### BLOB rows -/

/-- The end of a whole BLOB: discarded where it is refused. -/
def wholeDone (k : Nat) (rb : Bool) (data : Bytes) (d : Dev) : Nat × Dev :=
  let r := d.blobDone k data rb
  if r.1 = Status.OK ∨ r.1 = Status.OK_BOOT then r else (r.1, r.2.blobAbort k)

/-- An allowed chunk joins its staging, begins one, or is refused. -/
theorem rowChunk_open {d : Dev} {sid k : Nat} {b : Chunk} {x : Session} (rb : Bool) (h : ChunkOpen d sid k b x) :
    d.rowChunk sid k b rb = entryDone sid k
      (if d.blobNext k b.total ≠ Status.OK then
        (d.blobNext k b.total, (d.dropStage x.id 0 k).stageAbort (d.stageOf x.id 0 k))
      else
        match d.stageOf x.id 0 k with
        | some s =>
          if chunkFits s b then d.takeChunk x.id 0 k b (s.data ++ b.data) (wholeDone k rb)
          else (Status.LENGTH, (d.dropStage x.id 0 k).blobAbort k)
        | none =>
          if chunkBad b then (Status.LENGTH, d)
          else if d.blobFirst k b.total ≠ Status.OK then (d.blobFirst k b.total, d)
          else (d.blobBegin k).takeChunk x.id 0 k b b.data (wholeDone k rb)) := by
  obtain ⟨hw, he, ⟨o, ho, hb⟩, hs, hk, hc, hd, hv, hl, hp⟩ := h
  have hp' : (d.persists k && (d.updState == 5 || d.updState == 6)) = false := by
    rcases hp with h | ⟨h, h'⟩
    · simp [h]
    · simp [h, h']
  have hl' : d.lockedFor (writerOf x false).sid k = false := hl
  have hv : d.loadingFor (writerOf x false).sid 0 k = false := hv
  unfold rowChunk
  rw [bySession_open _ hw]
  unfold writeChunk
  simp only [he, ho, hb, hs, hk, hd, hl', hp', hv, hc]
  rfl

end Dev
end Sys2Proof.Machine
end

