-- ==== Sys2Proof/Laws/Actions.lean ====
section
/-!
SUPPORT. Sys2Proof/Laws/Actions.lean: which action the write of each command object is, and that of an object whose write
is no action.
-/
namespace Sys2Proof.Machine.Dev

variable (d : Dev) (must : Bool) (sid v n : Nat)

theorem action_trigMode (h : n < 8) : d.action must sid (K.TRIG_MODE n) v = some (d.actIf must (d.trigModeCheck n v) (fun d => d.trigModeSet n v)) := by
  have hi : K.TRIG_MODE n / 256 = 0x2010 + n := by unfold K.TRIG_MODE; omega
  have hs : K.TRIG_MODE n % 256 = 1 := by unfold K.TRIG_MODE; omega
  have hb : 0x2010 + n - 0x2010 = n := by omega
  unfold action
  simp only [hi, hs]
  rw [if_pos ⟨by omega, by omega, trivial⟩, hb]

theorem action_cuClaim (h : n < 4) : d.action must sid (K.CU_CLAIM n) v = some (d.cuWrite sid n 1 v) := by
  have hi : K.CU_CLAIM n / 256 = 0x5408 + n := by unfold K.CU_CLAIM; omega
  have hs : K.CU_CLAIM n % 256 = 1 := by unfold K.CU_CLAIM; omega
  have hb : 0x5408 + n - 0x5408 = n := by omega
  unfold action
  simp only [hi, hs]
  rw [if_neg (by omega)]
  rw [if_pos (by omega), hb]

theorem action_cuAlgorithm (h : n < 4) : d.action must sid (K.CU_ALGORITHM n) v = some (d.cuWrite sid n 2 v) := by
  have hi : K.CU_ALGORITHM n / 256 = 0x5408 + n := by unfold K.CU_ALGORITHM; omega
  have hs : K.CU_ALGORITHM n % 256 = 2 := by unfold K.CU_ALGORITHM; omega
  have hb : 0x5408 + n - 0x5408 = n := by omega
  unfold action
  simp only [hi, hs]
  rw [if_neg (by omega)]
  rw [if_pos (by omega), hb]

theorem action_cuInit (h : n < 4) : d.action must sid (K.CU_INIT n) v = some (d.cuWrite sid n 3 v) := by
  have hi : K.CU_INIT n / 256 = 0x5408 + n := by unfold K.CU_INIT; omega
  have hs : K.CU_INIT n % 256 = 3 := by unfold K.CU_INIT; omega
  have hb : 0x5408 + n - 0x5408 = n := by omega
  unfold action
  simp only [hi, hs]
  rw [if_neg (by omega)]
  rw [if_pos (by omega), hb]

theorem action_cuFeed8 (h : n < 4) : d.action must sid (K.CU_FEED8 n) v = some (d.cuWrite sid n 4 v) := by
  have hi : K.CU_FEED8 n / 256 = 0x5408 + n := by unfold K.CU_FEED8; omega
  have hs : K.CU_FEED8 n % 256 = 4 := by unfold K.CU_FEED8; omega
  have hb : 0x5408 + n - 0x5408 = n := by omega
  unfold action
  simp only [hi, hs]
  rw [if_neg (by omega)]
  rw [if_pos (by omega), hb]

theorem action_cuFeed16 (h : n < 4) : d.action must sid (K.CU_FEED16 n) v = some (d.cuWrite sid n 5 v) := by
  have hi : K.CU_FEED16 n / 256 = 0x5408 + n := by unfold K.CU_FEED16; omega
  have hs : K.CU_FEED16 n % 256 = 5 := by unfold K.CU_FEED16; omega
  have hb : 0x5408 + n - 0x5408 = n := by omega
  unfold action
  simp only [hi, hs]
  rw [if_neg (by omega)]
  rw [if_pos (by omega), hb]

theorem action_cuFeed32 (h : n < 4) : d.action must sid (K.CU_FEED32 n) v = some (d.cuWrite sid n 6 v) := by
  have hi : K.CU_FEED32 n / 256 = 0x5408 + n := by unfold K.CU_FEED32; omega
  have hs : K.CU_FEED32 n % 256 = 6 := by unfold K.CU_FEED32; omega
  have hb : 0x5408 + n - 0x5408 = n := by omega
  unfold action
  simp only [hi, hs]
  rw [if_neg (by omega)]
  rw [if_pos (by omega), hb]

theorem action_cuFeed64 (h : n < 4) : d.action must sid (K.CU_FEED64 n) v = some (d.cuWrite sid n 7 v) := by
  have hi : K.CU_FEED64 n / 256 = 0x5408 + n := by unfold K.CU_FEED64; omega
  have hs : K.CU_FEED64 n % 256 = 7 := by unfold K.CU_FEED64; omega
  have hb : 0x5408 + n - 0x5408 = n := by omega
  unfold action
  simp only [hi, hs]
  rw [if_neg (by omega)]
  rw [if_pos (by omega), hb]

theorem action_cuState (h : n < 4) : d.action must sid (K.CU_STATE n) v = some (d.cuWrite sid n 8 v) := by
  have hi : K.CU_STATE n / 256 = 0x5408 + n := by unfold K.CU_STATE; omega
  have hs : K.CU_STATE n % 256 = 8 := by unfold K.CU_STATE; omega
  have hb : 0x5408 + n - 0x5408 = n := by omega
  unfold action
  simp only [hi, hs]
  rw [if_neg (by omega)]
  rw [if_pos (by omega), hb]

theorem action_stillCapture (h : n < 16) : d.action must sid (K.STILL_CAPTURE n) v = some (d.actIf must (d.captureCheck n v) (fun d => d.captureStart n v)) := by
  have hi : K.STILL_CAPTURE n / 256 = 0x3200 + n := by unfold K.STILL_CAPTURE; omega
  have hs : K.STILL_CAPTURE n % 256 = 9 := by unfold K.STILL_CAPTURE; omega
  have hb : 0x3200 + n - 0x3200 = n := by omega
  unfold action
  simp only [hi, hs]
  rw [if_neg (by omega)]
  rw [if_neg (by omega)]
  rw [if_pos ⟨by omega, by omega, trivial⟩, hb]

theorem action_stillRelease (h : n < 16) : d.action must sid (K.STILL_RELEASE n) v = some (d.actIf must (d.releaseCheck n) (fun d => d.stillRelease n)) := by
  have hi : K.STILL_RELEASE n / 256 = 0x3200 + n := by unfold K.STILL_RELEASE; omega
  have hs : K.STILL_RELEASE n % 256 = 11 := by unfold K.STILL_RELEASE; omega
  have hb : 0x3200 + n - 0x3200 = n := by omega
  unfold action
  simp only [hi, hs]
  rw [if_neg (by omega)]
  rw [if_neg (by omega)]
  rw [if_neg (by omega)]
  rw [if_pos ⟨by omega, by omega, trivial⟩, hb]

theorem action_timgClear (h : n < 2) : d.action must sid (K.TIMG_CLEAR n) v = some (d.actIf must (if d.imageShown n then Status.LOCKED else Status.OK) (fun d => d.timgClear n)) := by
  have hi : K.TIMG_CLEAR n / 256 = 0x4020 + n := by unfold K.TIMG_CLEAR; omega
  have hs : K.TIMG_CLEAR n % 256 = 3 := by unfold K.TIMG_CLEAR; omega
  have hb : 0x4020 + n - 0x4020 = n := by omega
  unfold action
  simp only [hi, hs]
  rw [if_neg (by omega)]
  rw [if_neg (by omega)]
  rw [if_neg (by omega)]
  rw [if_neg (by omega)]
  rw [if_pos ⟨by omega, trivial⟩, hb]

theorem action_pdCapture (h : n < 16) : d.action must sid (K.SNS_PD_CAPTURE n) v = some (d.pdCapture must n v) := by
  have hi : K.SNS_PD_CAPTURE n / 256 = 0x5020 + n := by unfold K.SNS_PD_CAPTURE; omega
  have hs : K.SNS_PD_CAPTURE n % 256 = 14 := by unfold K.SNS_PD_CAPTURE; omega
  have hb : 0x5020 + n - 0x5020 = n := by omega
  unfold action
  simp only [hi, hs]
  rw [if_neg (by omega)]
  rw [if_neg (by omega)]
  rw [if_neg (by omega)]
  rw [if_neg (by omega)]
  rw [if_neg (by omega)]
  rw [if_pos ⟨by omega, by omega, trivial⟩, hb]

theorem action_withyEnable (h : n < 4) : d.action must sid (K.WITHY_ENABLE n) v = some ((Status.OK, d.withyEnable n v)) := by
  have hi : K.WITHY_ENABLE n / 256 = 0x2410 + n := by unfold K.WITHY_ENABLE; omega
  have hs : K.WITHY_ENABLE n % 256 = 1 := by unfold K.WITHY_ENABLE; omega
  have hb : 0x2410 + n - 0x2410 = n := by omega
  unfold action
  simp only [hi, hs]
  rw [if_neg (by omega)]
  rw [if_neg (by omega)]
  rw [if_neg (by omega)]
  rw [if_neg (by omega)]
  rw [if_neg (by omega)]
  rw [if_neg (by omega)]
  rw [if_pos ⟨by omega, by omega, trivial⟩, hb]

theorem action_withyRetrain (h : n < 4) : d.action must sid (K.WITHY_RETRAIN n) v = some ((Status.OK, d.withyRetrain n)) := by
  have hi : K.WITHY_RETRAIN n / 256 = 0x2410 + n := by unfold K.WITHY_RETRAIN; omega
  have hs : K.WITHY_RETRAIN n % 256 = 6 := by unfold K.WITHY_RETRAIN; omega
  have hb : 0x2410 + n - 0x2410 = n := by omega
  unfold action
  simp only [hi, hs]
  rw [if_neg (by omega)]
  rw [if_neg (by omega)]
  rw [if_neg (by omega)]
  rw [if_neg (by omega)]
  rw [if_neg (by omega)]
  rw [if_neg (by omega)]
  rw [if_neg (by omega)]
  rw [if_pos ⟨by omega, by omega, trivial⟩, hb]

theorem action_calErase : d.action must sid K.PRISM_CAL_ERASE v = some (d.actIf must (if d.obj K.SCAN_STATE = 1 then Status.OK else Status.NOT_IDLE) (fun d => d.calErase.judgeCurves)) := rfl

theorem action_lampClear : d.action must sid K.LAMP_CLEAR v = some (d.actIf must (if d.lampClearOk v then Status.OK else Status.RANGE) (fun d => d.lampClear v)) := rfl

theorem action_checkpointNow : d.action must sid K.LEDG_CHECKPOINT_NOW v = some ((Status.OK, d.immediateCkpt false)) := rfl

theorem action_ledgerFormat : d.action must sid K.LEDG_FORMAT v = some ((Status.OK, d.ledgerFormat)) := rfl

theorem action_lampReset : d.action must sid K.LEDG_LAMP_RESET v = some (d.actIf must (if d.lampResetOk v then Status.OK else Status.RANGE) (fun d => d.ledgerLampReset v)) := rfl

theorem action_ceilingReset : d.action must sid K.LEDG_TILE_CEILING_RESET v = some ((Status.OK, d.ledgerCeilingReset)) := rfl

theorem action_calStart : d.action must sid K.SNS_CAL_START v = some (d.calStart must) := rfl

theorem action_takeover : d.action must sid K.PAIR_TAKEOVER v = some ((Status.OK, d.takeoverCommand)) := rfl

theorem action_stateConfirm : d.action must sid K.PAIR_STATE_CONFIRM v = some ((Status.OK, d.pairConfirm v)) := rfl

theorem action_updActivate : d.action must sid K.UPD_ACTIVATE v = some (d.updActivate v) := rfl

theorem action_updConfirm : d.action must sid K.UPD_CONFIRM v = some (d.updConfirm) := rfl

theorem action_updAbort : d.action must sid K.UPD_ABORT v = some ((Status.OK, d.updAbort)) := rfl

theorem action_flogClear : d.action must sid K.FLOG_CLEAR v = some ((Status.OK, d.flogClear)) := rfl

theorem action_keyRevoke : d.action must sid K.OTP_KEY_REVOKE v = some (d.otpRevoke v) := rfl

end Sys2Proof.Machine.Dev
end

