-- ==== Sys2Proof/Laws/Begin.lean ====
section
/-!
SUPPORT. Sys2Proof/Laws/Begin.lean: how a command begins: the instant is set, outputs and events are cleared, and of the rest a
tile with no mode in force can change objects and the flash's overlay commands, and a sender whose selection instant is over
what a selection changes.
-/
namespace Sys2Proof.Machine.Dev

/-- `e` differs from `d` in objects, flash, and what a selection changes. -/
def Begun (d e : Dev) : Prop :=
  ∃ a b s l n i v, e = { d with dict := a, flash := b, streams := s, layers := l, enc := n, integ := i, events := v }

theorem begun_refl (d : Dev) : Begun d d := ⟨d.dict, d.flash, d.streams, d.layers, d.enc, d.integ, d.events, rfl⟩

theorem begun_trans {a b c : Dev} (h : Begun a b) (k : Begun b c) : Begun a c := by
  obtain ⟨_, _, _, _, _, _, _, rfl⟩ := h
  obtain ⟨x, y, s, l, n, i, v, rfl⟩ := k
  exact ⟨x, y, s, l, n, i, v, rfl⟩

theorem begun_foldl {α : Type} (f : Dev → α → Dev) (h : ∀ d x, Begun d (f d x)) (l : List α) (d : Dev) :
    Begun d (l.foldl f d) := by
  induction l generalizing d with
  | nil => exact begun_refl d
  | cons x l ih => exact begun_trans (h d x) (ih (f d x))

/-! ### What changes objects, flash, streams and layers alone -/

theorem begun_of {d : Dev} (a : Store) (b : Flash) (s : List StreamSt) (l : List LayerRun) :
    Begun d { d with dict := a, flash := b, streams := s, layers := l } := ⟨a, b, s, l, d.enc, d.integ, d.events, rfl⟩

theorem setObj_begun (k v : Nat) (d : Dev) : Begun d (d.setObj k v) := begun_of _ d.flash d.streams d.layers

theorem setLayer_begun (n : Nat) (f : LayerRun → LayerRun) (d : Dev) : Begun d (d.setLayer n f) :=
  begun_of d.dict d.flash d.streams _

theorem setStream_begun (n : Nat) (f : StreamSt → StreamSt) (d : Dev) : Begun d (d.setStream n f) :=
  begun_of d.dict d.flash _ d.layers

theorem logFault_begun (c s k j x : Nat) (d : Dev) : Begun d (d.logFault c s k j x) := by
  unfold logFault
  dsimp only
  split
  · exact begun_trans (setObj_begun _ _ d) ⟨_, _, _, _, _, _, _, rfl⟩
  · exact ⟨_, _, _, _, _, _, _, rfl⟩

/-! ### Overlay commands of a tile -/

theorem setOvlState_begun (k s : Nat) (d : Dev) : Begun d (d.setOvlState k s) := by
  unfold setOvlState
  split
  · exact begun_refl d
  · exact begun_of _ _ d.streams d.layers

theorem ovlApply_begun (c : OvlCmd) (d : Dev) : Begun d (d.ovlApply c) := by
  unfold ovlApply
  split
  · exact begun_trans (begun_of _ _ d.streams d.layers) (setOvlState_begun _ _ _)
  · split
    · exact setOvlState_begun _ _ _
    · exact begun_refl d
  · refine begun_foldl _ (fun d x => ?_) _ d
    split
    · exact setOvlState_begun _ _ _
    · exact begun_refl d
  · exact begun_refl d

theorem ovlApplyDue_begun (f : Time) (d : Dev) : Begun d (d.ovlApplyDue f) := by
  unfold ovlApplyDue
  refine begun_foldl _ (fun d x => ?_) _ d
  split
  · exact begun_refl d
  · exact begun_trans (begun_of d.dict _ d.streams d.layers) (ovlApply_begun _ _)

/-! ### The selection of a sender -/

theorem selectFrame_begun (n : Nat) (d : Dev) : Begun d (d.selectFrame n).2 := by
  unfold selectFrame
  dsimp only
  split
  · exact setStream_begun _ _ d
  · split
    · exact begun_trans (setStream_begun _ _ d) (setObj_begun _ _ _)
    · exact begun_trans (setStream_begun _ _ d) (setObj_begun _ _ _)

theorem layerFollow_begun (n : Nat) (d : Dev) : Begun d (d.layerFollow n) := by
  unfold layerFollow
  dsimp only
  generalize (if d.layerOn n then d.obj (K.LAY_SOURCE n) else 0) = src
  have h : Begun d (if (d.layer n).source = src then d
      else d.setLayer n (fun _ => { source := src, frame := none, repeats := 0, shows := .nothing })) := by
    split
    · exact begun_refl d
    · exact setLayer_begun _ _ d
  generalize (if (d.layer n).source = src then d
    else d.setLayer n (fun _ => { source := src, frame := none, repeats := 0, shows := .nothing })) = e at h ⊢
  split
  · exact begun_trans h (setObj_begun _ _ e)
  · split
    · exact begun_trans h (setObj_begun _ _ e)
    · exact h

theorem takeMatte_begun (n : Nat) (d : Dev) : Begun d (d.takeMatte n) := by
  unfold takeMatte
  split
  · exact setLayer_begun _ _ d
  · exact begun_refl d

theorem layerRepeat_begun (n : Nat) (d : Dev) : Begun d (d.layerRepeat n) := by
  unfold layerRepeat
  dsimp only
  refine begun_trans (setObj_begun _ _ d : Begun d (d.bump (K.LAY_REPEATS n))) ?_
  split
  · exact begun_trans (setLayer_begun n _ _) (setObj_begun (K.LAY_STATE n) _ _)
  · split
    · exact begun_trans (begun_trans (setLayer_begun n _ _) (setObj_begun (K.LAY_STATE n) _ _))
        (begun_trans (setObj_begun (K.LAY_STALE_EVENTS n) _ _) (logFault_begun _ _ _ _ _ _))
    · exact begun_trans (setLayer_begun n _ _) (setObj_begun (K.LAY_STATE n) _ _)

theorem layerStart_begun (got : List Nat) (j n : Nat) (d : Dev) : Begun d (d.layerStart got j n) := by
  unfold layerStart
  dsimp only
  refine begun_trans (begun_trans (layerFollow_begun n d) (takeMatte_begun n _)) ?_
  split
  · exact begun_refl _
  · split
    · exact setLayer_begun _ _ _
    · split
      · split
        · exact layerRepeat_begun _ _
        · split
          · exact begun_refl _
          · exact begun_trans (begun_trans (setLayer_begun _ _ _) (setObj_begun _ _ _)) (setObj_begun _ _ _)
      · exact begun_trans (setLayer_begun _ _ _) (setObj_begun _ _ _)

theorem selectAll_begun (l : List Nat) (acc : List Nat × Dev) :
    Begun acc.2 (l.foldl (fun (acc : List Nat × Dev) n =>
      if acc.2.obj (K.STR_ENABLE n) = 1 then
        let (ok, d') := acc.2.selectFrame n
        (if ok then n :: acc.1 else acc.1, d')
      else acc) acc).2 := by
  induction l generalizing acc with
  | nil => exact begun_refl _
  | cons n l ih =>
    refine begun_trans ?_ (ih _)
    dsimp only
    split
    · exact selectFrame_begun n acc.2
    · exact begun_refl _

theorem startComposition_begun (j : Nat) (d : Dev) : Begun d (d.startComposition j) := by
  unfold startComposition
  have h := selectAll_begun (List.range 16) ([], d)
  revert h
  dsimp only
  generalize ((List.range 16).foldl _ (([], d) : List Nat × Dev)) = p
  intro h
  have k := begun_foldl (fun d n => d.layerStart p.1 j n) (fun d n => layerStart_begun p.1 j n d) (List.range 8) p.2
  exact begun_trans (begun_trans h k) (setObj_begun _ _ _)

theorem settleSelection_begun (t : Time) (d : Dev) : Begun d (d.settleSelection t) := by
  unfold settleSelection
  split
  · exact begun_refl d
  · split
    · rename_i f j _ _
      obtain ⟨a, b, s, l, n, i, v, h⟩ :=
        startComposition_begun j { d with now := f, enc := { d.enc with selectAt := none } }
      rw [h]
      exact ⟨a, b, s, l, n, i, v, rfl⟩
    · exact begun_refl d

/-! ### The beginning -/

/-- The device at the instant of the command. -/
theorem atInstant_eq (t : Time) (d : Dev) : d.atInstant t = { d with now := t, out := [], events := [] } := rfl

theorem begin_begun (t : Time) (d : Dev) : Begun (d.atInstant t) (d.begin t) := by
  unfold begin
  dsimp only
  split
  · exact begun_refl _
  · split
    · split
      · exact ovlApplyDue_begun _ _
      · exact begun_refl _
    · exact settleSelection_begun _ _

variable (t : Time) (d : Dev)

@[simp] theorem begin_now : (d.begin t).now = t := by obtain ⟨_, _, _, _, _, _, _, h⟩ := begin_begun t d; rw [h]; rfl
@[simp] theorem begin_out : (d.begin t).out = [] := by obtain ⟨_, _, _, _, _, _, _, h⟩ := begin_begun t d; rw [h]; rfl
@[simp] theorem begin_fix : (d.begin t).fix = d.fix := by
  obtain ⟨_, _, _, _, _, _, _, h⟩ := begin_begun t d; rw [h]; rfl
@[simp] theorem begin_blobs : (d.begin t).blobs = d.blobs := by
  obtain ⟨_, _, _, _, _, _, _, h⟩ := begin_begun t d; rw [h]; rfl
@[simp] theorem begin_start : (d.begin t).start = d.start := by
  obtain ⟨_, _, _, _, _, _, _, h⟩ := begin_begun t d; rw [h]; rfl
@[simp] theorem begin_time : (d.begin t).time = d.time := by
  obtain ⟨_, _, _, _, _, _, _, h⟩ := begin_begun t d; rw [h]; rfl
@[simp] theorem begin_caps : (d.begin t).caps = d.caps := by
  obtain ⟨_, _, _, _, _, _, _, h⟩ := begin_begun t d; rw [h]; rfl
@[simp] theorem begin_trigs : (d.begin t).trigs = d.trigs := by
  obtain ⟨_, _, _, _, _, _, _, h⟩ := begin_begun t d; rw [h]; rfl
@[simp] theorem begin_stills : (d.begin t).stills = d.stills := by
  obtain ⟨_, _, _, _, _, _, _, h⟩ := begin_begun t d; rw [h]; rfl
@[simp] theorem begin_chkFresh : (d.begin t).chkFresh = d.chkFresh := by
  obtain ⟨_, _, _, _, _, _, _, h⟩ := begin_begun t d; rw [h]; rfl
@[simp] theorem begin_prism : (d.begin t).prism = d.prism := by
  obtain ⟨_, _, _, _, _, _, _, h⟩ := begin_begun t d; rw [h]; rfl
@[simp] theorem begin_sense : (d.begin t).sense = d.sense := by
  obtain ⟨_, _, _, _, _, _, _, h⟩ := begin_begun t d; rw [h]; rfl
@[simp] theorem begin_withy : (d.begin t).withy = d.withy := by
  obtain ⟨_, _, _, _, _, _, _, h⟩ := begin_begun t d; rw [h]; rfl
@[simp] theorem begin_pair : (d.begin t).pair = d.pair := by
  obtain ⟨_, _, _, _, _, _, _, h⟩ := begin_begun t d; rw [h]; rfl
@[simp] theorem begin_paths : (d.begin t).paths = d.paths := by
  obtain ⟨_, _, _, _, _, _, _, h⟩ := begin_begun t d; rw [h]; rfl
@[simp] theorem begin_tile : (d.begin t).tile = d.tile := by
  obtain ⟨_, _, _, _, _, _, _, h⟩ := begin_begun t d; rw [h]; rfl
@[simp] theorem begin_ldl : (d.begin t).ldl = d.ldl := by
  obtain ⟨_, _, _, _, _, _, _, h⟩ := begin_begun t d; rw [h]; rfl
@[simp] theorem begin_ledger : (d.begin t).ledger = d.ledger := by
  obtain ⟨_, _, _, _, _, _, _, h⟩ := begin_begun t d; rw [h]; rfl
@[simp] theorem begin_pliuk : (d.begin t).pliuk = d.pliuk := by
  obtain ⟨_, _, _, _, _, _, _, h⟩ := begin_begun t d; rw [h]; rfl
@[simp] theorem begin_dram : (d.begin t).dram = d.dram := by
  obtain ⟨_, _, _, _, _, _, _, h⟩ := begin_begun t d; rw [h]; rfl
@[simp] theorem begin_cuHolder : (d.begin t).cuHolder = d.cuHolder := by
  obtain ⟨_, _, _, _, _, _, _, h⟩ := begin_begun t d; rw [h]; rfl
@[simp] theorem begin_update : (d.begin t).update = d.update := by
  obtain ⟨_, _, _, _, _, _, _, h⟩ := begin_begun t d; rw [h]; rfl
@[simp] theorem begin_free : (d.begin t).free = d.free := by
  obtain ⟨_, _, _, _, _, _, _, h⟩ := begin_begun t d; rw [h]; rfl

/-- A device that is off, in reset or Halted begins a command with nothing but the instant. -/
theorem begin_dead (h : d.alive = false) : d.begin t = d.atInstant t := by
  have k : (d.atInstant t).alive = false := h
  simp [begin, k]

/-- A tile with a mode in force begins a command with nothing but the instant. -/
theorem begin_running (h : d.isTile = true) (m : d.mode ≠ 0) : d.begin t = d.atInstant t := by
  have k : (d.atInstant t).isTile = true := h
  have n : (d.atInstant t).mode ≠ 0 := m
  simp [begin, k, n]

/-- A sender with no selection instant behind it begins a command with nothing but the instant. -/
theorem begin_sender (h : d.isSender = true) (m : d.enc.selectAt = none) : d.begin t = d.atInstant t := by
  have k : (d.atInstant t).isTile = false := sender_not_tile h
  have n : (d.atInstant t).enc.selectAt = none := m
  simp [begin, settleSelection, k, n]

end Sys2Proof.Machine.Dev
end

