-- ==== Sys2Proof/Laws/Requests.lean ====
section
/-!
SUPPORT. Sys2Proof/Laws/Requests.lean: the road of a request that is admitted (R48): acceptance, the meaning of its
opcode, and the answer.
-/
namespace Sys2Proof.Machine.Dev
open Sys2Proof.Safety

/-- What an admitted request of a row does: it is accepted, its opcode acts, and the answer goes out if there is one. -/
def answered (c : Carrier) (m : Msg) (r : Option (Nat × Bytes) × Dev) : Dev :=
  match r with
  | (some a, e) => e.reply c m a
  | (none, e) => e

theorem bit0_iff (n : Nat) : bit 0 n = decide (n % 2 = 1) := by
  simp [bit]

/-- A row that clears RESP, and perhaps WALL, leaves no other flag set. -/
theorem rowMsg_clear (op k : Nat) (m : Msg) (hk : k = 1 ∨ k = 9) (hn : m.flags < 16) :
    bit 0 (rowMsg op 0 k m).flags = false ∧ (rowMsg op 0 k m).flags < 16 := by
  show bit 0 ((m.flags &&& (255 - k)) ||| 0) = false ∧ (m.flags &&& (255 - k)) ||| 0 < 16
  generalize m.flags = n at hn
  have : n = 0 ∨ n = 1 ∨ n = 2 ∨ n = 3 ∨ n = 4 ∨ n = 5 ∨ n = 6 ∨ n = 7 ∨ n = 8 ∨ n = 9 ∨ n = 10 ∨ n = 11 ∨ n = 12 ∨
      n = 13 ∨ n = 14 ∨ n = 15 := by omega
  rcases hk with rfl | rfl <;>
    rcases this with rfl | rfl | rfl | rfl | rfl | rfl | rfl | rfl | rfl | rfl | rfl | rfl | rfl | rfl | rfl | rfl <;>
    decide

/-- A row that sets WALL and clears RESP leaves no reserved flag set. -/
theorem rowMsg_wall (op : Nat) (m : Msg) (hn : m.flags < 16) :
    bit 0 (rowMsg op 8 1 m).flags = false ∧ (rowMsg op 8 1 m).flags < 16 := by
  show bit 0 ((m.flags &&& 254) ||| 8) = false ∧ (m.flags &&& 254) ||| 8 < 16
  generalize m.flags = n at hn
  have : n = 0 ∨ n = 1 ∨ n = 2 ∨ n = 3 ∨ n = 4 ∨ n = 5 ∨ n = 6 ∨ n = 7 ∨ n = 8 ∨ n = 9 ∨ n = 10 ∨ n = 11 ∨ n = 12 ∨
      n = 13 ∨ n = 14 ∨ n = 15 := by omega
  rcases this with rfl | rfl | rfl | rfl | rfl | rfl | rfl | rfl | rfl | rfl | rfl | rfl | rfl | rfl | rfl | rfl <;>
    decide

/-! ### Acceptance -/

/-- What acceptance leaves alone: everything but the session and the time stamp of the transaction it names. -/
theorem accept_frame (c : Carrier) (m : Msg) (d : Dev) : ∃ p, d.accept c m = { d with pliuk := p } ∧
    p.sessions.length = d.pliuk.sessions.length ∧ p.txns.map (·.phase) = d.pliuk.txns.map (·.phase) ∧
    p.halves = d.pliuk.halves ∧ p.bootOld = d.pliuk.bootOld ∧ p.lastBcast = d.pliuk.lastBcast ∧
    p.lastRefused = d.pliuk.lastRefused ∧ p.nextTxn = d.pliuk.nextTxn := by
  refine ⟨(d.accept c m).pliuk, rfl, ?_⟩
  simp only [accept, setSess, setTxn, setPliuk, List.length_map, List.map_map, true_and, and_true]
  apply List.map_congr_left
  intro x _
  simp only [Function.comp]
  split
  · split <;> rfl
  · rfl

/-- Is an opcode one whose role is judged before its payload (R48)? -/
theorem roleAllows_other (d : Dev) (x : Session) (m : Msg) (h : m.opcode ≠ 4 ∧ m.opcode ≠ 7 ∧ m.opcode ≠ 13) :
    d.roleAllows x m = true := by
  obtain ⟨h4, h7, h13⟩ := h
  unfold roleAllows
  split
  · exact absurd ‹_› h4
  · exact absurd ‹_› h7
  · exact absurd ‹_› h13
  · rfl

/-- An admitted request reaches the meaning of its opcode, where the session's role may make it. -/
theorem receiveAs_admitted {d : Dev} {c : Carrier} {m : Msg} {x : Session} (op set clear : Nat)
    (h : Admitted d c m x) (hf : bit 0 (rowMsg op set clear m).flags = false ∧ (rowMsg op set clear m).flags < 16)
    (ho : op ∈ [1, 2, 3, 4, 5, 6, 7, 8, 10])
    (hr : (d.accept c (rowMsg op set clear m)).roleAllows x (rowMsg op set clear m) = true) :
    d.receiveAs op set clear c m = answered c (rowMsg op set clear m)
      ((d.accept c (rowMsg op set clear m)).perform d.now c { x with peer := c } (rowMsg op set clear m)) := by
  obtain ⟨h1, h2, h3, _, h5, h6, h7, h8, h9⟩ := h
  have hbit : bit 0 ((m.flags &&& (255 - clear)) ||| set) = false := hf.1
  have hl : d.liveSess m.session = some x := by simp [liveSess, h5, h6]
  have hop : d.opcodeOk op = true := by
    simp only [List.mem_cons, List.not_mem_nil, or_false] at ho
    rcases ho with rfl | rfl | rfl | rfl | rfl | rfl | rfl | rfl | rfl <;> rfl
  have e1 : d.receiveAs op set clear c m = d.handleAt d.now c (rowMsg op set clear m) := by
    simp [receiveAs, h1, h2, hbit, rowMsg, handle]
  have n11 : op ≠ 11 := by rintro rfl; simp at ho
  have n12 : op ≠ 12 := by rintro rfl; simp at ho
  have e2 : d.handleAt d.now c (rowMsg op set clear m) = d.inSession d.now c x (rowMsg op set clear m) := by
    unfold handleAt
    have a1 : (rowMsg op set clear m).version = 1 := h3
    have a2 : (rowMsg op set clear m).opcode = op := rfl
    have a3 : (rowMsg op set clear m).session = m.session := rfl
    simp [a1, a2, a3, hop, n11, hl, h7]
  rw [e1, e2]
  have b1 : (rowMsg op set clear m).sequence = m.sequence := rfl
  have b2 : (rowMsg op set clear m).opcode = op := rfl
  have b3 : ¬ (16 ≤ (rowMsg op set clear m).flags) := by omega
  unfold inSession
  rw [b1, b2, if_neg h8, if_neg (by simpa using h9)]
  simp only [h6, hr, n12, b3, false_and, if_false, Bool.false_eq_true, Bool.not_true]
  unfold answered
  rcases (d.accept c (rowMsg op set clear m)).perform d.now c { x with peer := c } (rowMsg op set clear m) with
    ⟨_ | r, e⟩ <;> rfl

end Sys2Proof.Machine.Dev
end

