-- ==== Sys2Proof/Machine/Pins.lean ====
section
/-!
DEFINITION. Sys2Proof/Machine/Pins.lean: the lane settings and the levels of the pins that follow from the state alone: GCLK, SCAN, TRIG, OFF_READY_N
and HSPI_IRQ_N (R44, R276, R277, R288, R297, R310, R391 to R393, R551, R559).
-/
namespace Sys2Proof.Machine

/-- What an equalisation entry sets on a lane (R392). -/
structure LaneEq where
  txMain : Nat
  txPre : Nat
  txPost : Nat
  ctlePeak : Nat
  ctleDc : Nat
  deriving DecidableEq, Repr

/-- The default entry of R393. -/
def laneEqDefault : LaneEq := { txMain := 48, txPre := 4, txPost := 12, ctlePeak := 6, ctleDc := 4 }

/-- An entry from its four bytes (R392). -/
def laneEqOf (b : Bytes) : LaneEq :=
  let c := fieldAt 3 1 b
  { txMain := fieldAt 0 1 b, txPre := fieldAt 1 1 b, txPost := fieldAt 2 1 b, ctlePeak := c / 16, ctleDc := c / 2 % 8 }

/-- The low-frequency swing of a transmitter in 63rds of the maximum swing (R392). -/
def LaneEq.swing (e : LaneEq) : Nat := e.txMain - e.txPre - e.txPost

namespace Dev

/-- The equalisation entry in force for a lane (24: the management lane), rate index and cable class (R391, R393). -/
def laneEq (lane rate cls : Nat) (d : Dev) : LaneEq :=
  match d.withy.eq with
  | none => laneEqDefault
  | some b => laneEqOf (slice (16 + 4 * ((lane * 5 + rate) * 8 + cls)) 4 b)

/-- The settings of lane `i` of Withy port `h` at its present rate (R382, R383). -/
def withyEq (h : PortId) (i : Nat) (d : Dev) : LaneEq :=
  d.laneEq (8 + 4 * h + i) (d.port h).rate (d.obj (K.WITHY_CABLE_CLASS h))

/-- Is the transmitter of a lane inverted (`LANE_TX_INVERT`, Boot class)? -/
def laneTxInverted (lane : Nat) (d : Dev) : Bool := decide (lane < 24) && bit lane (d.bootObj K.LANE_TX_INVERT)

/-- Does GCLKn carry the waveform: bring-up has begun, and its bit of `LDL_GCLK_MASK` is set?  It is held low otherwise
(R276, R551). -/
def gclkRuns (n : Nat) (d : Dev) : Bool := d.isTile && d.ldl.driven && decide (n < 8) && bit n (d.obj K.LDL_GCLK_MASK)

/-- Is row `r` switched on at this instant: in the part of its row slots from count ⌈D_t / 2⌉ on, or in a test slot between
START + ⌈D_t / 2⌉ and START + 2 × D_t + W (R297, R310)? -/
def rowOn (r : Nat) (d : Dev) : Bool :=
  match d.ldl.showing with
  | none => false
  | some x =>
    let c := d.gclkEdges x.mark
    let half := ceilDiv (d.obj K.LDL_DEAD_TIME) 2
    let inSlot := match x.plan, x.na0 with
      | some q, some a =>
        match q.slotAt a c with
        | some (_, k, n) => k == r && decide (ceilDiv q.dead 2 ≤ n)
        | none => false
      | _, _ => false
    inSlot || x.tests.any (fun y => y.1 == r && decide (y.2 + half ≤ c) && decide (c < y.2 + d.testSlot))

/-- The level of SCANk, none at high impedance (R277, R551): row k mod m, at the level that `LDL_SCAN_ACTIVE_LOW` makes
active. -/
def scanOut (k : Nat) (d : Dev) : Option Bool :=
  if !d.isTile || !d.ldl.driven || decide (64 ≤ k) then none
  else some (d.rowOn (k % d.mux) != (d.obj K.LDL_SCAN_ACTIVE_LOW == 1))

/-- The level of TRIGn: low until step 4 has ended, then active or inactive as its pulse and `TRIGn_INVERT` make it (R107,
R552). -/
def trigOut (n : Nat) (d : Dev) : Bool := d.start.trigOn && (d.trigActive n != (d.obj (K.TRIG_INVERT n) == 1))

/-- The level of HSPI_IRQ_N: low while a message waits in the SPI target port (R44). -/
def hspiIrqN (d : Dev) : Bool := d.pliuk.spiOut.isEmpty

/-- The level of OFF_READY_N: low in Off ready alone (R559). -/
def offReadyN (d : Dev) : Bool := d.start.run != .offReady

end Dev
end Sys2Proof.Machine
end

