-- ==== Sys2Proof/WellFormed.lean ====
section
/-!
DEFINITION. Sys2Proof/WellFormed.lean: which commands are well formed: every field within the width that the spec gives it,
every instance within its range.  The meanings take ill-formed commands too; statements about wire formats ask for this.
-/
namespace Sys2Proof

def byteOk (n : Nat) : Bool := decide (n < 2 ^ 8)
def halfOk (n : Nat) : Bool := decide (n < 2 ^ 16)
def wordOk (n : Nat) : Bool := decide (n < 2 ^ 32)
def macOk (n : Nat) : Bool := decide (n < 2 ^ 48)
def uidOk (n : Nat) : Bool := decide (n < 2 ^ 64)
/-- A value of the widest object type, U64 (R26). -/
def valueOk (n : Nat) : Bool := decide (n < 2 ^ 64)
/-- A dictionary key: 16-bit index, 8-bit subindex. -/
def keyOk (n : Nat) : Bool := decide (n < 2 ^ 24)
/-- Withy ports 0 to 3, ingest ports 0 to 7. -/
def portOk (n : Nat) : Bool := decide (n < 4)
def ingressOk (n : Nat) : Bool := decide (n < 8)
def laneOk (n : Nat) : Bool := decide (n < 4)
def slotOk (n : Nat) : Bool := decide (n < 16)
def legOk (n : Nat) : Bool := decide (n < 2)
def pathOk (n : Nat) : Bool := decide (n < 2)
def facetOk (n : Nat) : Bool := decide (n < 4)
def strandOk (n : Nat) : Bool := decide (n < 32)
def posOk (n : Nat) : Bool := decide (n < 24)
def rowOk (n : Nat) : Bool := decide (n < 32)
def ovlOk (n : Nat) : Bool := decide (n < 4)
def chanOk (n : Nat) : Bool := decide (n < 8)
def dieOk (n : Nat) : Bool := decide (n < 4)
def bankOk (n : Nat) : Bool := decide (n < 16)
/-- Steps of a settings write (R514). -/
def stopOk (n : Nat) : Bool := decide (n ≤ 4)

/-- Header fields of R45 and the trailer of R47, in their widths. -/
def Msg.wf (m : Msg) : Bool :=
  byteOk m.version && byteOk m.flags && byteOk m.opcode && byteOk m.status && wordOk m.session && wordOk m.sequence &&
    wordOk m.txn && wordOk m.length && wordOk m.crc

def Carrier.wf : Carrier → Bool
  | .mgmt addr udp => wordOk addr && halfOk udp
  | .ctl port => portOk port
  | .spi => true

def Chunk.wf (b : Chunk) : Bool := wordOk b.offset && wordOk b.total

def PtpMsg.wf (m : PtpMsg) : Bool :=
  byteOk m.domain && uidOk m.source.1 && halfOk m.source.2 && halfOk m.sequence && uidOk m.gm && byteOk m.priority1 &&
    byteOk m.clockClass && byteOk m.accuracy && halfOk m.variance && byteOk m.priority2 && halfOk m.stepsRemoved &&
    halfOk m.frameLen

def RowSegment.wf (r : RowSegment) : Bool :=
  decide (r.line < 2 ^ 15) && decide (r.offset < 2 ^ 15) && halfOk r.octets.length

def RtpPkt.wf (p : RtpPkt) : Bool :=
  wordOk p.dst && wordOk p.src && halfOk p.udp && halfOk p.frameLen && decide (p.version < 4) && halfOk p.sequence &&
    halfOk p.extended && wordOk p.timestamp && p.segments.all RowSegment.wf

/-- W0 fields and words of R279 to R281. -/
def LdlPkt.wf (p : LdlPkt) : Bool :=
  decide (p.opcode < 16) && decide (p.addr < 32) && decide (p.count < 32) && p.words.all halfOk && halfOk p.crc

def SenseReading.wf (r : SenseReading) : Bool := decide (r.conv < 9) && decide (r.input < 16)

/-- START and TERMINATE fields of R403 and R404. -/
def Packet.wf (p : Packet) : Bool :=
  byteOk p.cls && byteOk p.hops && byteOk p.target && byteOk p.flags && byteOk p.startZero && halfOk p.len &&
    wordOk p.crc && byteOk p.term

def StrandResult.wf (r : StrandResult) : Bool :=
  strandOk r.strand && r.counter.all halfOk && halfOk r.sweeps && halfOk r.fails && decide (r.idents.length ≤ 24) &&
    r.idents.all (fun l => l.all halfOk)

def LampVolt.wf (x : LampVolt) : Bool := decide (x.ch < 48)

/-- A byte address of the flat space with every channel of a sender trained. -/
def flatOk (a : Nat) : Bool := decide (a < 8 * 1409286144)

def EccEvent.wf (e : EccEvent) : Bool := chanOk e.ch && e.words.all (fun w => decide (w.1 < 8))

def PoisonAt.wf (a : PoisonAt) : Bool := flatOk a.addr

def ReadFault.wf : ReadFault → Bool
  | .sound => true
  | .poisoned a => a.wf
  | .reference a col => a.wf && halfOk col
  | .correction a px => a.wf && halfOk px
  | .failing store => byteOk store

def WaleRead.wf (x : WaleRead) : Bool := x.fault.wf && x.corrected.all flatOk && x.fixed.all byteOk

def FoldReads.wf (x : FoldReads) : Bool := x.poisoned.all (fun y => y.2.wf) && x.corrected.all flatOk

def Kept.wf : Kept → Bool
  | .offset j => decide (j < 4)
  | .overlay k => decide (k < 4)
  | _ => true

def StepResult.wf (r : StepResult) : Bool :=
  decide (r.training.length ≤ 8) && decide (r.ranges.length ≤ 4) && decide (r.counts.length ≤ 8) && decide (r.retrain.length ≤ 8) &&
    r.calFail.all (fun n => decide (n < 2))

/-- Is a command well formed? -/
def Instr.wf : Instr → Bool
  | .read _ c m => c.wf && m.wf
  | .write _ c m => c.wf && m.wf
  | .readBlock _ c m => c.wf && m.wf
  | .writeBlock _ c m => c.wf && m.wf
  | .begin _ c m => c.wf && m.wf
  | .commit _ c m => c.wf && m.wf
  | .wallCommit _ c m => c.wf && m.wf
  | .rollback _ c m => c.wf && m.wf
  | .status _ c m => c.wf && m.wf
  | .notifyAck _ c m => c.wf && m.wf
  | .subscribe _ c m => c.wf && m.wf
  | .authChallenge _ c m => c.wf && m.wf
  | .authResponse _ c m => c.wf && m.wf
  | .broadcastWrite _ c m => c.wf && m.wf
  | .pairExpired _ key => keyOk key
  | .txnTimeout _ txn => wordOk txn
  | .sessionIdleTimeout _ sid => wordOk sid
  | .authResponseTimeout _ sid => wordOk sid
  | .authLockoutExpiry _ src => src.wf
  | .blobStagingTimeout _ sid key => wordOk sid && keyOk key
  | .notifyRetryTimeout _ sid seq => wordOk sid && wordOk seq
  | .notifyIntervalExpiry _ sid key => wordOk sid && keyOk key
  | .commitValidationEnd _ txn => wordOk txn
  | .wallCommitApplyAtW _ => true
  | .relayDatagram _ src uid m => src.wf && uidOk uid && m.wf
  | .ctlFromTile _ port p => portOk port && p.wf
  | .spiMessageWrite _ m => m.wf
  | .spiMessageRead _ => true
  | .spiPortStatus _ => true
  | .spiReservedOperation _ op => byteOk op
  | .settingsWrite _ stopAfter => stopOk stopAfter
  | .ctlBroadcast _ port p => portOk port && p.wf
  | .ctlToTile _ port p => portOk port && p.wf
  | .ptpSyncReceived _ port m => ingressOk port && m.wf
  | .ptpFollowUpReceived _ port m => ingressOk port && m.wf
  | .ptpAnnounceReceived _ port m => ingressOk port && m.wf
  | .ptpDelayRespReceived _ port m => ingressOk port && m.wf
  | .delayReqSend _ port _ => ingressOk port
  | .announceReceiptTimeout _ port => ingressOk port
  | .holdoverLimitExpiry _ => true
  | .timeLocked _ => true
  | .syncLossTimeout _ => true
  | .timeSourceSwitch _ => true
  | .withySyncSend _ tx => portOk tx.port
  | .withyAnnounceSend _ port => portOk port
  | .pdelayReqSend _ port _ => portOk port
  | .timSyncReceived _ port p _ _ => portOk port && p.wf
  | .timAnnounceReceived _ port p => portOk port && p.wf
  | .pdelayReqReceived _ port p _ _ => portOk port && p.wf
  | .pdelayRespReceived _ port p _ => portOk port && p.wf
  | .pairSyncReceived _ port p _ => portOk port && p.wf
  | .pairOffsetFault _ => true
  | .dirCheckFault _ => true
  | .timeBaseCheck _ _ _ => true
  | .captureEdge _ n _ _ => decide (n < 8)
  | .shutterOpenTimeout _ n => decide (n < 8)
  | .capFifoRead _ c m => c.wf && m.wf
  | .trigModeWrite _ sid n v => wordOk sid && decide (n < 8) && valueOk v
  | .triggerEdge _ n => decide (n < 8)
  | .senseConversionTrigger _ codes _ => codes.all SenseReading.wf
  | .thermalLoopTrigger _ => true
  | .latchPoint _ u => u.now.all Kept.wf && u.after.all Kept.wf
  | .facetBoundary _ => true
  | .ingestRtpPacket _ port p => ingressOk port && p.wf
  | .ingestArpRequest _ frame target sender senderMac =>
      ingressOk frame.port && wordOk target && wordOk sender && macOk senderMac && decide (frame.length < 65536)
  | .ingestIcmpEcho _ frame dst src data =>
      ingressOk frame.port && wordOk dst && wordOk src && decide (data.length < 65536) && decide (frame.length < 65536)
  | .frameIncompleteTimeout _ slot => slotOk slot
  | .legLossTimeout _ slot leg => slotOk slot && legOk leg
  | .stillDataWrite _ sid n b => wordOk sid && decide (n < 16) && b.wf
  | .stillCapture _ sid n v => wordOk sid && decide (n < 16) && valueOk v
  | .stillCaptureInstant _ n => decide (n < 16)
  | .stillCaptureTimeout _ n => decide (n < 16)
  | .stillRelease _ sid n v => wordOk sid && decide (n < 16) && valueOk v
  | .encodeWale _ port dist wale met => portOk port && byteOk dist && halfOk wale && met.wf
  | .waleDeadline _ port dist wale => portOk port && byteOk dist && halfOk wale
  | .pixFragmentReceived _ port p _ => portOk port && p.wf
  | .decodeWale _ path frame facet wale met => pathOk path && wordOk frame && facetOk facet && halfOk wale && met.wf
  | .pathSelectionClose _ wale => halfOk wale
  | .lossHoldExpiry _ => true
  | .prismWaleDone _ wale met => halfOk wale && met.wf
  | .waleLoad _ wale => halfOk wale
  | .waleLoadDeadline _ wale => halfOk wale
  | .flpSend _ port _ => portOk port
  | .flpReceived _ port p => portOk port && p.wf
  | .timgDataWrite _ sid i b => wordOk sid && decide (i < 2) && b.wf
  | .timgClear _ sid i v => wordOk sid && decide (i < 2) && valueOk v
  | .prismCalImage _ sid b _ => wordOk sid && b.wf
  | .prismCalErase _ sid v => wordOk sid && valueOk v
  | .canvasDerivationDone _ => true
  | .ldlBringupDone _ results => results.all StrandResult.wf
  | .sretEcho _ strand words => strandOk strand && words.all halfOk
  | .echoTimeout _ strand => strandOk strand
  | .brokenProbe _ strand answer => strandOk strand && answer.all (fun ws => ws.all halfOk)
  | .diagRead _ => true
  | .lampVerifyExpiry _ lamp => wordOk lamp
  | .lampClear _ sid v => wordOk sid && valueOk v
  | .writeRow _ strand pos p => strandOk strand && posOk pos && p.wf
  | .setPlan _ strand pos p => strandOk strand && posOk pos && p.wf
  | .flip _ strand pos p => strandOk strand && posOk pos && p.wf
  | .setRange _ strand pos p => strandOk strand && posOk pos && p.wf
  | .blank _ strand pos p => strandOk strand && posOk pos && p.wf
  | .unblank _ strand pos p => strandOk strand && posOk pos && p.wf
  | .test _ strand pos p => strandOk strand && posOk pos && p.wf
  | .readDiagRowFlags _ strand pos p => strandOk strand && posOk pos && p.wf
  | .readDiagStatus _ strand pos p => strandOk strand && posOk pos && p.wf
  | .readDiagIdent _ strand pos p => strandOk strand && posOk pos && p.wf
  | .readDiagReserved _ strand pos p => strandOk strand && posOk pos && p.wf
  | .enumerate _ strand pos p => strandOk strand && posOk pos && p.wf
  | .ldlReservedOpcode _ strand pos p => strandOk strand && posOk pos && p.wf
  | .gclkMark _ strand pos => strandOk strand && posOk pos
  | .bankExchange _ strand pos => strandOk strand && posOk pos
  | .litIntervalEnd _ strand pos row _ volts => strandOk strand && posOk pos && rowOk row && volts.all LampVolt.wf
  | .testPulse _ strand pos volts => strandOk strand && posOk pos && volts.all LampVolt.wf
  | .ovlLoad _ sid body => wordOk sid && decide (body.length = 103)
  | .ovlActivate _ sid body => wordOk sid && decide (body.length = 103)
  | .ovlDeactivate _ sid body => wordOk sid && decide (body.length = 103)
  | .ovlClear _ sid body => wordOk sid && decide (body.length = 103)
  | .ovlDeactivateAll _ sid body => wordOk sid && decide (body.length = 103)
  | .ovlReservedCmd _ sid cmd body => wordOk sid && byteOk cmd && decide (body.length = 103)
  | .ovlDataWrite _ sid k b => wordOk sid && ovlOk k && b.wf
  | .ledgerFold _ reads => reads.wf
  | .checkpointComplete _ _ => true
  | .ledgCheckpointNow _ sid v => wordOk sid && valueOk v
  | .ledgFormat _ sid v => wordOk sid && valueOk v
  | .ledgLampReset _ sid v => wordOk sid && valueOk v
  | .ledgTileCeilingReset _ sid v => wordOk sid && valueOk v
  | .ceilingRequestResend _ => true
  | .ctlCeilingRequest _ port p => portOk port && p.wf
  | .ceilingRequestExpiry _ uid => uidOk uid
  | .senseCalStepEnd _ _ => true
  | .snsCalStart _ sid v => wordOk sid && valueOk v
  | .senseStartCalDone _ results => decide (results.length = 9)
  | .thermalInputFailTimeout _ slot => decide (slot < 4)
  | .pdDarkCapture _ sid i => wordOk sid && decide (i < 16)
  | .pdBaselineCapture _ sid i => wordOk sid && decide (i < 16)
  | .pdDarkCaptureDone _ i => decide (i < 16)
  | .laneLockGained _ port lane a => portOk port && laneOk lane && laneOk a.lane
  | .laneLockLost _ link lane midPacket => portOk link.port && laneOk lane && midPacket.all Packet.wf
  | .helloReceived _ port p => portOk port && p.wf
  | .helloSend _ port => portOk port
  | .stepLockTimeout _ port => portOk port
  | .stepVerifyEnd _ link => portOk link.port
  | .chkPatternReceived _ port p => portOk port && p.wf
  | .helloTimeout _ port => portOk port
  | .attemptBackoffExpiry _ port => portOk port
  | .darkBeacon _ port _ => portOk port
  | .withyRetrain _ sid h v => wordOk sid && portOk h && valueOk v
  | .withyEnable _ sid h v => wordOk sid && portOk h && valueOk v
  | .stepUpRetry _ port => portOk port
  | .eqTableWrite _ sid b => wordOk sid && b.wf
  | .slackColumnReceived _ port _ => portOk port
  | .slackSend _ port => portOk port
  | .alignSend _ port => portOk port
  | .grantRunOpen _ tx => portOk tx.port
  | .grantReceived _ port run => portOk port && decide (run.n < 65536)
  | .grantTimeout _ port => portOk port
  | .chkSend _ link => portOk link.port
  | .chkReceived _ port p => portOk port && p.wf
  | .unknownClassPacket _ port p => portOk port && p.wf
  | .enumSend _ port => portOk port
  | .enumReceived _ port p => portOk port && p.wf
  | .enumReceivedSender _ port p => portOk port && p.wf
  | .hoopOpenTimeout _ port => portOk port
  | .enumPortTimeout _ port => portOk port
  | .partnerFlpReceived _ port p => portOk port && p.wf
  | .pairTakeover _ sid v => wordOk sid && valueOk v
  | .partnerSilentTimeout _ => true
  | .partnerFreerunTimeout _ => true
  | .pairJoinWaitExpiry _ => true
  | .pairStateConfirm _ sid v => wordOk sid && valueOk v
  | .retrainEpoch _ ch _ => chanOk ch
  | .mr4Read _ die range => dieOk die && decide (range < 8)
  | .setpointChange _ target _ => decide (target < 4)
  | .perBankRefresh _ ch bank _ => chanOk ch && bankOk bank
  | .patrolScrub _ e => e.wf
  | .selfRefreshEntry _ => true
  | .cuClaim _ sid n v => wordOk sid && decide (n < 4) && valueOk v
  | .cuAlgorithm _ sid n v => wordOk sid && decide (n < 4) && valueOk v
  | .cuInit _ sid n v => wordOk sid && decide (n < 4) && valueOk v
  | .cuFeed8 _ sid n v => wordOk sid && decide (n < 4) && valueOk v
  | .cuFeed16 _ sid n v => wordOk sid && decide (n < 4) && valueOk v
  | .cuFeed32 _ sid n v => wordOk sid && decide (n < 4) && valueOk v
  | .cuFeed64 _ sid n v => wordOk sid && decide (n < 4) && valueOk v
  | .cuState _ sid n v => wordOk sid && decide (n < 4) && valueOk v
  | .updImage _ sid b => wordOk sid && b.wf
  | .updVerifyDone _ _ => true
  | .updChunkTimeout _ => true
  | .updActivate _ sid v => wordOk sid && valueOk v
  | .updPreparationDone _ => true
  | .updTrialEntry _ => true
  | .updConfirm _ sid v => wordOk sid && valueOk v
  | .updAbort _ sid v => wordOk sid && valueOk v
  | .updTrialExpiry _ => true
  | .flogPersistWrite _ => true
  | .flogClear _ sid v => wordOk sid && valueOk v
  | .stageStall _ stage port dist wale => byteOk stage && portOk port && byteOk dist && halfOk wale
  | .lockstepDivergence _ poisoned => poisoned.all PoisonAt.wf
  | .controlRestartDone _ => true
  | .controlRestartTimeout _ => true
  | .avsAdjust _ _ _ => true
  | .avsRead _ _ => true
  | .configScrub _ store _ => byteOk store
  | .configReloadDone _ store => byteOk store
  | .integClearSafe _ sid v _ _ => wordOk sid && valueOk v
  | .otpSafetyKey _ sid key => wordOk sid && decide (key.length = 32)
  | .otpKeyRevoke _ sid v => wordOk sid && valueOk v
  | .resetRelease _ _ => true
  | .resetAssert _ _ => true
  | .startStepComplete _ r => r.wf
  | .modeCommitTimeout _ => true
  | .standbyRequest _ => true
  | .standbyExitRequest _ => true
  | .offRequest _ => true
  | .offReady _ => true
  | .powerLoss _ => true
  | .driverPowerOn _ strand pos => strandOk strand && posOk pos
  | .slackInsert _ slot => portOk slot.port
  | .blockError _ place => portOk place.port && decide (place.types.length = 4) && place.types.all (fun x => x.all byteOk) &&
      place.packet.all Packet.wf
  | .ingestLinkChange _ port _ => ingressOk port
  | .mgmtLinkChange _ _ => true
  | .igmpMembershipReport _ port => ingressOk port
  | .broadcastApplyAtW _ => true
  | .updActivationInstant _ => true

end Sys2Proof
end

