-- ==== Sys2Proof/Tests/Slice0.lean ====
section
/-!
SUPPORT. Sys2Proof/Tests/Slice0.lean: the model's own tests.
`test_…` check the model against values that the spec states, and show that each well-formedness check refuses an
ill-formed term.  `wit_…` show, for each obligation with hypotheses, concrete states and operands that meet all the
hypotheses of each of its clauses together.
-/
namespace Sys2Proof.Tests

open Sys2Proof.Machine Sys2Proof.Safety

/- One theorem after the other: elaborated side by side, the evaluations below need a thread each. -/
set_option Elab.async false

/-! ### Small devices -/

/-- The instant the commands of the witnesses arrive at: 100 s. -/
abbrev at100 : Time := 100000000000

def theSession (role : Nat) : Session :=
  { id := 1, role := role, halfOpen := false, source := .spi, peer := .spi, hostNonce := [], devNonce := [], since := 0,
    lastSeq := 0, cached := none, lastHeard := 0, notifySeq := 1, queue := [], subs := [], unacked := [] }

/-- A device of a personality in a power state, with one session of a role. -/
def device (p : Pers) (run : Run) (role : Nat) : Dev :=
  let d := Dev.fresh { Fixed.reset with fuses := { Fixed.reset.fuses with pers := p } } Flash.erased 0
  { d with
    start := { d.start with run := run }
    pliuk := { d.pliuk with sessions := [theSession role] } }

def tileOf (role : Nat) : Dev := (device .tile .armed role).setObj K.INTEG_STATE 1
def senderOf (role : Nat) : Dev := (device .sender .armed role).setObj K.INTEG_STATE 1
def tile : Dev := tileOf roleService
def sender : Dev := senderOf roleService

/-- The device as a command at 100 s finds it. -/
def now (d : Dev) : Dev := d.begin at100

def svc : Session := theSession roleService

/-- A request of session 1 with the next sequence. -/
def request (txn : Nat) (payload : Bytes) : Msg :=
  let m : Msg :=
    { version := 1, flags := 0, opcode := 0, status := 0, session := 1, sequence := 1, txn := txn,
      length := payload.length, payload := payload, crc := 0 }
  { m with crc := msgTrailer m }

/-- The same message of another session, with another sequence. -/
def requestOf (sid seq : Nat) (payload : Bytes) : Msg :=
  let m := { request 0 payload with session := sid, sequence := seq }
  { m with crc := msgTrailer m }

theorem scalarOpen_of {d : Dev} {sid k v : Nat} {x : Session}
    (h : (d.controlRuns && d.sess sid == some x && !x.halfOpen && d.carrierOpen x.peer && d.reaches k &&
      (d.scalarRefused (Dev.writerOf x false) k v).isNone && !d.deviceRefuses k && !d.lockedFor x.id k) = true) :
    ScalarOpen d sid k v x := by
  simp only [Bool.and_eq_true, Bool.not_eq_true', beq_iff_eq, Option.isNone_iff_eq_none] at h
  exact ⟨⟨h.1.1.1.1.1.1.1, h.1.1.1.1.1.1.2, h.1.1.1.1.1.2, h.1.1.1.1.2, h.1.1.1.2⟩, h.1.1.2, h.1.2, h.2⟩

theorem chunkOpen_of {d : Dev} {sid k : Nat} {b : Chunk} {x : Session}
    (h : (d.controlRuns && d.sess sid == some x && !x.halfOpen && d.carrierOpen x.peer && d.reaches k &&
      (d.entryRefused (Dev.writerOf x false) k).isNone && (findDef d.pers k).any (fun o => o.ty == .blob) &&
      Dev.chunkSized b && k != K.UPD_IMAGE && k != K.OVL_COMMAND && !d.deviceRefuses k &&
      !d.loadingFor x.id 0 k && !d.lockedFor x.id k &&
      (!d.persists k || (d.updState != 5 && d.updState != 6))) = true) : ChunkOpen d sid k b x := by
  simp only [Bool.and_eq_true, Bool.not_eq_true', beq_iff_eq, Option.isNone_iff_eq_none, Bool.or_eq_true,
    bne_iff_ne, ne_eq, Option.any_eq_true] at h
  obtain ⟨⟨⟨⟨⟨⟨⟨⟨⟨⟨⟨⟨⟨a, b⟩, c⟩, e⟩, f⟩, g⟩, i⟩, j⟩, l⟩, l'⟩, m⟩, n'⟩, n⟩, o⟩ := h
  exact ⟨⟨a, b, c, e, f⟩, g, i, j, l, l', m, n', n, o⟩

theorem overlayOpen_of {d : Dev} {sid : Nat} {x : Session}
    (h : (d.controlRuns && d.sess sid == some x && !x.halfOpen && d.carrierOpen x.peer && d.reaches K.OVL_COMMAND &&
      (d.entryRefused (Dev.writerOf x false) K.OVL_COMMAND).isNone &&
      (findDef d.pers K.OVL_COMMAND).any (fun o => o.ty == .blob) && !d.deviceRefuses K.OVL_COMMAND &&
      !d.lockedFor x.id K.OVL_COMMAND &&
      (!d.persists K.OVL_COMMAND || (d.updState != 5 && d.updState != 6))) = true) : OverlayOpen d sid x := by
  simp only [Bool.and_eq_true, Bool.not_eq_true', beq_iff_eq, Option.isNone_iff_eq_none, Bool.or_eq_true,
    bne_iff_ne, ne_eq, Option.any_eq_true] at h
  obtain ⟨⟨⟨⟨⟨⟨⟨⟨⟨a, b⟩, c⟩, e⟩, f⟩, g⟩, i⟩, j⟩, l⟩, m⟩ := h
  exact ⟨⟨a, b, c, e, f⟩, g, i, j, l, m⟩

/-! ### Long byte strings -/

theorem crcBit_lt {r : Nat} (h : r < 2 ^ 32) : crcBit (crcAlg 2) r < 2 ^ 32 := by
  have hp : (crcAlg 2).poly < 2 ^ 32 := by decide
  unfold crcBit
  rw [if_pos (show (crcAlg 2).reflected = true by decide)]
  split
  · exact Nat.xor_lt_two_pow (by omega) hp
  · omega

theorem crcBits_lt : ∀ (n : Nat) {r : Nat}, r < 2 ^ 32 → crcBits (crcAlg 2) n r < 2 ^ 32
  | 0, _, h => h
  | n + 1, _, h => crcBits_lt n (crcBit_lt h)

theorem crcFeed_lt : ∀ (b : Bytes) {r : Nat}, r < 2 ^ 32 → crcFeed (crcAlg 2) r b < 2 ^ 32
  | [], _, h => h
  | x :: b, r, h => by
    refine crcFeed_lt b (crcBits_lt 8 ?_)
    rw [if_pos (show (crcAlg 2).reflected = true by decide)]
    exact Nat.xor_lt_two_pow h (by have := x.isLt; omega)

theorem crc32c_lt (b : Bytes) : crc32c b < 2 ^ 32 :=
  Nat.xor_lt_two_pow (crcFeed_lt b (by decide)) (by decide)

theorem beVal_be4 {v : Nat} (h : v < 2 ^ 32) : beVal (be 4 v) = v := by
  simp [be, beVal, Nat.shiftRight_eq_div_pow]
  omega

/-- An equaliser table whose entries are all zero. -/
def eqTable : Bytes := be 4 0x56455131 ++ be 2 1 ++ be 2 0 ++ be 4 0 ++ be 4 (crc32c (zeros 4000)) ++ zeros 4000

theorem slice_zeros {p n : Nat} (h : p + 4 ≤ n) : slice p 4 (zeros n) = zeros 4 := by
  unfold slice zeros
  rw [List.drop_replicate, List.take_replicate, show min 4 (n - p) = 4 by omega]

theorem eqTable_ok : eqTableOk eqTable = true := by
  have h1 : eqTable.drop 16 = zeros 4000 := rfl
  have h2 : slice 12 4 eqTable = be 4 (crc32c (zeros 4000)) := rfl
  have h3 : ∀ i, i < 1000 → slice (16 + 4 * i) 4 eqTable = zeros 4 := by
    intro i hi
    rw [← slice_zeros (p := 4 * i) (n := 4000) (by omega), ← h1]
    simp [slice, List.drop_drop]
  have h4 : slice 0 4 eqTable = be 4 0x56455131 := rfl
  have h5 : slice 4 2 eqTable = be 2 1 := rfl
  have h6 : slice 6 2 eqTable = be 2 0 := rfl
  have h7 : eqTable.length = 4016 := by
    unfold eqTable zeros
    rw [List.length_append, List.length_replicate]
    rfl
  unfold eqTableOk fieldAt
  rw [h2, h1, h4, h5, h6, h7, beVal_be4 (crc32c_lt _)]
  simp only [Bool.and_eq_true, beq_self_eq_true, List.all_eq_true, List.mem_range]
  refine ⟨⟨⟨⟨⟨trivial, by decide⟩, by decide⟩, by decide⟩, trivial⟩, ?_⟩
  intro i hi
  rw [h3 i hi]
  decide

/-- A packet that the model builds with a body of 1 to 1,552 bytes passes. -/
theorem mkPacket_passes {c g f : Nat} {b : Bytes} (h1 : 1 ≤ b.length) (h2 : b.length ≤ 1552) (h3 : f < 4) :
    pktPasses (mkPacket c g f b) = true := by
  simp [pktPasses, pktSound, pktStomped, mkPacket, pktCrc, pktCovered, bit, h1, h2, h3]

/-! ### The machine and Pliuk (00_scope.md, 02_control.md) -/

theorem wit_StepRunsTheCommandInFront :
    ({ dev := tile, pending := [.powerLoss 1, .offReady 2] } : State).pending = .powerLoss 1 :: [.offReady 2] := by
  decide +kernel

theorem wit_AnEmptyQueueIdles : State.reset.pending = [] := by
  decide +kernel

theorem wit_FixedStorageSurvivesEveryStep :
    (∃ u, step { dev := tile, pending := [.powerLoss at100] } = .next u) ∧ tile.fix.fuses = Fixed.reset.fuses ∧
      tile.events = [] := by
  refine ⟨⟨_, rfl⟩, ?_, ?_⟩ <;> decide +kernel

theorem wit_HaltedIsLeftOnlyByResetOrPower :
    (device .tile .halted 5).start.run = .halted ∧ (device .tile .halted 5).events = [] ∧
      (∀ t w, Instr.facetBoundary 7 ≠ .resetAssert t w) ∧ ∀ t, Instr.facetBoundary 7 ≠ .powerLoss t := by
  refine ⟨by decide +kernel, by decide +kernel, ?_, ?_⟩ <;> intros <;> simp

theorem wit_NothingHappensWithoutPowerOrInReset :
    (device .tile .off 5).start.run = .off ∧ (device .sender .inReset 5).start.run = .inReset ∧
      (device .sender .inReset 5).events = [] ∧
      (∀ t x, Instr.offReady 7 ≠ .resetRelease t x) ∧ (∀ t w, Instr.offReady 7 ≠ .resetAssert t w) ∧
      ∀ t, Instr.offReady 7 ≠ .powerLoss t := by
  refine ⟨by decide +kernel, by decide +kernel, by decide +kernel, ?_, ?_, ?_⟩ <;> intros <;> simp

theorem wit_ACommandFollowsUpOnlyWhatIsDue :
    (∃ u, exec (.powerLoss at100) { dev := tile, pending := [] } = .next u) ∧
      NothingDue (now (device .tile .inReset 5)) ∧
      (now (device .tile .inReset 5)).fix = (device .tile .inReset 5).fix := by
  exact ⟨⟨_, rfl⟩, Or.inl (by decide +kernel), by decide +kernel⟩

/-- READ of two references, READ_BLOCK of a capture FIFO at both ends of its length, and SUBSCRIBE of one entry. -/
theorem wit_ReadsAndSubscriptionsAreAnswered :
    let refs := be 2 2 ++ be 2 0 ++ Dev.refBytes K.INTEG_STATE ++ Dev.refBytes K.FLOG_CLEAR
    let block := fun (len : Nat) => Dev.refBytes (K.CAP_FIFO 7) ++ be 4 0 ++ be 4 len
    let entry := be 2 1 ++ be 2 0 ++ be 1 0 ++ be 3 0 ++ be 4 0
    Admitted (now sender) .spi (request 0 refs) svc ∧
      parseRefs refs = some [K.INTEG_STATE, K.FLOG_CLEAR] ∧
    Admitted (now sender) .spi (request 0 (block 1)) svc ∧ Admitted (now sender) .spi (request 0 (block 1024)) svc ∧
      ((now sender).reachDef (K.CAP_FIFO 7)).any (fun o => o.acc .sender != .wo && o.ty == .blob) = true ∧
      (now sender).pers = .sender ∧ K.CAP_FIFO 7 < 2 ^ 24 ∧ ¬ (now sender).baseRun = .standby ∧
    Admitted (now sender) .spi (request 0 entry) svc ∧ countOf entry = some 1 ∧ entry.length = 4 + 8 * 1 ∧
      (now sender).baseRun ≠ .startFailed := by
  unfold Admitted
  decide +kernel

theorem wit_StatusAnswersTheBlockOfR52 :
    Admitted (now tile) .spi (request 0 []) svc ∧ (request 0 []).payload = [] ∧ (now tile).armedTxn = none := by
  unfold Admitted
  decide +kernel

/-- A transaction of session 1 in a phase. -/
def theTxn (phase : Phase) : Txn :=
  { number := 9, session := 1, timeoutMs := 1000, lastMsg := at100 - 1000000000, phase := phase, entries := [],
    request := none, intact := true }

def withTxn (y : Txn) (d : Dev) : Dev := d.setPliuk (fun p => { p with txns := [y], nextTxn := 10 })

/-- BEGIN with a timeout of 0, 100 and 60,000 ms; WRITE outside and inside a transaction; WRITE_BLOCK of one chunk. -/
theorem wit_TransactionsOpenAndWritesAreTaken :
    let es := be 2 1 ++ be 2 0 ++ Dev.refBytes K.SESSION_IDLE_TIMEOUT ++ be 1 3 ++ be 1 0 ++ be 2 4 ++ be 4 60
    let chunk := Dev.refBytes K.KEY_OBSERVER ++ be 4 0 ++ be 4 32 ++ zeros 32
    let e := now (withTxn (theTxn .staging) tile)
    let half := e.setPliuk (fun p => { p with stages :=
      [{ key := K.EQ_TABLE, session := 1, txn := 9, total := 4016, data := zeros 4000, lastChunk := at100 }] })
    (∀ ms ∈ [0, 100, 60000], Admitted (now tile) .spi (request 0 (be 4 ms)) svc ∧
        ((now tile).accept .spi (rowMsg 5 0 1 (request 0 (be 4 ms)))).openTxn 1 = none ∧
        (((now tile).accept .spi (rowMsg 5 0 1 (request 0 (be 4 ms)))).pliuk.txns.filter (fun y => y.isOpen)).length < 4) ∧
      (now tile).obj K.INTEG_STATE = 1 ∧ (now tile).writesShut = false ∧
    Admitted (now tile) .spi (request 0 es) svc ∧ (parseWrites es).isSome = true ∧ (request 0 es).txn = 0 ∧
    Admitted e .spi (request 9 es) svc ∧ (request 9 es).txn ≠ 0 ∧
      (e.accept .spi (rowMsg 2 0 1 (request 9 es))).openTxn 1 = some { theTxn .staging with lastMsg := at100 } ∧
      ((e.accept .spi (rowMsg 2 0 1 (request 9 es))).stagingOf (theTxn .staging) none).length = 0 ∧
      (e.accept .spi (rowMsg 2 0 1 (request 9 es))).stagedBytes [⟨K.SESSION_IDLE_TIMEOUT, 60, none⟩] ≤ 65536 ∧
      ((half.accept .spi (rowMsg 2 0 1 (request 9 es))).stagingOf (theTxn .staging) none).map (fun z => z.data.length) =
        [4000] ∧
    Admitted (now tile) .spi (request 0 chunk) svc ∧
      parseChunk (bit 2 (rowMsg 4 0 1 (request 0 chunk)).flags) chunk =
        some (K.KEY_OBSERVER, { offset := 0, total := 32, more := false, data := zeros 32 }) ∧
      (now tile).reaches K.KEY_OBSERVER = true ∧
      (((now tile).accept .spi (rowMsg 4 0 1 (request 0 chunk))).writeChunk (Dev.writerOf svc false) K.KEY_OBSERVER
        { offset := 0, total := 32, more := false, data := zeros 32 } true).1 = Status.OK := by
  unfold Admitted
  decide +kernel

/-- COMMIT, the wall commit with the least lead, ROLLBACK, the end of validation and an armed commit at W. -/
theorem wit_CommitsAndRollbacks :
    let e := now (withTxn (theTxn .staging) tile)
    let y := { theTxn .staging with lastMsg := at100 }
    let w := be 8 (at100 + 20000000)
    let v := { theTxn .validating with request := some (.spi, request 9 []) }
    (Admitted e .spi (request 9 []) svc ∧ e.writesShut = false ∧ y.phase = .staging ∧ y.session = svc.id ∧
      y.number = (request 9 []).txn ∧ (e.accept .spi (rowMsg 6 0 9 (request 9 []))).openTxn 1 = some y ∧
      (e.accept .spi (rowMsg 6 0 9 (request 9 []))).txnFail y false = none) ∧
    (Admitted e .spi (request 9 w) svc ∧ at100 + 20000000 < 2 ^ 48 ∧
      (e.accept .spi (rowMsg 6 8 1 (request 9 w))).openTxn 1 = some y ∧
      (e.accept .spi (rowMsg 6 8 1 (request 9 w))).armedTxn = none ∧
      wallDiff (at100 + 20000000) e.wall = 20000000 ∧ wallDiff (at100 + 60000000000) e.wall = 60000000000 ∧
      (e.accept .spi (rowMsg 6 8 1 (request 9 w))).txnFail y true = none) ∧
    (e.accept .spi (rowMsg 7 0 1 (request 9 []))).txnBy 9 = some y ∧
    ((now (withTxn v tile)).controlRuns = true ∧ (now (withTxn v tile)).txnBy 9 = some v ∧ v.phase = .validating ∧
      v.request = some (.spi, request 9 []) ∧ (now (withTxn v tile)).txnFail v false = none) ∧
    ((now (withTxn (theTxn (.armed at100)) tile)).pliukRuns = true ∧
      (now (withTxn (theTxn (.armed at100)) tile)).baseRun ≠ .recovery ∧
      (now (withTxn (theTxn (.armed at100)) tile)).armedTxn = some (theTxn (.armed at100)) ∧
      (now (withTxn (theTxn (.armed at100)) tile)).mode = 0 ∧
      (now (withTxn (theTxn (.armed at100)) tile)).rollbackHeld (theTxn (.armed at100)) = false) := by
  unfold Admitted
  decide +kernel

/-- A challenge, the response of a half-open session with its role key, and both time-outs at their instants. -/
theorem wit_SessionsOpenAndClose :
    let challenge := be 1 5 ++ zeros 19
    let half := { svc with halfOpen := true, role := 1, since := at100 - 2000000000 }
    let d := tile.setPliuk (fun p => { p with sessions := [half] })
    let e := now (d.setBlob K.KEY_OBSERVER (zeros 32))
    let answer := hmacSha256 (e.roleKey 1) (be 4 0x504C4B31 ++ authFields 1 1 e.fix.fuses.uid [] [])
    let idle := now (tile.setPliuk (fun p =>
      { p with sessions := [{ svc with lastHeard := at100 - tile.obj K.SESSION_IDLE_TIMEOUT * 1000000000 }] }))
    (Arrives (now tile) .spi (requestOf 0 1 challenge) ∧ (requestOf 0 1 challenge).session = 0 ∧
      challenge.length = 20 ∧ fieldAt 0 1 challenge = 5 ∧ fieldAt 1 3 challenge = 0 ∧
      (now tile).roleOpens 5 .spi = true ∧ (now tile).placeFree .spi 5 = true ∧ (now tile).lockedOut .spi = false ∧
      ∀ x ∈ (now tile).pliuk.sessions, x.halfOpen = false) ∧
    (Arrives e .spi (request 0 answer) ∧ e.sess 1 = some half ∧ half.id = (request 0 answer).session ∧
      half.halfOpen = true ∧ at100 ≤ half.since + 2000000000 ∧ e.validatingIn 1 = false ∧
      (request 0 answer).sequence = (half.lastSeq + 1) % 2 ^ 32 ∧ e.keyless 1 .spi = false ∧ e.roleKey 1 ≠ [] ∧
      answer.length = 32) ∧
    (e.controlRuns = true ∧ e.sess 1 = some half ∧ half.since + 2000000000 ≤ at100) ∧
    (idle.controlRuns = true ∧
      (idle.sess 1).any (fun x => !x.halfOpen &&
        decide (x.lastHeard + idle.obj K.SESSION_IDLE_TIMEOUT * 1000000000 ≤ at100)) = true) := by
  unfold Arrives
  decide +kernel

theorem wit_DamagedMessagesAreDiscardedAndCounted :
    (now tile).carrierOpen .spi = true ∧
      ({ request 0 [] with crc := (request 0 []).crc + 1 } : Msg).crc ≠ msgTrailer (request 0 []) ∧
      ({ request 0 [] with length := 1 } : Msg).length ≠ (request 0 []).payload.length ∧
      1440 < (request 0 (zeros 1441)).payload.length := by
  decide +kernel

/-- A repeat of a cached sequence, and a sequence two above the last. -/
theorem wit_RepeatsAreAnsweredFromTheCache :
    let x := { svc with lastSeq := 1, cached := some (request 0 []) }
    let d := now (tile.setPliuk (fun p => { p with sessions := [x] }))
    (Arrives d .spi (request 0 []) ∧ d.sess 1 = some x ∧ x.halfOpen = false ∧ d.validatingIn 1 = false ∧
      (request 0 []).sequence = x.lastSeq ∧ x.cached = some (request 0 [])) ∧
    (Arrives (now tile) .spi (requestOf 1 2 []) ∧ (now tile).sess 1 = some svc ∧ (now tile).validatingIn 1 = false ∧
      (requestOf 1 2 []).sequence ≠ svc.lastSeq ∧ (requestOf 1 2 []).sequence ≠ (svc.lastSeq + 1) % 2 ^ 32) := by
  unfold Arrives
  decide +kernel

/-- Each timer of Pliuk at the instant it ends. -/
theorem wit_PliukTimersEndWhatTheyTime :
    let h : Half := { key := K.FLOG_CLEAR, val := 1, session := 1, since := at100 - 1000000000 }
    let stage : BlobStage :=
      { key := K.EQ_TABLE, session := 1, txn := 0, total := 4096, data := [], lastChunk := at100 - 5000000000 }
    let o := fun (n : Nat) => ({ seq := 3, msg := request 0 [], sentAt := at100 - 100000000, repeats := n } : Outstanding)
    let sub : Sub := { isEvent := false, code := K.INTEG_STATE, minMs := 0, lastSent := none, waiting := true }
    let d := now (tile.setPliuk (fun p => { p with
      halves := [h], stages := [stage], txns := [theTxn .staging],
      sessions := [{ svc with unacked := [o 2], subs := [sub] }] }))
    let e := now (tile.setPliuk (fun p => { p with sessions := [{ svc with unacked := [o 3] }] }))
    let f := now (tile.setFlash (fun f => { f with dirty := [K.EQ_TABLE] }))
    Arrives d .spi (request 0 []) ∧ d.controlRuns = true ∧ f.controlRuns = true ∧
      d.pliuk.halves.find? (fun h => h.key == K.FLOG_CLEAR && decide (h.since + 1000000000 ≤ at100)) = some h ∧
      d.txnBy 9 = some (theTxn .staging) ∧
      (theTxn .staging).lastMsg + (theTxn .staging).timeoutMs * 1000000 ≤ at100 ∧
      d.pliuk.stages = [stage] ∧ stage.lastChunk + 5000000000 ≤ at100 ∧
      d.sess 1 = some { svc with unacked := [o 2], subs := [sub] } ∧
      [o 2].find? (fun o => o.seq == 3) = some (o 2) ∧ (o 2).sentAt + 100000000 ≤ at100 ∧ (o 2).repeats < 3 ∧
      e.sess 1 = some { svc with unacked := [o 3] } ∧ ¬ (o 3).repeats < 3 ∧
      [sub].find? (fun v => !v.isEvent && v.code == K.INTEG_STATE) = some sub ∧ d.subFree sub = true ∧
      f.flash.dirty ≠ [] ∧ f.start.run ≠ .offReady ∧
      d.pliukRuns = true ∧ d.baseRun ≠ .recovery ∧ d.mode = 0 := by
  unfold Arrives
  decide +kernel

/-- A Withy port that is Up at rate 1. -/
def portUpAt (h : PortId) (d : Dev) : Dev :=
  (d.setPort h (fun q => { q with rate := 1, agreed := 1 })).setObj (K.WITHY_STATE h) 3

/-- A tile known by its UID 77 at distance 1 on port 0. -/
def withHoop (d : Dev) : Dev :=
  d.setHoop 0 { (d.hoopOf 0) with
    tiles := [{ uid := 77, ingress := 0, rates := 2, w16 := 1, h16 := 1, lamps := 3, held := 0 }], closed := true, partner := 9 }

/-- Relays, a broadcast of an Engineer, CTL packets and the SPI target port. -/
theorem wit_RelaysBroadcastsAndSpi :
    let eng := theSession roleEngineer
    let se := now (senderOf roleEngineer)
    let entries := be 2 1 ++ be 2 0 ++ Dev.refBytes K.SESSION_IDLE_TIMEOUT ++ be 1 3 ++ be 1 0 ++ be 2 4 ++ be 4 60
    let bcast := be 2 0 ++ be 6 at100 ++ be 4 7 ++ be 4 0 ++ entries
    let hoop := now (withHoop sender)
    let answer := mkPacket clsCtl 0 0 (be 1 1 ++ be 3 0 ++ be 8 77 ++ be 4 0 ++ msgWire (request 0 []))
    let down := (portUpAt 0 sender).setPliuk (fun p => { p with relays := [(77, 1, .spi)] })
    let up := now (portUpAt 0 tile)
    let cast := { requestOf 1 1 bcast with opcode := 13 }
    let cast := { cast with crc := msgTrailer cast }
    let ctl := fun (kind target uid : Nat) (m : Msg) =>
      mkPacket clsCtl target 0 (be 1 kind ++ be 3 0 ++ be 8 uid ++ be 4 0 ++ msgWire m)
    let full := now (tile.setPliuk (fun p => { p with spiIn := List.replicate 4 (request 0 []), spiOut := [request 0 []] }))
    (hoop.isSender = true ∧ Arrives hoop .spi (request 0 []) ∧ (77 : Nat) ≠ 2 ^ 64 - 1 ∧ hoop.findTile 77 = some (0, 1)) ∧
    (SenderRuns (now down) ∧ (now down).portUp 0 = true ∧ (now down).controlRuns = true ∧ pktPasses answer = true ∧
      fieldAt 0 1 answer.body = 1 ∧ msgOfBytes (answer.body.drop 16) = some (request 0 []) ∧
      (request 0 []).opcode ≠ 11 ∧
      ((now down).countRx 0 answer).pliuk.relays.find?
        (fun r => r.1 == fieldAt 4 8 answer.body && r.2.1 == (request 0 []).session) = some (fieldAt 4 8 answer.body, 1, .spi)) ∧
    (Admitted se .spi (request 0 bcast) eng ∧ se.isSender = true ∧ roleOperator ≤ eng.role ∧ (request 0 bcast).txn = 0 ∧
      (Dev.parseBcast bcast).any (fun x => x.2.2.all (fun e =>
        (findDef .tile e.key).any (fun o => mayWrite eng.role e.key o.level))) = true ∧
      se.writesShut = false ∧ se.obj K.INTEG_STATE = 1) ∧
    (TileRuns up ∧ up.portUp 0 = true ∧ fieldAt 0 1 (ctl 2 255 (2 ^ 64 - 1) cast).body = 2 ∧
      pktLink (ctl 2 255 (2 ^ 64 - 1) cast) = false ∧ pktPasses (ctl 2 255 (2 ^ 64 - 1) cast) = true ∧ up.integ.restart = none ∧
      msgOfBytes ((ctl 2 255 (2 ^ 64 - 1) cast).body.drop 16) = some cast ∧ Dev.msgBad cast = false ∧
      cast.opcode = 13 ∧ cast.version = 1 ∧ cast.flags < 16 ∧ bit 0 cast.flags = false) ∧
    (fieldAt 0 1 (ctl 0 1 1 (request 0 [])).body = 0 ∧ Dev.isMine (ctl 0 1 1 (request 0 [])) = true ∧
      Dev.targetsMe (ctl 0 1 1 (request 0 [])) = true ∧ Dev.targetsMe (ctl 0 255 1 (request 0 [])) = true ∧
      pktPasses (ctl 0 1 1 (request 0 [])) = true ∧ fieldAt 4 8 (ctl 0 1 1 (request 0 [])).body = up.fix.fuses.uid ∧
      msgOfBytes ((ctl 0 1 1 (request 0 [])).body.drop 16) = some (request 0 [])) ∧
    (∀ k ∈ [0, 1], fieldAt 0 1 (ctl k 2 77 (request 0 [])).body ≤ 1 ∧ Dev.isMine (ctl k 2 77 (request 0 [])) = false) ∧
    (full.spiRuns = true ∧ full.pliuk.spiIn.length = 4 ∧ (now tile).pliuk.spiIn.length < 4 ∧
      full.pliuk.spiOut = request 0 [] :: [] ∧ (now tile).spiRuns = true ∧ (now tile).pliuk.spiOut = []) := by
  unfold Admitted Arrives SenderRuns TileRuns
  refine ⟨?_, ?_, ?_, ?_, ?_, ?_, ?_⟩ <;> decide +kernel
/-! ### Wall time (03_wall_time.md) -/

/-- A PTP message of the grandmaster at port 0, whose stamps are `apart` picoseconds from its ingress. -/
def ptp (apart : Nat) (twoStep : Bool) : PtpMsg :=
  { domain := sender.bootObj K.PTP_DOMAIN, transportOk := true, logInterval := -7, source := (5, 1), sequence := 3,
    twoStep := twoStep, correction := 0, stampPs := 1000000, ingressPs := 1000000 + apart, gm := 5, priority1 := 1,
    clockClass := 6, accuracy := 0, variance := 0, priority2 := 1, stepsRemoved := 0, utcOffset := 37,
    ptpTimescale := true, forMe := true, smpte := some [1], vlan := false, frameLen := 86 }

def theMaster : ForeignMaster :=
  { port := 0, gm := 5, priority1 := 1, clockClass := 6, accuracy := 0, variance := 0, priority2 := 1, stepsRemoved := 0,
    source := (5, 1), utcOffset := 37, ptpTimescale := true, heard := 2, lastAt := 0, interval := 125000000 }

/-- A sender that follows the master, with a step due or not. -/
def following (due : Bool) (st : Nat) : Dev :=
  (sender.setTb (fun b => { b with
    masters := [theMaster], selected := some theMaster, stepDue := due, awaiting := [(0, 3, 500, 0)],
    delayReq := some (0, 3, 200) })).setObj K.TIME_STATE st

theorem wit_PtpOnIngestSteersASender :
    let d := (now (following false tsLocked)).smpteRx 0 (ptp 0 false)
    let due := (now (following true tsAcquiring)).smpteRx 0 (ptp 0 false)
    (SenderRuns (now (following false tsLocked)) ∧ SenderRuns (now (following true tsAcquiring)) ∧
      (now (following false tsLocked)).portExists 0 = true ∧ (ptp 0 false).frameLen ≤ 1522 ∧ d.ptpInProfile 0 (ptp 100000 false) (-7) (-1) = true ∧
      d.steered = true ∧ due.steered = true ∧ d.time.selected = some theMaster ∧ theMaster.port = 0 ∧ theMaster.source = (ptp 0 false).source) ∧
    (due.time.stepDue = true ∧ d.time.stepDue = false ∧ (ptp 0 false).twoStep = false ∧ (ptp 0 true).twoStep = true) ∧
    (let off := fun (a : Nat) => (d.ingestRxStamp 0 (ptp (a + 112400) false).ingressPs - ((ptp a false).stampPs : Int) -
        corrToPs (ptp a false).correction) - (d.obj K.MEAN_PATH_DELAY : Int);
      (off 100000).natAbs = 100000 ∧ (off 100001).natAbs = 100001 ∧ d.tstate = tsLocked) ∧
    d.time.awaiting.find? (fun a => a.1 == 0 && a.2.1 == (ptp 0 false).sequence) = some (0, 3, 500, 0) ∧
    (d.ptpInProfile 0 (ptp 0 false) (-7) 0 = true ∧ d.time.delayReq = some (0, (ptp 0 false).sequence, 200) ∧
      (ptp 0 false).forMe = true) ∧
    ((now sender).ptpInProfile 0 { ptp 0 false with logInterval := 1 } (-3) 1 = true ∧
      ∀ y ∈ (now sender).time.masters, ¬ (y.port = 0 ∧ y.source = (ptp 0 false).source)) ∧
    (let late := fun (at' : Time) (x : ForeignMaster) => x.port == 0 && decide (x.lastAt + 3 * x.interval ≤ at')
     (following false tsLocked).time.masters.any (late 375000000) = true ∧
     (following false tsLocked).time.masters.any (late 374999999) = false) := by
  unfold SenderRuns
  refine ⟨?_, ?_, ?_, ?_, ?_, ?_, ?_⟩ <;> decide +kernel

/-- A message in the profile, one that is tagged and one of 1,523 bytes. -/
theorem wit_EveryPtpMessageCompletesOnASender :
    SenderRuns (now sender) ∧ (now sender).portExists 0 = true ∧ (now sender).portExists 1 = true ∧
      (ptp 0 false).vlan = false ∧ (ptp 0 false).frameLen ≤ 1522 ∧
      ({ ptp 0 false with frameLen := 1522 } : PtpMsg).frameLen ≤ 1522 ∧
      1522 < ({ ptp 0 false with frameLen := 1523 } : PtpMsg).frameLen ∧ ({ ptp 0 false with vlan := true } : PtpMsg).vlan = true := by
  unfold SenderRuns
  decide +kernel

/-- Runs of 15 and 16 syncs on a sender, of 63 and 64 on a tile, and the two premises of the count. -/
theorem wit_TheRunOfSyncsLocksTheTimeBase :
    let d := fun (base : Dev) (n : Nat) => now ((base.setObj K.TIME_STATE tsAcquiring).setTb (fun b => { b with run := n }))
    ((d sender 16).portsRun = true ∧ (d sender 16).tstate = tsAcquiring ∧ (d sender 16).isSender = true ∧
      16 ≤ (d sender 16).time.run ∧ (d sender 15).time.run < 16 ∧ (d sender 15).tstate = tsAcquiring) ∧
    ((d tile 64).portsRun = true ∧ (d tile 64).isSender = false ∧ 64 ≤ (d tile 64).time.run ∧
      (d tile 63).time.run < 64) ∧
    (tile.time.stepDue = false ∧ tile.tstate ≠ tsAcquiring ∧ (d sender 1).mode = 0) := by
  decide +kernel

theorem wit_TimeStatesAreLeftAndWatched :
    let s := fun (base : Dev) (st : Nat) => now (base.setObj K.TIME_STATE st)
    let switch := now ((tile.setObj K.PATH_ACTIVE 1).setTb (fun b =>
      { b with lastSync := [some (at100 - eightSyncs + 1), some (at100 - eightSyncs), none, none] }))
    let apart := now (((sender.setObj K.PAIR_OFFSET_LIMIT 1).setObjI 32 K.PAIR_TIME_OFFSET 1001).setTb (fun b =>
      { b with pairBeyond := some (at100 - 10 ^ 9) }))
    let bad := now ((tile.setObj K.TIME_STATE tsLocked).setTb (fun b => { b with ppmBad := 7 }))
    (let held := fun (ago : Nat) => now ((tile.setObj K.TIME_STATE tsHoldover).setTb (fun b =>
        { b with holdoverAt := some (at100 - ago) }))
     (held 0).pliukRuns = true ∧ (held 0).baseRun ≠ .recovery ∧ (held 0).tstate = tsHoldover ∧
      (held 0).obj K.HOLDOVER_LIMIT = 1000 ∧ at100 - 10 ^ 9 + (held 0).obj K.HOLDOVER_LIMIT * 1000000 ≤ at100 ∧
      at100 < at100 - (10 ^ 9 - 1) + (held 0).obj K.HOLDOVER_LIMIT * 1000000) ∧
    (TileRuns (s tile tsLocked) ∧ (s tile tsLocked).tstate = tsLocked ∧ TileRuns (s tile tsAcquiring) ∧
      (s tile tsAcquiring).tstate = tsAcquiring) ∧
    (TileRuns switch ∧ switch.obj K.PATH_ACTIVE ≤ 1 ∧
      switch.time.lastSync.getD (Dev.otherPort (switch.obj K.PATH_ACTIVE)) none = some (at100 - eightSyncs + 1) ∧
      at100 < (at100 - eightSyncs + 1) + eightSyncs ∧
      (∀ u, switch.time.lastSync.getD (switch.obj K.PATH_ACTIVE) none = some u → u + eightSyncs ≤ at100) ∧
      (∀ h, h < 2 → (s tile tsLocked).time.lastSync.getD h none = none)) ∧
    128 ≤ (now (tile.setTb (fun b => { b with dirBad := 128 }))).time.dirBad ∧
    (SenderRuns apart ∧ apart.obj K.PAIR_OFFSET_LIMIT * 1000 < (apart.objI 32 K.PAIR_TIME_OFFSET).natAbs ∧
      apart.time.pairBeyond = some (at100 - 10 ^ 9) ∧ at100 - 10 ^ 9 + 10 ^ 9 ≤ at100) ∧
    (bad.pliukRuns = true ∧ (if (201 : Int).natAbs > 200 then bad.time.ppmBad + 1 else 0) = 8 ∧
      (if (200 : Int).natAbs > 200 then bad.time.ppmBad + 1 else 0) < 8 ∧ bad.time.baseBad = false ∧ bad.tstate = tsLocked) := by
  unfold SenderRuns TileRuns
  refine ⟨?_, ?_, ?_, ?_, ?_, ?_⟩ <;> decide +kernel

theorem wit_TimeTravelsTheWall :
    let s := now (((portUpAt 3 (withHoop sender)).setObj K.TIME_STATE tsLocked).setTb (fun b => { b with everTimed := true }))
    let both := now ((portUpAt 1 (portUpAt 0 tile)).setTb (fun b => { b with pdelayOut := [some (9, 50), none, none, none] }))
    let link := fun (type seq : Nat) (tail : Bytes) =>
      mkPacket clsTim 0 1 (timBytes type 127 0 seq 0 1 2 (-3) tail)
    let body := stampBytes 0 ++ be 8 1 ++ be 2 1
    let wide := fun (type : Nat) => mkPacket clsTim 0xFF 0 (timBytes type 0 0 4 0 1 2 (-3) body)
    let pair := now (portUpAt 0 (withHoop sender))
    (s.portsRun = true ∧ s.portUp 3 = true ∧ s.serving = true ∧ s.time.everTimed = true ∧ s.isSender = true ∧
      (s.port 3).respIn = [] ∧ 3 < s.withy.ports.length) ∧
    (both.portsRun = true ∧ both.portUp 0 = true ∧ both.isTile = true ∧ pktPasses (link 2 9 body) = true ∧ pktLink (link 2 9 body) = true) ∧
    (both.time.pdelayOut.getD 0 none = some (timSeq (link 3 9 body).body, 50) ∧
      fieldAt 44 8 (link 3 9 body).body = both.fix.fuses.uid ∧ pktPasses (link 3 9 body) = true) ∧
    (both.isTile = true ∧ pktLink (wide 0) = false ∧ pktPasses (wide 0) = true ∧ both.portUp (Dev.otherPort 0) = true) ∧
    (s.isSender = true ∧ timType (wide 0xB).body = 0xB ∧ pktPasses (wide 0xB) = true) ∧
    (pair.portsRun = true ∧ pair.portUp 0 = true ∧ pair.isSender = true ∧ timType (wide 0).body ≠ 0xB ∧ pair.hoopClosed 0 = true ∧
      3 < pair.time.pairOffset.length) := by
  refine ⟨?_, ?_, ?_, ?_, ?_, ?_⟩ <;> decide +kernel

/-- A pulse of 20 ns, one of 19 ns, and a shutter that stayed open. -/
theorem wit_CaptureEdgesAreStamped :
    let d := now (((sender.setObj (K.CAP_MODE 7) 1).setObj K.MODE_NUMBER 0xA4).setCap 7 (fun c => { c with openAt := some 5 }))
    d.pliukRuns = true ∧ d.baseRun ≠ .recovery ∧ d.obj (K.CAP_MODE 7) ≠ 0 ∧ (20 : Nat) ≤ 20 ∧ (19 : Nat) < 20 ∧
      (d.cap 7).openAt = some 5 ∧ (d.cap 7).level ≠ some true ∧ ((d.setCap 7 (fun c => { c with level := some true })).cap 7).level = some true ∧
      d.mode ≠ 0 ∧
      5 + d.baseFrame ≤ ((at100 : Int) - d.objI 32 (K.CAP_DELAY_COMP 7)).toNat := by
  decide +kernel

/-- A period equal to the width and 20 ns, one that is a nanosecond longer, a start 10 µs and just under 10 µs ahead,
and an output that is due. -/
theorem wit_TriggersAreProgrammedAndFire :
    let d := now (((sender.setObj (K.TRIG_WIDTH 7) 1000).setObj (K.TRIG_PERIOD 7) 1020).setObj (K.TRIG_START 7)
      (at100 + 9999))
    let e := now (((sender.setObj (K.TRIG_WIDTH 7) 1000).setObj (K.TRIG_PERIOD 7) 1021).setObj (K.TRIG_START 7)
      (at100 + 10000))
    let f := now ((sender.setObj (K.TRIG_MODE 7) 1).setTrig 7 (fun g => { g with base := at100 }))
    (ScalarOpen d 1 (K.TRIG_MODE 7) 2 svc ∧ d.trigPeriod 7 2 = some 1020 ∧ 1020 ≤ d.obj (K.TRIG_WIDTH 7) + 20) ∧
    (ScalarOpen d 1 (K.TRIG_MODE 7) 1 svc ∧ wallDiff (d.obj (K.TRIG_START 7)) d.wall < 10000 ∧ d.trigPeriod 7 1 = none) ∧
    (ScalarOpen e 1 (K.TRIG_MODE 7) 2 svc ∧ e.trigPeriod 7 2 = some 1021 ∧ e.obj (K.TRIG_WIDTH 7) + 20 < 1021) ∧
    (ScalarOpen e 1 (K.TRIG_MODE 7) 1 svc ∧ 10000 ≤ wallDiff (e.obj (K.TRIG_START 7)) e.wall ∧ e.trigPeriod 7 1 = none) ∧
    (f.pliukRuns = true ∧ f.baseRun ≠ .recovery ∧ f.trigDue 7 = true) := by
  unfold ScalarOpen Writes
  refine ⟨?_, ?_, ?_, ?_, ?_⟩ <;> decide +kernel

/-! ### Ingest (04_ingest.md) -/

/-- A packet of the group 9 with a row segment at a line. -/
def rtp (frameLen version line : Nat) : RtpPkt :=
  { dst := 9, src := 0, udp := 5004, vlan := false, frameLen := frameLen, version := version, marker := false,
    sequence := 1, extended := 0, timestamp := 5,
    segments := [{ field := false, line := line, offset := 0, octets := zeros 40 }] }

/-- A sender whose stream slot 15 takes the group 9 on port 1. -/
def streaming : Dev :=
  ((((sender.setObj (K.STR_ENABLE 15) 1).setObj (K.STR_A_GROUP 15) 9).setObj (K.STR_A_PORT 15) 1).setObj
    (K.ING_IPV4_ADDR 1) 0x0A000001)

/-- The slot with both legs, and a newer packet seen on the other 20.000 001 ms ago. -/
def skewing : Dev :=
  (streaming.setObj (K.STR_B_GROUP 15) 10).setStream 15 (fun q => { q with seen := [(4, 1, at100 - 20000001)] })

theorem wit_IngestPortsTakeTheirPackets :
    let d := now streaming
    let after1 := fun (base : Dev) => ((base.setStream 15 (fun q => { q with legAt := upd 0 (fun _ => some at100) q.legAt })).setObj
      (K.STR_LEG_STATE 15) (setBit 0 true (base.obj (K.STR_LEG_STATE 15)))).ageSeen 15
    let twice := now (streaming.setStream 15 (fun q => { q with seen := [(1, 0, at100 - 1)] }))
    (SenderRuns d ∧ d.portExists 7 = true ∧ ({ rtp 64 2 0 with vlan := true } : RtpPkt).vlan = true ∧
      1522 < (rtp 1523 2 0).frameLen ∧ (∀ nl ∈ Dev.allLegs, d.legMatches 7 (rtp 64 2 0) nl.1 nl.2 = false)) ∧
    ((rtp 1522 2 0).vlan = false ∧ (rtp 1522 2 0).frameLen ≤ 1522 ∧ d.findLeg 1 (rtp 1522 2 0) = some (15, 0) ∧
      (rtp 1522 1 0).version ≠ 2 ∧ (rtp 1522 2 0).segments.length ≤ 3) ∧
    (d.findLeg 1 (rtp 1522 2 2160) = some (15, 0) ∧
      (rtp 1522 2 2160).segments.any ((after1 d).segmentBad 15) = true ∧
      (rtp 1522 2 2159).segments.any ((after1 d).segmentBad 15) = false) ∧
    ((now skewing).findLeg 1 (rtp 64 2 0) = some (15, 0) ∧ (after1 (now skewing)).skewed 15 0 1 = true ∧
      (after1 d).skewed 15 0 1 = false) ∧
    (((after1 twice).stream 15).seen.any (fun x => x.1 == 1) = true ∧
      ((after1 d).stream 15).seen.any (fun x => x.1 == 1) = false ∧ (after1 twice).skewed 15 0 1 = false) ∧
    (d.portExists 1 = true ∧ d.obj (K.ING_IPV4_ADDR 1) ≠ 0 ∧ d.groupsOf 1 ≠ [] ∧ (7 : Nat) < 8) := by
  unfold SenderRuns
  refine ⟨?_, ?_, ?_, ?_, ?_, ?_⟩ <;> decide +kernel

/-- Still buffer 15 of a small format, in a state, with or without storage and a stage. -/
def stillIn (st : Nat) (f : StillSt → StillSt) : Dev :=
  (((sender.setObj (K.STILL_STATE 15) st).setObj (K.STILL_WIDTH 15) 16).setObj (K.STILL_HEIGHT 15) 2).setStill 15 f

def theFrame : InFrame :=
  { r := 1000, delay := 0, stamp := 5, first := none, seqs := [], marker := none, endAt := some (at100 - 20000000),
    completeAt := some 2000, closed := false, rows := [] }

theorem wit_FramesAndStillsFollowTheirStates :
    let legs := now (sender.setStream 15 (fun q => { q with legAt := [some (at100 - 10000000), none] }))
    let due := now ((stillIn 1 (fun q => { q with capture := some (15, at100) })).setStream 15 (fun q =>
      { q with frames := [theFrame] }))
    let gone := now (stillIn 1 (fun q => { q with capture := some (15, at100 - 1000000000) }))
    let take := now (((stillIn 2 (fun q => { q with stored := true })).setObj (K.STR_WIDTH 15) 16).setObj (K.STR_HEIGHT 15) 2)
    let v := 15 * 2 ^ 48 + at100
    let bytes := (now (stillIn 0 id)).stillBytes 15
    let g : BlobStage := { key := K.STILL_DATA 15, session := 1, txn := 0, total := bytes, data := zeros (bytes - 1), lastChunk := 0 }
    let load := now ((stillIn 1 id).setPliuk (fun p => { p with stages := [g] }))
    let b : Chunk := { offset := bytes - 1, total := bytes, more := false, data := [7] }
    (SenderRuns legs ∧ (legs.stream 15).legAt.getD 0 none = some (at100 - 10000000)) ∧
    (SenderRuns due ∧ (due.stillSt 15).capture = some (15, at100) ∧ due.candidate 15 at100 = some theFrame ∧
      theFrame.completeAt = some 2000) ∧
    (SenderRuns gone ∧ (gone.stillSt 15).capture = some (15, at100 - 1000000000)) ∧
    (ScalarOpen take 1 (K.STILL_CAPTURE 15) v svc ∧ take.captureCheck 15 v = Status.OK) ∧
    (∀ st ∈ [1, 2, 3, 4], ScalarOpen (now (stillIn st id)) 1 (K.STILL_RELEASE 15) 1 svc ∧
      (now (stillIn st id)).stillState 15 = st) ∧
    (ChunkOpen load 1 (K.STILL_DATA 15) b svc ∧ load.stageOf svc.id 0 (K.STILL_DATA 15) = some g ∧
      Dev.chunkFits g b = true ∧ b.more = false) := by
  unfold SenderRuns ScalarOpen Writes
  refine ⟨?_, ?_, ?_, ?_, ?_, chunkOpen_of ?_, ?_⟩ <;> decide +kernel

/-- Each BLOB of the list: its first chunk accepted, a chunk that fits, one that does not and one that is no longer taken. -/
theorem wit_BlobsAreStagedChunkByChunk :
    let open' := ((((((tile.setObj (K.REGION_W) 16).setObj K.REGION_H 16).setObj (K.TIMG_STATE 1) 1).setObj (K.OVL_STATE 3) 1).setObj
      (K.OVL_W 3) 2).setObj (K.OVL_H 3) 1).setObj K.PRISM_CAL_STATE 6
    let d := now (open'.setObj K.SCAN_STATE 1)
    let ready := fun (st : Nat) => now ((((tileOf roleSafety).setObj (K.OVL_STATE 3) st).setObj (K.OVL_W 3) 2).setObj (K.OVL_H 3) 1)
    let first := fun (total : Nat) => ({ offset := 0, total := total, more := true, data := [1] } : Chunk)
    let g := fun (k total : Nat) => ({ key := k, session := 1, txn := 0, total := total, data := [1], lastChunk := 0 } : BlobStage)
    let staged := fun (k total : Nat) => now ((open'.setObj K.SCAN_STATE 1).setPliuk (fun p => { p with stages := [g k total] }))
    (ChunkOpen d 1 (K.TIMG_DATA 1) (first 1536) svc ∧ d.blobFirst (K.TIMG_DATA 1) 1536 = Status.OK ∧
      d.stageOf 1 0 (K.TIMG_DATA 1) = none) ∧
    (ChunkOpen d 1 K.PRISM_CAL_IMAGE (first 9000) svc ∧ d.blobFirst K.PRISM_CAL_IMAGE 9000 = Status.OK) ∧
    (ChunkOpen d 1 K.EQ_TABLE (first 4016) svc ∧ d.blobFirst K.EQ_TABLE 4016 = Status.OK ∧
      d.blobNext K.EQ_TABLE 4016 = Status.OK ∧ Dev.chunkBad (first 4016) = false) ∧
    (ChunkOpen d 1 K.EQ_TABLE { first 4016 with offset := 1 } svc ∧ d.stageOf 1 0 K.EQ_TABLE = none ∧
      Dev.chunkBad { first 4016 with offset := 1 } = true) ∧
    (ChunkOpen d 1 K.EQ_TABLE (first 4000) svc ∧ d.blobNext K.EQ_TABLE 4000 = Status.OK ∧
      d.blobFirst K.EQ_TABLE 4000 ≠ Status.OK ∧ Dev.chunkBad (first 4000) = false) ∧
    (ChunkOpen (ready 2) 1 (K.OVL_DATA 3) (first 12) (theSession roleSafety) ∧
      (ready 2).blobNext (K.OVL_DATA 3) 12 ≠ Status.OK ∧ (ready 2).stageOf 1 0 (K.OVL_DATA 3) = none) ∧
    (ChunkOpen (ready 1) 1 (K.OVL_DATA 3) (first 12) (theSession roleSafety) ∧
      (ready 1).blobNext (K.OVL_DATA 3) 12 = Status.OK ∧ (ready 1).blobFirst (K.OVL_DATA 3) 12 = Status.OK) ∧
    (ChunkOpen (staged (K.TIMG_DATA 1) 1536) 1 (K.TIMG_DATA 1) { first 1536 with offset := 1 } svc ∧
      (staged (K.TIMG_DATA 1) 1536).stageOf 1 0 (K.TIMG_DATA 1) = some (g (K.TIMG_DATA 1) 1536) ∧
      Dev.chunkFits (g (K.TIMG_DATA 1) 1536) { first 1536 with offset := 1 } = true ∧
      Dev.chunkFits (g (K.TIMG_DATA 1) 1536) { first 1536 with offset := 2 } = false ∧
      (staged (K.TIMG_DATA 1) 1536).blobNext (K.TIMG_DATA 1) 1536 = Status.OK) ∧
    (let lit := now ((open'.setObj K.SCAN_STATE 3).setPliuk (fun p => { p with stages := [g K.PRISM_CAL_IMAGE 9000] }))
     ChunkOpen lit 1 K.PRISM_CAL_IMAGE { first 9000 with offset := 1 } svc ∧
      lit.stageOf 1 0 K.PRISM_CAL_IMAGE = some (g K.PRISM_CAL_IMAGE 9000) ∧
      lit.blobNext K.PRISM_CAL_IMAGE 9000 ≠ Status.OK) := by
  refine ⟨⟨chunkOpen_of ?_, ?_⟩, ⟨chunkOpen_of ?_, ?_⟩, ⟨chunkOpen_of ?_, ?_⟩, ⟨chunkOpen_of ?_, ?_⟩,
    ⟨chunkOpen_of ?_, ?_⟩, ⟨chunkOpen_of ?_, ?_⟩, ⟨chunkOpen_of ?_, ?_⟩, ⟨chunkOpen_of ?_, ?_⟩, chunkOpen_of ?_,
    ?_⟩ <;> decide +kernel

/-! ### The Wale codec and scan-out (06_wale_codec.md, 07_facet_scanout.md) -/

/-- 100 Hz with one facet in a frame: facet q starts at q times 10 ms. -/
abbrev mode100 : Nat := 0xD1

/-- A sender that composes facet `q` for one tile of 16 x 16 pixels on port 0. -/
def encoding (q : Nat) : Dev :=
  let d := ((withHoop (portUpAt 0 sender)).setObj K.MODE_NUMBER mode100).setPair (fun p => { p with sending := true })
  { d with enc := { d.enc with
      composing := some q
      regions := [{ port := 0, uid := 77, w16 := 1, h16 := 1, x := 0, y := 0, eBase := [2], refs := [],
                    facet := some q, next := 0, spent := 0, e := 2 }] } }

theorem wit_WalesAreCodedAndSent :
    let soon := (now (encoding 10001)).settleSelection (at100 + 1)
    let late := (now (encoding 10000)).settleSelection (at100 + 1)
    (SenderRuns (now (encoding 10001)) ∧ (soon.regionAt 0 1 0).isSome = true ∧ at100 ≤ soon.encodeDeadline 10001 1 0) ∧
      (SenderRuns (now (encoding 10000)) ∧ (late.regionAt 0 1 0).isSome = true ∧ late.encodeDeadline 10000 1 0 ≤ at100) := by
  unfold SenderRuns
  decide +kernel

/-- A lit tile of one wale that loads facet `q`. -/
def loading (q : Nat) (sel : List SelWale) : Dev :=
  (((portUpAt 1 (portUpAt 0 tile)).setObj K.REGION_H 16).setObj K.MODE_NUMBER mode100).setTile (fun z =>
    { z with dark := false, pass := some (q, facetAt mode100 q), sel := sel, lostRun := 12 })

def picked (prism : Option (List SlotWord)) : SelWale :=
  { wale := 0, picked := [], src := [], shown := [], prism := prism, loaded := false, missed := false }

theorem wit_ATileTakesDecodesAndLoadsWales :
    let d := now (loading 10000 [])
    let mine := mkPacket 1 1 0 (be 4 1 ++ zeros 13)
    let other := mkPacket 1 1 0 (be 4 2 ++ zeros 13)
    let past := mkPacket 1 2 0 (be 4 1 ++ zeros 13)
    let e := now (loading 10001 [picked none])
    let f := now (loading 10001 [picked (some [])])
    (TileRuns d ∧ d.portUp 0 = true ∧ pktLink mine = false ∧ Dev.targetsMe mine = true ∧ pktPasses mine = true ∧
      17 ≤ mine.body.length ∧ fieldAt 0 4 mine.body = d.fix.fuses.uid % 2 ^ 32 ∧ (d.countRx 0 mine).tileActive = true) ∧
    (pktPasses other = true ∧ Dev.targetsMe other = true ∧ fieldAt 0 4 other.body ≠ d.fix.fuses.uid % 2 ^ 32) ∧
    (Dev.targetsMe past = false ∧ pktLink past = false ∧ (d.countRx 0 past).portUp (Dev.otherPort 0) = true) ∧
    (d.tile.pass = some (10000, at100) ∧ d.tileActive = true ∧ 0 < d.wales ∧ d.closeTime 10000 0 ≤ at100 ∧
      d.tile.sel.any (fun y => y.wale == 0) = false ∧ d.passUncomposed 10000 = false) ∧
    ((now ((loading 10000 []).setObj K.SCAN_STATE 4)).obj K.SCAN_STATE = 4 ∧ d.obj K.LOSS_HOLD_FACETS = d.tile.lostRun) ∧
    (e.tile.pass = some (10001, facetAt mode100 10001) ∧ e.selOf 0 = some (picked none) ∧ (picked none).missed = false ∧
      (picked none).prism = none ∧ e.tile.abandoned.contains 0 = false) ∧
    (f.selOf 0 = some (picked (some [])) ∧ (picked (some [])).loaded = false ∧ f.loadedBefore 0 = true ∧
      at100 ≤ f.waleDue (facetAt f.mode 10001) 0) ∧
    (d.waleDue (facetAt d.mode 10000) 0 ≤ at100 ∧ d.selOf 0 = none) := by
  unfold TileRuns
  refine ⟨?_, ?_, ?_, ?_, ?_, ?_, ?_, ?_⟩ <;> decide +kernel

theorem wit_FlipsAndBoundaries :
    let s := fun (t : Time) => ((((portUpAt 0 sender).setObj K.MODE_NUMBER mode100).setObj K.TIME_STATE tsLocked).setPair
      (fun q => { q with sending := true })).begin t
    let d := now (loading 10000 [])
    let x := d.flpOf 0 mode100 (facetAt mode100 10001) 0 10001 0
    let p := mkPacket clsFlp 0xFF 0 (flpBytes x)
    let wrong := mkPacket clsFlp 0xFF 0 (flpBytes { x with facet := 1 })
    ((s (at100 + 20000)).portsRun = true ∧ (s (at100 + 20000)).isSender = true ∧ (s (at100 + 20000)).mode = mode100 ∧
      (s (at100 + 20000)).tstate ≠ tsUnlocked ∧ (s (at100 + 20000)).pair.sending = true ∧
      (s (at100 + 20000)).portUp 0 = true ∧ (s (at100 + 20000)).obj K.INTEG_STATE = 1 ∧
      facetAt mode100 (facetNo mode100 (at100 + 20000)) = at100 ∧
      facetAt mode100 (facetNo mode100 (at100 + 5000000)) + (facetAt mode100 (facetNo mode100 (at100 + 5000000) + 1) - at100) / 2
        = at100 + 5000000 ∧ (s (at100 + 20000)).enc.modeAt.2 ≤ at100) ∧
    (d.portsRun = true ∧ d.isTile = true ∧ d.portUp 0 = true ∧ pktPasses { p with crc := p.crc + 1 } = false ∧
      pktPasses wrong = true ∧ (d.countRx 0 wrong).validFlp wrong.body = none) ∧
    (pktPasses p = true ∧ (d.countRx 0 p).validFlp p.body = some x) ∧
    (((loading 10000 []).begin (at100 - 24000)).mode ≠ 0 ∧
      at100 - 24000 + Dev.latchLead = ((loading 10000 []).begin (at100 - 24000)).comingBoundary) ∧
    (isBoundary d.mode at100 = true ∧ d.mode ≠ 0) := by
  refine ⟨?_, ?_, ?_, ?_, ?_⟩ <;> decide +kernel

/-- A calibration image for a region, its corrections all zero. -/
def calImage (uid w h l : Nat) : Bytes :=
  let lens := [l * 16384, w * h * 48, l * 128, l * 64]
  let rows := (List.range 4).flatMap (fun i =>
    be 2 (i + 1) ++ be 2 0 ++ be 4 (52 + (lens.take i).foldl (· + ·) 0) ++ be 4 (lens.getD i 0))
  let body := be 2 4 ++ be 2 0 ++ rows ++ zeros (lens.foldl (· + ·) 0)
  let head := be 4 0x5643414C ++ be 2 1 ++ be 1 l ++ be 1 0 ++ be 8 uid ++ be 2 w ++ be 2 h ++ zeros 20 ++
    be 4 body.length ++ be 4 (crc32c body) ++ zeros 12
  head ++ be 4 (crc32c head) ++ body

/-- The calibration image is that of a tile whose region has not been set yet: no pixel, no lamp position. -/
theorem wit_ImagesAndCalibrationAreStored :
    let img := calImage 1 0 0 0
    let g := fun (k total : Nat) (data : Bytes) =>
      ({ key := k, session := 1, txn := 0, total := total, data := data, lastChunk := 0 } : BlobStage)
    let staged := fun (g : BlobStage) => now (((tile.setObj K.SCAN_STATE 1).setObj K.PRISM_CAL_STATE 6).setPliuk (fun p => { p with stages := [g] }))
    let gT := g (K.TIMG_DATA 1) 1536 (zeros 1535)
    let lastT : Chunk := { offset := 1535, total := 1536, more := false, data := [3] }
    let dT := now (((((tile.setObj K.SCAN_STATE 1).setObj K.REGION_W 16).setObj K.REGION_H 16).setObj (K.TIMG_STATE 1) 1).setPliuk
      (fun p => { p with stages := [gT] }))
    let gC := g K.PRISM_CAL_IMAGE img.length (img.take 60)
    let last : Chunk := { offset := 60, total := img.length, more := false, data := img.drop 60 }
    let derive := now (tile.setPrism (fun q => { q with derivePending := true, use := .copyB }))
    (ChunkOpen dT 1 (K.TIMG_DATA 1) lastT svc ∧ dT.stageOf 1 0 (K.TIMG_DATA 1) = some gT ∧
      dT.imageShown 1 = false ∧ lastT.total = dT.regionPixels * 6 ∧ Dev.chunkFits gT lastT = true) ∧
    (ScalarOpen (now tile) 1 (K.TIMG_CLEAR 1) 1 svc ∧ (now tile).imageShown 1 = false) ∧
    (ChunkOpen (staged gC) 1 K.PRISM_CAL_IMAGE last svc ∧ (staged gC).stageOf 1 0 K.PRISM_CAL_IMAGE = some gC ∧
      (staged gC).obj K.SCAN_STATE = 1 ∧ (staged gC).obj K.PRISM_CAL_STATE = 6 ∧
      Dev.chunkFits gC last = true ∧ last.more = false) ∧
    (gC.data ++ last.data = img ∧ img.length = 64 + fieldAt 40 4 img ∧
      calCause (staged gC).fix.fuses.uid (staged gC).regionW (staged gC).regionH (staged gC).lampsPer img = 0) ∧
    (ScalarOpen (staged gC) 1 K.PRISM_CAL_ERASE 1 svc ∧ (staged gC).obj K.SCAN_STATE = 1 ∧
      ScalarOpen (now (tile.setObj K.SCAN_STATE 3)) 1 K.PRISM_CAL_ERASE 1 svc ∧
      (now (tile.setObj K.SCAN_STATE 3)).obj K.SCAN_STATE ≠ 1) ∧
    (TileRuns derive ∧ derive.prism.derivePending = true ∧ derive.prism.use = .copyB) := by
  unfold ScalarOpen Writes TileRuns
  refine ⟨⟨chunkOpen_of ?_, ?_⟩, ?_, ⟨chunkOpen_of ?_, ?_⟩, ?_, ?_, ?_⟩ <;> decide +kernel

/-! ### The Lamp Driver Link (09_lamp_driver_link.md) -/

/-- A tile whose driver at strand 31, position 23 is in a state. -/
def driven (v : Driver) : Dev := tile.setLdl (fun l => { l with drivers := [(31 * 24 + 23, v)] })

def addressed : Driver := { Driver.powerOn with addr := some 23 }

theorem wit_UnsoundAndForeignPacketsAreNotActedOn :
    let d := now (driven addressed)
    let bad := { mkLdl 4 23 0 [7] with crc := (mkLdl 4 23 0 [7]).crc + 1 }
    let long := mkLdl 4 23 0 [7, 8]
    let foreign := mkLdl 4 22 0 [7]
    DriverPowered d ∧ (31 : Nat) < 32 ∧ (23 : Nat) < 24 ∧ ldlSound (Dev.asOpcode 4 bad) = false ∧
      ldlSound (Dev.asOpcode 4 long) = false ∧ ldlSound (Dev.asOpcode 4 foreign) = true ∧
      (d.driver 31 23).hears (Dev.asOpcode 4 foreign) = false ∧ (d.driver 31 23).blockOf (Dev.asOpcode 4 foreign) = none := by
  unfold DriverPowered
  decide +kernel

set_option maxRecDepth 20000 in
/-- A sound packet of each opcode that the driver at address 23 takes, with its block the last of the run where it has one. -/
theorem wit_DriversActOnSoundPackets :
    let d := now (driven addressed)
    let row := mkLdl 1 22 2 (31 :: List.replicate 120 0)
    let plan := mkLdl 2 31 0 [0, 0, 0]
    let flip := mkLdl 3 31 0 [0, 0, 0, 0]
    let pulse := mkLdl 6 23 1 [31, 0, 0, 1, 0, 0]
    let item := fun (n words : Nat) => mkLdl 7 23 0 (n * 256 :: List.replicate words 0)
    (DriverPowered d ∧ (d.driver 31 23).addr = some 23) ∧
    (ldlSound (Dev.asOpcode 1 row) = true ∧ row.addr < 24 ∧ row.addr ≤ 23 ∧ 23 < row.addr + row.count ∧ row.count ≤ 24) ∧
    (ldlSound (Dev.asOpcode 2 plan) = true ∧ plan.addr = 31) ∧ (ldlSound (Dev.asOpcode 3 flip) = true ∧ flip.addr = 31) ∧
    (∀ a ∈ [31, 23], ldlSound (Dev.asOpcode 4 (mkLdl 4 a 0 [0xFFFF])) = true ∧
      ldlSound (Dev.asOpcode 5 (mkLdl 5 a 0 [1])) = true ∧ (a = 31 ∨ (a < 24 ∧ (d.driver 31 23).addr = some a))) ∧
    (ldlSound (Dev.asOpcode 6 pulse) = true ∧ pulse.addr < 24 ∧ pulse.addr ≤ 23 ∧ 23 < pulse.addr + pulse.count) ∧
    (∀ x ∈ [(1, 9), (2, 4), (3, 4)], ldlSound (Dev.asItem x.1 (item x.1 x.2)) = true ∧ (item x.1 x.2).addr = 23) ∧
    ldlSound (Dev.asOpcode 7 (item 9 (diagWords 9))) = true ∧
    (ldlSound (Dev.asOpcode 8 (mkLdl 8 31 0 [23])) = true ∧ ldlSound (mkLdl 9 31 0 [1]) = true) := by
  unfold DriverPowered
  decide +kernel

/-- The GCLK count since a driver's mark, as DriversFollowMarksAndPulses writes it. -/
def countOf' (d : Dev) (v : Driver) : Nat :=
  (v.markAt.map (fun m =>
    (gclkPhase d.gclk d.gspread (m % 2 ^ 48 + (at100 - m)) - gclkPhase d.gclk d.gspread (m % 2 ^ 48)) / 31250000000)).getD 0

theorem wit_DriversFollowMarksAndPulses :
    let f : FlipCmd := { exchange := true, plan := true, na0 := 100, nfc := 0, at' := at100 - 1000 }
    let x : ArmedTest := { row := 0, mask := 1, start := 0, width := 1 }
    let d := now (driven { addressed with flips := [f], due := some f, running := [x], markAt := some (at100 - 100000) })
    let e := now (driven { addressed with
      flips := [{ f with at' := at100 - 999 }], running := [x], markAt := some at100 })
    let g := now (driven { addressed with due := some { f with nfc := 1 }, markAt := some at100 })
    DriverPowered d ∧ DriverPowered e ∧ DriverPowered g ∧
      (((d.driver 31 23).flips.filter (fun f => decide (f.at' + 1000 ≤ at100))).getLast? = some f) ∧
      ((e.driver 31 23).flips.filter (fun f => decide (f.at' + 1000 ≤ at100)) = []) ∧ (e.driver 31 23).due = none ∧
      (d.driver 31 23).due = some f ∧ f.nfc ≤ countOf' d (d.driver 31 23) ∧
      (g.driver 31 23).due = some { f with nfc := 1 } ∧ countOf' g (g.driver 31 23) < 1 ∧
      (d.driver 31 23).running = x :: [] ∧
      x.start + ((d.driver 31 23).plan.map (·.dead)).getD 0 + x.width ≤ countOf' d (d.driver 31 23) ∧
      (e.driver 31 23).running = x :: [] ∧
      countOf' e (e.driver 31 23) < x.start + ((e.driver 31 23).plan.map (·.dead)).getD 0 + x.width := by
  unfold DriverPowered
  decide +kernel

set_option maxRecDepth 20000 in
theorem wit_TheTileWatchesItsStrands :
    let row := mkLdl 1 0 1 (0 :: List.replicate 60 0)
    let diag := fun (item words : Nat) => mkLdl 7 0 0 (item * 256 :: List.replicate words 0)
    let answer := fun (item words : Nat) =>
      ldlWords (mkLdl 7 0 0 ((item * 256 + 128) :: List.replicate words 0))
    let sent := fun (k : LdlPkt) => now (tile.setStrand 31 (fun x => { x with sent := [(k, false)] }))
    let broken := now ((tile.setObj (K.STR_STATE 31) 4).setStrand 31 (fun x => { x with probedAt := some (at100 - 1000000000) }))
    let reads := now (tile.setLdl (fun l => { l with diagAt := some (at100 - tile.obj K.DIAG_READ_PERIOD * 1000000) }))
    let old := now ((((tile.setObj K.REGION_W 16).setObj K.REGION_H 16).setObj K.REGION_LAMPS 3).setObj (K.PRIM_KIND 0) 1 |>.setLdl
      (fun l => { l with lamps := [(4, 2)] }))
    (TileRuns (sent row) ∧ ((sent row).strand 31).sent = (row, false) :: [] ∧ row.opcode ≠ 7 ∧ row.opcode ≠ 8 ∧
      Dev.echoOk row [] = false) ∧
    (∀ x ∈ [(1, 9), (2, 4)], ((sent (diag x.1 x.2)).strand 31).sent = (diag x.1 x.2, false) :: [] ∧
      Dev.echoOk (diag x.1 x.2) (answer x.1 x.2) = true ∧ (diag x.1 x.2).opcode = 7 ∧
      bit 7 ((answer x.1 x.2).getD 1 0) = true ∧ (diag x.1 x.2).words.headD 0 / 256 = x.1) ∧
    (TileRuns broken ∧ broken.start.run = .armed ∧ broken.obj (K.STR_STATE 31) = 4 ∧ (broken.strand 31).bringing = false ∧
      (broken.strand 31).again = none ∧ (broken.strand 31).probedAt = some (at100 - 1000000000) ∧
      broken.inDarkGap = true ∧ broken.mayStart 31 (Dev.diagPkt 0 2 0) = true ∧
      Dev.echoOk (Dev.diagPkt 0 2 0) (answer 2 4) = true ∧ Dev.echoOk (Dev.diagPkt 0 2 0) (ldlWords (Dev.diagPkt 0 2 0)) = true ∧
      Dev.echoOk (Dev.diagPkt 0 2 0) [] = false) ∧
    (TileRuns reads ∧ reads.start.run = .armed ∧
      reads.ldl.diagAt = some (at100 - reads.obj K.DIAG_READ_PERIOD * 1000000)) ∧
    (TileRuns old ∧ old.lampState 4 = 2 ∧ old.verifiedOlder 4 (old.obj K.DIAG_VERIFY_MAX_AGE) = true) ∧
    (old.isTile = true ∧ ScalarOpen old 1 K.LAMP_CLEAR 0xFFFFFFFF svc ∧ ScalarOpen old 1 K.LAMP_CLEAR 4 svc ∧
      old.lampExists 4 = true) := by
  unfold TileRuns ScalarOpen Writes
  refine ⟨?_, ?_, ?_, ?_, ?_, ?_⟩
  · decide +kernel
  · decide +kernel
  · decide +kernel
  · decide +kernel
  · decide +kernel
  · decide +kernel
/-! ### Overlays (10_overlay_checks.md) and the wear ledger (11_wear_ledger.md) -/

def safetyKey : Bytes := List.replicate 32 5

/-- A tile with a Safety session and the key in one-time storage, with 2 x 1 pixels of overlay 3 loaded or not. -/
def guarded (f : Dev → Dev) : Dev :=
  let d := f (((tileOf roleSafety).setObj K.REGION_W 16).setObj K.REGION_H 16)
  { d with fix := { d.fix with otp := { d.fix.otp with safetyKey := some safetyKey } } }

/-- The fields of an overlay command after its first byte, for the tile with UID 1 at once. -/
def ovlTail (slot seq w h crc : Nat) : Bytes :=
  be 1 slot ++ be 2 0 ++ be 4 seq ++ be 8 1 ++ be 8 0 ++ be 2 0 ++ be 2 0 ++ be 2 w ++ be 2 h ++ be 4 crc

/-- The command and its complement, which the MAC covers. -/
def ovlBoth (cmd : Nat) (tail : Bytes) : Bytes := be 1 cmd ++ (tail ++ complement (be 1 cmd ++ tail))

/-- A signed overlay command. -/
def ovlSigned (cmd : Nat) (tail : Bytes) : Bytes := ovlBoth cmd tail ++ ovlMac safetyKey (ovlBoth cmd tail)

/-- The same without its first byte. -/
def ovlBody (cmd : Nat) (tail : Bytes) : Bytes :=
  (tail ++ complement (be 1 cmd ++ tail)) ++ ovlMac safetyKey (ovlBoth cmd tail)

theorem ovlSigned_eq (cmd : Nat) (tail : Bytes) : be 1 cmd ++ ovlBody cmd tail = ovlSigned cmd tail := by
  simp [ovlBody, ovlSigned, ovlBoth]

/-- The MAC of a signed command is the one that the check computes. -/
theorem ovlSigned_mac {cmd : Nat} {tail : Bytes} (h : (ovlBoth cmd tail).length = 72)
    (hm : (ovlMac safetyKey (ovlBoth cmd tail)).length = 32) :
    ovlMac safetyKey (ovlSigned cmd tail) = slice 72 32 (ovlSigned cmd tail) := by
  have a : (ovlSigned cmd tail).take 72 = (ovlBoth cmd tail).take 72 := by
    unfold ovlSigned
    rw [List.take_append_of_le_length (by omega)]
  have b : slice 72 32 (ovlSigned cmd tail) = ovlMac safetyKey (ovlBoth cmd tail) := by
    unfold slice ovlSigned
    rw [← h, List.drop_left, ← hm, List.take_length]
  rw [b]
  unfold ovlMac
  rw [a]

/-- The check of a signed command, past its MAC. -/
theorem ovlCheck_signed {d : Dev} {cmd : Nat} {tail : Bytes} (hk : d.fix.otp.safetyKey = some safetyKey)
    (h : (ovlBoth cmd tail).length = 72) (hm : (ovlMac safetyKey (ovlBoth cmd tail)).length = 32)
    (hc : slice 36 36 (ovlSigned cmd tail) = complement ((ovlSigned cmd tail).take 36))
    (ho : (let f := ovlFields (ovlSigned cmd tail)
      f.target == d.fix.fuses.uid && decide (d.obj K.OVL_SEQUENCE < f.seq) && !ovlFieldsBad f && f.applyAt == 0 &&
        d.ovlAccept f == Status.OK && decide (d.flash.ovl.length < 16)) = true) :
    d.ovlCheck (ovlSigned cmd tail) = Status.OK := by
  simp only [Bool.and_eq_true, beq_iff_eq, decide_eq_true_eq, Bool.not_eq_true'] at ho
  obtain ⟨⟨⟨⟨⟨h1, h2⟩, h3⟩, h4⟩, h5⟩, h6⟩ := ho
  have hl : (ovlSigned cmd tail).length = 104 := by
    unfold ovlSigned
    rw [List.length_append, h, hm]
  unfold Dev.ovlCheck
  simp only [hl, hk, Option.map_some, ovlSigned_mac h hm, hc, h1, h3, h4, h5]
  simp [Nat.not_le.mpr h2, Nat.not_le.mpr h6]

theorem wit_OverlayCommandsTakeEffectOrAreCounted :
    let key := theSession roleSafety
    let fresh := now (guarded id)
    let loaded := now (guarded (fun d => (((d.setObj (K.OVL_STATE 3) 2).setObj (K.OVL_W 3) 2).setObj (K.OVL_H 3) 1)))
    let moving := now (guarded (fun d => d.setObj K.MODE_NUMBER mode100))
    let image := ovlTail 3 1 2 1 0
    let bare := ovlTail 3 1 0 0 0
    let g : BlobStage := { key := K.OVL_DATA 3, session := 1, txn := 0, total := 12, data := zeros 6, lastChunk := 0 }
    let part := fun (crc : Nat) => now (guarded (fun d => (((((d.setObj (K.OVL_STATE 3) 1).setObj (K.OVL_W 3) 2).setObj
      (K.OVL_H 3) 1).setObj (K.OVL_IMAGE_CRC 3) crc).setPliuk (fun p => { p with stages := [g] }))))
    let b : Chunk := { offset := 6, total := 12, more := false, data := zeros 6 }
    OverlayOpen fresh 1 key ∧ OverlayOpen loaded 1 key ∧ OverlayOpen moving 1 key ∧
    fresh.ovlCheck (ovlSigned 1 image) = Status.OK ∧
    loaded.ovlCheck (ovlSigned 4 bare) = Status.OK ∧
    loaded.ovlCheck (ovlSigned 2 image) = Status.OK ∧
    moving.ovlCheck (ovlSigned 5 (ovlTail 0 1 0 0 0)) = Status.OK ∧
    (loaded.mode = 0 ∧ moving.mode ≠ 0 ∧ (ovlFields (ovlSigned 2 image)).applyAt = 0) ∧
    (∀ cmd ∈ [1, 2, 3, 4, 5, 6], fresh.ovlCheck (be 1 cmd ++ zeros 102) ≠ Status.OK) ∧
    (∀ cmd ∈ [0, 6, 255], (ovlBoth cmd bare).length = 72 ∧ (ovlMac safetyKey (ovlBoth cmd bare)).length = 32 ∧
      fresh.fix.otp.safetyKey = some safetyKey ∧
      slice 36 36 (ovlSigned cmd bare) = complement ((ovlSigned cmd bare).take 36) ∧
      (ovlFields (ovlSigned cmd bare)).target = fresh.fix.fuses.uid ∧
      fresh.obj K.OVL_SEQUENCE < (ovlFields (ovlSigned cmd bare)).seq) ∧
    (ChunkOpen (part 0) 1 (K.OVL_DATA 3) b key ∧ (part 0).stageOf 1 0 (K.OVL_DATA 3) = some g ∧
      Dev.chunkFits g b = true ∧ b.more = false ∧ (part 0).ovlState 3 = 1 ∧
      b.total = (part 0).obj (K.OVL_W 3) * (part 0).obj (K.OVL_H 3) * 6) ∧
    (crc32c (zeros 12) ≠ (part 0).obj (K.OVL_IMAGE_CRC 3) ∧
      crc32c (zeros 12) = (part (crc32c (zeros 12))).obj (K.OVL_IMAGE_CRC 3)) := by
  refine ⟨overlayOpen_of ?_, overlayOpen_of ?_, overlayOpen_of ?_, ovlCheck_signed ?_ ?_ ?_ ?_ ?_, ovlCheck_signed ?_ ?_ ?_ ?_ ?_,
    ovlCheck_signed ?_ ?_ ?_ ?_ ?_, ovlCheck_signed ?_ ?_ ?_ ?_ ?_, ?_, ?_, ?_, ⟨chunkOpen_of ?_, ?_⟩, ?_⟩ <;>
    decide +kernel

theorem wit_TheWearLedgerFoldsAndCheckpoints :
    let d := now (tile.setObj K.LEDG_STATE 2)
    let off := (tile.setObj K.LEDG_STATE 2).begin (at100 + 1)
    let minute := (tile.setObj K.LEDG_STATE 2).begin (at100 + 20000000000)
    let c : Ckpt := { seq := 1, snapTime := at100, close := false }
    let full := [0, 1, 2, 3, 4, 5, 6]
    let small := ((tile.setObj K.REGION_W 16).setObj K.REGION_H 16).setObj K.REGION_LAMPS 1
    let taken := now ((small.setObj K.LEDG_STATE 2).setLedger (fun l =>
      { l with ckpt := some c, journal := { l.journal with ring := full } }))
    let written := fun (failing : List (Nat × Nat)) =>
      ((List.range (ceilDiv taken.entryCount 8176)).foldl (fun r i => r.writeRecord (r.segmentRecord c.seq i))
        (taken.setJournal (fun j => { j with failing := j.failing ++ failing }))).appendRecord
          (mkRecord 3 c.seq 0 [c.snapTime / 2 ^ 32 % 2 ^ 16, c.snapTime % 2 ^ 32, taken.entryCount,
            ceilDiv taken.entryCount 8176])
    (TileRuns off ∧ off.integ.restart = none ∧ (at100 + 1) % 1000000000 ≠ 0) ∧
    (TileRuns d ∧ d.integ.restart = none ∧ at100 % 1000000000 = 0 ∧ at100 / 1000000000 % 60 ≠ 0) ∧
    (TileRuns minute ∧ (at100 + 20000000000) % 1000000000 = 0 ∧ (at100 + 20000000000) / 1000000000 % 60 = 0) ∧
    (TileRuns taken ∧ taken.ledger.ckpt = some c ∧ taken.journalWritable = true ∧ (written []).journalWritable = true ∧
      (written (full.map (fun b => (b, 0)))).journalWritable = false) ∧
    (let dying := now ((small.setObj K.LEDG_STATE 2).setLedger (fun l =>
       { l with journal := { l.journal with ring := full, failing := full.map (fun b => (b, 0)) } }))
     let shut := now (tile.setObj K.LEDG_STATE 4)
     ScalarOpen dying 1 K.LEDG_CHECKPOINT_NOW 1 svc ∧ dying.journalWritable = true ∧
      (dying.openCkpt dying.wall false).2.journalWritable = false ∧
      ScalarOpen shut 1 K.LEDG_CHECKPOINT_NOW 1 svc ∧ shut.journalWritable = false ∧
      (taken.openCkpt taken.wall false).2.journalWritable = true ∧ ScalarOpen taken 1 K.LEDG_CHECKPOINT_NOW 1 svc) ∧
    (d.isTile = true ∧ ScalarOpen d 1 K.LEDG_CHECKPOINT_NOW 1 svc ∧ d.journalWritable = true ∧
      ScalarOpen d 1 K.LEDG_FORMAT 1 svc ∧ ScalarOpen d 1 K.LEDG_LAMP_RESET 0xFFFFFFFF svc ∧
      ScalarOpen d 1 K.LEDG_TILE_CEILING_RESET 1 svc) ∧
    (let e := now ((((tile.setObj K.REGION_W 16).setObj K.REGION_H 16).setObj K.REGION_LAMPS 4).setObj (K.PRIM_KIND 3) 1)
     ScalarOpen e 1 K.LEDG_LAMP_RESET 1023 svc ∧ e.lampExists 1023 = true) := by
  unfold TileRuns ScalarOpen Writes
  refine ⟨?_, ?_, ?_, ?_, ?_, ?_, ?_⟩ <;> decide +kernel

theorem wit_CeilingRequestsStandAndLapse :
    let d := now (((portUpAt 0 tile).setObj K.LEDG_WALL_REQUEST 0x7FFF) |>.setLedger (fun l =>
      { l with requestAt := some (at100 - 10000000000) }))
    let packet := fun (low : Nat) => mkPacket clsCtl 0 0 (be 1 4 ++ be 3 0 ++ be 8 77 ++ be 4 0 ++ be 2 0x7000 ++ be 2 low)
    let s := now ((portUpAt 0 sender).setLedger (fun l => { l with requests := [(77, 0x7000, at100 - 30000000000)] }))
    let p := packet (65535 - 0x7000)
    (TileRuns d ∧ d.obj K.LEDG_WALL_REQUEST < 0x8000 ∧ d.ledger.requestAt = some (at100 - 10000000000) ∧ d.portUp 0 = true ∧ fieldAt 0 1 p.body = 4 ∧
      Dev.isMine p = false) ∧
    (SenderRuns s ∧ s.portUp 0 = true ∧ pktPasses p = true ∧ p.body.length = 20 ∧
      fieldAt 18 2 p.body = 65535 - fieldAt 16 2 p.body) ∧
    (pktPasses (packet 0) = true ∧ fieldAt 18 2 (packet 0).body ≠ 65535 - fieldAt 16 2 (packet 0).body) ∧
    (∀ r ∈ s.ledger.requests, r.2.2 + 30000000000 ≤ at100) ∧ s.ledger.requests ≠ [] := by
  unfold TileRuns SenderRuns
  decide +kernel

/-! ### Sense (12_sense.md) -/

/-- Conversions at a multiple of 500 µs in each phase, thermal cycles at a multiple of 100 ms, and both 1 ns later. -/
theorem wit_ConversionsAndThermalCycles :
    let d := fun (ph : CalPhase) (n : Nat) (due : Bool) =>
      now (tile.setSense (fun q => { q with phase := ph, periods := n, due := due }))
    at100 % 2 ^ 48 % 500000 = 0 ∧ at100 % 2 ^ 48 % 100000000 = 0 ∧ (at100 + 1) % 2 ^ 48 % 500000 ≠ 0 ∧
      (at100 + 1) % 2 ^ 48 % 100000000 ≠ 0 ∧ (now tile).controlRuns = true ∧
      (now (tile.setInteg (fun g => { g with restart := some at100 }))).controlRuns = false ∧
    ((d .starting 0 false).portsRun = true ∧ (d .starting 0 false).sense.phase = .starting) ∧
    ((d .idle 0 true).portsRun = true ∧ (d .idle 0 true).sense.due = true ∧ (d .idle 0 true).sense.phase = .idle) ∧
    ((d (.back 7) 0 false).portsRun = true ∧ (d (.back 7) 0 false).sense.phase = .back 7 ∧
      (d (.back 7) 0 false).sense.periods = 0) ∧
    ((d (.back 7) 1 false).sense.phase ≠ .starting ∧ (d (.back 7) 1 false).sense.phase ≠ .idle ∧
      (d (.back 7) 1 false).sense.periods ≠ 0 ∧ (d .idle 0 false).sense.due = false) := by
  decide +kernel

theorem wit_CalibrationRunsStepByStep :
    let d := fun (ph : CalPhase) (n : Nat) => now (tile.setSense (fun q => { q with phase := ph, periods := n }))
    let meas := fun (z r : Int) =>
      ({ zeros := List.replicate 8 7 ++ List.replicate 120 z, refs := List.replicate 8 7 ++ List.replicate 120 r } : CalMeasure)
    let fails := fun (m : CalMeasure) => calFails (phaseMean m.zeros) (phaseMean m.refs)
    let good := meas 65536 (65536 + 13153338)
    let bad := meas 65537 13500000
    let retired := now (tile.setObj (K.ADC_STATE 8) 5)
    ((d .spare 128).portsRun = true ∧ (d .spare 128).calStepRun = true ∧ (d .spare 128).sense.phase = .spare ∧
      fails good = false ∧ fails bad = true) ∧
    (∀ ph ∈ [CalPhase.toSpare 7, .zero 7, .refer 7, .back 6, .back 7], (d ph 64).calStepRun = true ∧
      (d ph 64).sense.phase = ph) ∧
    ((d (.refer 7) 64).sense.zero = 0 ∧ calFails 0 (phaseMean (meas 0 13690208).refs) = false ∧
      calFails 0 (phaseMean (meas 0 13690209).refs) = true) ∧
    (ScalarOpen (now tile) 1 K.SNS_CAL_START 1 svc ∧ (∀ k < 9, (now tile).obj (K.ADC_STATE k) ≠ 5) ∧
      (now tile).sense.phase = .idle ∧ (now tile).sense.due = false) ∧
    (ScalarOpen (d .spare 0) 1 K.SNS_CAL_START 1 svc ∧ (∀ k < 9, (d .spare 0).obj (K.ADC_STATE k) ≠ 5) ∧
      (d .spare 0).sense.phase ≠ .idle) ∧
    (ScalarOpen retired 1 K.SNS_CAL_START 1 svc ∧ retired.obj (K.ADC_STATE 8) = 5) ∧
    ((d .starting 128).portsRun = true ∧ (d .starting 128).sense.phase = .starting ∧ 128 ≤ (d .starting 128).sense.periods ∧ (List.replicate 9 good).length = 9 ∧
      ∀ m ∈ List.replicate 9 good, fails m = false) := by
  unfold ScalarOpen Writes
  refine ⟨?_, ?_, ?_, ?_, ?_, ?_, ?_⟩ <;> decide +kernel

theorem wit_AbsentInputsAndPhotodiodeCaptures :
    let d := now (tile.setSense (fun q => { q with
      absentSince := [none, none, none, some (at100 - 10000000000)]
      inputs := q.inputs.set 15 { SenseInput.off with dark := some (at100 - 1000000000, 900, 3) } }))
    (TileRuns d ∧ (d.sense.absentSince[3]?).getD none = some (at100 - 10000000000)) ∧
    ((d.senseIn 15).dark = some (at100 - 1000000000, 900, 3) ∧ 0 < 3) ∧
    (∀ st ∈ [1, 2, 3], ∀ v ∈ [1, 2], ScalarOpen (now (tile.setObj K.SCAN_STATE st)) 1 (K.SNS_PD_CAPTURE 15) v svc ∧
      (now (tile.setObj K.SCAN_STATE st)).obj K.SCAN_STATE = st) := by
  unfold TileRuns ScalarOpen Writes
  refine ⟨?_, ?_, ?_⟩ <;> decide +kernel

/-! ### The Withy link (13_withy.md) -/

/-- Port 1 of a tile in a link state and a phase. -/
def portIn (st : Nat) (f : Port → Port) : Dev := now ((tile.setPort 1 f).setObj (K.WITHY_STATE 1) st)

def theHello (pers uid : Nat) : Hello :=
  { pers := pers, dieRev := 0, verPhy := 0, uid := uid, port := 0, rateNow := 0, rateMask := 15, step := 0, next := 0xFF,
    cableClass := 0, claim := 0, genSeen := 0, attempt := 1 }

theorem wit_PortsStepTheirRates :
    let locking := portIn 2 (fun q =>
      { q with phase := .locking 1, rate := 2, lanes := [true, true, true, false], since := at100 - 2000000,
               align := [(3, 0), (2, 0), (1, 40000), (1, 0)] })
    let lockedLanes := [((0 : Nat), (0 : Nat)), (1, 0), (2, 40000), (3, 0)]
    let gains := fun (lane : Nat) (a : LaneAlign) =>
      (locking.setPort 1 (fun z => { z with
        lanes := upd lane (fun _ => true) z.lanes, align := upd lane (fun _ => (a.lane, a.skewPs)) z.align })).setObj
          K.LANE_RX_INVERTED (setBit (8 + 4 * 1 + lane) a.inverted (locking.obj K.LANE_RX_INVERTED))
    let up := portIn 3 (fun q => { q with rate := 2, lanes := [true, true, true, true], align := lockedLanes })
    let verify := fun (intact errors agreed : Nat) =>
      portIn 2 (fun q => { q with phase := .verify 1, rate := 2, agreed := agreed, intact := intact, errors := errors,
                                  since := at100 - 1000000 })
    let waits := fun (ph : LinkPhase) =>
      portIn 2 (fun q => { q with phase := ph, rate := 1, lanes := [true, true, true, true], align := lockedLanes, since := at100 - 10000000 })
    let hello := fun (n : Nat) => now (((tile.setPort 1 (fun q => { q with phase := .hello })).setObj (K.WITHY_STATE 1) 2).setObj
      (K.WITHY_ATTEMPTS 1) n)
    (locking.portsRun = true ∧ 1 < locking.nPorts ∧ locking.linkState 1 = 2 ∧ (locking.port 1).phase = .locking 1 ∧
      (locking.port 1).since = at100 - 2000000 ∧
      (gains 3 { inverted := true, lane := 0, skewPs := 0 }).portLocked 1 = true ∧
      (gains 3 { inverted := true, lane := 1, skewPs := 0 }).portLocked 1 = false ∧
      (gains 3 { inverted := true, lane := 0, skewPs := 40001 }).portLocked 1 = false ∧
      (gains 0 { inverted := true, lane := 3, skewPs := 0 }).portLocked 1 = false) ∧
    (up.portsRun = true ∧ up.linkState 1 = 3) ∧
    ((verify 8 0 2).linkState 1 ≠ 3 ∧ (verify 8 0 2).linkState 1 ≠ 1 ∧ ((verify 8 0 2).port 1).phase = .verify 1) ∧
    (∀ ph ∈ [LinkPhase.hello, .request 2], (waits ph).linkState 1 = 2 ∧ ((waits ph).port 1).phase = ph ∧
      (waits ph).portLocked 1 = true ∧ 0 < ((waits ph).port 1).rate ∧
      ((waits ph).port 1).since + 10000000 ≤ at100) ∧
    (((verify 8 0 2).port 1).since + 1000000 ≤ at100 ∧ 8 ≤ ((verify 8 0 2).port 1).intact ∧ ((verify 8 0 2).port 1).errors + 0 = 0 ∧
      ((verify 8 0 2).port 1).agreed ≤ ((verify 8 0 2).port 1).rate ∧
      ((verify 8 0 3).port 1).rate < ((verify 8 0 3).port 1).agreed ∧ ((verify 7 0 2).port 1).intact < 8 ∧
      ((verify 8 1 2).port 1).errors + 0 ≠ 0 ∧ ((verify 8 0 2).port 1).errors + 1 ≠ 0) ∧
    ((hello 7).linkState 1 = 2 ∧ ((hello 7).port 1).phase = .hello ∧ (hello 7).obj (K.WITHY_ATTEMPTS 1) < 8 ∧
      8 ≤ (hello 8).obj (K.WITHY_ATTEMPTS 1)) ∧
    (let e := portIn 2 (fun q => { q with phase := .backoff })
     e.linkState 1 = 2 ∧ (e.port 1).phase = .backoff ∧
      (e.port 1).since + Dev.backoffTime (e.obj (K.WITHY_ATTEMPTS 1)) ≤ at100) := by
  refine ⟨?_, ?_, ?_, ?_, ?_, ?_, ?_⟩ <;> decide +kernel

/-- The pattern packet that the verification step counts. -/
theorem wit_PortsStepTheirRates_pattern :
    pktPasses (mkPacket clsChk 0 1 (zeros 1024)) = true ∧ pktLink (mkPacket clsChk 0 1 (zeros 1024)) = true ∧
      (mkPacket clsChk 0 1 (zeros 1024)).body.length = 1024 :=
  ⟨mkPacket_passes (by decide +kernel) (by decide +kernel) (by decide +kernel), by decide +kernel, by decide +kernel⟩

theorem wit_HellosTrainPorts :
    let p := fun (pers uid : Nat) => mkPacket clsHello 0 1 (helloBytes (theHello pers uid))
    let inState := fun (st : Nat) (ph : LinkPhase) => portIn st (fun q => { q with phase := ph, beacon := true })
    let s := now ((withHoop (portUpAt 0 sender)).setPort 0 (fun q =>
      { q with rate := 1, partner := some (theHello 2 9), failedStepUps := 2,
               since := at100 - sender.obj (K.WITHY_RETRY_UP 0) * 1000000 }))
    let up := now (portUpAt 1 tile)
    let dark := portIn 4 (fun q => { q with phase := .dark, since := at100 - 1000000000 })
    (∀ x ∈ [(2, 9), (1, 9), (2, 1)], pktPasses (p x.1 x.2) = true ∧ pktLink (p x.1 x.2) = true ∧
      parseHello (p x.1 x.2).body = some (theHello x.1 x.2)) ∧
    ((inState 2 .hello).portsRun = true ∧ 1 < (inState 2 .hello).nPorts ∧ (theHello 2 1).uid = tile.fix.fuses.uid ∧
      s.isSender = true ∧ (theHello 1 9).pers = 1 ∧
      ¬ ((tile.isSender = true ∧ (theHello 1 9).pers = 1) ∨ (theHello 1 9).uid = tile.fix.fuses.uid)) ∧
    ((inState 4 .dark).linkState 1 = 4 ∧ (inState 2 .hello).linkState 1 = 2 ∧
      ((inState 2 .hello).port 1).phase = .hello ∧ ((inState 4 .dark).port 1).beacon = true ∧
      ((inState 2 (.request 3)).port 1).phase = .request 3 ∧ (inState 2 (.request 3)).linkState 1 = 2 ∧
      (inState 2 .backoff).linkState 1 = 2 ∧ ((inState 2 .backoff).port 1).phase = .backoff ∧
      (dark.port 1).since + 1000000000 ≤ at100 ∧ dark.linkState 1 = 4) ∧
    (up.portsRun = true ∧ up.linkState 1 = 3 ∧ (theHello 1 9).step ≠ 1 ∧
      (let x := { theHello 1 9 with step := 1, next := 2 }
       parseHello (helloBytes x) = some x ∧ x.next = (up.port 1).rate + 1)) ∧
    ((s.port 0).partner = some (theHello 2 9) ∧ s.portUp 0 = true ∧
      (s.port 0).rate < topRate (s.rateMask 0 &&& (theHello 2 9).rateMask) ∧ (s.port 0).failedStepUps < 3 ∧
      s.hoopClosed 0 = true ∧ s.fix.fuses.uid < (theHello 2 9).uid ∧
      (s.port 0).since + s.obj (K.WITHY_RETRY_UP 0) * 1000000 ≤ at100) ∧
    (∀ st ∈ [1, 4], ScalarOpen (inState st .dark) 1 (K.WITHY_RETRAIN 1) 1 svc ∧ (inState st .dark).linkState 1 = st) ∧
    (∀ v ∈ [0, 1], ScalarOpen (inState 2 .hello) 1 (K.WITHY_ENABLE 1) v svc ∧
      (inState 2 .hello).obj (K.WITHY_ENABLE 1) = 1) ∧
    (ScalarOpen (now (tile.setObj (K.WITHY_ENABLE 1) 0)) 1 (K.WITHY_ENABLE 1) 1 svc ∧
      (now (tile.setObj (K.WITHY_ENABLE 1) 0)).obj (K.WITHY_ENABLE 1) ≠ 1) := by
  unfold ScalarOpen Writes
  refine ⟨?_, ?_, ?_, ?_, ?_, ?_, ?_, ?_⟩ <;> decide +kernel

/-- A session that writes the last byte of the equaliser table. -/
def eqLast (data : Bytes) : Dev × BlobStage × Chunk :=
  let g : BlobStage :=
    { key := K.EQ_TABLE, session := 1, txn := 0, total := 4016, data := data.take 4015, lastChunk := 0 }
  (now (tile.setPliuk (fun p => { p with stages := [g] })), g,
    { offset := 4015, total := 4016, more := false, data := data.drop 4015 })

set_option maxRecDepth 100000 in
theorem wit_HellosTrainPorts_eqTable :
    (ChunkOpen (eqLast eqTable).1 1 K.EQ_TABLE (eqLast eqTable).2.2 svc ∧
      (eqLast eqTable).1.stageOf 1 0 K.EQ_TABLE = some (eqLast eqTable).2.1 ∧
      Dev.chunkFits (eqLast eqTable).2.1 (eqLast eqTable).2.2 = true ∧ (eqLast eqTable).2.2.more = false) ∧
    eqTableOk ((eqLast eqTable).2.1.data ++ (eqLast eqTable).2.2.data) = true ∧
    eqTableOk ((eqLast (zeros 4016)).2.1.data ++ (eqLast (zeros 4016)).2.2.data) = false := by
  refine ⟨⟨chunkOpen_of (by decide +kernel), rfl, by decide +kernel, rfl⟩, ?_, ?_⟩
  · show eqTableOk (eqTable.take 4015 ++ eqTable.drop 4015) = true
    rw [List.take_append_drop]
    exact eqTable_ok
  · show eqTableOk ((zeros 4016).take 4015 ++ (zeros 4016).drop 4015) = false
    rw [List.take_append_drop]
    decide +kernel

/-- A packet that no grant run takes. -/
def tooLong : Packet := { mkPacket 1 0 0 (zeros 16) with body := zeros 6200 }

theorem dataBlocks_length : ∀ (n : Nat) (b : Bytes), (dataBlocks n b).length = n
  | 0, _ => rfl
  | n + 1, b => by rw [dataBlocks, List.length_cons, dataBlocks_length n]

theorem tooLong_columns : 191 < pktColumns tooLong := by
  have h : tooLong.body.length = 6200 := List.length_replicate
  simp only [pktColumns, pktBlocks, List.length_append, List.length_cons, List.length_nil, dataBlocks_length, h]
  decide

theorem wit_ColumnsAndGrantRunsPass :
    let small := mkPacket 1 0 0 (zeros 16)
    let d := now ((portUpAt 1 (portUpAt 0 tile)).setPort 1 (fun q => { q with own := [small], grants := true }))
    let e := now ((portUpAt 1 (portUpAt 0 tile)).setPort 1 (fun q => { q with own := [tooLong] }))
    let half := now (portUpAt 0 tile)
    let s := now (portUpAt 3 sender)
    let pd := fun (type : Nat) => mkPacket clsTim 0 1 (timBytes type 0 0 9 0 1 1 (-3) (stampBytes 0 ++ be 8 1 ++ be 2 1))
    let chk := mkPacket clsChk 0 1 (zeros 16)
    let with' := fun (p : Packet) (r : List Int) => now ((portUpAt 1 (portUpAt 0 tile)).setPort 1 (fun q =>
      { q with own := [p], grants := true, respIn := r }))
    (d.portsRun = true ∧ d.isTile = true ∧ d.portUp 0 = true ∧ (3 : Nat) < 4 ∧ (3 : Nat) ≤ 3 ∧ d.portUp (Dev.otherPort 0) = true ∧
      0 < d.withy.ports.length ∧ (0 : Nat) < 1) ∧
    (s.portsRun = true ∧ s.isSender = true ∧ s.sendsColumns 3 = true ∧ s.portUp 3 = true ∧ (s.port 3).own = []) ∧
    (columnBad [some 0x1E, some 0x1E, some 0x1E, some 0x1E] = false ∧ columnBad [none, none, none, none] = false ∧
      columnBad [some 0x1E, some 0x4B, some 0x1E, some 0x1E] = true ∧ columnBad [some 0x00, none, none, none] = true) ∧
    (∀ x ∈ [(pd 2, 2), (pd 3, 3)], ∀ r ∈ [[], [(7 : Int)]], ((with' x.1 r).port 1).own = [x.1] ∧ ((with' x.1 r).port 1).respIn = r ∧
      x.1.cls = clsTim ∧ timType x.1.body = x.2 ∧ pktColumns x.1 ≤ 191) ∧
    (((with' chk []).port 1).own = [chk] ∧ chk.cls = clsChk ∧ clsChk ≠ clsTim ∧ pktColumns chk ≤ 191) ∧
    (Dev.isMine { small with target := 1 } = true ∧ Dev.isMine { small with target := 5 } = false ∧ 0 < d.nPorts ∧ d.linkState 0 ≠ 1 ∧
      half.portUp (Dev.otherPort 0) = false) ∧
    (d.portUp 1 = true ∧ (d.port 1).grants = true ∧ (d.port 1).own = small :: [] ∧ pktColumns small ≤ 191 ∧
      pktColumns small ≤ 1) ∧
    ((e.port 1).own = tooLong :: [] ∧ 191 < pktColumns tooLong) ∧
    (half.isTile = true ∧ half.portUp 0 = true ∧ half.portUp (Dev.otherPort 0) = false) ∧
    ((now ((portUpAt 1 tile).setPort 0 (fun q => { q with lastGrant := some (at100 - 1000000) }))).portUp (Dev.otherPort 0) = true ∧
      ((now ((portUpAt 1 tile).setPort 0 (fun q => { q with lastGrant := some (at100 - 1000000) }))).port 0).lastGrant =
        some (at100 - 1000000) ∧ ((now (portUpAt 1 tile)).port 0).lastGrant = none) := by
  refine ⟨?_, ?_, ?_, ?_, ?_, ?_, ?_, ⟨rfl, tooLong_columns⟩, ?_, ?_⟩ <;> decide +kernel

/-- A CTL packet of the enumeration with the sender's UID and the records of no tile. -/
def enumPacket (uid flags : Nat) : Packet := mkPacket clsCtl 0xFF flags (be 1 3 ++ be 3 0 ++ be 8 uid ++ be 4 0 ++ zeros 1536)

theorem enumPacket_passes (uid flags : Nat) (h : flags < 4) : pktPasses (enumPacket uid flags) = true :=
  have e : (be 1 3 ++ be 3 0 ++ be 8 uid ++ be 4 0 ++ zeros 1536).length = 1552 := by
    rw [List.length_append, zeros, List.length_replicate]
    rfl
  mkPacket_passes (by omega) (by omega) h

theorem wit_LinkChecksAndEnumeration :
    let link := fun (seq started : Nat) => mkPacket clsChk 0 1 (be 4 seq ++ be 4 started ++ zeros 8)
    let d := now ((portUpAt 1 (portUpAt 0 tile)).setPort 0 (fun q => { q with chkLast := some (2 ^ 32 - 1), started := 5 }))
    let s := now (portUpAt 0 sender)
    let other := mkPacket 14 0 0 [1]
    (d.portsRun = true ∧ d.portUp 0 = true ∧ pktPasses (link 0 5) = true ∧ pktLink (link 0 5) = true ∧
      (link 0 5).body.length = 16 ∧ (d.port 0).chkLast = some ((fieldAt 0 4 (link 0 5).body + 2 ^ 32 - 1) % 2 ^ 32) ∧
      fieldAt 4 4 (link 0 5).body = (d.port 0).started ∧ fieldAt 4 4 (link 0 4).body ≠ (d.port 0).started ∧
      fieldAt 0 4 (link 1 5).body ≠ (2 ^ 32 - 1 + 1) % 2 ^ 32 ∧ (s.port 0).chkLast = none) ∧
    (other.cls ≠ clsTim ∧ pktLink other = false ∧ pktPasses other = true ∧ pktPasses { other with crc := other.crc + 1 } = false ∧
      s.isSender = true ∧ d.isTile = true ∧
      (let tim := fun (ty : Nat) => mkPacket clsTim 0 0 (timBytes ty 0 0 0 0 1 1 0 [])
       pktPasses (tim 1) = true ∧ timType (tim 1).body ∉ [0x0, 0x2, 0x3, 0xB] ∧ timType (tim 0xB).body ∈ [0x0, 0x2, 0x3, 0xB])) ∧
    (s.portsRun = true ∧ s.portUp 0 = true ∧ (enumPacket 9 0).body.length = 1552 ∧
      fieldAt 4 8 (enumPacket 9 0).body ≠ s.fix.fuses.uid ∧ pktTurned (enumPacket 9 0) = false ∧
      fieldAt 4 8 (enumPacket 1 2).body = s.fix.fuses.uid ∧ pktTurned (enumPacket 1 2) = true ∧
      (s.hoopOf 0).closed = false ∧ pktLink (enumPacket 9 0) = false) ∧
    (d.portUp (Dev.otherPort 0) = true ∧ (now (portUpAt 0 tile)).portUp (Dev.otherPort 0) = false ∧
      (now (portUpAt 0 tile)).portUp 0 = true) ∧
    ((now (sender.setHoop 3 { (sender.hoopOf 3) with closed := true, lastPartner := some (at100 - 300000000) })).hoopOf 3).closed
      = true ∧
    ((now { tile with withy := { tile.withy with
      tileEnum := [{ dist := 1, hops := 1, sender := 9, lastAt := some (at100 - 300000000) }] } }).tileEnumOf 0).lastAt =
        some (at100 - 300000000) := by
  refine ⟨?_, ?_, ?_, ?_, ?_, ?_⟩ <;> decide +kernel
/-! ### Pairs, DRAM and check units (14_hoops.md, 15_dram.md, 16_check_units.md) -/

/-- A sender on port 0 of a closed hoop, with its own and its partner's claim. -/
def paired (role gen partner : Nat) : Dev :=
  now (((((withHoop (portUpAt 0 sender)).setObj (K.ENUM_CLOSED 0) 1).setObj K.PAIR_ROLE role).setObj K.PAIR_GENERATION
    gen).setObj K.PAIR_PARTNER_CLAIM partner)

theorem wit_SenderPairsSettleTheirRoles :
    let d := paired 2 1 0x301
    let x := { d.flpOf 0 mode100 (facetAt mode100 10001) 0 10001 0 with claim := 0x201 }
    let p := mkPacket clsFlp 0xFF 0 (flpBytes x)
    let free := (paired 2 1 0x301).setTb (fun b => { b with partnerFreerunSince := some (at100 - 1000000000) })
    (SenderRuns d ∧ d.portUp 0 = true ∧ pktPasses p = true ∧ (d.countRx 0 p).validFlp p.body = some x ∧ d.role ≠ 1 ∧
      d.role ≠ 5) ∧
    (d.obj K.INTEG_STATE = 1 ∧ (paired 1 1 0).role = 1 ∧ (paired 5 1 0).role = 5 ∧ (paired 3 1 0).role = 3 ∧ SenderRuns (paired 3 1 0) ∧
      (paired 3 1 0).pair.quietSince + (paired 3 1 0).obj K.PAIR_JOIN_WAIT * 1000000 ≤ at100) ∧
    (d.obj K.PAIR_AUTO_TAKEOVER = 1 ∧ d.claim < d.obj K.PAIR_PARTNER_CLAIM ∧ d.obj (K.ENUM_CLOSED 0) = 1 ∧
      ∀ h < 4, d.obj (K.ENUM_CLOSED h) = 1 → d.pathSilent h = true) ∧
    (free.time.partnerFreerunSince = some (at100 - 1000000000) ∧ at100 - 1000000000 + 10 ^ 9 ≤ at100 ∧
      (free.setObj K.TIME_STATE tsLocked).tstate = tsLocked) ∧
    (ScalarOpen d 1 K.PAIR_TAKEOVER 1 svc ∧ ScalarOpen (paired 2 3 0x301) 1 K.PAIR_TAKEOVER 1 svc ∧
      (paired 2 3 0x301).obj K.PAIR_PARTNER_CLAIM ≤ (paired 2 3 0x301).claim) ∧
    (ScalarOpen d 1 K.PAIR_STATE_CONFIRM d.pairDigest svc ∧ ScalarOpen d 1 K.PAIR_STATE_CONFIRM 0 svc) := by
  unfold SenderRuns ScalarOpen Writes
  refine ⟨?_, ?_, ?_, ?_, ?_, ?_⟩ <;> decide +kernel

/-- A tile whose memory runs on both channels, with a scrub position. -/
def remembering (run : Run) (scrub0 scrub1 : Nat) : Dev :=
  let d := (((device .tile run roleService).setObj K.INTEG_STATE 1).setObj K.DRAM_STATE 2).setObj (K.CH_STATE 0) 2
  (((d.setObj (K.CH_STATE 1) 2).setObj K.DRAM_SETPOINT 1).setDramCh 0 (fun x => { x with scrub := scrub0, epochEnd := at100 })).setDramCh 1
    (fun x => { x with scrub := scrub1, epochEnd := at100 })

theorem wit_TheMemoryIsTrainedRefreshedAndScrubbed :
    let d := now (remembering .armed (channelBursts - 1) channelBursts)
    let training := (remembering .armed 0 0).setDramCh 0 (fun x => { x with epochEnd := 0 })
    let hot := now (((((remembering .armed 0 0).setObj K.MODE_NUMBER mode100).setObj K.DRAM_STATE 3).setObj K.SCAN_ENABLE 1).setDram
      (fun m => { m with waiting := none }))
    let q := now (remembering .toStandby 0 0)
    (d.portsRun = true ∧ d.dramRuns = true ∧ d.chServes 1 = true ∧ (15 : Nat) < 16) ∧
    ((d.dramCh 0).scrub < channelBursts ∧ (d.dramCh 1).scrub = channelBursts ∧
      ((now (remembering .armed 0 0)).dramCh 1).scrub < channelBursts) ∧
    (0 < d.dieCount ∧ (1 : Nat) ≤ 3) ∧
    (d.obj K.DRAM_SETPOINT ≠ d.setpointDue ∧ d.setpointUrgent = false ∧ d.anyEpoch = false ∧
      (now training).obj K.DRAM_SETPOINT ≠ (now training).setpointDue ∧ (now training).setpointUrgent = false ∧
      hot.obj K.DRAM_SETPOINT ≠ hot.setpointDue ∧ hot.setpointUrgent = true ∧ hot.portsRun = true ∧ hot.dramRuns = true) ∧
    ((now (remembering .armed 0 0)).anyEpoch = false ∧ (now training).anyEpoch = true ∧
      (now training).chServes 0 = true ∧ (now training).epochRuns 0 = true) ∧
    (d.isTile = true ∧ d.dram.rangeAt.getD 0 none = none ∧ (let again := d.setDram (fun m => { m with
        rangeAt := upd 0 (fun _ => some (at100 - 32000000)) m.rangeAt })
      again.isSender = false ∧ again.dram.rangeAt.getD 0 none = some (at100 - 32000000) ∧ at100 - 32000000 < at100 ∧
        (at100 - (at100 - 32000000)) % 16000000 = 0) ∧ (let s := (device .sender .armed 5).begin (at100 + 8000000)
      s.isSender = true ∧ (at100 + 8000000) % 2 ^ 48 % 16000000 = 2 * 4000000 ∧ 2 < s.dieCount)) ∧
    (q.start.run = .toStandby ∧ q.ledger.ckpt = none ∧ q.anyEpoch = false ∧ q.dramRuns = true) := by
  refine ⟨?_, ?_, ?_, ?_, ?_, ?_, ?_⟩ <;> decide +kernel

/-- Unit 3 free, held by the session and held by another; the last value the register takes and the first it does not. -/
theorem wit_CheckUnitsFeedAndHold :
    let held := fun (y : Option Nat) => now ({ tile with cuHolder := [none, none, none, y] }.setObj (K.CU_ALGORITHM 3) 3)
    (∀ v ∈ [0, 1], ∀ y ∈ [none, some 1, some 2], ScalarOpen (held y) 1 (K.CU_CLAIM 3) v svc ∧
      ((held y).cuHolder[3]?).getD none = y) ∧
    (∀ k ∈ [K.CU_ALGORITHM 3, K.CU_INIT 3, K.CU_FEED8 3, K.CU_FEED16 3, K.CU_FEED32 3, K.CU_FEED64 3, K.CU_STATE 3],
      ScalarOpen (held (some 2)) 1 k 1 svc ∧ ScalarOpen (held (some 1)) 1 k 1 svc) ∧
    (ScalarOpen (held (some 1)) 1 (K.CU_STATE 3) 65535 svc ∧ 65535 < 2 ^ (crcAlg 3).width ∧
      ScalarOpen (held (some 1)) 1 (K.CU_STATE 3) 65536 svc ∧ 2 ^ (crcAlg 3).width ≤ 65536 ∧
      (held (some 1)).obj (K.CU_ALGORITHM 3) = 3) ∧
    ScalarOpen (held (some 1)) 1 (K.CU_FEED64 3) (2 ^ 64 - 1) svc := by
  unfold ScalarOpen Writes
  refine ⟨?_, ?_, ?_, ?_⟩ <;> decide +kernel
/-! ### Update (17_update.md) -/

/-- An image of five parts of one byte each, its digests right and its signatures zero bytes. -/
def theImage (key mask : Nat) : Bytes :=
  let digest := sha384Alg.digest [7]
  let row := fun (i flags : Nat) =>
    be 1 (i + 1) ++ be 1 flags ++ be 2 0 ++ be 4 0 ++ be 4 (512 * (i + 1)) ++ be 4 1 ++ digest
  let head := be 4 0x56555044 ++ be 2 1 ++ be 2 0x200 ++ be 1 mask ++ be 1 0 ++ be 2 0 ++ be 2 0xFFFF ++ be 2 key ++
    be 4 2657 ++ be 4 0 ++ be 2 1 ++ be 2 1 ++ zeros 12
  let table := row 0 0 ++ row 1 0 ++ row 2 1 ++ row 3 0 ++ row 4 0
  head ++ table ++ zeros 152 ++ (([7] ++ zeros 511) ++ ([7] ++ zeros 511) ++ ([7] ++ zeros 511) ++ ([7] ++ zeros 511) ++ [7]) ++
    zeros 96

def updating (st : Nat) (f : UpdSt → UpdSt) : Dev := now ((tile.setObj K.UPD_STATE st).setUpd f)

theorem test_theImage : (theImage 0 2).length = 2657 ∧ ((theImage 0 2).take 512).length = 512 := by decide +kernel

/-- Part table, digests and every check of a header but its signature, which is a free value. -/
theorem test_headerFail (h : headerSigOk ((theImage 0 2).take 512) = true) :
    (now tile).headerFail ((theImage 0 2).take 512) 2657 = none := by
  have a : (((theImage 0 2).take 512).length = 512) := by decide +kernel
  unfold Dev.headerFail
  rw [h]
  decide +kernel

theorem wit_UpdatesAreDownloadedAndVerified :
    let first : Chunk := { offset := 0, total := 2657, more := true, data := (theImage 0 2).take 512 }
    let wrong : Chunk := { first with data := zeros 512 }
    let on := updating 2 (fun u => { u with image := zeros 512, total := 2657, session := 1, lastChunk := at100 - 60000000000 })
    let next : Chunk := { offset := 512, total := 2657, more := true, data := [1] }
    let marked := fun (m : Nat) =>
      now ((tile.setObj K.UPD_STATE 4).setFlash (fun f => { f with boot0 := { BootRec.blank with markB := m }.bytes }))
    let verify := now ((tile.setObj K.UPD_STATE 3).setSlot 1 (theImage 0 2))
    let recover := { verify with start := { verify.start with run := .recovery } }
    (∀ st ∈ [1, 4, 8], Writes (updating st id) 1 K.UPD_IMAGE svc ∧ (updating st id).updState = st ∧
      (updating st id).entryRefused (Dev.writerOf svc false) K.UPD_IMAGE = none ∧
      (findDef (updating st id).pers K.UPD_IMAGE).any (fun o => o.ty == .blob) = true ∧ Dev.chunkSized first = true ∧
      (updating st id).deviceRefuses K.UPD_IMAGE = false ∧ first.offset = 0 ∧ first.data.length = 512 ∧
      first.more = decide (512 < first.total)) ∧
    ((now tile).headerFail wrong.data wrong.total = some (1, Status.LENGTH) ∧ Dev.chunkSized wrong = true) ∧
    (Writes on 1 K.UPD_IMAGE svc ∧ on.updState = 2 ∧ on.update.session = svc.id ∧ next.offset = on.update.image.length ∧
      next.total = on.update.total ∧ next.more = decide (next.offset + next.data.length < next.total) ∧ next.offset + next.data.length ≤ next.total ∧
      Dev.chunkSized next = true ∧ ¬ ({ next with offset := 511 } : Chunk).offset = on.update.image.length ∧
      on.update.lastChunk + 60000000000 ≤ at100 ∧ on.controlRuns = true) ∧
    (verify.controlRuns = true ∧ verify.updState = 3 ∧ verify.spareSlot = 1 ∧ digestsOk (verify.slotBytes verify.spareSlot) = true ∧
      verify.recovering = false ∧ recover.recovering = true ∧ recover.controlRuns = true ∧
      digestsOk ((updating 3 id).slotBytes 1) = false) ∧
    (∀ st ∈ [2, 3, 4, 5, 6, 7], ScalarOpen (updating st id) 1 K.UPD_ABORT 1 svc ∧ (updating st id).updState = st) ∧
    (∀ m ∈ [1, 2], ScalarOpen (marked m) 1 K.UPD_ABORT 1 svc ∧ (marked m).updState = 4 ∧
      (marked m).slotMark (marked m).spareSlot = m) ∧
    ((updating 6 id).update.previous = none ∧ (updating 6 (fun u => { u with previous := some 0 })).update.previous ≠ none ∧
      ScalarOpen (updating 6 (fun u => { u with previous := some 0 })) 1 K.UPD_ABORT 1 svc) := by
  unfold ScalarOpen Writes
  refine ⟨?_, ?_, ?_, ?_, ?_, ?_, ?_⟩ <;> decide +kernel

theorem wit_UpdatesAreActivatedAndTried :
    let boot := { BootRec.blank with markB := 2 }.bytes
    let ready := fun (img : Bytes) => now (((tile.setObj K.UPD_STATE 4).setFlash (fun f => { f with boot0 := boot })).setSlot 1 img)
    let armed := fun (st w : Nat) (prev : Option Nat) => now (((tile.setObj K.UPD_STATE st).setUpd (fun u =>
      { u with w := w, slot := 1, previous := prev })).setSlot 1 (theImage 0 2) |>.setObj K.SCHEMA_VERSION 1)
    let strict := now ((((tile.setObj K.UPD_STATE 5).setUpd (fun u => { u with w := 0, slot := 1 })).setSlot 1
      (theImage 0 2) |>.setObj K.SCHEMA_VERSION 9) |>.setObj K.UPD_MIGRATE_POLICY 1)
    let wide := (theImage 0 2).set (40 + 64 * 2 + 7) 9
    let trial := now (((tile.setObj K.UPD_STATE 7).setObj K.UPD_TRIAL_END at100))
    (ScalarOpen (ready (theImage 0 2)) 1 K.UPD_ACTIVATE 0 svc ∧ (ready (theImage 0 2)).updReady = true ∧
      (ready (theImage 0 2)).slotWallWide (ready (theImage 0 2)).spareSlot = false ∧
      (ready wide).slotWallWide (ready wide).spareSlot = true ∧ ScalarOpen (ready wide) 1 K.UPD_ACTIVATE 0 svc) ∧
    (∀ lead ∈ [1000000000, 3600000000000], ScalarOpen (ready (theImage 0 2)) 1 K.UPD_ACTIVATE (at100 + lead) svc ∧
      wallDiff (at100 + lead) (ready (theImage 0 2)).wall = lead ∧ at100 + lead < 2 ^ 48) ∧
    (ScalarOpen (now tile) 1 K.UPD_ACTIVATE 0 svc ∧ (now tile).updReady = false) ∧
    ((armed 5 at100 none).controlRuns = true ∧ (armed 5 at100 none).updState = 5 ∧ (armed 5 at100 none).update.w ≤ at100 ∧
      (armed 5 at100 none).mode = 0 ∧ ¬ (armed 5 (at100 + 1) none).update.w ≤ at100 ∧ (armed 5 0 none).update.w = 0 ∧
      (armed 5 0 none).migrationFault (armed 5 0 none).oldSettings = none ∧
      (armed 5 (at100 + 1) none).migrationFault (armed 5 (at100 + 1) none).oldSettings = none ∧
      strict.updState = 5 ∧ strict.controlRuns = true ∧ strict.update.w = 0 ∧ strict.migrationFault strict.oldSettings = some 14 ∧
      strict.flashOpen = true ∧ (armed 5 at100 none).flashOpen = true) ∧
    ((armed 6 at100 none).updState = 6 ∧ (armed 6 at100 none).update.previous = none ∧
      (armed 6 at100 (some 0)).update.previous ≠ none ∧ (armed 6 at100 none).controlRuns = true ∧
      (armed 6 at100 none).flashOpen = true ∧ (armed 6 at100 (some 0)).flashOpen = true) ∧
    (trial.controlRuns = true ∧ trial.updState = 7 ∧ trial.trialOver = true ∧ trial.mode = 0 ∧
      trial.flashOpen = true) ∧
    (ScalarOpen trial 1 K.UPD_CONFIRM 1 svc ∧ ScalarOpen (now tile) 1 K.UPD_CONFIRM 1 svc ∧ (now tile).updState ≠ 7) := by
  unfold ScalarOpen Writes
  refine ⟨?_, ?_, ?_, ?_, ?_, ?_, ?_⟩ <;> decide +kernel

/-! ### Integrity and start-up (18_integrity.md, 19_startup.md) -/

theorem wit_IntegrityWatchesLogStallsVoltageAndStores :
    let d := now tile
    let slow := now (tile.setInteg (fun g => { g with avsFails := 2 }))
    let busy := now (tile.setInteg (fun g => { g with reloading := [4] }))
    let top := now (tile.setInteg (fun g => { g with vreq := 800 }))
    (d.controlRuns = true ∧ d.flashOpen = true ∧ ScalarOpen d 1 K.FLOG_CLEAR 1 svc ∧ d.portsRun = true) ∧
    (d.avsRuns = true ∧ 2000 < d.obj K.AVS_RATE_TARGET ∧ min 800 (d.integ.vreq + 5) ≠ d.integ.vreq ∧
      top.avsRuns = true ∧ 2000 < top.obj K.AVS_RATE_TARGET ∧ min 800 (top.integ.vreq + 5) = top.integ.vreq ∧ d.pliukRuns = true ∧ d.baseRun ≠ .recovery) ∧
    (slow.avsRuns = true ∧ slow.integ.avsFails = 2 ∧ d.integ.avsFails ≠ 2) ∧
    (d.integ.vreq = 750 ∧ (770 : Nat) ≤ d.integ.vreq + 20 ∧ d.integ.vreq ≤ 730 + 20) ∧
    (∀ st ∈ [0, 1, 2, 3, 4], d.hasStore st = true) ∧
    (d.integ.reloading.contains 4 = false ∧ busy.integ.reloading.contains 4 = true ∧ busy.hasStore 4 = true ∧
      busy.integ.restart = none) := by
  unfold ScalarOpen Writes
  refine ⟨?_, ?_, ?_, ?_, ?_, ?_⟩ <;> decide +kernel

theorem wit_RestartsSafeStatesAndOneTimeStorage :
    let d := now tile
    let ago := fun (n : Nat) => now (tile.setInteg (fun g => { g with lastRestart := some (at100 - n) }))
    let restarting := now (tile.setInteg (fun g => { g with restart := some (at100 - 300000000) }))
    let safe := fun (c : SafeCause) => now ((tile.setInteg (fun g => { g with causes := [c] })).setObj K.INTEG_STATE 2)
    let key := Dev.wholeChunk safetyKey
    let revoked := fun (n : Nat) => now { tile with fix := { tile.fix with otp := { tile.fix.otp with revoked := n } } }
    (d.pliukRuns = true ∧ d.baseRun ≠ .recovery ∧ d.integ.restart = none ∧ d.integ.lastRestart = none ∧
      (ago 10000000000).integ.lastRestart = some (at100 - 10000000000)) ∧
    ((ago 9999999999).integ.lastRestart = some (at100 - 9999999999) ∧ at100 < at100 - 9999999999 + 10000000000) ∧
    (restarting.integ.restart = some (at100 - 300000000) ∧ restarting.pliukRuns = true ∧ restarting.start.run ≠ .offReady) ∧
    (ScalarOpen (safe (.stalls 3)) 1 K.INTEG_CLEAR_SAFE 1 svc ∧ (safe (.stalls 3)).obj K.INTEG_STATE ≠ 1 ∧
      (safe (.stalls 3)).integ.causes.all (fun c => (safe (.stalls 3)).causeEnded true c) = true ∧
      (safe (.stalls 3)).integ.causes.all (fun c => (safe (.stalls 3)).causeEnded false c) = false ∧
      (safe .overTemp).integ.causes.all (fun c => (safe .overTemp).causeEnded true c) = true) ∧
    (ScalarOpen d 1 K.INTEG_CLEAR_SAFE 1 svc ∧ d.obj K.INTEG_STATE = 1) ∧
    (ChunkOpen d 1 K.OTP_SAFETY_KEY key svc ∧ safetyKey.length = 32 ∧ d.fix.otp.safetyKey = none ∧
      d.stageOf svc.id 0 K.OTP_SAFETY_KEY = none) ∧
    (∀ v ∈ [1, 8], ScalarOpen (revoked 6) 1 K.OTP_KEY_REVOKE v svc ∧ ((revoked 6).fix.otp.revoked ||| v % 16) % 16 ≠ 15 ∧
      ScalarOpen (revoked (15 - v)) 1 K.OTP_KEY_REVOKE v svc ∧ ((revoked (15 - v)).fix.otp.revoked ||| v % 16) % 16 = 15) := by
  unfold ScalarOpen Writes
  refine ⟨?_, ?_, ?_, ?_, ?_, ⟨chunkOpen_of ?_, ?_⟩, ?_⟩ <;> decide +kernel

theorem wit_StartsGoStepByStep :
    let d := fun (p : Pers) (run : Run) => now ((device p run roleService).setObj K.INTEG_STATE 1)
    let strap := fun (r : Bool) => now (((device .tile (.step 3) roleService).setObj K.INTEG_STATE 1).setStart (fun z =>
      { z with straps := { z.straps with recovery := r } }))
    let stored := now (((device .tile (.step 4) roleService).setObj K.INTEG_STATE 1).setFlash (fun f =>
      { f with boot1 := { BootRec.blank with active := 0, markA := 2, markB := 2 }.bytes }))
    let good : TrainResult := { margins := List.replicate 3 [20, 10, 16, 16], counts := [1, 1, 1] }
    let fused := fun (ok : Bool) => { d .tile (.step 1) with fix :=
      { Fixed.reset with fuses := { Fixed.reset.fuses with complementsAgree := ok } } }
    ((device .tile .inReset 5).start.run = .inReset ∧ (device .tile .off 5).start.run = .off ∧
      State.reset.dev.start.run = .inReset) ∧
    (∀ b ∈ [true, false], (fused b).start.run = .step 1 ∧ (fused b).fix.fuses.complementsAgree = b ∧
      (fused b).obj K.INTEG_STATE = 1) ∧
    (∀ n ∈ [2, 3, 4, 5, 6], (d .tile (.step n)).start.run = .step n ∧ (d .tile (.step n)).obj K.INTEG_STATE = 1) ∧
    (∀ b ∈ [true, false], (strap b).start.straps.recovery = b ∧ (strap b).start.run = .step 3 ∧
      (strap b).obj K.INTEG_STATE = 1) ∧
    (stored.start.run = .step 4 ∧ stored.obj K.INTEG_STATE = 1 ∧ stored.bootChoice.1 = some 1 ∧
      (d .tile (.step 4)).bootChoice.1 = none) ∧
    (((d .tile (.step 5)).dramTrain (List.replicate 2 good)).1 = true ∧
      ((d .tile (.step 5)).dramTrain [{ margins := [[20, 10, 16, 16], [20, 10, 16, 15], [20, 10, 16, 16]] }]).1 = false) ∧
    ((d .sender (.step 8)).start.run = .step 8 ∧ (d .sender (.step 8)).isSender = true ∧
      (d .sender (.step 9)).start.run = .step 9 ∧ (d .sender (.step 9)).step9Over = true) ∧
    ((d .tile (.step 8)).isTile = true ∧ (d .tile (.step 8)).start.run = .step 8 ∧
      (d .tile (.step 8)).start.stepAt + 1000000000 ≤ at100) := by
  refine ⟨?_, ?_, ?_, ?_, ?_, ?_, ?_, ?_⟩ <;> decide +kernel

theorem wit_StandbyAndOffAreEnteredAndLeft :
    let d := fun (run : Run) => now ((device .tile run roleService).setObj K.INTEG_STATE 1)
    let ov := now ((device .sender (.fromStandby 9) roleService).setObj K.INTEG_STATE 1)
    let s := now ((device .sender (.fromStandby 8) roleService).setObj K.INTEG_STATE 1)
    let exits := fun (st : Nat) => now ((((device .tile (.fromStandby 5) roleService).setObj K.INTEG_STATE 1).setObj (K.CH_STATE 0)
      st).setObj (K.CH_STATE 1) st)
    ((exits 2).start.run = .fromStandby 5 ∧ (exits 2).exitReady [] [] = false ∧ (exits 2).exitReady [1] [1] = false ∧
      (exits 2).exitReady [1] [1, 1] = true ∧
      (exits 4).exitReady [1] [] = true ∧ ((exits 4).selfRefreshExit [1] [] []).1 = false) ∧
    (∀ run ∈ [Run.armed, .standby, .toStandby, .fromStandby 5, .fromStandby 6, .fromStandby 9, .step 5, .step 4, .toOff,
        .recovery, .startFailed], (d run).start.run = run ∧ (d run).obj K.INTEG_STATE = 1) ∧
    (d .toOff).ledger.ckpt = none ∧ ov.step9Over = true ∧ ov.start.run = .fromStandby 9 ∧ ov.obj K.INTEG_STATE = 1 ∧
    (s.start.run = .fromStandby 8 ∧ s.isSender = true ∧ s.obj K.INTEG_STATE = 1) := by
  decide +kernel

/-! ### Encodings -/

theorem wit_WireFormatsAreReadBackAsWritten :
    (request 0 []).version < 2 ^ 8 ∧ (request 0 []).crc < 2 ^ 32 ∧ (theHello 2 9).pers = 2 ∧ (theHello 2 9).step ≤ 3 ∧
      (1 : Nat) < 2 := by
  decide +kernel

theorem wit_DriveWordsSurviveTheirPacking :
    (List.replicate 48 (2 ^ 20 - 1)).length = 48 ∧ (∀ w ∈ List.replicate 48 (2 ^ 20 - 1), w < 2 ^ 20) ∧
      ldlLength (mkLdl 4 31 0 [5]) = some 1 ∧ ldlLength (mkLdl 9 31 0 [5]) = none ∧ 2 ^ 48 - 1 < 2 ^ 48 := by
  decide +kernel

/-! ### The examples of the spec -/

/-- The example after R187: the first pixel of an intra block at e = 2 gives the 21 bits of the text and reconstructs as
it says. -/
theorem test_firstPixelOfTheCodecExample :
    (codeBlock 2 2 [{ r := 2083, g := 2103, b := 2113 }] [] .start).bits.map b2n =
        [1, 0, 0, 1, 0, 0, 1, 0, 1, 0, 0, 1, 1, 0, 1, 1, 1, 0, 0, 1, 0] ∧
      (codeBlock 2 2 [{ r := 2083, g := 2103, b := 2113 }] [] .start).recon = [{ r := 2081, g := 2101, b := 2111 }] := by
  decide +kernel

/-- The transform of the same example: Y = 2,100, Co = -30, Cg = 5. -/
theorem test_ycocgOfTheCodecExample : ycocg { r := 2083, g := 2103, b := 2113 } = { y := 2100, co := -30, cg := 5 } := by
  decide +kernel

/-- The example after R299: t = 270, b = 4 and q = 14, so 14 segment periods light for 5 counts and 50 for 4. -/
theorem test_spreadPlanExample :
    litCount 1000 17664 = 270 ∧
      (List.range 64).filter (fun s => segCount 64 270 s == 5) = [0, 4, 8, 12, 16, 20, 24, 32, 36, 40, 44, 48, 52, 56] ∧
      ∀ s < 64, segCount 64 270 s = 4 ∨ segCount 64 270 s = 5 := by
  decide +kernel

/-- 208,333 ns at 160 MHz without spread are 33,334 counts (the same example). -/
theorem test_apertureStartCounts : gclkCountAt 160 0 0 208333 = 33334 := by decide +kernel

/-- R475: CRC-16/CCITT-FALSE of the ASCII digits 1 to 9, fed as a check unit feeds them. -/
theorem test_crc16CheckValue :
    crcFeed (crcAlg 3) (crcAlg 3).init [0x31, 0x32, 0x33, 0x34, 0x35, 0x36, 0x37, 0x38, 0x39] = 0x29B1 := by
  decide +kernel

/-- FIPS 180-4: the SHA-256 of the three letters abc begins BA7816BF. -/
theorem test_sha256OfAbc :
    (sha256Alg.digest [0x61, 0x62, 0x63]).take 4 = [0xBA, 0x78, 0x16, 0xBF] := by decide +kernel

/-- The boundaries of mode 0xA4 in base frame 0 of a second, as the spec's example lists them. -/
theorem test_facetBoundaries :
    (List.range 5).map (facetAt 0xA4) = [0, 4166666, 8333333, 12500000, 16666666] ∧ isBoundary 0xA4 4166666 = true := by
  decide +kernel

/-- SESSION_IDLE_TIMEOUT reads its default of 30 s, and a counter saturates. -/
theorem test_resetReads :
    State.reset.dev.obj K.SESSION_IDLE_TIMEOUT = 30 ∧ satInc 32 (2 ^ 32 - 1) = 2 ^ 32 - 1 := by decide +kernel

/-! ### Ill-formed terms -/

def badMsg (f : Msg → Msg) : Instr := .read 0 .spi (f (request 0 []))
def badPkt (f : Packet → Packet) : Instr := .helloReceived 0 0 (f (mkPacket 1 0 0 [1]))
def badPtp (f : PtpMsg → PtpMsg) : Instr := .ptpSyncReceived 0 0 (f (ptp 0 false))
def badRtp (f : RtpPkt → RtpPkt) : Instr := .ingestRtpPacket 0 0 (f (rtp 64 2 0))
def badLdl (f : LdlPkt → LdlPkt) : Instr := .setPlan 0 0 0 (f (mkLdl 2 31 0 [0, 0, 0]))

def badStrand (f : StrandResult → StrandResult) : StrandResult :=
  f { strand := 0, counter := none, delay := 0, idents := [], sweeps := 0, fails := 0 }

theorem test_wellFormedTerms :
    ∀ i ∈ [badMsg id, badPkt id, badPtp id, badRtp id, badLdl id,
        .ldlBringupDone 0 [badStrand id], .laneLockGained 0 3 3 ⟨true, 3, 0⟩, .captureEdge 0 7 true 20,
        .encodeWale 0 3 255 65535 { fault := .sound }, .blockError 0 ⟨0, [none, none, some 0xB4, some 255], none⟩,
        .senseStartCalDone 0 (List.replicate 9 { zeros := [], refs := [] })],
      i.wf = true := by
  decide +kernel

theorem test_illFormedMessagesAndPackets :
    ∀ i ∈ [badMsg (fun m => { m with version := 256 }), badMsg (fun m => { m with flags := 256 }),
        badMsg (fun m => { m with opcode := 256 }), badMsg (fun m => { m with status := 256 }),
        badMsg (fun m => { m with session := 2 ^ 32 }), badMsg (fun m => { m with sequence := 2 ^ 32 }),
        badMsg (fun m => { m with txn := 2 ^ 32 }), badMsg (fun m => { m with length := 2 ^ 32 }),
        badMsg (fun m => { m with crc := 2 ^ 32 }), .read 0 (.mgmt (2 ^ 32) 0) (request 0 []),
        .read 0 (.mgmt 0 65536) (request 0 []), .read 0 (.ctl 4) (request 0 []),
        badPkt (fun p => { p with cls := 256 }), badPkt (fun p => { p with hops := 256 }),
        badPkt (fun p => { p with target := 256 }), badPkt (fun p => { p with flags := 256 }),
        badPkt (fun p => { p with startZero := 256 }), badPkt (fun p => { p with len := 65536 }),
        badPkt (fun p => { p with crc := 2 ^ 32 }), badPkt (fun p => { p with term := 256 }),
        badPtp (fun m => { m with domain := 256 }), badPtp (fun m => { m with source := (2 ^ 64, 0) }),
        badPtp (fun m => { m with source := (0, 65536) }), badPtp (fun m => { m with sequence := 65536 }),
        badPtp (fun m => { m with gm := 2 ^ 64 }), badPtp (fun m => { m with priority1 := 256 }),
        badPtp (fun m => { m with clockClass := 256 }), badPtp (fun m => { m with accuracy := 256 }),
        badPtp (fun m => { m with variance := 65536 }), badPtp (fun m => { m with priority2 := 256 }),
        badPtp (fun m => { m with stepsRemoved := 65536 }), badPtp (fun m => { m with frameLen := 65536 }),
        .blockError 0 ⟨0, [none, none, none, none], some { mkPacket 1 0 0 [1] with cls := 256 }⟩,
        .blockError 0 ⟨0, [none], none⟩, .blockError 0 ⟨0, [none, none, none, some 256], none⟩, .brokenProbe 0 0 (some [65536]),
        .laneLockLost 0 ⟨0, 0⟩ 0 (some { mkPacket 1 0 0 [1] with cls := 256 })], i.wf = false := by
  decide +kernel

theorem test_illFormedPicturesAndLamps :
    ∀ i ∈ [badRtp (fun p => { p with dst := 2 ^ 32 }), badRtp (fun p => { p with src := 2 ^ 32 }),
        badRtp (fun p => { p with udp := 65536 }), badRtp (fun p => { p with frameLen := 65536 }),
        badRtp (fun p => { p with version := 4 }), badRtp (fun p => { p with sequence := 65536 }),
        badRtp (fun p => { p with extended := 65536 }), badRtp (fun p => { p with timestamp := 2 ^ 32 }),
        badRtp (fun p => { p with segments := [{ field := false, line := 32768, offset := 0, octets := [] }] }),
        badRtp (fun p => { p with segments := [{ field := false, line := 0, offset := 32768, octets := [] }] }),
        badLdl (fun p => { p with opcode := 16 }), badLdl (fun p => { p with addr := 32 }),
        badLdl (fun p => { p with count := 32 }), badLdl (fun p => { p with words := [65536] }),
        badLdl (fun p => { p with crc := 65536 }), .setPlan 0 32 0 (mkLdl 2 31 0 []), .setPlan 0 0 24 (mkLdl 2 31 0 []),
        .litIntervalEnd 0 0 0 32 0 [], .litIntervalEnd 0 0 0 0 0 [{ ch := 48, lacked := false, shorted := false }],
        .ldlBringupDone 0 [badStrand (fun r => { r with strand := 32 })],
        .ldlBringupDone 0 [badStrand (fun r => { r with counter := some 65536 })],
        .ldlBringupDone 0 [badStrand (fun r => { r with sweeps := 65536 })],
        .ldlBringupDone 0 [badStrand (fun r => { r with fails := 65536 })],
        .ldlBringupDone 0 [badStrand (fun r => { r with idents := List.replicate 25 [] })],
        .ldlBringupDone 0 [badStrand (fun r => { r with idents := [[65536]] })],
        .sretEcho 0 0 [65536], .encodeWale 0 0 256 0 { fault := .sound }, .encodeWale 0 0 0 65536 { fault := .sound },
        .encodeWale 0 0 0 0 { fault := .poisoned ⟨8 * 1409286144⟩ }, .encodeWale 0 0 0 0 { fault := .reference ⟨0⟩ 65536 },
        .encodeWale 0 0 0 0 { fault := .correction ⟨0⟩ 65536 }, .encodeWale 0 0 0 0 { fault := .failing 256 },
        .encodeWale 0 0 0 0 { fault := .sound, corrected := [8 * 1409286144] },
        .encodeWale 0 0 0 0 { fault := .sound, fixed := [256] },
        .decodeWale 0 2 0 0 0 { fault := .sound }, .decodeWale 0 0 (2 ^ 32) 0 0 { fault := .sound },
        .decodeWale 0 0 0 4 0 { fault := .sound },
        .ovlLoad 0 0 (zeros 102), .ovlReservedCmd 0 0 256 (zeros 103), .ovlDataWrite 0 0 4 (Dev.wholeChunk [1]),
        .timgClear 0 0 2 0, .stillRelease 0 0 16 0, .legLossTimeout 0 0 2, .frameIncompleteTimeout 0 16],
      i.wf = false := by
  decide +kernel

theorem test_illFormedOperands :
    ∀ i ∈ [Instr.pairExpired 0 (2 ^ 24), .txnTimeout 0 (2 ^ 32), .spiReservedOperation 0 256, .settingsWrite 0 5,
        .relayDatagram 0 .spi (2 ^ 64) (request 0 []), .delayReqSend 0 8 0, .captureEdge 0 8 true 20, .triggerEdge 0 8,
        .latchPoint 0 { now := [.offset 4] }, .latchPoint 0 { after := [.overlay 4] }, .ingestArpRequest 0 ⟨0, false, 64⟩ 0 0 (2 ^ 48), .ingestArpRequest 0 ⟨0, false, 65536⟩ 0 0 0,
        .ingestIcmpEcho 0 ⟨0, false, 65536⟩ 0 0 [], .laneLockGained 0 4 0 ⟨true, 0, 0⟩,
        .laneLockGained 0 0 4 ⟨true, 0, 0⟩, .laneLockGained 0 0 0 ⟨true, 4, 0⟩, .grantReceived 0 0 ⟨65536, 0⟩, .mr4Read 0 4 0, .mr4Read 0 0 8, .setpointChange 0 4 true,
        .perBankRefresh 0 8 0 true, .perBankRefresh 0 0 16 true, .patrolScrub 0 { ch := 8, words := [] },
        .patrolScrub 0 { ch := 0, words := [(8, .none)] }, .cuClaim 0 0 4 1, .cuClaim 0 (2 ^ 32) 0 1,
        .cuClaim 0 0 0 (2 ^ 64), .updImage 0 0 { offset := 2 ^ 32, total := 0, more := false, data := [] },
        .updImage 0 0 { offset := 0, total := 2 ^ 32, more := false, data := [] }, .stageStall 0 256 0 0 0,
        .configScrub 0 256 .none, .otpSafetyKey 0 0 (zeros 31), .senseStartCalDone 0 [], .thermalInputFailTimeout 0 4,
        .pdDarkCapture 0 0 16, .senseConversionTrigger 0 [{ conv := 9, input := 0, code := 0, rail := false }] 0,
        .senseConversionTrigger 0 [{ conv := 0, input := 16, code := 0, rail := false }] 0,
        .startStepComplete 0 { ok := true, training := [], ranges := List.replicate 5 0, counts := [] },
        .startStepComplete 0 { ok := true, training := [], ranges := [], counts := List.replicate 9 0 },
        .startStepComplete 0 { ok := true, training := List.replicate 9 { margins := [] }, ranges := [], counts := [] },
        .startStepComplete 0 { ok := true, training := [], ranges := [], counts := [], retrain := List.replicate 9 ⟨0, 0, 0⟩ },
        .startStepComplete 0 { ok := true, training := [], ranges := [], counts := [], calFail := [2] },
        .lockstepDivergence 0 (some ⟨8 * 1409286144⟩), .ledgerFold 0 { poisoned := [(0, ⟨8 * 1409286144⟩)] },
        .ledgerFold 0 { corrected := [8 * 1409286144] }],
      i.wf = false := by
  decide +kernel

end Sys2Proof.Tests
end

/-!
PROOFS. The scope of the block (00_scope.md): what is fixed survives every step (R1, R543, R544), and the wire formats are
read back as they were written (R4, R45, R394, R412, R422).
-/
namespace Sys2Proof.Machine

/-! ### What a command answers -/

/-- Every command but RESET_RELEASE, which R546 may stop, answers the state `after` some effect on the device. -/
theorem exec_answers_after (c : Instr) (s : State) (h : ∀ t x, c ≠ .resetRelease t x) :
    ∃ t e, exec c s = .next (after t s e) := by
  cases c
  case resetRelease t x => exact absurd rfl (h t x)
  all_goals exact ⟨_, _, rfl⟩

/-- RESET_RELEASE stops the block in production test (R546), and is an effect on the device otherwise. -/
theorem exec_resetRelease (t : Time) (x : Straps) (s : State) :
    exec (.resetRelease t x) s =
      if testStrapped x s.dev then .fault .productionTest else act t (fun d => d.resetRelease x) s := rfl

/-- A next state that a command answers is the state `after` some effect on the device. -/
theorem exec_next_eq_after {c : Instr} {s u : State} (h : exec c s = .next u) : ∃ t e, u = after t s e := by
  by_cases hc : ∃ t x, c = .resetRelease t x
  · obtain ⟨t, x, rfl⟩ := hc
    rw [exec_resetRelease] at h
    split at h
    · cases h
    · exact ⟨t, _, (Host.Outcome.next.inj h).symm⟩
  · obtain ⟨t, e, he⟩ := exec_answers_after c s (fun t x hx => hc ⟨t, x, hx⟩)
    exact ⟨t, e, Host.Outcome.next.inj (h.symm.trans he)⟩

/-- A step idles, or answers the state `after` some effect, from the state with the queue's rest. -/
theorem step_next_cases {s u : State} (h : step s = .next u) :
    u = s ∨ ∃ rest t e, u = after t { s with pending := rest } e := by
  unfold step at h
  split at h
  · exact .inl (Host.Outcome.next.inj h).symm
  · obtain ⟨t, e, he⟩ := exec_next_eq_after h
    exact .inr ⟨_, t, e, he⟩

/-! ### Fixed storage (R1, R543, R544) -/

/-- The revoked bits of `r` stay set through a command that keeps them set in the state it runs on. -/
theorem after_revoked_of {r : Nat} {s : State} (t : Time) (e : Dev)
    (h : r ||| s.dev.fix.otp.revoked = s.dev.fix.otp.revoked) :
    r ||| (after t s e).dev.fix.otp.revoked = (after t s e).dev.fix.otp.revoked := by
  rw [← after_revoked t s e, ← Nat.or_assoc, h]

/-- Settles O4: the state a step answers is the old one or one `after` an effect, and `after` protects what is fixed. -/
theorem fixedStorageSurvivesEveryStep : Obligations.FixedStorageSurvivesEveryStep := by
  intro f s u ⟨hfuses, hkey, hrevoked, hevents⟩ hstep
  rcases step_next_cases hstep with rfl | ⟨rest, t, e, rfl⟩
  · exact ⟨hfuses, hkey, hrevoked, hevents⟩
  · exact ⟨hfuses, fun k hk => after_safetyKey t _ e (hkey k hk), after_revoked_of t e hrevoked, after_events t _ e⟩

/-- Settles O5: the reset state is fresh on `Fixed.reset`, whose one-time storage is empty. -/
theorem resetMeetsTheFixedStorageInvariant : Obligations.ResetMeetsTheFixedStorageInvariant :=
  ⟨rfl, fun _ hk => hk, rfl, rfl⟩

/-! ### Fields of fixed width (R4) -/

@[simp] theorem length_be (n v : Nat) : (be n v).length = n := by
  induction n with
  | zero => rfl
  | succ n ih => simp [be, ih]

@[simp] theorem beVal_be (n v : Nat) : beVal (be n v) = v % 2 ^ (8 * n) := by
  induction n with
  | zero => simp [be, beVal, Nat.mod_one]
  | succ n ih =>
    have split : v % 2 ^ (8 * (n + 1)) = v % 2 ^ (8 * n) + 2 ^ (8 * n) * (v / 2 ^ (8 * n) % 2 ^ 8) := by
      rw [← Nat.mod_mul, ← Nat.pow_add, Nat.mul_succ]
    simp only [be, beVal, length_be, ih, BitVec.toNat_ofNat, Nat.shiftRight_eq_div_pow]
    rw [split, Nat.mul_comm, Nat.add_comm]

theorem zeros_eq_be (n : Nat) : zeros n = be n 0 := by
  induction n with
  | zero => rfl
  | succ n ih => simpa [zeros, be, List.replicate_succ] using ih

/-- A field behind the first `a.length` bytes is a field of what follows them. -/
theorem fieldAt_append_right {off : Nat} (n : Nat) {a : Bytes} (b : Bytes) (h : a.length ≤ off) :
    fieldAt off n (a ++ b) = fieldAt (off - a.length) n b := by
  simp [fieldAt, slice, List.drop_append, List.drop_eq_nil_of_le h]

theorem fieldAt_be_right {off : Nat} (n k v : Nat) (b : Bytes) (h : k ≤ off) :
    fieldAt off n (be k v ++ b) = fieldAt (off - k) n b := by
  simpa using fieldAt_append_right n (a := be k v) b (by simpa using h)

theorem fieldAt_be_left {n v : Nat} (b : Bytes) (h : v < 2 ^ (8 * n)) : fieldAt 0 n (be n v ++ b) = v := by
  simp [fieldAt, slice, List.take_left', Nat.mod_eq_of_lt h]

theorem fieldAt_be {n v : Nat} (h : v < 2 ^ (8 * n)) : fieldAt 0 n (be n v) = v := by
  simpa using fieldAt_be_left [] h

/-! ### Pliuk messages (R45, R47) -/

/-- The header of a message: everything before its payload. -/
def msgHead (m : Msg) : Bytes :=
  be 1 m.version ++ be 1 m.flags ++ be 1 m.opcode ++ be 1 m.status ++ be 4 m.session ++ be 4 m.sequence ++
    be 4 m.txn ++ be 4 m.length

theorem msgWire_eq (m : Msg) : msgWire m = msgHead m ++ (m.payload ++ be 4 m.crc) := by
  simp [msgWire, msgBytes, msgHead]

@[simp] theorem length_msgHead (m : Msg) : (msgHead m).length = 20 := by simp [msgHead]

theorem length_msgWire (m : Msg) : (msgWire m).length = 24 + m.payload.length := by
  simp [msgWire_eq]; omega

/-- The payload lies between the header and the trailer. -/
theorem payload_msgWire (m : Msg) : ((msgWire m).drop 20).take ((msgWire m).length - 24) = m.payload := by
  rw [length_msgWire, msgWire_eq, List.drop_left' (length_msgHead m), List.take_left' (by omega)]

/-- The trailer is the last four bytes. -/
theorem crc_msgWire (m : Msg) (h : m.crc < 2 ^ 32) : fieldAt ((msgWire m).length - 4) 4 (msgWire m) = m.crc := by
  have hoff : (msgWire m).length - 4 = 20 + m.payload.length := by rw [length_msgWire]; omega
  rw [hoff, msgWire_eq, fieldAt_append_right _ _ (by simp), fieldAt_append_right _ _ (by simp)]
  simpa using fieldAt_be (n := 4) h

/-- The fields of a message fit their widths (R45, R47). -/
structure MsgFits (m : Msg) : Prop where
  version : m.version < 2 ^ 8
  flags : m.flags < 2 ^ 8
  opcode : m.opcode < 2 ^ 8
  status : m.status < 2 ^ 8
  session : m.session < 2 ^ 32
  sequence : m.sequence < 2 ^ 32
  txn : m.txn < 2 ^ 32
  length : m.length < 2 ^ 32
  crc : m.crc < 2 ^ 32

theorem msgOfBytes_msgWire {m : Msg} (h : MsgFits m) : msgOfBytes (msgWire m) = some m := by
  obtain ⟨hver, hflags, hop, hst, hsess, hseq, htxn, hlen, hcrc⟩ := h
  have hlong : ¬ (msgWire m).length < 24 := by rw [length_msgWire]; omega
  unfold msgOfBytes
  rw [if_neg hlong, payload_msgWire, crc_msgWire m hcrc, msgWire_eq]
  simp (disch := omega) only [msgHead, List.append_assoc, fieldAt_be_left, fieldAt_be_right, Nat.reduceSub]

/-! ### Flip packets (R412) -/

/-- The fields of an FLP fit their widths (R412). -/
structure FlpFits (x : Flp) : Prop where
  kind : x.kind < 2 ^ 8
  facet : x.facet < 2 ^ 8
  mode : x.mode < 2 ^ 8
  fraction : x.fraction < 2 ^ 8
  f : x.f < 2 ^ 48
  frame : x.frame < 2 ^ 32
  paramGen : x.paramGen < 2 ^ 32
  claim : x.claim < 2 ^ 32
  fader : x.fader < 2 ^ 16
  ceiling : x.ceiling < 2 ^ 16
  fNew : x.fNew < 2 ^ 48
  off0 : x.off0 < 2 ^ 32
  off1 : x.off1 < 2 ^ 32
  off2 : x.off2 < 2 ^ 32
  off3 : x.off3 < 2 ^ 32

theorem length_flpBytes (x : Flp) : (flpBytes x).length = 88 := by
  unfold flpBytes
  simp only [List.length_append, length_be]

theorem flpFields_flpBytes {x : Flp} (h : FlpFits x) : flpFields (flpBytes x) = x := by
  obtain ⟨hkind, hfacet, hmode, hfrac, hf, hframe, hgen, hclaim, hfader, hceil, hnew, h0, h1, h2, h3⟩ := h
  unfold flpFields flpBytes
  simp (disch := omega) only [List.append_assoc, fieldAt_be_left, fieldAt_be_right, Nat.reduceSub]

/-- The complements are right because the body is the one its own fields spell. -/
theorem parseFlp_flpBytes {x : Flp} (h : FlpFits x) : parseFlp (flpBytes x) = some x := by
  rw [parseFlp, flpFields_flpBytes h, if_pos rfl]

/-! ### Hello blocks (R394) -/

/-- The fields of a hello fit their widths: a tile's or a sender's, with a STEP that is not reserved (R394). -/
structure HelloFits (x : Hello) : Prop where
  pers : x.pers = 1 ∨ x.pers = 2
  dieRev : x.dieRev < 2 ^ 16
  verPhy : x.verPhy < 2 ^ 32
  uid : x.uid < 2 ^ 64
  port : x.port < 2 ^ 8
  rateNow : x.rateNow < 2 ^ 8
  rateMask : x.rateMask < 2 ^ 8
  step : x.step ≤ 3
  next : x.next < 2 ^ 8
  cableClass : x.cableClass < 2 ^ 8
  claim : x.claim < 2 ^ 32
  genSeen : x.genSeen < 2 ^ 32
  attempt : x.attempt < 2 ^ 8

theorem length_helloBytes (x : Hello) : (helloBytes x).length = 48 := by simp [helloBytes, zeros_eq_be]

theorem inv32_lt (v : Nat) : inv32 v < 2 ^ 32 := by unfold inv32; omega

theorem parseHello_helloBytes {x : Hello} (h : HelloFits x) : parseHello (helloBytes x) = some x := by
  obtain ⟨hpers, hdie, hphy, huid, hport, hnow, hmask, hstep, hnext, hcable, hclaim, hgen, hatt⟩ := h
  unfold parseHello
  rw [length_helloBytes]
  unfold helloBytes
  simp (disch := omega) only [zeros_eq_be, List.append_assoc, fieldAt_be_left, fieldAt_be_right, fieldAt_be,
    Nat.reduceSub]
  exact if_pos ⟨trivial, trivial, hpers, trivial, trivial, hstep⟩

theorem helloClaimOk_helloBytes {x : Hello} (h : x.claim < 2 ^ 32) : helloClaimOk (helloBytes x) = true := by
  have hinv := inv32_lt x.claim
  unfold helloClaimOk helloBytes
  simp (disch := omega) only [zeros_eq_be, List.append_assoc, fieldAt_be_left, fieldAt_be_right, Nat.reduceSub,
    beq_self_eq_true]

/-! ### Enumeration records (R422) -/

/-- The fields of an enumeration record fit their widths (R422). -/
structure EnumRecFits (r : EnumRec) : Prop where
  uid : r.uid < 2 ^ 64
  ingress : r.ingress < 2
  rates : r.rates < 2 ^ 8
  w16 : r.w16 < 2 ^ 8
  h16 : r.h16 < 2 ^ 8
  lamps : r.lamps < 2 ^ 8
  held : r.held < 2

theorem length_enumRecBytes (r : EnumRec) : (enumRecBytes r).length = 16 := by simp [enumRecBytes, zeros_eq_be]

theorem parseEnumRec_enumRecBytes {r : EnumRec} (h : EnumRecFits r) : parseEnumRec (enumRecBytes r) = r := by
  obtain ⟨huid, hin, hrates, hw, hh, hlamps, hheld⟩ := h
  unfold parseEnumRec enumRecBytes
  simp (disch := omega) only [List.append_assoc, fieldAt_be_left, fieldAt_be_right, Nat.reduceSub, Nat.mod_eq_of_lt]

/-! ### The round trips together -/

/-- Settles O55: each format by its own round trip, each of which reads the fields off at the offsets they were written. -/
theorem wireFormatsAreReadBackAsWritten : Obligations.WireFormatsAreReadBackAsWritten := by
  refine ⟨?msg, ?flp, ?hello, ?enumRec⟩
  case msg =>
    intro m hver hflags hop hst hsess hseq htxn hlen hcrc
    exact ⟨msgOfBytes_msgWire ⟨hver, hflags, hop, hst, hsess, hseq, htxn, hlen, hcrc⟩, length_msgWire m⟩
  case flp =>
    intro x hkind hfacet hmode hfrac hf hframe hgen hclaim hfader hceil hnew h0 h1 h2 h3
    exact ⟨parseFlp_flpBytes
      ⟨hkind, hfacet, hmode, hfrac, hf, hframe, hgen, hclaim, hfader, hceil, hnew, h0, h1, h2, h3⟩, length_flpBytes x⟩
  case hello =>
    intro x hpers hdie hphy huid hport hnow hmask hstep hnext hcable hclaim hgen hatt
    exact ⟨parseHello_helloBytes
      ⟨hpers, hdie, hphy, huid, hport, hnow, hmask, hstep, hnext, hcable, hclaim, hgen, hatt⟩,
      helloClaimOk_helloBytes hclaim, length_helloBytes x⟩
  case enumRec =>
    intro r huid hin hrates hw hh hlamps hheld
    exact ⟨parseEnumRec_enumRecBytes ⟨huid, hin, hrates, hw, hh, hlamps, hheld⟩, length_enumRecBytes r⟩

end Sys2Proof.Machine

/-!
PROOFS. Control (02_control.md): what follows a command, the requests of an open session (R45 to R59), commits and rollbacks
(R60 to R66, R590), sessions (R53 to R57), timers (R36, R50, R59, R69, R73, R74), relays, broadcasts and the SPI target port
(R40 to R44, R68 to R71, R410, R414), and the staging of BLOBs (R49, R50).
-/
namespace Sys2Proof.Machine
open Sys2Proof.Safety

namespace Dev

/-! ### Nothing due, nothing followed -/

theorem modeFollow_same {d : Dev} (h : d.mode = d.enc.modeAt.1) : d.modeFollow = d := if_pos h

theorem timeFollow_same {d : Dev}
    (h : d.isSender = true ∨ d.obj K.SCAN_STATE = 1 ∨ (d.tstate ≠ tsUnlocked ↔ d.obj K.SCAN_STATE ≠ 8)) :
    d.timeFollow = d := by
  unfold timeFollow
  dsimp only
  split
  · rfl
  · have hiff := (or_assoc.mpr h).resolve_left ‹_›
    rw [if_neg (fun hu => hiff.mpr hu.2 hu.1), if_neg (fun hu => hiff.mp hu.1 hu.2)]

theorem startFollow_same {d : Dev}
    (h : d.obj K.INTEG_STATE ≠ 1 ∨ (d.stepNow = none ∧ (d.start.run = .armed → d.start.stbyLow = false) ∧
      (d.start.run = .standby → d.start.stbyLow = true))) : d.startFollow = d := by
  unfold startFollow
  split
  · rfl
  · obtain ⟨hstep, harmed, hstandby⟩ := h.resolve_left ‹_›
    have hsleep : ¬ (d.start.run = .armed ∧ d.start.stbyLow = true) := fun ⟨ha, hl⟩ => by simp [harmed ha] at hl
    have hwake : ¬ (d.start.run = .standby ∧ (!d.start.stbyLow) = true) := fun ⟨ha, hl⟩ => by simp [hstandby ha] at hl
    simp only [hstep, hsleep, hwake, reduceCtorEq, false_and, if_false]

theorem releaseSetpoint_same {d : Dev} (h : SetpointQuiet d) : d.releaseSetpoint = d := by
  unfold releaseSetpoint
  split
  · rename_i target hwait
    rcases h with hoff | ⟨hnone, _⟩ | ⟨_, hepoch⟩
    · simp [hoff]
    · rw [hwait] at hnone; cases hnone
    · simp [hepoch]
  · rfl

/-- The set point that waits, or the one in force, is the one due, unless the controller stands still. -/
theorem setpointQuiet_due {d : Dev} (h : SetpointQuiet d) :
    (d.dramRuns && d.dram.waiting.getD (d.obj K.DRAM_SETPOINT) != d.setpointDue) = false := by
  rcases h with hoff | ⟨hnone, hdue⟩ | ⟨hwait, _⟩
  · simp [hoff]
  · simp [hnone, hdue]
  · simp [hwait]

theorem powerFollow_same {d : Dev} (hdark : d.start.run ≠ .armed ∨ d.powerDark = d.tile.dark) (h : SetpointQuiet d) :
    d.powerFollow = d := by
  unfold powerFollow
  split
  · exact releaseSetpoint_same h
  · have hsame := hdark.resolve_left ‹_›
    simp [hsame, setpointQuiet_due h, releaseSetpoint_same h]

theorem planFollow_same {d : Dev} (h : ∀ c ∈ d.pliuk.rulesRaised, c ∈ d.planFails.map (·.code)) : d.planFollow = d := by
  unfold planFollow
  split
  · rfl
  · have hkeep : d.pliuk.rulesRaised.filter (fun c => (d.planFails.map (·.code)).contains c) = d.pliuk.rulesRaised :=
      List.filter_eq_self.mpr fun c hc => List.contains_iff_mem.mpr (h c hc)
    simp only [hkeep]

theorem readyFollow_same {d : Dev}
    (h : d.isSender = false ∨ d.obj K.PAIR_READY ≠ 1 ∨ d.pairDigest = d.pair.confirmed) : d.readyFollow = d := by
  unfold readyFollow
  rcases h with h | h | h <;> simp [h]

theorem strandFollow_same {d : Dev} {n : Nat} (h : StrandQuiet d n) : d.strandFollow n = d := by
  obtain ⟨hstate, hagain, hwaiting⟩ := h
  have hset : (if (d.obj (K.STR_STATE n) = 2 ∨ d.obj (K.STR_STATE n) = 3) ∧ (!(d.strand n).bringing) = true then
      d.setStrandState n (d.strandGood n) else d) = d := by
    split
    · rename_i hdark
      obtain ⟨hdark, hbring⟩ := hdark
      rcases hstate with ⟨h2, h3⟩ | hb | hgood
      · exact absurd hdark (by simp [h2, h3])
      · simp [hb] at hbring
      · simp [setStrandState, hgood]
    · rfl
  have hprobe : d.strandAgain n = d := by
    unfold strandAgain
    split
    · rfl
    · rename_i u hu
      exact if_neg (Nat.not_le.mpr (hagain u hu))
  unfold strandFollow
  simp only [hset, hprobe, hwaiting]
  rfl

theorem ldlFollow_same {d : Dev} (h : d.isTile = false ∨ d.ldl.driven = false ∨ ∀ n < 32, StrandQuiet d n) :
    d.ldlFollow = d := by
  unfold ldlFollow
  rcases h with h | h | h
  · simp [h]
  · simp [h]
  · have hfold : ∀ l : List Nat, (∀ n ∈ l, n < 32) → l.foldl (fun d n => d.strandFollow n) d = d := by
      intro l
      induction l with
      | nil => intro _; rfl
      | cons n l ih =>
        intro hl
        rw [List.foldl_cons, strandFollow_same (h n (hl n (by simp)))]
        exact ih fun k hk => hl k (by simp [hk])
    simp [hfold (List.range 32) (fun n hn => List.mem_range.mp hn)]

theorem urgentFollow_same {d : Dev} (h : d.flash.urgent = [] ∨ d.start.run = .offReady) : d.urgentFollow = d := by
  unfold urgentFollow
  rcases h with h | h
  · simp [h]
  · simp [saveSettings, flashOpen, h]

/-- With no subscription no change is announced. -/
theorem sendChanges_unsubscribed (b : Dev) {d : Dev} (h : ∀ s ∈ d.pliuk.sessions, s.subs = []) : b.sendChanges d = d := by
  have hfold : ∀ (l : List Session) (e : Dev), (∀ s ∈ l, s.subs = []) →
      l.foldl (fun d s => s.subs.foldl (fun d x =>
        if x.isEvent || b.content x.code == d.content x.code then d else d.objChanged s.id x) d) e = e := by
    intro l
    induction l with
    | nil => intro e _; rfl
    | cons s l ih =>
      intro e hl
      rw [List.foldl_cons, hl s (by simp)]
      exact ih e fun r hr => hl r (by simp [hr])
  exact hfold _ d h

/-- Where nothing is due, the sweep after a command only clears the events. -/
theorem sweep_nothingDue (b : Dev) {e : Dev} (h : NothingDue e) : b.sweep e = { e with events := [] } := by
  rcases h with hdead | ⟨hevents, hsubs, hmode, htime, hstart, hback, hdark, hdram, hrules, hready, hldl, hflash⟩
  · exact sweep_dead b e hdead
  · have hfollow : e.follow = e := by
      simp only [follow, modeFollow_same hmode, timeFollow_same htime, startFollow_same hstart, if_neg hback,
        powerFollow_same hdark hdram, planFollow_same hrules, readyFollow_same hready, ldlFollow_same hldl,
        urgentFollow_same hflash]
    unfold sweep
    split
    · rfl
    · simp only [hfollow, hevents, List.foldl_nil]
      rw [sendChanges_unsubscribed b (d := { e with events := [] }) hsubs]

/-- What is fixed stays by itself where the effect left it alone. -/
theorem protect_same (f : Fixed) {d : Dev} (h : d.fix = f) : d.protect f = d := by
  subst h
  have hkey : d.fix.otp.safetyKey.orElse (fun _ => d.fix.otp.safetyKey) = d.fix.otp.safetyKey := by
    cases d.fix.otp.safetyKey <;> rfl
  simp only [protect, hkey, Nat.or_self]

end Dev

/-- Settles O8: a next state is one `after` an effect, and where nothing is due each thing that follows leaves it alone. -/
theorem aCommandFollowsUpOnlyWhatIsDue : Obligations.ACommandFollowsUpOnlyWhatIsDue := by
  refine ⟨fun c s u h => ?_, fun t s e hdue hfix => ?_⟩
  · obtain ⟨t, e, rfl⟩ := exec_next_eq_after h
    exact ⟨after_pending t s e, after_events t s e⟩
  · unfold after
    rw [Dev.sweep_nothingDue _ hdue, Dev.protect_same s.dev.fix (d := { e with events := [] }) hfix]

/-! ### The message commands and their opcodes (R49) -/

/-- The fifteen message commands, each with its opcode and the flag bits that its row sets and clears. -/
def messageRows (t : Time) (c : Carrier) (m : Msg) : List (Instr × Nat × Nat × Nat) :=
  [(.read t c m, 1, 0, 1), (.write t c m, 2, 0, 1), (.readBlock t c m, 3, 0, 1), (.writeBlock t c m, 4, 0, 1),
    (.begin t c m, 5, 0, 1), (.commit t c m, 6, 0, 9), (.wallCommit t c m, 6, 8, 1), (.rollback t c m, 7, 0, 1),
    (.status t c m, 8, 0, 1), (.notifyAck t c m, 9, 1, 0), (.subscribe t c m, 10, 0, 1),
    (.authChallenge t c m, 11, 0, 1), (.authResponse t c m, 12, 0, 1), (.broadcastWrite t c m, 13, 0, 1),
    (.capFifoRead t c m, 3, 0, 1)]

theorem exec_messageRow {t : Time} {c : Carrier} {m : Msg} {i : Instr} {op set clear : Nat}
    (h : (i, op, set, clear) ∈ messageRows t c m) (s : State) :
    exec i s = .next (after t s ((s.dev.begin t).receiveAs op set clear c m)) := by
  simp only [messageRows, List.mem_cons, Prod.mk.injEq, List.not_mem_nil, or_false] at h
  rcases h with ⟨rfl, rfl, rfl, rfl⟩ | ⟨rfl, rfl, rfl, rfl⟩ | ⟨rfl, rfl, rfl, rfl⟩ | ⟨rfl, rfl, rfl, rfl⟩ |
    ⟨rfl, rfl, rfl, rfl⟩ | ⟨rfl, rfl, rfl, rfl⟩ | ⟨rfl, rfl, rfl, rfl⟩ | ⟨rfl, rfl, rfl, rfl⟩ |
    ⟨rfl, rfl, rfl, rfl⟩ | ⟨rfl, rfl, rfl, rfl⟩ | ⟨rfl, rfl, rfl, rfl⟩ | ⟨rfl, rfl, rfl, rfl⟩ |
    ⟨rfl, rfl, rfl, rfl⟩ | ⟨rfl, rfl, rfl, rfl⟩ | ⟨rfl, rfl, rfl, rfl⟩ <;> rfl

/-! ### What R47 discards -/

namespace Dev

@[simp] theorem objBits_msgDiscard (d : Dev) : d.objBits K.MSG_DISCARD_CRC = 32 := by
  unfold objBits
  cases d.pers <;> rfl

theorem receiveAs_bad {d : Dev} {c : Carrier} {m : Msg} (op set clear : Nat) (ho : d.carrierOpen c = true)
    (hb : msgBad m = true) :
    d.receiveAs op set clear c m = d.setObj K.MSG_DISCARD_CRC (satInc 32 (d.obj K.MSG_DISCARD_CRC)) := by
  simp [receiveAs, ho, hb, bump]

theorem msgBad_of {m : Msg}
    (h : m.crc ≠ msgTrailer m ∨ m.length ≠ m.payload.length ∨ 1440 < m.payload.length) : msgBad m = true := by
  simpa [msgBad, or_assoc] using h

end Dev

/-- Settles O14: whatever its opcode, a message that R47 discards does nothing but count. -/
theorem damagedMessagesAreDiscardedAndCounted : Obligations.DamagedMessagesAreDiscardedAndCounted := by
  intro s t c m hopen hbad i hi
  have hrow : ∃ op set clear, (i, op, set, clear) ∈ messageRows t c m := by
    have hmem : i ∈ (messageRows t c m).map (·.1) := hi
    obtain ⟨⟨_, op, set, clear⟩, hr, rfl⟩ := List.mem_map.mp hmem
    exact ⟨op, set, clear, hr⟩
  obtain ⟨op, set, clear, hrow⟩ := hrow
  rw [exec_messageRow hrow, Dev.receiveAs_bad op set clear hopen (Dev.msgBad_of hbad)]

/-! ### Repeats and wrong sequences (R56) -/

namespace Dev

/-- A row that clears RESP leaves it clear in what it reads. -/
theorem bit0_rowMsg_clear (op k : Nat) (m : Msg) (hk : k = 1 ∨ k = 9) : bit 0 (rowMsg op 0 k m).flags = false := by
  rcases hk with rfl | rfl <;> simp [rowMsg, bit]

theorem bit0_rowMsg_wall (op : Nat) (m : Msg) : bit 0 (rowMsg op 8 1 m).flags = false := by
  simp [rowMsg, bit]

/-- A request that arrives whole is handled as its row reads it. -/
theorem receiveAs_whole {d : Dev} {c : Carrier} {m : Msg} {op set clear : Nat} (ha : Arrives d c m)
    (hf : bit 0 (rowMsg op set clear m).flags = false) :
    d.receiveAs op set clear c m = d.handle c (rowMsg op set clear m) := by
  obtain ⟨hopen, hgood⟩ := ha
  have hbit : bit 0 ((m.flags &&& (255 - clear)) ||| set) = false := hf
  simp only [receiveAs, hopen, hgood, hbit, rowMsg, Bool.not_true, Bool.false_eq_true, if_false]

/-- A request in an open session with no commit in validation meets the checks of the session. -/
theorem handle_inSession {d : Dev} {m : Msg} {x : Session} (c : Carrier) (hver : m.version = 1)
    (hop : d.opcodeOk m.opcode = true) (hch : m.opcode ≠ 11) (hlive : d.liveSess m.session = some x)
    (hval : d.validatingIn x.id = false) : d.handle c m = d.inSession d.now c x m := by
  simp [handle, handleAt, hver, hop, hch, hlive, hval]

theorem liveSess_open {d : Dev} {sid : Nat} {x : Session} (h : d.sess sid = some x) (ho : x.halfOpen = false) :
    d.liveSess sid = some x := by
  simp [liveSess, h, ho]

theorem inSession_repeat {d : Dev} {m : Msg} {x : Session} {a : Msg} (at' : Time) (c : Carrier)
    (hseq : m.sequence = x.lastSeq) (hc : x.cached = some a) :
    d.inSession at' c x m = (d.setSess x.id (fun z => { z with peer := c, lastHeard := d.now })).sendPliuk c a := by
  simp [inSession, hseq, hc]

theorem inSession_wrongSequence {d : Dev} {m : Msg} {x : Session} (at' : Time) (c : Carrier)
    (hseq : m.sequence ≠ x.lastSeq) (hnext : m.sequence ≠ (x.lastSeq + 1) % 2 ^ 32) :
    d.inSession at' c x m = d.answer c m Status.SEQUENCE := by
  rw [inSession, if_neg hseq, if_pos hnext]

end Dev

/-- The requests of an open session: each is a message command that clears RESP, and its opcode is one that every device
answers in a session. -/
theorem sessionRequest_row {t : Time} {c : Carrier} {m : Msg} {i : Instr × Msg}
    (h : i ∈ [(Instr.read t c m, rowMsg 1 0 1 m), (.write t c m, rowMsg 2 0 1 m), (.readBlock t c m, rowMsg 3 0 1 m),
        (.writeBlock t c m, rowMsg 4 0 1 m), (.begin t c m, rowMsg 5 0 1 m), (.commit t c m, rowMsg 6 0 9 m),
        (.wallCommit t c m, rowMsg 6 8 1 m), (.rollback t c m, rowMsg 7 0 1 m), (.status t c m, rowMsg 8 0 1 m),
        (.subscribe t c m, rowMsg 10 0 1 m), (.authResponse t c m, rowMsg 12 0 1 m)]) :
    ∃ op set clear, (i.1, op, set, clear) ∈ messageRows t c m ∧ i.2 = rowMsg op set clear m ∧
      bit 0 (rowMsg op set clear m).flags = false ∧ (∀ d : Dev, d.opcodeOk op = true) ∧ op ≠ 11 := by
  have plain (op : Nat) : bit 0 (rowMsg op 0 1 m).flags = false := Dev.bit0_rowMsg_clear op 1 m (.inl rfl)
  simp only [List.mem_cons, List.not_mem_nil, or_false] at h
  rcases h with rfl | rfl | rfl | rfl | rfl | rfl | rfl | rfl | rfl | rfl | rfl
  case inr.inr.inr.inr.inr.inl =>
    exact ⟨6, 0, 9, by simp [messageRows], rfl, Dev.bit0_rowMsg_clear 6 9 m (.inr rfl), fun _ => rfl, by decide⟩
  case inr.inr.inr.inr.inr.inr.inl =>
    exact ⟨6, 8, 1, by simp [messageRows], rfl, Dev.bit0_rowMsg_wall 6 m, fun _ => rfl, by decide⟩
  all_goals exact ⟨_, 0, 1, by simp [messageRows], rfl, plain _, fun _ => rfl, by decide⟩

/-- Settles O15: a request of an open session meets the check of its sequence before anything else. -/
theorem repeatsAreAnsweredFromTheCache : Obligations.RepeatsAreAnsweredFromTheCache := by
  intro s t c m x harrives hver _ hsess hopen hval i hi
  obtain ⟨op, set, clear, hrow, heq, hbit, hop, hch⟩ := sessionRequest_row hi
  rw [exec_messageRow hrow, Dev.receiveAs_whole harrives hbit,
    Dev.handle_inSession (m := rowMsg op set clear m) c hver (hop _) hch (Dev.liveSess_open hsess hopen) hval, heq]
  refine ⟨fun a hseq hcached => ?_, fun hseq hnext => ?_⟩
  · rw [Dev.inSession_repeat _ c (m := rowMsg op set clear m) hseq hcached, Dev.begin_now]
  · rw [Dev.inSession_wrongSequence _ c (m := rowMsg op set clear m) hseq hnext]
    rfl

/-! ### Admitted requests (R48) -/

namespace Dev

@[simp] theorem answered_some (c : Carrier) (m : Msg) (a : Nat × Bytes) (e : Dev) :
    answered c m (some a, e) = e.reply c m a := rfl

@[simp] theorem answered_none (c : Carrier) (m : Msg) (e : Dev) : answered c m (none, e) = e := rfl

end Dev

/-- An admitted request that its role may make is accepted, its opcode acts, and the answer goes out. -/
theorem exec_admitted {s : State} {t : Time} {c : Carrier} {m : Msg} {x : Session} {i : Instr} {op set clear : Nat}
    (hrow : (i, op, set, clear) ∈ messageRows t c m) (h : Admitted (s.dev.begin t) c m x)
    (hf : bit 0 (rowMsg op set clear m).flags = false ∧ (rowMsg op set clear m).flags < 16)
    (hop : op ∈ [1, 2, 3, 4, 5, 6, 7, 8, 10])
    (hrole : ((s.dev.begin t).accept c (rowMsg op set clear m)).roleAllows x (rowMsg op set clear m) = true) :
    exec i s = .next (after t s (Dev.answered c (rowMsg op set clear m)
      (((s.dev.begin t).accept c (rowMsg op set clear m)).perform t c { x with peer := c }
        (rowMsg op set clear m)))) := by
  rw [exec_messageRow hrow, Dev.receiveAs_admitted op set clear h hf hop hrole, Dev.begin_now]

theorem flags_lt_of_admitted {d : Dev} {c : Carrier} {m : Msg} {x : Session} (h : Admitted d c m x) : m.flags < 16 := by
  obtain ⟨_, _, _, hflags, _⟩ := h
  exact hflags

/-- What an admitted request answers, where its row clears RESP alone and every role may ask for its opcode. -/
theorem exec_anyRole_answers {s : State} {t : Time} {c : Carrier} {m : Msg} {x : Session} {i : Instr} {a : Nat × Bytes}
    {e : Dev} (op : Nat) (hrow : (i, op, 0, 1) ∈ messageRows t c m) (h : Admitted (s.dev.begin t) c m x)
    (hop : op ∈ [1, 2, 3, 5, 8, 10])
    (hdoes : ((s.dev.begin t).accept c (rowMsg op 0 1 m)).perform t c { x with peer := c } (rowMsg op 0 1 m) =
      (some a, e)) :
    exec i s = .next (after t s (e.reply c (rowMsg op 0 1 m) a)) := by
  have hcases : op = 1 ∨ op = 2 ∨ op = 3 ∨ op = 5 ∨ op = 8 ∨ op = 10 := by simpa using hop
  have hrole : op ≠ 4 ∧ op ≠ 7 ∧ op ≠ 13 := by omega
  have hknown : op ∈ [1, 2, 3, 4, 5, 6, 7, 8, 10] := by
    rcases hcases with rfl | rfl | rfl | rfl | rfl | rfl <;> simp
  rw [exec_admitted hrow h (Dev.rowMsg_clear op 1 m (.inl rfl) (flags_lt_of_admitted h)) hknown
    (Dev.roleAllows_other _ _ _ hrole), hdoes, Dev.answered_some]

namespace Dev

/-! ### What each opcode does -/

section
variable {d e : Dev} {m : Msg} {a : Nat × Bytes} (at' : Time) (c : Carrier) (s : Session)

theorem perform_read (hop : m.opcode = 1) (h : d.doRead m = (a, e)) : d.perform at' c s m = (some a, e) := by
  simp only [perform, hop, h]

theorem perform_write (hop : m.opcode = 2) (h : d.doWrite s m = (a, e)) : d.perform at' c s m = (some a, e) := by
  simp only [perform, hop, h]

theorem perform_readBlock (hop : m.opcode = 3) (h : d.doReadBlock m = (a, e)) : d.perform at' c s m = (some a, e) := by
  simp only [perform, hop, h]

theorem perform_writeBlock (hop : m.opcode = 4) (h : d.doWriteBlock s m = (a, e)) :
    d.perform at' c s m = (some a, e) := by
  simp only [perform, hop, h]

theorem perform_begin (hop : m.opcode = 5) (h : d.doBegin s m = (a, e)) : d.perform at' c s m = (some a, e) := by
  simp only [perform, hop, h]

theorem perform_commit (hop : m.opcode = 6) (hwall : bit 3 m.flags = false) :
    d.perform at' c s m = d.doCommit c s m := by
  simp only [perform, hop, hwall, Bool.false_eq_true, if_false]

theorem perform_wallCommit (hop : m.opcode = 6) (hwall : bit 3 m.flags = true) (h : d.doWallCommit s m = (a, e)) :
    d.perform at' c s m = (some a, e) := by
  simp only [perform, hop, hwall, h, if_true]

theorem perform_rollback (hop : m.opcode = 7) (h : d.doRollback at' s m = (a, e)) :
    d.perform at' c s m = (some a, e) := by
  simp only [perform, hop, h]

theorem perform_status (hop : m.opcode = 8) (h : d.doStatus m = (a, e)) : d.perform at' c s m = (some a, e) := by
  simp only [perform, hop, h]

theorem perform_subscribe (hop : m.opcode = 10) (hrun : d.baseRun ≠ .startFailed) (h : d.doSubscribe s m = (a, e)) :
    d.perform at' c s m = (some a, e) := by
  simp [perform, hop, hrun, h]

theorem perform_broadcast (hop : m.opcode = 13) (h : d.doBroadcast s m = (a, e)) :
    d.perform at' c s m = (some a, e) := by
  simp only [perform, hop, h]

end

/-! ### READ, READ_BLOCK and SUBSCRIBE -/

theorem doRead_refs {m : Msg} {ks : List Nat} (h : parseRefs m.payload = some ks) (d : Dev) :
    d.doRead m =
      (let r := ks.foldl (fun (y : Bytes × Dev) k => let z := y.2.readRef k; (y.1 ++ z.1, z.2)) (([] : Bytes), d)
       ((Status.OK, countedBytes ks.length r.1), r.2)) := by
  simp only [doRead, h]

/-- A reference (R50) names its key. -/
theorem refAt_refBytes {k : Nat} (h : k < 2 ^ 24) (b : Bytes) : refAt 0 (refBytes k ++ b) = k := by
  have hindex : k / 256 < 2 ^ (8 * 2) := by omega
  have hsub : k % 256 < 2 ^ (8 * 1) := by omega
  unfold refAt refBytes
  simp (disch := omega) only [List.append_assoc, fieldAt_be_left, fieldAt_be_right, Nat.reduceSub, Nat.reduceAdd]
  omega

theorem length_refBytes (k : Nat) : (refBytes k).length = 4 := by simp [refBytes]

theorem fieldAt_refBytes_right {off : Nat} (n k : Nat) (b : Bytes) (h : 4 ≤ off) :
    fieldAt off n (refBytes k ++ b) = fieldAt (off - 4) n b := by
  simpa [length_refBytes] using fieldAt_append_right n (a := refBytes k) b (by simpa [length_refBytes] using h)

/-- The last byte of a reference is reserved. -/
theorem fieldAt_refBytes_reserved (k : Nat) (b : Bytes) : fieldAt 3 1 (refBytes k ++ b) = 0 := by
  unfold refBytes
  simp (disch := omega) only [List.append_assoc, fieldAt_be_left, fieldAt_be_right, Nat.reduceSub]

theorem doReadBlock_blob {d : Dev} {m : Msg} {k off len : Nat} {o : ObjDef}
    (hp : m.payload = refBytes k ++ be 4 off ++ be 4 len) (hk : k < 2 ^ 24) (hoff : off < 2 ^ 32) (hlen : 1 ≤ len)
    (hmax : len ≤ 1024) (ho : d.reachDef k = some o) (hacc : o.acc d.pers ≠ .wo) (hty : o.ty = .blob)
    (hawake : ¬ (d.baseRun = .standby ∧ inDram k = true)) :
    d.doReadBlock m =
      (let all := d.readBlob k
       let data := slice off (min len (all.length - off)) all
       ((Status.OK, refBytes k ++ be 4 off ++ be 4 all.length ++ data), d.takeStamps k off data.length)) := by
  have hpay : m.payload = refBytes k ++ (be 4 off ++ be 4 len) := by rw [hp, List.append_assoc]
  have hlength : m.payload.length = 12 := by simp [hpay, length_refBytes]
  have hres : fieldAt 3 1 m.payload = 0 := by rw [hpay, fieldAt_refBytes_reserved]
  have hkey : refAt 0 m.payload = k := by rw [hpay, refAt_refBytes hk]
  have hat : fieldAt 4 4 m.payload = off := by
    rw [hpay, fieldAt_refBytes_right 4 k _ (by omega), fieldAt_be_left _ (by omega)]
  have hn : fieldAt 8 4 m.payload = len := by
    rw [hpay, fieldAt_refBytes_right 4 k _ (by omega), fieldAt_be_right 4 4 off _ (by omega), fieldAt_be (by omega)]
  have hsize : ¬ (len = 0 ∨ 1024 < len) := by omega
  simp only [doReadBlock, hlength, hres, hkey, hat, hn, ho, hacc, hty, hawake, hsize, ne_eq, not_true_eq_false,
    or_self, if_false]

theorem doSubscribe_counted {m : Msg} {n : Nat} (s : Session) (hn : countOf m.payload = some n)
    (hlen : m.payload.length = 4 + 8 * n) (d : Dev) :
    d.doSubscribe s m =
      (let r := (List.range n).foldl (fun (y : Bytes × Dev) i =>
           let z := y.2.subscribeOne s.id (slice (4 + 8 * i) 8 m.payload); (y.1 ++ be 1 z.1 ++ be 3 0, z.2))
         (([] : Bytes), d)
       ((Status.OK, countedBytes n r.1), r.2)) := by
  simp only [doSubscribe, hn, hlen, ne_eq, not_true_eq_false, if_false]

end Dev

/-- Settles O9: each of the four is performed on the accepted request, and its answer goes out. -/
theorem readsAndSubscriptionsAreAnswered : Obligations.ReadsAndSubscriptionsAreAnswered := by
  intro s t c m x hadm
  refine ⟨?read, ?block, ?subscribe⟩
  case read =>
    intro ks hks
    exact exec_anyRole_answers 1 (by simp [messageRows]) hadm (by simp)
      (Dev.perform_read t c _ rfl (Dev.doRead_refs (m := rowMsg 1 0 1 m) hks _))
  case block =>
    intro k off len o hp hk hoff hlen hmax ho hacc hty hawake
    have hdoes := Dev.perform_readBlock t c { x with peer := c } rfl
      (Dev.doReadBlock_blob (d := (s.dev.begin t).accept c (rowMsg 3 0 1 m)) (m := rowMsg 3 0 1 m)
        hp hk hoff hlen hmax ho hacc hty hawake)
    exact ⟨exec_anyRole_answers 3 (by simp [messageRows]) hadm (by simp) hdoes,
      exec_anyRole_answers 3 (by simp [messageRows]) hadm (by simp) hdoes⟩
  case subscribe =>
    intro n hn hlen hrun
    have hdoes := Dev.perform_subscribe (d := (s.dev.begin t).accept c (rowMsg 10 0 1 m)) t c { x with peer := c } rfl
      hrun (Dev.doSubscribe_counted (m := rowMsg 10 0 1 m) _ hn hlen _)
    exact exec_anyRole_answers 10 (by simp [messageRows]) hadm (by simp) hdoes

/-! ### The STATUS block (R52) -/

namespace Dev

theorem isOpen_eq_of_phase {x y : Txn} (h : x.phase = y.phase) : x.isOpen = y.isOpen := by
  unfold Txn.isOpen; rw [h]

theorem isArmed_eq_of_phase {x y : Txn} (h : x.phase = y.phase) : x.isArmed = y.isArmed := by
  unfold Txn.isArmed; rw [h]

section
variable {n : Nat} {f : Txn → Txn} (hf : ∀ x, (f x).phase = x.phase) (d : Dev)
include hf

theorem phase_updated (x : Txn) : (if x.number == n then f x else x).phase = x.phase := by
  split
  · exact hf x
  · rfl

theorem openCount_setTxn :
    ((d.setTxn n f).pliuk.txns.filter (fun x => x.isOpen)).length = (d.pliuk.txns.filter (fun x => x.isOpen)).length := by
  have hsame : ((fun x : Txn => x.isOpen) ∘ fun x => if x.number == n then f x else x) = fun x => x.isOpen :=
    funext fun x => isOpen_eq_of_phase (phase_updated hf x)
  simp only [setTxn, setPliuk, List.filter_map, List.length_map, hsame]

theorem armedTxn_setTxn :
    (d.setTxn n f).armedTxn = d.armedTxn.map (fun x => if x.number == n then f x else x) := by
  have hsame : ((fun x : Txn => x.isArmed) ∘ fun x => if x.number == n then f x else x) = fun x => x.isArmed :=
    funext fun x => isArmed_eq_of_phase (phase_updated hf x)
  simp only [armedTxn, setTxn, setPliuk, List.find?_map, hsame]

theorem armedAt_setTxn : (d.setTxn n f).armedAt = d.armedAt := by
  unfold armedAt
  rw [armedTxn_setTxn hf]
  cases d.armedTxn with
  | none => rfl
  | some x =>
    simp only [Option.map_some, phase_updated hf x]
    rfl

end

/-- The time stamp that acceptance gives a transaction is no part of its phase. -/
theorem phase_stamped (t : Time) (sid : Nat) (x : Txn) :
    (if x.session = sid ∧ x.phase = .staging then { x with lastMsg := t } else x).phase = x.phase := by
  split <;> rfl

/-- Acceptance opens and ends nothing that STATUS reports. -/
theorem statusBlock_accept (c : Carrier) (m : Msg) (d : Dev) : (d.accept c m).statusBlock = d.statusBlock := by
  have hopen : ((d.accept c m).pliuk.txns.filter (fun x => x.isOpen)).length =
      (d.pliuk.txns.filter (fun x => x.isOpen)).length := openCount_setTxn (phase_stamped _ _) _
  have harmed : (d.accept c m).armedAt = d.armedAt := armedAt_setTxn (phase_stamped _ _) _
  have hsessions : (d.accept c m).pliuk.sessions.length = d.pliuk.sessions.length := by
    simp [accept, setSess, setTxn, setPliuk]
  have hstate : (d.accept c m).deviceState = d.deviceState := rfl
  unfold statusBlock
  simp only [hopen, harmed, hsessions, hstate]
  rfl

theorem doStatus_empty {m : Msg} (h : m.payload = []) (d : Dev) : d.doStatus m = ((Status.OK, d.statusBlock), d) := by
  simp [doStatus, h]

theorem armedAt_none {d : Dev} (h : d.armedTxn = none) : d.armedAt = 0 := by
  simp only [armedAt, h]

end Dev

/-- Settles O10: the block is that of the accepted request's device, and acceptance changes nothing of it. -/
theorem statusAnswersTheBlockOfR52 : Obligations.StatusAnswersTheBlockOfR52 := by
  intro s t c m x hadm hempty
  refine ⟨?_, Dev.armedAt_none⟩
  have hdoes := Dev.perform_status (d := (s.dev.begin t).accept c (rowMsg 8 0 1 m)) t c { x with peer := c } rfl
    (Dev.doStatus_empty (m := rowMsg 8 0 1 m) hempty _)
  rw [Dev.statusBlock_accept] at hdoes
  exact exec_anyRole_answers 8 (by simp [messageRows]) hadm (by simp) hdoes

/-! ### BEGIN, WRITE and WRITE_BLOCK (R50, R59) -/

namespace Dev

theorem doBegin_opens {d : Dev} {s : Session} {m : Msg} {ms : Nat} (hp : m.payload = be 4 ms)
    (hms : ms = 0 ∨ (100 ≤ ms ∧ ms ≤ 60000)) (h2 : d.obj K.INTEG_STATE ≠ 2) (h3 : d.obj K.INTEG_STATE ≠ 3)
    (hshut : d.writesShut = false) (hnone : d.openTxn s.id = none)
    (hroom : (d.pliuk.txns.filter (fun y => y.isOpen)).length < 4) :
    d.doBegin s m =
      (let n := d.pliuk.nextTxn
       let y : Txn :=
         { number := n, session := s.id, timeoutMs := if ms = 0 then d.obj K.TXN_DEFAULT_TIMEOUT else ms,
           lastMsg := d.now, phase := .staging, entries := [], request := none, intact := true }
       ((Status.OK, be 4 n), d.setPliuk (fun p =>
         { p with txns := p.txns ++ [y], nextTxn := if n + 1 = 2 ^ 32 then 1 else n + 1 }))) := by
  have hval : fieldAt 0 4 m.payload = ms := by rw [hp, fieldAt_be (by omega)]
  have hlen : m.payload.length = 4 := by rw [hp, length_be]
  have hrange : ¬ (ms ≠ 0 ∧ (ms < 100 ∨ 60000 < ms)) := by omega
  have hfew : ¬ 4 ≤ (d.pliuk.txns.filter (fun y => y.isOpen)).length := by omega
  simp only [doBegin, hval, hlen, h2, h3, hshut, hrange, hnone, hfew, ne_eq, not_true_eq_false, or_self,
    Bool.false_eq_true, Option.isSome_none, if_false]

theorem doWrite_now {m : Msg} {es : List WriteEntry} (s : Session) (hes : parseWrites m.payload = some es)
    (htxn : m.txn = 0) (d : Dev) :
    d.doWrite s m =
      (let r := es.foldl (fun (y : Bytes × Dev) e =>
           let z := y.2.writeEntry (writerOf s false) e
           (y.1 ++ writeStatus e.key z.1, z.2.readyFollow)) (([] : Bytes), d)
       ((Status.OK, countedBytes es.length r.1), r.2)) := by
  simp only [doWrite, doWriteNow, htxn, hes, if_true]

theorem stagingTxn_of {d : Dev} {s : Session} {m : Msg} {y : Txn} (hopen : d.openTxn s.id = some y)
    (hnum : y.number = m.txn) (hphase : y.phase = .staging) : d.stagingTxn s m = some y := by
  simp [stagingTxn, hopen, hnum, hphase]

theorem overLimit_within {d : Dev} {y : Txn} {entries : List Staged}
    (hcount : entries.length + (d.stagingOf y none).length ≤ 256)
    (hbytes : (d.stagingOf y none).foldl (fun a z => a + z.data.length) 0 + d.stagedBytes entries ≤ 65536) :
    d.overLimit y entries none 0 = false := by
  simp only [overLimit, Option.isSome_none, Bool.false_eq_true, if_false, Bool.or_eq_false_iff,
    decide_eq_false_iff_not]
  omega

theorem doWrite_staged {d : Dev} {s : Session} {m : Msg} {y : Txn} {es : List WriteEntry}
    (hes : parseWrites m.payload = some es) (htxn : m.txn ≠ 0) (hy : d.stagingTxn s m = some y) :
    d.doWrite s m = d.doWriteStaged s y m := by
  simp only [doWrite, htxn, hes, hy, if_false]

theorem doWriteStaged_within {d : Dev} {s : Session} {m : Msg} {y : Txn} {es : List WriteEntry}
    (hes : parseWrites m.payload = some es)
    (hlim : d.overLimit y (y.entries ++ ((d.stageAll (writerOf s true) y.entries es).filter (fun z => isOk z.2)).map
      (fun z => (⟨z.1.key, beVal z.1.val, none⟩ : Staged))) none 0 = false) :
    d.doWriteStaged s y m =
      (let sts := d.stageAll (writerOf s true) y.entries es
       let new := (sts.filter (fun z => isOk z.2)).map (fun z => (⟨z.1.key, beVal z.1.val, none⟩ : Staged))
       ((Status.OK, countedBytes es.length
         (sts.flatMap (fun z => writeStatus z.1.key (if isOk z.2 then 0 else z.2)))),
         (sts.filter (fun z => z.1.key == K.OVL_COMMAND && z.2 == Status.ACCESS)).foldl (fun e _ => e.ovlRefuse false)
           (d.setTxn y.number (fun z => { z with entries := y.entries ++ new })))) := by
  simp only [doWriteStaged, hes, hlim, Bool.false_eq_true, if_false]

theorem ite_ne_of_ne {α : Type} {p : Prop} [Decidable p] {a b c : α} (ha : a ≠ c) (hb : b ≠ c) :
    (if p then a else b) ≠ c := by
  split
  · exact ha
  · exact hb

/-- A check that refuses nothing has not failed, and those after it refuse nothing. -/
theorem of_ite_some_eq_none {α : Type} {p : Prop} [Decidable p] {a : α} {b : Option α}
    (h : (if p then some a else b) = none) : ¬ p ∧ b = none := by
  split at h
  · cases h
  · exact ⟨‹_›, h⟩

/-- The refusal of a write of an object is never the status OK. -/
theorem entryRefused_ne_OK (d : Dev) (w : Writer) (k : Nat) : d.entryRefused w k ≠ some Status.OK := by
  unfold entryRefused
  split
  · decide
  · have haccess : some Status.ACCESS ≠ some Status.OK := by decide
    have hrole : some Status.ROLE ≠ some Status.OK := by decide
    exact ite_ne_of_ne haccess (ite_ne_of_ne haccess (ite_ne_of_ne haccess (ite_ne_of_ne haccess
      (ite_ne_of_ne hrole nofun))))

/-- A chunk that is taken belongs to an object whose role may write it. -/
theorem mayWrite_of_writeChunk_OK {d : Dev} {w : Writer} {k : Nat} {b : Chunk} {rb : Bool}
    (h : (d.writeChunk w k b rb).1 = Status.OK) : ∃ o, findDef d.pers k = some o ∧ mayWrite w.role k o.level = true := by
  have hnone : d.entryRefused w k = none := by
    cases hr : d.entryRefused w k with
    | none => rfl
    | some st =>
      have hst : (d.writeChunk w k b rb).1 = st := by simp only [writeChunk, hr]
      exact absurd (hr.trans (congrArg some (hst.symm.trans h))) (entryRefused_ne_OK d w k)
  unfold entryRefused at hnone
  split at hnone
  · cases hnone
  · rename_i o ho
    obtain ⟨_, hnone⟩ := of_ite_some_eq_none hnone
    obtain ⟨_, hnone⟩ := of_ite_some_eq_none hnone
    obtain ⟨_, hnone⟩ := of_ite_some_eq_none hnone
    obtain ⟨_, hnone⟩ := of_ite_some_eq_none hnone
    obtain ⟨hrole, _⟩ := of_ite_some_eq_none hnone
    exact ⟨o, ho, by simpa only [Bool.not_eq_true', Bool.not_eq_false] using hrole⟩

/-- The key of a parsed chunk is that of the reference its payload begins with. -/
theorem refAt_of_parseChunk {more : Bool} {p : Bytes} {k : Nat} {b : Chunk} (h : parseChunk more p = some (k, b)) :
    refAt 0 p = k := by
  unfold parseChunk at h
  split at h
  · cases h
  · injection h with h
    exact congrArg Prod.fst h

theorem roleAllows_writeBlock {d : Dev} {s : Session} {m : Msg} {o : ObjDef} (hop : m.opcode = 4)
    (ho : d.reachDef (refAt 0 m.payload) = some o) (h : mayWrite s.role (refAt 0 m.payload) o.level = true) :
    d.roleAllows s m = true := by
  simp [roleAllows, hop, ho, h]

theorem doWriteBlock_taken {d : Dev} {s : Session} {m : Msg} {k : Nat} {b : Chunk}
    (hb : parseChunk (bit 2 m.flags) m.payload = some (k, b)) (htxn : m.txn = 0) (hcal : k ≠ K.PRISM_CAL_IMAGE)
    (hshut : d.writesShut = false) (hreach : d.reaches k = true)
    (hok : (d.writeChunk (writerOf s false) k b true).1 = Status.OK) :
    d.doWriteBlock s m =
      ((Status.OK, refBytes k ++ be 4 b.offset), (d.writeChunk (writerOf s false) k b true).2) := by
  simp only [doWriteBlock, doWriteBlockNow, hb, htxn, hcal, hshut, hreach, hok, Bool.false_eq_true, Bool.not_true,
    if_true, if_false, true_or, beq_self_eq_true]

end Dev

/-- Settles O11: each of the three is performed on the accepted request; a chunk that is taken has passed its role. -/
theorem transactionsOpenAndWritesAreTaken : Obligations.TransactionsOpenAndWritesAreTaken := by
  intro s t c m x hadm
  refine ⟨?opens, ?write, ?staged, ?block⟩
  case opens =>
    intro ms hp hms h2 h3 hshut hnone hroom
    have hdoes := Dev.perform_begin t c { x with peer := c } rfl
      (Dev.doBegin_opens (d := (s.dev.begin t).accept c (rowMsg 5 0 1 m)) (s := { x with peer := c })
        (m := rowMsg 5 0 1 m) hp hms h2 h3 hshut hnone hroom)
    have hnow : ((s.dev.begin t).accept c (rowMsg 5 0 1 m)).now = t := Dev.begin_now t s.dev
    rw [hnow] at hdoes
    exact exec_anyRole_answers 5 (by simp [messageRows]) hadm (by simp) hdoes
  case write =>
    intro es hes htxn
    have hdoes := Dev.perform_write (d := (s.dev.begin t).accept c (rowMsg 2 0 1 m)) t c { x with peer := c } rfl
      (Dev.doWrite_now (m := rowMsg 2 0 1 m) _ hes htxn _)
    exact exec_anyRole_answers 2 (by simp [messageRows]) hadm (by simp) hdoes
  case staged =>
    intro es y hes htxn _ _ _ _ _ hopen hnum hphase hcount hbytes
    have hstaging : ((s.dev.begin t).accept c (rowMsg 2 0 1 m)).stagingTxn { x with peer := c } (rowMsg 2 0 1 m) =
        some y := Dev.stagingTxn_of hopen hnum hphase
    have hdoes := Dev.perform_write t c { x with peer := c } rfl
      ((Dev.doWrite_staged (m := rowMsg 2 0 1 m) hes htxn hstaging).trans
        (Dev.doWriteStaged_within hes (Dev.overLimit_within hcount hbytes)))
    exact exec_anyRole_answers 2 (by simp [messageRows]) hadm (by simp) hdoes
  case block =>
    intro k b hb htxn hcal hshut hreach _ _ hok
    have hkey : refAt 0 (rowMsg 4 0 1 m).payload = k := Dev.refAt_of_parseChunk hb
    obtain ⟨o, ho, hmay⟩ := Dev.mayWrite_of_writeChunk_OK hok
    have hdef : ((s.dev.begin t).accept c (rowMsg 4 0 1 m)).reachDef (refAt 0 (rowMsg 4 0 1 m).payload) = some o := by
      rw [hkey]
      exact (if_pos hreach).trans ho
    have hrole := Dev.roleAllows_writeBlock (s := x) (m := rowMsg 4 0 1 m) rfl hdef (by rw [hkey]; exact hmay)
    have hdoes := Dev.perform_writeBlock t c { x with peer := c } rfl
      (Dev.doWriteBlock_taken (d := (s.dev.begin t).accept c (rowMsg 4 0 1 m)) (m := rowMsg 4 0 1 m)
        hb htxn hcal hshut hreach hok)
    rw [exec_admitted (op := 4) (by simp [messageRows]) hadm
      (Dev.rowMsg_clear 4 1 m (.inl rfl) (flags_lt_of_admitted hadm)) (by simp) hrole, hdoes, Dev.answered_some]

/-! ### Commits and rollbacks (R60 to R66, R590) -/

namespace Dev

/-- COMMIT's row clears WALL, and wall COMMIT's sets it (R46). -/
theorem bit3_rowMsg_commit (m : Msg) : bit 3 (rowMsg 6 0 9 m).flags = false := by
  show ((m.flags &&& 246) ||| 0).testBit 3 = false
  simp [show Nat.testBit 246 3 = false by decide]

theorem bit3_rowMsg_wallCommit (m : Msg) : bit 3 (rowMsg 6 8 1 m).flags = true := by
  show ((m.flags &&& 254) ||| 8).testBit 3 = true
  simp [show Nat.testBit 8 3 = true by decide]

theorem doCommit_validates {d : Dev} {c : Carrier} {s : Session} {m : Msg} {y : Txn} (hp : m.payload = [])
    (hshut : d.writesShut = false) (hy : d.stagingTxn s m = some y) (hrules : d.txnFail y false = none) :
    d.doCommit c s m = (none, d.setTxn y.number (fun z => { z with phase := .validating, request := some (c, m) })) := by
  simp only [doCommit, hp, hshut, hy, hrules, List.isEmpty_nil, Bool.not_true, Bool.false_eq_true, if_false]

theorem doWallCommit_arms {d : Dev} {s : Session} {m : Msg} {y : Txn} {w : Nat} (hp : m.payload = be 8 w)
    (hw : w < 2 ^ 48) (hshut : d.writesShut = false) (hy : d.stagingTxn s m = some y) (harmed : d.armedTxn = none)
    (hnear : 20000000 ≤ wallDiff w d.wall) (hfar : wallDiff w d.wall ≤ 60000000000)
    (hrules : d.txnFail y true = none) :
    d.doWallCommit s m =
      (let a := wallToAbs d.now w
       let f := if d.mode = 0 then a else d.boundaryFrom a
       ((Status.OK, be 8 (f % 2 ^ 48)),
         ((d.setTxn y.number (fun z => { z with phase := .armed a })).dropShadows y f).reportArmed)) := by
  have hval : fieldAt 0 8 m.payload = w := by rw [hp, fieldAt_be (by omega)]
  have hform : ¬ (m.payload.length ≠ 8 ∨ 2 ^ 48 ≤ w) := by
    rw [hp, length_be]; omega
  have hlate : ¬ wallDiff w d.wall < 20000000 := Int.not_lt.mpr hnear
  have hsoon : ¬ 60000000000 < wallDiff w d.wall := Int.not_lt.mpr hfar
  simp only [doWallCommit, hval, hform, hshut, hy, harmed, hlate, hsoon, hrules, Option.isSome_none,
    Bool.false_eq_true, if_false]

/-- A transaction in staging is rolled back by its own session. -/
theorem doRollback_staging {d : Dev} {s : Session} {m : Msg} {y : Txn} (at' : Time) (hp : m.payload = [])
    (hy : d.txnBy m.txn = some y) (hphase : y.phase = .staging) (hown : y.session = s.id) :
    d.doRollback at' s m = ((Status.OK, []), d.dropTxn y.number) := by
  simp only [doRollback, hp, hy, hphase, hown, List.isEmpty_nil, Bool.not_true, Bool.false_eq_true, ne_eq,
    not_true_eq_false, if_false]

theorem roleAllows_rollback {d : Dev} {m : Msg} {y : Txn} (s : Session) (hop : m.opcode = 7)
    (hy : d.txnBy m.txn = some y) (hphase : y.phase = .staging) : d.roleAllows s m = true := by
  simp [roleAllows, hop, hy, Txn.isArmed, hphase]

/-- The end of a validation that fails no cross-rule: the commit is scheduled for now or for its boundary, and answered. -/
theorem validationEnd_passed {d : Dev} {n : Nat} {y : Txn} {c : Carrier} {m : Msg} (hy : d.txnBy n = some y)
    (hphase : y.phase = .validating) (hreq : y.request = some (c, m)) (hrules : d.txnFail y false = none) :
    d.validationEnd n =
      (drainQueue 9 y.session
        (if d.mode = 0 then
          ((d.setTxn n (fun z => { z with phase := .scheduled d.now, request := none })).reply c m
            (Status.OK, be 8 d.wall)).settleTxn y
        else
          ((d.setTxn n (fun z => { z with phase := .scheduled d.applyBoundary, request := none })).dropShadows y
            d.applyBoundary).reply c m (Status.OK, be 8 (d.applyBoundary % 2 ^ 48)))).lateArmed := by
  simp only [validationEnd, hy, hphase, hreq, hrules]

/-- An armed wall commit that no rollback holds applies at W with no mode in force (R63). -/
theorem wallCommitDue_applies {d : Dev} {y : Txn} {w : Time} (hy : d.armedTxn = some y) (hphase : y.phase = .armed w)
    (hmode : d.mode = 0) (hw : w ≤ d.now) (hfree : d.rollbackHeld y = false) : d.wallCommitDue = d.applyTxn y := by
  simp [wallCommitDue, hy, hphase, hmode, hw, hfree]

end Dev

/-! An effect of the control processors, and one that goes on through a control restart. -/

theorem act_whenControl {t : Time} {s : State} (f : Dev → Dev) (h : (s.dev.begin t).controlRuns = true) :
    act t (fun d => d.whenControl f) s = .next (after t s (f (s.dev.begin t))) := by
  rw [act_eq, Dev.whenControl_open _ h]

theorem act_whenFirmware {t : Time} {s : State} (f : Dev → Dev) (h : (s.dev.begin t).pliukRuns = true)
    (hrec : (s.dev.begin t).baseRun ≠ .recovery) :
    act t (fun d => d.whenFirmware f) s = .next (after t s (f (s.dev.begin t))) := by
  rw [act_eq, Dev.whenFirmware_open _ h hrec]

section
variable {s : State} {t : Time} {c : Carrier} {m : Msg} {x : Session} {y : Txn} (hadm : Admitted (s.dev.begin t) c m x)
include hadm

/-- COMMIT of the session's staging transaction (R60, R61): validation begins, and the answer waits for its end. -/
theorem exec_commit_validates (hshut : (s.dev.begin t).writesShut = false) (hphase : y.phase = .staging)
    (hnum : y.number = m.txn) (hp : m.payload = [])
    (hopen : ((s.dev.begin t).accept c (rowMsg 6 0 9 m)).openTxn x.id = some y)
    (hrules : ((s.dev.begin t).accept c (rowMsg 6 0 9 m)).txnFail y false = none) :
    exec (.commit t c m) s = .next (after t s (((s.dev.begin t).accept c (rowMsg 6 0 9 m)).setTxn y.number
      (fun z => { z with phase := .validating, request := some (c, rowMsg 6 0 9 m) }))) := by
  have hy : ((s.dev.begin t).accept c (rowMsg 6 0 9 m)).stagingTxn { x with peer := c } (rowMsg 6 0 9 m) = some y :=
    Dev.stagingTxn_of hopen hnum hphase
  have hdoes := (Dev.perform_commit t c _ rfl (Dev.bit3_rowMsg_commit m)).trans
    (Dev.doCommit_validates (d := (s.dev.begin t).accept c (rowMsg 6 0 9 m)) (c := c) hp hshut hy hrules)
  rw [exec_admitted (op := 6) (by simp [messageRows]) hadm
    (Dev.rowMsg_clear 6 9 m (.inr rfl) (flags_lt_of_admitted hadm)) (by simp)
    (Dev.roleAllows_other _ _ _ (by simp [rowMsg])), hdoes, Dev.answered_none]

/-- COMMIT with WALL of the session's staging transaction (R62 to R64): armed at once. -/
theorem exec_wallCommit_arms {w : Nat} (hshut : (s.dev.begin t).writesShut = false) (hphase : y.phase = .staging)
    (hnum : y.number = m.txn) (hp : m.payload = be 8 w) (hw : w < 2 ^ 48)
    (hopen : ((s.dev.begin t).accept c (rowMsg 6 8 1 m)).openTxn x.id = some y)
    (harmed : ((s.dev.begin t).accept c (rowMsg 6 8 1 m)).armedTxn = none)
    (hnear : 20000000 ≤ wallDiff w (s.dev.begin t).wall) (hfar : wallDiff w (s.dev.begin t).wall ≤ 60000000000)
    (hrules : ((s.dev.begin t).accept c (rowMsg 6 8 1 m)).txnFail y true = none) :
    exec (.wallCommit t c m) s = .next (after t s
      (let d := (s.dev.begin t).accept c (rowMsg 6 8 1 m)
       let a := wallToAbs t w
       let f := if d.mode = 0 then a else d.boundaryFrom a
       (((d.setTxn y.number (fun z => { z with phase := .armed a })).dropShadows y f).reportArmed).reply c
         (rowMsg 6 8 1 m) (Status.OK, be 8 (f % 2 ^ 48)))) := by
  have hy : ((s.dev.begin t).accept c (rowMsg 6 8 1 m)).stagingTxn { x with peer := c } (rowMsg 6 8 1 m) = some y :=
    Dev.stagingTxn_of hopen hnum hphase
  have hdoes := Dev.perform_wallCommit t c { x with peer := c } rfl (Dev.bit3_rowMsg_wallCommit m)
    (Dev.doWallCommit_arms (d := (s.dev.begin t).accept c (rowMsg 6 8 1 m)) hp hw hshut hy harmed hnear hfar hrules)
  have hnow : ((s.dev.begin t).accept c (rowMsg 6 8 1 m)).now = t := Dev.begin_now t s.dev
  rw [hnow] at hdoes
  rw [exec_admitted (op := 6) (by simp [messageRows]) hadm
    (Dev.rowMsg_wall 6 m (flags_lt_of_admitted hadm)) (by simp)
    (Dev.roleAllows_other _ _ _ (by simp [rowMsg])), hdoes, Dev.answered_some]

/-- ROLLBACK of the session's staging transaction (R66, R590): it is gone with its staging. -/
theorem exec_rollback_staging (hphase : y.phase = .staging) (hown : y.session = x.id) (hp : m.payload = [])
    (hy : ((s.dev.begin t).accept c (rowMsg 7 0 1 m)).txnBy m.txn = some y) :
    exec (.rollback t c m) s = .next (after t s
      ((((s.dev.begin t).accept c (rowMsg 7 0 1 m)).dropTxn y.number).reply c (rowMsg 7 0 1 m) (Status.OK, []))) := by
  have hdoes := Dev.perform_rollback t c { x with peer := c } rfl
    (Dev.doRollback_staging (d := (s.dev.begin t).accept c (rowMsg 7 0 1 m)) (s := { x with peer := c })
      (m := rowMsg 7 0 1 m) t hp hy hphase hown)
  rw [exec_admitted (op := 7) (by simp [messageRows]) hadm
    (Dev.rowMsg_clear 7 1 m (.inl rfl) (flags_lt_of_admitted hadm)) (by simp)
    (Dev.roleAllows_rollback (m := rowMsg 7 0 1 m) x rfl hy hphase), hdoes, Dev.answered_some]

end

/-- Settles O12: each command meets the session's staging transaction, or the one in validation, or the armed one. -/
theorem commitsAndRollbacks : Obligations.CommitsAndRollbacks := by
  refine ⟨?requests, ?validated, ?applied⟩
  case requests =>
    intro s t c m x y hadm hshut hphase hown hnum
    exact ⟨exec_commit_validates hadm hshut hphase hnum, fun w => exec_wallCommit_arms hadm hshut hphase hnum,
      exec_rollback_staging hadm hphase hown⟩
  case validated =>
    intro s t n y c m hruns hy hphase hreq hrules
    refine (act_whenControl (Dev.validationEnd n) hruns).trans ?_
    rw [Dev.validationEnd_passed hy hphase hreq hrules,
      Dev.begin_now]
  case applied =>
    intro s t w y hruns hrec hy hphase hmode hw hfree
    refine (act_whenFirmware Dev.wallCommitDue hruns hrec).trans ?_
    rw [Dev.wallCommitDue_applies hy hphase hmode (by rwa [Dev.begin_now]) hfree]

/-! ### Sessions open and close (R53 to R57) -/

namespace Dev

theorem flags_lt_rowMsg_clear (op : Nat) {m : Msg} (h : m.flags < 16) : (rowMsg op 0 1 m).flags < 16 :=
  (rowMsg_clear op 1 m (.inl rfl) h).2

/-- An AUTH_CHALLENGE with SESSION 0 opens a session or not (R53, R54). -/
theorem handle_challenge {d : Dev} {m : Msg} (c : Carrier) (hver : m.version = 1) (hop : m.opcode = 11)
    (hsess : m.session = 0) : d.handle c m = d.challenge c m := by
  have hknown : d.opcodeOk 11 = true := rfl
  simp [handle, handleAt, hver, hop, hknown, hsess]

theorem challenge_opens {d : Dev} {c : Carrier} {m : Msg} {role : Nat} (hflags : m.flags < 16)
    (hlen : m.payload.length = 20) (hrole : fieldAt 0 1 m.payload = role) (hres : fieldAt 1 3 m.payload = 0)
    (hopens : d.roleOpens role c = true) (hplace : d.placeFree c role = true) (hfree : d.lockedOut c = false)
    (hnone : ∀ x ∈ d.pliuk.sessions, x.halfOpen = false) : d.challenge c m = d.openHalf c m role := by
  have hnew : d.pliuk.sessions.find? (fun s => s.halfOpen && s.source == c && s.lastSeq == m.sequence &&
      s.role == role && s.hostNonce == slice 4 16 m.payload) = none :=
    List.find?_eq_none.mpr fun x hx => by simp [hnone x hx]
  have hform : ¬ (16 ≤ m.flags ∨ m.payload.length ≠ 20 ∨ fieldAt 1 3 m.payload ≠ 0) := by
    rw [hlen, hres]; omega
  simp only [challenge, hrole, hfree, hnew, hform, hopens, hplace, Bool.not_true, Bool.false_eq_true, if_false]

/-- A half-open session and its nonce take the next two free values (R53 step 2). -/
theorem openHalf_eq (c : Carrier) (m : Msg) (role : Nat) {d : Dev} {t : Time} (hnow : d.now = t) :
    d.openHalf c m role =
      (let sid := freshSid (d.pliuk.sessions.map (·.id)) (Config.freeValue d.free % 2 ^ 32)
       let nonce := be 16 (Config.freeValue (d.free + 1) % 2 ^ 128)
       let a := responseTo m sid 0 (be 4 sid ++ nonce ++ be 8 d.fix.fuses.uid)
       let x : Session :=
         { id := sid, role := role, halfOpen := true, source := c, peer := c, hostNonce := slice 4 16 m.payload,
           devNonce := nonce, since := t, lastSeq := m.sequence, cached := some a, lastHeard := t,
           notifySeq := 0, queue := [], subs := [], unacked := [] }
       ((({ d with free := d.free + 2 }).setPliuk (fun p =>
         { p with sessions := p.sessions ++ [x] })).reportSessions).sendPliuk c a) := by
  subst hnow
  rfl

/-- The half-open session that a request names within 2 s is still valid (R53). -/
theorem liveSess_halfOpen {d : Dev} {sid : Nat} {x : Session} (h : d.sess sid = some x)
    (ht : d.now ≤ x.since + 2000000000) : d.liveSess sid = some x := by
  simp [liveSess, h, Nat.not_lt.mpr ht]

/-- The next AUTH_RESPONSE of a session is accepted and authenticated. -/
theorem inSession_authResponse {d : Dev} {c : Carrier} {x : Session} {m : Msg} (at' : Time) (hop : m.opcode = 12)
    (hseq : m.sequence ≠ x.lastSeq) (hnext : m.sequence = (x.lastSeq + 1) % 2 ^ 32) (hflags : m.flags < 16) :
    d.inSession at' c x m = (d.accept c m).authenticate c x m := by
  have hrole : (d.accept c m).roleAllows x m = true := roleAllows_other _ _ _ (by simp [hop])
  unfold inSession
  rw [if_neg hseq, if_neg (by simpa using hnext)]
  simp [hop, hrole, Nat.not_le.mpr hflags]

/-- Acceptance leaves the keys alone. -/
theorem roleKey_accept (c : Carrier) (m : Msg) (role : Nat) (d : Dev) :
    (d.accept c m).roleKey role = d.roleKey role := rfl

theorem keyless_accept (c : Carrier) (m : Msg) (role : Nat) (src : Carrier) (d : Dev) :
    (d.accept c m).keyless role src = d.keyless role src := rfl

theorem authenticate_opens {d : Dev} {x : Session} {m : Msg} {key : Bytes} (c : Carrier) (hhalf : x.halfOpen = true)
    (hkeyed : d.keyless x.role x.source = false) (hkey : d.roleKey x.role = key) (hset : key ≠ [])
    (hcode : m.payload = hmacSha256 key
      (be 4 0x504C4B31 ++ authFields x.role x.id d.fix.fuses.uid x.devNonce x.hostNonce))
    (hlen : m.payload.length = 32) :
    d.authenticate c x m = (d.setSess x.id (fun z => { z with halfOpen := false })).reply c m
      (Status.OK, hmacSha256 key
        (be 4 0x504C4B32 ++ authFields x.role x.id d.fix.fuses.uid x.devNonce x.hostNonce)) := by
  have hstored : key.isEmpty = false := List.isEmpty_eq_false_iff.mpr hset
  simp only [authenticate, hhalf, hlen, hkeyed, hkey, hstored, ← hcode, beq_self_eq_true, Bool.not_true, Bool.not_false,
    Bool.false_eq_true, Bool.and_self, Bool.or_true, ne_eq, not_true_eq_false, if_false, if_true]

theorem lockoutEnd_at {d : Dev} {t : Time} (c : Carrier) (h : d.now = t) :
    d.lockoutEnd c = d.setPliuk (fun p => { p with
      lockouts := p.lockouts.filter (fun l => !(l.source == c && match l.lockedTill with
        | some e => decide (e ≤ t)
        | none => false)) }) := by
  subst h
  rfl

theorem authLate_ends {d : Dev} {sid : Nat} {x : Session} (h : d.sess sid = some x) (hhalf : x.halfOpen = true)
    (hold : x.since + 2000000000 ≤ d.now) : d.authLate sid = (d.failOpening x.source).closeSession sid := by
  simp [authLate, h, hhalf, hold]

theorem sessionIdle_ends {d : Dev} {sid : Nat} {x : Session} (h : d.sess sid = some x) (hopen : x.halfOpen = false)
    (hold : x.lastHeard + d.obj K.SESSION_IDLE_TIMEOUT * 1000000000 ≤ d.now) :
    d.sessionIdle sid = d.closeSession sid := by
  simp [sessionIdle, h, hopen, hold]

end Dev

/-- A whole AUTH_CHALLENGE that may open a session opens one (R53 step 2). -/
theorem exec_authChallenge_opens {s : State} {t : Time} {c : Carrier} {m : Msg} {role : Nat}
    (ha : Arrives (s.dev.begin t) c m) (hver : m.version = 1) (hflags : m.flags < 16) (hsess : m.session = 0)
    (hlen : m.payload.length = 20) (hrole : fieldAt 0 1 m.payload = role) (hres : fieldAt 1 3 m.payload = 0)
    (hopens : (s.dev.begin t).roleOpens role c = true) (hplace : (s.dev.begin t).placeFree c role = true)
    (hfree : (s.dev.begin t).lockedOut c = false) (hnone : ∀ x ∈ (s.dev.begin t).pliuk.sessions, x.halfOpen = false) :
    exec (.authChallenge t c m) s = .next (after t s ((s.dev.begin t).openHalf c (rowMsg 11 0 1 m) role)) := by
  have hrow : (Instr.authChallenge t c m, 11, 0, 1) ∈ messageRows t c m := by simp [messageRows]
  rw [exec_messageRow hrow, Dev.receiveAs_whole ha (Dev.bit0_rowMsg_clear 11 1 m (.inl rfl)),
    Dev.handle_challenge (m := rowMsg 11 0 1 m) c hver rfl hsess,
    Dev.challenge_opens (m := rowMsg 11 0 1 m) (Dev.flags_lt_rowMsg_clear 11 hflags) hlen hrole hres hopens hplace hfree
      hnone]

/-- Settles O13: a challenge draws the session's free values, a right response opens it, and the timers end it. -/
theorem sessionsOpenAndClose : Obligations.SessionsOpenAndClose := by
  refine ⟨?challenge, ?response, ?timers, ?lockout⟩
  case challenge =>
    intro s t c m role ha hver hflags hsess hlen hrole hres hopens hplace hfree hnone
    rw [exec_authChallenge_opens ha hver hflags hsess hlen hrole hres hopens hplace hfree hnone,
      Dev.openHalf_eq _ _ _ (Dev.begin_now t s.dev)]
    rfl
  case response =>
    intro s t c m x ha hver hflags hsess hid hhalf hyoung hval hseq hnext hkeyed hkey _ _ _ _ hcode hlen
    have hlive : (s.dev.begin t).liveSess m.session = some x := Dev.liveSess_halfOpen hsess (by rwa [Dev.begin_now])
    have hrow : (Instr.authResponse t c m, 12, 0, 1) ∈ messageRows t c m := by simp [messageRows]
    rw [exec_messageRow hrow, Dev.receiveAs_whole ha (Dev.bit0_rowMsg_clear 12 1 m (.inl rfl)),
      Dev.handle_inSession (m := rowMsg 12 0 1 m) c hver rfl (by simp [rowMsg]) hlive hval,
      Dev.inSession_authResponse (m := rowMsg 12 0 1 m) _ rfl hseq hnext (Dev.flags_lt_rowMsg_clear 12 hflags),
      Dev.authenticate_opens (d := (s.dev.begin t).accept c (rowMsg 12 0 1 m)) (m := rowMsg 12 0 1 m) c hhalf
        (by rwa [Dev.keyless_accept]) (Dev.roleKey_accept c _ x.role _) hkey hcode hlen]
    rfl
  case timers =>
    intro s t sid x hruns hsess
    constructor
    · intro hhalf hold
      refine (act_whenControl (Dev.authLate sid) hruns).trans ?_
      rw [Dev.authLate_ends hsess hhalf (by rwa [Dev.begin_now])]
    · intro hopen hold
      refine (act_whenControl (Dev.sessionIdle sid) hruns).trans ?_
      rw [Dev.sessionIdle_ends hsess hopen (by rwa [Dev.begin_now])]
  case lockout =>
    intro s t c hruns
    exact (act_whenControl (Dev.lockoutEnd c) hruns).trans
      (congrArg (fun e => Host.Outcome.next (after t s e)) (Dev.lockoutEnd_at c (Dev.begin_now t s.dev)))

/-! ### Pliuk timers (R29, R36, R50, R59, R69, R73, R74) -/

namespace Dev

/-- NOTIFY_ACK's row sets RESP, so that the message is an acknowledgement and no request (R74, R586). -/
theorem receiveAs_ack {d : Dev} {c : Carrier} {m : Msg} (ha : Arrives d c m) :
    d.receiveAs 9 1 0 c m = d.setSess m.session (fun z =>
      { z with unacked := z.unacked.filter (fun o => o.seq != m.sequence) }) := by
  obtain ⟨hopen, hgood⟩ := ha
  have hresp : bit 0 ((m.flags &&& (255 - 0)) ||| 1) = true := by simp [bit]
  simp only [receiveAs, hopen, hgood, hresp, takeAck, Bool.not_true, Bool.false_eq_true, ne_eq, not_true_eq_false,
    if_false, if_true]

theorem pairExpired_half {d : Dev} {key : Nat} {h : Half}
    (hh : d.pliuk.halves.find? (fun h => h.key == key && decide (h.since + 1000000000 ≤ d.now)) = some h) :
    d.pairExpired key =
      ((d.setPliuk (fun p => { p with halves := p.halves.filter (fun y => y != h) })).bump K.PAIR_EXPIRED_COUNT).notify
        h.session 4 (refBytes key) := by
  simp only [pairExpired, hh]

theorem txnLate_staging {d : Dev} {n : Nat} {y : Txn} (hy : d.txnBy n = some y) (hphase : y.phase = .staging)
    (hold : y.lastMsg + y.timeoutMs * 1000000 ≤ d.now) :
    d.txnLate n = (d.dropTxn n).notify y.session 3 (be 4 n) := by
  simp [txnLate, hy, hphase, hold]

/-- The one BLOB that is staged, outside a transaction, times out. -/
theorem stagingTimeout_single {d : Dev} {y : BlobStage} (hy : d.pliuk.stages = [y]) (htxn : y.txn = 0)
    (hold : y.lastChunk + 5000000000 ≤ d.now) :
    d.stagingTimeout y.session y.key = (d.dropStage y.session 0 y.key).blobAbort y.key := by
  simp [stagingTimeout, hy, htxn, hold]

theorem notifyRetry_due {d : Dev} {sid seq : Nat} {y : Session} {o : Outstanding} (hy : d.sess sid = some y)
    (ho : y.unacked.find? (fun o => o.seq == seq) = some o) (hold : o.sentAt + 100000000 ≤ d.now) :
    d.notifyRetry sid seq =
      (if o.repeats < 3 then
        (d.setSess sid (fun z => { z with unacked := z.unacked.map (fun u =>
          if u.seq == seq then { u with sentAt := d.now, repeats := u.repeats + 1 } else u) })).sendPliuk y.peer o.msg
      else
        (d.setSess sid (fun z => { z with unacked := z.unacked.filter (fun u => u.seq != seq) })).bump
          K.NOTIFY_DROPPED) := by
  simp only [notifyRetry, hy, ho, Nat.not_lt.mpr hold, if_false]

theorem notifyDue_waiting {d : Dev} {sid key : Nat} {y : Session} {u : Sub} (hy : d.sess sid = some y)
    (hu : y.subs.find? (fun v => !v.isEvent && v.code == key) = some u) (hwait : u.waiting = true)
    (hfree : d.subFree u = true) : d.notifyDue sid key = d.sendChanged sid key := by
  simp [notifyDue, hy, hu, hwait, hfree]

/-- A settings write that is not cut short before its third step (R514). -/
theorem settingsWrite_whole {d : Dev} {stop : Nat} (hdirty : d.flash.dirty ≠ []) (hrun : d.start.run ≠ .offReady)
    (hstop : 3 ≤ stop) : d.settingsWrite stop = d.saveSettings := by
  simp [settingsWrite, flashOpen, hdirty, hrun, hstop]

/-- With no mode in force the broadcasts whose instant has come apply (R69). -/
theorem bcastDue_modeless {d : Dev} (h : d.mode = 0) :
    d.bcastDue = (d.pliuk.bcasts.filter (fun x => decide (x.applyAt ≤ d.now))).foldl (fun d x => d.applyItems 0 x.entries)
      (d.setPliuk (fun p => { p with bcasts := p.bcasts.filter (fun x => !decide (x.applyAt ≤ d.now)) })) := by
  have hready : d.bcastReady none = fun x => decide (x.applyAt ≤ d.now) := by
    funext x
    simp [bcastReady]
  simp only [bcastDue, h, ne_eq, not_true_eq_false, if_false, applyBcasts, hready]

end Dev

/-- Settles O16: each timer finds what it times, and its instant has come. -/
theorem pliukTimersEndWhatTheyTime : Obligations.PliukTimersEndWhatTheyTime := by
  refine ⟨?ack, ?timers, ?broadcasts⟩
  case ack =>
    intro s t c m ha
    have hrow : (Instr.notifyAck t c m, 9, 1, 0) ∈ messageRows t c m := by simp [messageRows]
    rw [exec_messageRow hrow, Dev.receiveAs_ack ha]
  case timers =>
    intro s t hruns
    refine ⟨?half, ?txn, ?blob, ?retry, ?interval, ?settings⟩
    case half =>
      intro key h hh
      refine (act_whenControl (Dev.pairExpired key) hruns).trans ?_
      rw [Dev.pairExpired_half (by rwa [Dev.begin_now])]
    case txn =>
      intro n y hy hphase hold
      refine (act_whenControl (Dev.txnLate n) hruns).trans ?_
      rw [Dev.txnLate_staging hy hphase (by rwa [Dev.begin_now])]
    case blob =>
      rintro sid key y hy rfl rfl htxn hold
      refine (act_whenControl (Dev.stagingTimeout y.session y.key) hruns).trans ?_
      rw [Dev.stagingTimeout_single hy htxn (by rwa [Dev.begin_now])]
    case retry =>
      intro sid seq y o hy ho hold
      refine (act_whenControl (Dev.notifyRetry sid seq) hruns).trans ?_
      rw [Dev.notifyRetry_due hy ho (by rwa [Dev.begin_now]), Dev.begin_now]
    case interval =>
      intro sid key y u hy hu hwait hfree
      refine (act_whenControl (Dev.notifyDue sid key) hruns).trans ?_
      rw [Dev.notifyDue_waiting hy hu hwait hfree]
    case settings =>
      intro hdirty hrun stop hstop
      refine (act_whenControl (Dev.settingsWrite stop) hruns).trans ?_
      rw [Dev.settingsWrite_whole hdirty hrun hstop]
  case broadcasts =>
    intro s t hruns hrec hmode
    refine (act_whenFirmware Dev.bcastDue hruns hrec).trans ?_
    rw [Dev.bcastDue_modeless hmode, Dev.begin_now]

/-! ### Packets received and forwarded (R403 to R405, R593) -/

namespace Dev

/-- What is counted of a packet received is the port's own and objects. -/
theorem countRx_frame (h : PortId) (p : Packet) (d : Dev) :
    ∃ w o, d.countRx h p = { d with withy := w, dict := o } := by
  unfold countRx
  dsimp only
  split
  · exact ⟨_, _, rfl⟩
  · split
    · exact ⟨_, _, rfl⟩
    · exact ⟨_, _, rfl⟩

section
variable (h : PortId) (p : Packet) (d : Dev)

@[simp] theorem countRx_fix : (d.countRx h p).fix = d.fix := by obtain ⟨_, _, e⟩ := countRx_frame h p d; rw [e]
@[simp] theorem countRx_start : (d.countRx h p).start = d.start := by obtain ⟨_, _, e⟩ := countRx_frame h p d; rw [e]
@[simp] theorem countRx_integ : (d.countRx h p).integ = d.integ := by obtain ⟨_, _, e⟩ := countRx_frame h p d; rw [e]
@[simp] theorem countRx_isSender : (d.countRx h p).isSender = d.isSender := by simp [isSender, pers]
@[simp] theorem countRx_pliukRuns : (d.countRx h p).pliukRuns = d.pliukRuns := by simp [pliukRuns, baseRun]

/-- Forwarding changes the port it leaves by, and what leaves. -/
theorem forward_frame (body : Bytes) : ∃ w o, d.forward h p body = { d with withy := w, out := o } := by
  unfold forward
  split
  · exact ⟨_, _, rfl⟩
  · exact ⟨d.withy, d.out, rfl⟩

@[simp] theorem forward_integ (body : Bytes) : (d.forward h p body).integ = d.integ := by
  obtain ⟨_, _, e⟩ := forward_frame h p d body; rw [e]

@[simp] theorem forward_start (body : Bytes) : (d.forward h p body).start = d.start := by
  obtain ⟨_, _, e⟩ := forward_frame h p d body; rw [e]

@[simp] theorem forward_pliukRuns (body : Bytes) : (d.forward h p body).pliukRuns = d.pliukRuns := by
  simp [pliukRuns, baseRun]

end

/-- Pliuk is answered wherever the Withy ports run: they start in step 6, and Pliuk is answered past step 4 (R548, R550). -/
theorem pliukRuns_of_portsRun {d : Dev} (h : d.portsRun = true) : d.pliukRuns = true := by
  unfold portsRun at h
  unfold pliukRuns
  cases hr : d.baseRun with
  | step n =>
    rw [hr] at h
    simp only [decide_eq_true_eq] at h ⊢
    omega
  | off | inReset | halted => rw [hr] at h; cases h
  | _ => rfl

/-! ### Relays and broadcasts on a sender (R40, R41, R68) -/

theorem relayRx_known {d : Dev} {src : Carrier} {uid : Nat} {m : Msg} {h : PortId} {dist : Nat}
    (hsender : d.isSender = true) (ha : Arrives d src m) (huid : uid ≠ 2 ^ 64 - 1)
    (htile : d.findTile uid = some (h, dist)) :
    d.relayRx src uid m =
      (d.setPliuk (fun p => { p with
        relays := p.relays.filter (fun r => !(r.1 == uid && r.2.1 == m.session)) ++ [(uid, m.session, src)] })).sendCtl
          h 0 dist uid (msgWire m) := by
  obtain ⟨hopen, hgood⟩ := ha
  simp only [relayRx, hsender, hopen, hgood, huid, htile, Bool.not_true, Bool.false_eq_true, or_self, false_and,
    if_false]

theorem relayBack_known {d : Dev} {h : PortId} {p : Packet} {m : Msg} {src : Carrier} (hsender : d.isSender = true)
    (hpass : pktPasses p = true) (hkind : fieldAt 0 1 p.body = 1) (hm : msgOfBytes (p.body.drop 16) = some m)
    (hop : m.opcode ≠ 11)
    (hrelay : (d.countRx h p).pliuk.relays.find? (fun r => r.1 == fieldAt 4 8 p.body && r.2.1 == m.session) =
      some (fieldAt 4 8 p.body, m.session, src)) :
    d.relayBack h p =
      (((d.countRx h p).setPliuk (fun q => { q with
        relays := q.relays.filter (fun r => !(r.1 == fieldAt 4 8 p.body && r.2.1 == m.session)) ++
          [(fieldAt 4 8 p.body, m.session, src)] })).emit (.relayed src (fieldAt 4 8 p.body) m)) := by
  simp only [relayBack, countRx_isSender, hsender, hpass, hkind, hm, hop, hrelay, Bool.not_true, Bool.false_eq_true,
    ne_eq, not_true_eq_false, or_self, false_and, if_false]

theorem safeRefuses_normal {d : Dev} (k : Nat) (h : d.obj K.INTEG_STATE = 1) : d.safeRefuses k = false := by
  simp [safeRefuses, h]

/-- A broadcast whose entries the role may write leaves on the four ports of a sender. -/
theorem doBroadcast_relayed {d : Dev} {s : Session} {m : Msg} {w id : Nat} {es : List WriteEntry}
    (hsender : d.isSender = true) (htxn : m.txn = 0) (hp : parseBcast m.payload = some (w, id, es))
    (hshut : d.writesShut = false) (hsafe : d.obj K.INTEG_STATE = 1)
    (hroles : ∀ e ∈ es, ∃ o, findDef .tile e.key = some o ∧ mayWrite s.role e.key o.level = true) :
    d.doBroadcast s m =
      ((Status.OK, []), (List.range 4).foldl (fun d h => d.sendCtl h 2 255 (2 ^ 64 - 1) (msgWire m)) d) := by
  have hstates : ¬ (d.writesShut = true ∨ es.any (fun e => d.safeRefuses e.key) = true) := by
    simp [hshut, safeRefuses_normal _ hsafe]
  have hports : d.nPorts = 4 := by simp [nPorts, hsender]
  unfold doBroadcast
  simp only [hp, htxn, ne_eq, not_true_eq_false, if_false, if_neg hstates, hports]
  split
  · rename_i bad hbad
    obtain ⟨e, he, hfail⟩ := List.mem_filterMap.mp (List.mem_of_mem_head? hbad)
    obtain ⟨o, ho, hmay⟩ := hroles e he
    simp [ho, hmay] at hfail
  · rfl

/-- The next request of an open session, which its role may make, is accepted and performed (R48, R56). -/
theorem inSession_performed {d : Dev} {c : Carrier} {x : Session} {m : Msg} (at' : Time)
    (hseq : m.sequence ≠ x.lastSeq) (hnext : m.sequence = (x.lastSeq + 1) % 2 ^ 32) (hfull : x.halfOpen = false)
    (hrole : (d.accept c m).roleAllows x m = true) (hflags : m.flags < 16) (hop : m.opcode ≠ 12) :
    d.inSession at' c x m = answered c m ((d.accept c m).perform at' c { x with peer := c } m) := by
  unfold inSession
  rw [if_neg hseq, if_neg (by simpa using hnext)]
  simp only [hfull, hrole, Nat.not_le.mpr hflags, hop, Bool.false_eq_true, Bool.not_true, false_and, if_false]
  unfold answered
  rcases (d.accept c m).perform at' c { x with peer := c } m with ⟨_ | r, e⟩ <;> rfl

theorem roleAllows_broadcast {d : Dev} {x : Session} {m : Msg} (hop : m.opcode = 13) (h : roleOperator ≤ x.role) :
    d.roleAllows x m = true := by
  simp [roleAllows, hop, h]

/-- A BROADCAST_WRITE of an admitted session of a sender goes out, and is answered OK (R68). -/
theorem receiveAs_broadcast {d : Dev} {c : Carrier} {m : Msg} {x : Session} {w id : Nat} {es : List WriteEntry}
    (hadm : Admitted d c m x) (hsender : d.isSender = true) (hrole : roleOperator ≤ x.role) (htxn : m.txn = 0)
    (hp : parseBcast m.payload = some (w, id, es)) (hshut : d.writesShut = false) (hsafe : d.obj K.INTEG_STATE = 1)
    (hroles : ∀ e ∈ es, ∃ o, findDef .tile e.key = some o ∧ mayWrite x.role e.key o.level = true) :
    d.receiveAs 13 0 1 c m =
      (((List.range 4).foldl (fun d h => d.sendCtl h 2 255 (2 ^ 64 - 1) (msgWire (rowMsg 13 0 1 m)))
        (d.accept c (rowMsg 13 0 1 m))).reply c (rowMsg 13 0 1 m) (Status.OK, [])) := by
  obtain ⟨hopen, hgood, hver, hflags, hsess, hfull, hval, hseq, hnext⟩ := hadm
  have hknown : d.opcodeOk 13 = true := by simp [opcodeOk, hsender]
  have hdoes := perform_broadcast (d := d.accept c (rowMsg 13 0 1 m)) d.now c { x with peer := c } rfl
    (doBroadcast_relayed (d := d.accept c (rowMsg 13 0 1 m)) (s := { x with peer := c }) (m := rowMsg 13 0 1 m)
      hsender htxn hp hshut hsafe hroles)
  rw [receiveAs_whole ⟨hopen, hgood⟩ (bit0_rowMsg_clear 13 1 m (.inl rfl)),
    handle_inSession (m := rowMsg 13 0 1 m) c hver hknown (by simp [rowMsg]) (liveSess_open hsess hfull) hval,
    inSession_performed (m := rowMsg 13 0 1 m) _ hseq hnext hfull (roleAllows_broadcast rfl hrole)
      (flags_lt_rowMsg_clear 13 hflags) (by simp [rowMsg]), hdoes, answered_some]

/-! ### CTL packets on a tile (R406, R410, R414) -/

section
variable {d : Dev} {h : PortId} {p : Packet}

theorem bcastRx_used {m : Msg} (hup : d.portUp h = true) (hruns : d.pliukRuns = true)
    (hrestart : d.integ.restart = none) (hlink : pktLink p = false) (hpass : pktPasses p = true)
    (hm : msgOfBytes (p.body.drop 16) = some m) (hgood : msgBad m = false) (hop : m.opcode = 13)
    (hver : m.version = 1) (hflags : m.flags < 16) (hreq : bit 0 m.flags = false) :
    d.bcastRx h p = ((d.countRx h p).forward h p p.body).takeBroadcast m := by
  simp [bcastRx, hup, hruns, hrestart, hlink, hpass, hm, hgood, hop, hver, hflags, hreq]

theorem ctlRx_mine {m : Msg} (htile : d.isTile = true) (hup : d.portUp h = true) (hkind : fieldAt 0 1 p.body = 0)
    (hmine : isMine p = true) (hme : targetsMe p = true) (hpass : pktPasses p = true)
    (huid : fieldAt 4 8 p.body = d.fix.fuses.uid) (hm : msgOfBytes (p.body.drop 16) = some m) :
    d.ctlRx h p = (d.countRx h p).receive (.ctl h) m := by
  simp [ctlRx, ctlMine, tile_not_sender htile, hup, hkind, hmine, hme, hpass, huid, hm]

theorem ctlRx_forwarded (htile : d.isTile = true) (hup : d.portUp h = true) (hkind : fieldAt 0 1 p.body ≤ 1)
    (hother : isMine p = false) : d.ctlRx h p = (d.countRx h p).forward h p p.body := by
  have h2 : fieldAt 0 1 p.body ≠ 2 := by omega
  have h3 : fieldAt 0 1 p.body ≠ 3 := by omega
  have h5 : ¬ 5 ≤ fieldAt 0 1 p.body := by omega
  simp [ctlRx, tile_not_sender htile, hup, h2, h3, h5, hother]

end

/-! ### The SPI target port (R43, R44) -/

theorem spiWrite_runs {d : Dev} (m : Msg) (h : d.spiRuns = true) :
    d.spiWrite m = if 4 ≤ d.pliuk.spiIn.length then d.bump K.SPI_DISCARDS
      else drainSpi 5 (d.setPliuk (fun p => { p with spiIn := p.spiIn ++ [m] })) := by
  simp [spiWrite, h]

theorem spiRead_pending {d : Dev} {m : Msg} {rest : List Msg} (h : d.spiRuns = true)
    (hout : d.pliuk.spiOut = m :: rest) :
    d.spiRead = (d.setPliuk (fun p => { p with spiOut := rest })).emit (.spi (be 2 (msgWire m).length ++ msgWire m)) := by
  simp [spiRead, h, hout]

theorem spiRead_empty {d : Dev} (h : d.spiRuns = true) (hout : d.pliuk.spiOut = []) :
    d.spiRead = d.emit (.spi [0, 0]) := by
  simp only [spiRead, h, hout, Bool.not_true, Bool.false_eq_true, if_false]
  rfl

theorem spiStatus_runs {d : Dev} (h : d.spiRuns = true) :
    d.spiStatus = d.emit (.spi (be 1 (b2n (decide (d.pliuk.spiIn.length < 4)) + 2 * b2n (!d.pliuk.spiOut.isEmpty)))) := by
  simp [spiStatus, h]

end Dev

/-! ### The rows of CTL packets -/

theorem exec_ctlFromTile_sender {s : State} {t : Time} {h : PortId} (p : Packet) (hruns : SenderRuns (s.dev.begin t))
    (hup : (s.dev.begin t).portUp h = true) (hcontrol : (s.dev.begin t).controlRuns = true) :
    exec (.ctlFromTile t h p) s = .next (after t s ((s.dev.begin t).relayBack h p)) := by
  obtain ⟨hports, hsender⟩ := hruns
  show Host.Outcome.next (after t s ((s.dev.begin t).wire h p _)) = _
  rw [Dev.wire_open h p _ hports]
  simp only [Dev.sender_not_tile hsender, hup, hcontrol, Bool.false_eq_true, Bool.and_self, if_false, if_true]

section
variable {s : State} {t : Time} (h : PortId) (p : Packet) (hruns : TileRuns (s.dev.begin t))
include hruns

theorem exec_ctlBroadcast_tile :
    exec (.ctlBroadcast t h p) s = .next (after t s ((s.dev.begin t).bcastRx h p)) := by
  obtain ⟨hports, htile⟩ := hruns
  show Host.Outcome.next (after t s ((s.dev.begin t).wire h p _)) = _
  rw [Dev.wire_open h p _ hports, if_pos htile]

/-- Both rows of CTL packets for one device have one meaning on a tile. -/
theorem exec_ctl_tile :
    exec (.ctlToTile t h p) s = .next (after t s ((s.dev.begin t).ctlRx h p)) ∧
      exec (.ctlFromTile t h p) s = .next (after t s ((s.dev.begin t).ctlRx h p)) := by
  obtain ⟨hports, htile⟩ := hruns
  constructor <;>
    (show Host.Outcome.next (after t s ((s.dev.begin t).wire h p _)) = _
     rw [Dev.wire_open h p _ hports, if_pos htile])

end

/-- Settles O17: each row reaches its meaning, and each meaning takes the branch of its premises. -/
theorem relaysBroadcastsAndSpi : Obligations.RelaysBroadcastsAndSpi := by
  refine ⟨?relay, ?back, ?broadcast, ?tile, ?spi, fun _ _ _ => rfl⟩
  case relay =>
    intro s t src uid m h dist hsender ha huid htile
    show Host.Outcome.next (after t s ((s.dev.begin t).relayRx src uid m)) = _
    rw [Dev.relayRx_known hsender ha huid htile]
  case back =>
    intro s t h p m src hruns hup hcontrol hpass hkind hm hop hrelay
    rw [exec_ctlFromTile_sender p hruns hup hcontrol, Dev.relayBack_known hruns.2 hpass hkind hm hop hrelay]
  case broadcast =>
    intro s t c m x w id es hadm hsender hrole htxn hp hshut hsafe hroles
    have hrow : (Instr.broadcastWrite t c m, 13, 0, 1) ∈ messageRows t c m := by simp [messageRows]
    rw [exec_messageRow hrow, Dev.receiveAs_broadcast hadm hsender hrole htxn hp hshut hsafe hroles]
  case tile =>
    intro s t h p hruns hup
    have hpliuk := Dev.pliukRuns_of_portsRun hruns.1
    refine ⟨?used, ?mine, ?forwarded⟩
    case used =>
      intro m _ hlink hpass hrestart hm hgood hop hver hflags hreq
      rw [exec_ctlBroadcast_tile h p hruns,
        Dev.bcastRx_used hup hpliuk hrestart hlink hpass hm hgood hop hver hflags hreq]
    case mine =>
      intro m hkind hmine hme hpass huid hm
      rw [(exec_ctl_tile h p hruns).1, Dev.ctlRx_mine hruns.2 hup hkind hmine hme hpass huid hm]
    case forwarded =>
      intro hkind hother
      rw [(exec_ctl_tile h p hruns).1, (exec_ctl_tile h p hruns).2, Dev.ctlRx_forwarded hruns.2 hup hkind hother]
      exact ⟨rfl, rfl⟩
  case spi =>
    intro s t hruns
    refine ⟨fun m => ?_, fun m rest hout => ?_, fun hout => ?_, ?_⟩
    · show Host.Outcome.next (after t s ((s.dev.begin t).spiWrite m)) = _
      rw [Dev.spiWrite_runs m hruns]
    · show Host.Outcome.next (after t s (s.dev.begin t).spiRead) = _
      rw [Dev.spiRead_pending hruns hout]
    · show Host.Outcome.next (after t s (s.dev.begin t).spiRead) = _
      rw [Dev.spiRead_empty hruns hout]
    · show Host.Outcome.next (after t s (s.dev.begin t).spiStatus) = _
      rw [Dev.spiStatus_runs hruns]

/-! ### The staging of BLOBs (R49, R50) -/

/-- The rows that stage a BLOB chunk by chunk, each with the key of its BLOB and the number of its instances. -/
def blobRows (t : Time) (sid : SessionId) (n : Nat) (b : Chunk) : List (Instr × Nat × Nat) :=
  [(.stillDataWrite t sid n b, K.STILL_DATA n, 16), (.timgDataWrite t sid n b, K.TIMG_DATA n, 2),
    (.ovlDataWrite t sid n b, K.OVL_DATA n, 4), (.prismCalImage t sid b true, K.PRISM_CAL_IMAGE, n + 1),
    (.eqTableWrite t sid b, K.EQ_TABLE, n + 1)]

namespace Dev

theorem rowChunkAt_lt {count n : Nat} (sid k : Nat) (b : Chunk) (d : Dev) (h : n < count) :
    d.rowChunkAt count n sid k b = d.rowChunk sid k b true := if_pos h

theorem blobBegin_now (k : Nat) (d : Dev) : (d.blobBegin k).now = d.now := by
  unfold blobBegin
  extract_lets i
  split
  · rw [stillBegin, setObj_now, setStill_now]
  · split
    · rw [setObj_now]
    · rfl

/-- A chunk that is not the last extends the staging, or begins it. -/
theorem takeChunk_more {b : Chunk} (sid txn k : Nat) (data : Bytes) (done : Bytes → Dev → Nat × Dev) (d : Dev)
    (h : b.more = true) :
    d.takeChunk sid txn k b data done = (Status.OK, (d.dropStage sid txn k).setPliuk (fun p => { p with
      stages := p.stages ++ [{ key := k, session := sid, txn := txn, total := b.total, data := data,
                               lastChunk := d.now }] })) := if_pos h

section
variable {d : Dev} {sid k : Nat} {b : Chunk} {x : Session} (rb : Bool) (h : ChunkOpen d sid k b x)
include h

/-- A chunk that the chapter of its BLOB takes no longer. -/
theorem rowChunk_refused (hnext : d.blobNext k b.total ≠ Status.OK) :
    d.rowChunk sid k b rb = ((d.dropStage x.id 0 k).stageAbort (d.stageOf x.id 0 k)).emit
      (.entry sid k (d.blobNext k b.total)) := by
  rw [rowChunk_open rb h, if_pos hnext, entryDone]

theorem rowChunk_first (hnext : d.blobNext k b.total = Status.OK) (hstage : d.stageOf x.id 0 k = none) :
    d.rowChunk sid k b rb = entryDone sid k
      (if chunkBad b then (Status.LENGTH, d)
       else if d.blobFirst k b.total ≠ Status.OK then (d.blobFirst k b.total, d)
       else (d.blobBegin k).takeChunk x.id 0 k b b.data (wholeDone k rb)) := by
  rw [rowChunk_open rb h, if_neg (fun hne => hne hnext), hstage]

theorem rowChunk_following {g : BlobStage} (hnext : d.blobNext k b.total = Status.OK)
    (hstage : d.stageOf x.id 0 k = some g) :
    d.rowChunk sid k b rb = entryDone sid k
      (if chunkFits g b then d.takeChunk x.id 0 k b (g.data ++ b.data) (wholeDone k rb)
       else (Status.LENGTH, (d.dropStage x.id 0 k).blobAbort k)) := by
  rw [rowChunk_open rb h, if_neg (fun hne => hne hnext), hstage]

theorem rowChunk_first_bad (hnext : d.blobNext k b.total = Status.OK) (hstage : d.stageOf x.id 0 k = none)
    (hbad : chunkBad b = true) : d.rowChunk sid k b rb = d.emit (.entry sid k Status.LENGTH) := by
  rw [rowChunk_first rb h hnext hstage, if_pos hbad, entryDone]

theorem rowChunk_first_refused (hnext : d.blobNext k b.total = Status.OK) (hstage : d.stageOf x.id 0 k = none)
    (hbad : chunkBad b = false) (hfirst : d.blobFirst k b.total ≠ Status.OK) :
    d.rowChunk sid k b rb = d.emit (.entry sid k (d.blobFirst k b.total)) := by
  rw [rowChunk_first rb h hnext hstage, if_neg (by simp [hbad]), if_pos hfirst, entryDone]

theorem rowChunk_begins (hnext : d.blobNext k b.total = Status.OK) (hstage : d.stageOf x.id 0 k = none)
    (hbad : chunkBad b = false) (hfirst : d.blobFirst k b.total = Status.OK) (hmore : b.more = true) :
    d.rowChunk sid k b rb = (((d.blobBegin k).dropStage x.id 0 k).setPliuk (fun p => { p with
      stages := p.stages ++ [{ key := k, session := x.id, txn := 0, total := b.total, data := b.data,
                               lastChunk := d.now }] })).emit (.entry sid k Status.OK) := by
  rw [rowChunk_first rb h hnext hstage, if_neg (by simp [hbad]), if_neg (fun hne => hne hfirst),
    takeChunk_more _ _ _ _ _ _ hmore, blobBegin_now, entryDone]

theorem rowChunk_extends {g : BlobStage} (hnext : d.blobNext k b.total = Status.OK)
    (hstage : d.stageOf x.id 0 k = some g) (hfits : chunkFits g b = true) (hmore : b.more = true) :
    d.rowChunk sid k b rb = ((d.dropStage x.id 0 k).setPliuk (fun p => { p with
      stages := p.stages ++ [{ key := k, session := x.id, txn := 0, total := b.total, data := g.data ++ b.data,
                               lastChunk := d.now }] })).emit (.entry sid k Status.OK) := by
  rw [rowChunk_following rb h hnext hstage, if_pos hfits, takeChunk_more _ _ _ _ _ _ hmore, entryDone]

theorem rowChunk_misfits {g : BlobStage} (hnext : d.blobNext k b.total = Status.OK)
    (hstage : d.stageOf x.id 0 k = some g) (hfits : chunkFits g b = false) :
    d.rowChunk sid k b rb = ((d.dropStage x.id 0 k).blobAbort k).emit (.entry sid k Status.LENGTH) := by
  rw [rowChunk_following rb h hnext hstage, if_neg (by simp [hfits]), entryDone]

end

end Dev

/-- Each of these rows is a chunk of its BLOB, where the BLOB exists. -/
theorem exec_blobRow {t : Time} {sid : SessionId} {n : Nat} {b : Chunk} {i : Instr × Nat × Nat}
    (hi : i ∈ blobRows t sid n b) (hn : n < i.2.2) (s : State) :
    exec i.1 s = .next (after t s ((s.dev.begin t).rowChunk sid i.2.1 b true)) := by
  simp only [blobRows, List.mem_cons, List.not_mem_nil, or_false] at hi
  obtain rfl | rfl | rfl | rfl | rfl := hi
  · rw [← Dev.rowChunkAt_lt sid (K.STILL_DATA n) b _ hn]
    exact act_eq t _ s
  · rw [← Dev.rowChunkAt_lt sid (K.TIMG_DATA n) b _ hn]
    exact act_eq t _ s
  · rw [← Dev.rowChunkAt_lt sid (K.OVL_DATA n) b _ hn]
    exact act_eq t _ s
  · exact act_eq t _ s
  · exact act_eq t _ s

/-- Settles O27: each row is a chunk of its BLOB, and what becomes of an allowed chunk is one case of its checks. -/
theorem blobsAreStagedChunkByChunk : Obligations.BlobsAreStagedChunkByChunk := by
  unfold Obligations.BlobsAreStagedChunkByChunk
  intro s t sid n b x d i hi hn hopen stage
  have hnow : d.now = t := Dev.begin_now t s.dev
  have hrow : exec i.1 s = .next (after t s (d.rowChunk sid i.2.1 b true)) := exec_blobRow hi hn s
  rw [hrow]
  refine ⟨fun hnext => ?_, fun hnext hstage => ⟨fun hbad => ?_, fun hbad hfirst => ?_, fun hbad hfirst hmore => ?_⟩,
    fun g hnext hstage => ⟨fun hfits hmore => ?_, fun hfits => ?_⟩⟩
  · rw [Dev.rowChunk_refused true hopen hnext]
  · rw [Dev.rowChunk_first_bad true hopen hnext hstage hbad]
  · rw [Dev.rowChunk_first_refused true hopen hnext hstage hbad hfirst]
  · rw [Dev.rowChunk_begins true hopen hnext hstage hbad hfirst hmore, hnow]
  · rw [Dev.rowChunk_extends true hopen hnext hstage hfits hmore, hnow]
  · rw [Dev.rowChunk_misfits true hopen hnext hstage hfits]

end Sys2Proof.Machine

/-!
PROOFS. Wall time (03_wall_time.md): PTP on the ingest ports of a sender (R79, R90 to R92, R592), the time states and their
watches (R83, R86, R88, R90 to R93, R519), time inside the wall (R80 to R85, R411, R416), the capture inputs (R101 to R106)
and the trigger outputs (R107 to R110).
-/
namespace Sys2Proof.Machine
open Sys2Proof.Safety

/-! ### Steering the time base (R76, R87, R90, R91) -/

/-- An effect that runs with the Withy ports. -/
theorem act_whenPorts {t : Time} {s : State} (f : Dev → Dev) (h : (s.dev.begin t).portsRun = true) :
    act t (fun d => d.whenPorts f) s = .next (after t s (f (s.dev.begin t))) := by
  rw [act_eq, Dev.whenPorts_open _ h]

namespace Dev

/-- An offset is measured: the fraction of R76 comes to the instant, and the offset is reported. -/
def withOffset (off : Int) (d : Dev) : Dev :=
  (d.setTb (fun b => { b with frac := d.timeFraction, slewAt := d.now })).setObjI 32 K.OFFSET_FROM_SOURCE off

/-- The measured offset is stepped away at once (R91). -/
def stepped (off : Int) (d : Dev) : Dev :=
  ((d.withOffset off).setTb (fun b => { b with
    stepDue := false, lastStepPs := off, slewPs := 0, run := 0, frac := fracAfter b.frac (-off) })).setObjI 32
    K.OFFSET_FROM_SOURCE 0

/-- The measured offset is slewed away, and counted in the run of R90 or the end of that run. -/
def slewing (off : Int) (within : Bool) (d : Dev) : Dev :=
  (d.withOffset off).setTb (fun b => { b with
    slewPs := off, slewPpm := if d.isSender then 50 else 10, run := if within then b.run + 1 else 0 })

section
variable {d : Dev} (off : Int)

theorem withOffset_tstate : (d.withOffset off).tstate = d.tstate := setObj_obj_other _ _ (by decide)

theorem withOffset_mode : (d.withOffset off).mode = d.mode := by
  have hobj : (d.withOffset off).obj K.MODE_NUMBER = d.obj K.MODE_NUMBER := setObj_obj_other _ _ (by decide)
  unfold mode
  rw [hobj]
  rfl

theorem slewing_tstate (within : Bool) : (d.slewing off within).tstate = d.tstate := withOffset_tstate off

/-- A step that is due is made at once, and the offset is gone (R91). -/
theorem steer_stepDue (hdue : d.time.stepDue = true) : d.steer off = d.stepped off := by
  have hstep : (d.time.stepDue || ((d.withOffset off).tstate == tsAcquiring && (d.withOffset off).mode == 0 &&
      !decide (off.natAbs ≤ d.lockLimitPs))) = true := by rw [hdue, Bool.true_or]
  exact if_pos hstep

/-- A sender slews at 50 ppm (R91). -/
theorem slewing_sender (within : Bool) (hsender : d.isSender = true) :
    d.slewing off within = (d.withOffset off).setTb (fun b => { b with
      slewPs := off, slewPpm := 50, run := if within then b.run + 1 else 0 }) := by
  have hppm : (if d.isSender then 50 else 10) = 50 := if_pos hsender
  rw [slewing, hppm]

/-- Where no step is due, an offset is slewed, unless the device acquires with no mode in force and is beyond its limit;
beyond the limit a Locked sender falls back to Acquiring. -/
theorem steer_slews (hdue : d.time.stepDue = false)
    (h : off.natAbs ≤ d.lockLimitPs ∨ d.tstate ≠ tsAcquiring ∨ d.mode ≠ 0) :
    d.steer off =
      (let within := decide (off.natAbs ≤ d.lockLimitPs)
       if d.isSender && d.tstate == tsLocked && !within then (d.slewing off within).setTimeState tsAcquiring
       else d.slewing off within) := by
  have hstep : ¬ (d.time.stepDue || ((d.withOffset off).tstate == tsAcquiring && (d.withOffset off).mode == 0 &&
      !decide (off.natAbs ≤ d.lockLimitPs))) = true := by
    rw [hdue, withOffset_tstate, withOffset_mode]
    simp only [Bool.false_or, Bool.and_eq_true, beq_iff_eq, Bool.not_eq_true', decide_eq_false_iff_not]
    rintro ⟨⟨hacq, hmode⟩, hbeyond⟩
    exact h.elim hbeyond (fun h => h.elim (absurd hacq) (absurd hmode))
  rw [← slewing_tstate (d := d) off (decide (off.natAbs ≤ d.lockLimitPs))]
  exact if_neg hstep

theorem steer_within (hdue : d.time.stepDue = false) (h : off.natAbs ≤ d.lockLimitPs) :
    d.steer off = d.slewing off true := by
  simp [steer_slews off hdue (.inl h), h]

theorem steer_lockedBeyond (hdue : d.time.stepDue = false) (hsender : d.isSender = true) (hlocked : d.tstate = tsLocked)
    (h : d.lockLimitPs < off.natAbs) : d.steer off = (d.slewing off false).setTimeState tsAcquiring := by
  have hacq : d.tstate ≠ tsAcquiring := by rw [hlocked]; decide
  simp [steer_slews off hdue (.inr (.inl hacq)), hsender, hlocked, Nat.not_le.mpr h]

end

/-! ### Locking (R90) -/

section
variable (d : Dev)

@[simp] theorem reportGm_time : d.reportGm.time = d.time := by
  unfold reportGm
  split
  · split <;> rfl
  · rfl

@[simp] theorem reportClass_time : d.reportClass.time = d.time := by
  simp [reportClass]

/-- A change of time state ends the run of R90. -/
theorem setTimeState_run {st : Nat} (h : d.tstate ≠ st) : (d.setTimeState st).time.run = 0 := by
  simp [setTimeState, h]

theorem lockIfRun_complete (hst : d.steered = true) (hacq : d.tstate = tsAcquiring) (h : d.lockRun ≤ d.time.run) :
    d.lockIfRun = d.setTimeState tsLocked := if_pos ⟨hst, hacq, h⟩

theorem lockIfRun_incomplete (h : d.time.run < d.lockRun) : d.lockIfRun = d :=
  if_neg (fun ⟨_, _, hrun⟩ => absurd hrun (Nat.not_le.mpr h))

/-- An offset within the limit makes the run one longer, and one beyond it ends the run. -/
theorem steer_run (off : Int) (hdue : d.time.stepDue = false) (h : d.tstate ≠ tsAcquiring ∨ d.mode ≠ 0) :
    (d.steer off).time.run = if off.natAbs ≤ d.lockLimitPs then d.time.run + 1 else 0 := by
  by_cases hin : off.natAbs ≤ d.lockLimitPs
  · rw [steer_within off hdue hin, if_pos hin]
    rfl
  · rw [steer_slews off hdue (.inr h), if_neg hin]
    dsimp only
    split
    next hfall =>
      simp only [Bool.and_eq_true, beq_iff_eq] at hfall
      obtain ⟨⟨_, hlocked⟩, _⟩ := hfall
      refine setTimeState_run _ ?_
      rw [slewing_tstate, hlocked]
      decide
    next => simp [slewing, hin]

end

end Dev

/-- Settles O20: TIME_LOCKED looks at the run, and a Sync's offset makes it longer or ends it. -/
theorem theRunOfSyncsLocksTheTimeBase : Obligations.TheRunOfSyncsLocksTheTimeBase := by
  refine ⟨?locks, fun d off hdue h => Dev.steer_run d off hdue h⟩
  case locks =>
    intro s t d hruns hst hacq
    have hrow : exec (.timeLocked t) s = .next (after t s d.lockIfRun) := act_whenPorts Dev.lockIfRun hruns
    rw [hrow]
    refine ⟨fun hrun => ?_, fun hrun => ?_⟩
    · rw [Dev.lockIfRun_complete d hst hacq hrun]
    · rw [Dev.lockIfRun_incomplete d hrun]

/-! ### PTP messages on ingest (R79, R92, R113, R592) -/

section
variable {s : State} {t : Time} {port : Nat} {m : PtpMsg} (hruns : SenderRuns (s.dev.begin t))
  (hport : (s.dev.begin t).portExists port = true)
include hruns hport

/-- A message in a frame that the port takes: its management TLV is received first (R79). -/
theorem act_onPtp (f : Dev → Dev) (hvlan : m.vlan = false) (hlen : m.frameLen ≤ 1522) :
    act t (fun d => d.whenPorts (fun d => d.onPtp port m f)) s =
      .next (after t s (f ((s.dev.begin t).smpteRx port m))) := by
  obtain ⟨hports, hsender⟩ := hruns
  rw [act_whenPorts _ hports, Dev.onPtp, Dev.onSender_open _ hsender]
  simp [Dev.onFrame, hport, hvlan, Nat.not_lt.mpr hlen]

/-- A tagged frame, and one of more than 1,522 bytes, is dropped and counted (R113). -/
theorem act_onPtp_dropped (f : Dev → Dev) (h : m.vlan = true ∨ 1522 < m.frameLen) :
    act t (fun d => d.whenPorts (fun d => d.onPtp port m f)) s =
      .next (after t s ((s.dev.begin t).bump (K.ING_DROPPED port))) := by
  obtain ⟨hports, hsender⟩ := hruns
  rw [act_whenPorts _ hports, Dev.onPtp, Dev.onSender_open _ hsender]
  simp [Dev.onFrame, hport, h]

end

namespace Dev

/-- The management TLV changes what is kept of it and what leaves the device. -/
theorem smpteRx_frame (port : Nat) (m : PtpMsg) (d : Dev) : ∃ b o,
    d.smpteRx port m = { d with time := { d.time with smpteTlv := b }, out := o } := by
  unfold smpteRx
  split
  · split
    · exact ⟨_, _, rfl⟩
    · exact ⟨d.time.smpteTlv, d.out, rfl⟩
  · exact ⟨d.time.smpteTlv, d.out, rfl⟩

@[simp] theorem smpteRx_now (port : Nat) (m : PtpMsg) (d : Dev) : (d.smpteRx port m).now = d.now := by
  obtain ⟨_, _, e⟩ := smpteRx_frame port m d; rw [e]

@[simp] theorem smpteRx_isSender (port : Nat) (m : PtpMsg) (d : Dev) : (d.smpteRx port m).isSender = d.isSender := by
  obtain ⟨_, _, e⟩ := smpteRx_frame port m d; rw [e]; rfl

section
variable {d : Dev} {port : Nat} {m : PtpMsg}

theorem fromSelected_of {g : ForeignMaster} (hsel : d.time.selected = some g) (hport : g.port = port)
    (hsource : g.source = m.source) : d.fromSelected port m = true := by
  simp [fromSelected, hsel, hport, hsource]

/-- The difference of the slave port's clock to its master's, from a Sync (R79). -/
def tookSync (ms : Int) (d : Dev) : Dev := d.setTb (fun b => { b with masterToSlave := ms })

theorem withOffset_tookSync (ms off : Int) :
    (d.tookSync ms).withOffset off = (d.setTb (fun b => { b with
      masterToSlave := ms, frac := d.timeFraction, slewAt := d.now })).setObjI 32 K.OFFSET_FROM_SOURCE off := rfl

/-- A Sync that may steer measures the offset less MEAN_PATH_DELAY (R79). -/
theorem ptpOffset_steers (ingress : Int) (origin : Nat) (corr : Int) (h : d.steered = true) :
    d.ptpOffset ingress origin corr =
      (let ms := ingress - (origin : Int) - corrToPs corr
       (d.tookSync ms).steer (ms - (d.obj K.MEAN_PATH_DELAY : Int))) := if_pos h

/-! Sync -/

theorem ptpSync_foreign (h : d.ptpInProfile port m (-7) (-1) = false) :
    d.ptpSync port m = d.bump K.PTP_FOREIGN_COUNT := by
  simp [ptpSync, h]

section
variable (hprof : d.ptpInProfile port m (-7) (-1) = true)
include hprof

theorem ptpSync_otherMaster (h : d.fromSelected port m = false) : d.ptpSync port m = d := by
  simp [ptpSync, hprof, h]

theorem ptpSync_twoStep (hmine : d.fromSelected port m = true) (h : m.twoStep = true) :
    d.ptpSync port m = d.setTb (fun b => { b with
      awaiting := b.awaiting.filter (fun a => a.1 != port) ++
        [(port, m.sequence, d.ingestRxStamp port m.ingressPs, m.correction)] }) := by
  simp [ptpSync, hprof, hmine, h]

theorem ptpSync_oneStep (hmine : d.fromSelected port m = true) (h : m.twoStep = false) :
    d.ptpSync port m = d.ptpOffset (d.ingestRxStamp port m.ingressPs) m.stampPs m.correction := by
  simp [ptpSync, hprof, hmine, h]

/-! Follow_Up -/

theorem ptpFollowUp_otherMaster (h : d.fromSelected port m = false) : d.ptpFollowUp port m = d := by
  simp [ptpFollowUp, hprof, h]

theorem ptpFollowUp_noSync (hmine : d.fromSelected port m = true)
    (h : d.time.awaiting.find? (fun a => a.1 == port && a.2.1 == m.sequence) = none) : d.ptpFollowUp port m = d := by
  simp [ptpFollowUp, hprof, hmine, h]

theorem ptpFollowUp_ofSync {a : Nat × Nat × Int × Int} (hmine : d.fromSelected port m = true)
    (h : d.time.awaiting.find? (fun a => a.1 == port && a.2.1 == m.sequence) = some a) :
    d.ptpFollowUp port m =
      (d.setTb (fun b => { b with awaiting := b.awaiting.filter (fun x => x.1 != port) })).ptpOffset a.2.2.1 m.stampPs
        (a.2.2.2 + m.correction) := by
  simp [ptpFollowUp, hprof, hmine, h]

end

theorem ptpFollowUp_foreign (h : d.ptpInProfile port m (-7) (-1) = false) :
    d.ptpFollowUp port m = d.bump K.PTP_FOREIGN_COUNT := by
  simp [ptpFollowUp, h]

/-! Delay_Req and Delay_Resp -/

theorem ptpDelayResp_foreign (h : d.ptpInProfile port m (-7) 0 = false) :
    d.ptpDelayResp port m = d.bump K.PTP_FOREIGN_COUNT := by
  simp [ptpDelayResp, h]

theorem ptpDelayResp_noRequest (hprof : d.ptpInProfile port m (-7) 0 = true) (h : d.time.delayReq = none) :
    d.ptpDelayResp port m = d := by
  simp [ptpDelayResp, hprof, h]

theorem ptpDelayResp_ofRequest {q seq t3 : Nat} (hprof : d.ptpInProfile port m (-7) 0 = true)
    (h : d.time.delayReq = some (q, seq, t3)) :
    d.ptpDelayResp port m =
      if q = port ∧ seq = m.sequence ∧ m.forMe = true ∧ d.fromSelected port m = true then
        (d.setTb (fun b => { b with delayReq := none })).setObj K.MEAN_PATH_DELAY
          (clampI 0 ((2 ^ 32 : Nat) - 1 : Int)
            ((d.time.masterToSlave + ((m.stampPs : Int) - (t3 : Int) - corrToPs m.correction)) / 2)).toNat
      else d := by
  simp only [ptpDelayResp, hprof, h, Bool.not_true, Bool.false_eq_true, if_false]

theorem delayReqTx_slavePort {g : ForeignMaster} (egress : Nat) (hsel : d.time.selected = some g)
    (hport : g.port = port) :
    d.delayReqTx port egress =
      (let seq := (d.time.delaySeq + 1) % 2 ^ 16
       (d.setTb (fun b => { b with delaySeq := seq, delayReq := some (port, seq, d.ingestTxStamp port egress) })).emit
         (.delayReq port seq (d.bootObj K.PTP_DELAY_UNICAST == 1))) := by
  simp only [delayReqTx, hsel, hport, if_true]

/-! Announce -/

/-- The sender of an Announce as a foreign master (R592). -/
def announced (port : Nat) (m : PtpMsg) (heard : Nat) (at' : Time) : ForeignMaster :=
  { port := port, gm := m.gm, priority1 := m.priority1, clockClass := m.clockClass, accuracy := m.accuracy,
    variance := m.variance, priority2 := m.priority2, stepsRemoved := m.stepsRemoved, source := m.source,
    utcOffset := m.utcOffset, ptpTimescale := m.ptpTimescale, heard := heard, lastAt := at',
    interval := 10 ^ 9 * 2 ^ (m.logInterval + 3).toNat / 8 }

/-- How often the sender has been heard, one after the other within four of its intervals. -/
def timesHeard (m : PtpMsg) (at' : Time) (old : Option ForeignMaster) : Nat :=
  match old with
  | some o => if at' ≤ o.lastAt + 4 * (10 ^ 9 * 2 ^ (m.logInterval + 3).toNat / 8) then o.heard + 1 else 1
  | none => 1

theorem ptpAnnounce_foreign (h : d.ptpInProfile port m (-3) 1 = false) :
    d.ptpAnnounce port m = d.bump K.PTP_FOREIGN_COUNT := by
  simp [ptpAnnounce, h]

theorem ptpAnnounce_joins (h : d.ptpInProfile port m (-3) 1 = true) :
    d.ptpAnnounce port m =
      (d.setTb (fun b => { b with
        masters := b.masters.filter (fun y => !(y.port == port && y.source == m.source)) ++
          [announced port m (timesHeard m d.now (d.time.masters.find? (fun y => y.port == port && y.source == m.source)))
            d.now] })).selectMaster :=
  if_neg (by simp [h])

/-- The Announce of a sender that is no foreign master yet. -/
theorem ptpAnnounce_new (h : d.ptpInProfile port m (-3) 1 = true)
    (hnew : ∀ y ∈ d.time.masters, ¬ (y.port = port ∧ y.source = m.source)) :
    d.ptpAnnounce port m =
      (d.setTb (fun b => { b with masters := b.masters ++ [announced port m 1 d.now] })).selectMaster := by
  have hother : ∀ y ∈ d.time.masters, (y.port == port && y.source == m.source) = false := by
    intro y hy
    simpa using hnew y hy
  have hfind : d.time.masters.find? (fun y => y.port == port && y.source == m.source) = none :=
    List.find?_eq_none.mpr (fun y hy => by simp [hother y hy])
  have hfilter : d.time.masters.filter (fun y => !(y.port == port && y.source == m.source)) = d.time.masters :=
    List.filter_eq_self.mpr (fun y hy => by simp [hother y hy])
  rw [ptpAnnounce_joins h, hfind]
  simp only [setTb, hfilter]
  rfl

/-- The masters of a port that have been silent for three of their intervals (R92). -/
def silentMaster (port : Nat) (at' : Time) (x : ForeignMaster) : Bool :=
  x.port == port && decide (x.lastAt + 3 * x.interval ≤ at')

theorem announceTimeout_late (h : d.time.masters.any (silentMaster port d.now) = true) :
    d.announceTimeout port =
      ((d.bump K.ANNOUNCE_TIMEOUTS).setTb (fun b => { b with
        masters := b.masters.filter (fun x => !silentMaster port d.now x) })).selectMaster := if_pos h

theorem announceTimeout_none (h : d.time.masters.any (silentMaster port d.now) = false) :
    d.announceTimeout port = d := if_neg (ne_true_of_eq_false h)

end
end Dev

theorem Dev.not_recovery_of_portsRun {d : Dev} (h : d.portsRun = true) : d.baseRun ≠ .recovery := by
  intro hr
  simp [Dev.portsRun, hr] at h

/-- Settles O18: each message takes the branch of its premises, and an offset that may steer is stepped or slewed. -/
theorem ptpOnIngestSteersASender : Obligations.PtpOnIngestSteersASender := by
  intro s t port m d0 hruns hport hvlan hlen d
  have hnow : d.now = t := (Dev.smpteRx_now port m d0).trans (Dev.begin_now t s.dev)
  have hsender : d.isSender = true := (Dev.smpteRx_isSender port m d0).trans hruns.2
  have hrow (f : Dev → Dev) : act t (fun d => d.whenPorts (fun d => d.onPtp port m f)) s = .next (after t s (f d)) :=
    act_onPtp hruns hport f hvlan hlen
  refine ⟨?sync, ?delayResp, ?delayReq, ?announce, ?timeout⟩
  case sync =>
    intro g hprof hsel hgport hsource hst ms off e
    have hmine := Dev.fromSelected_of hsel hgport hsource
    have hlimit : d.lockLimitPs = 100000 := if_pos hsender
    have hsync : exec (.ptpSyncReceived t port m) s = .next (after t s (d.ptpSync port m)) :=
      hrow (Dev.ptpSync port m)
    have honeStep (h : m.twoStep = false) : d.ptpSync port m = (d.tookSync ms).steer off :=
      (Dev.ptpSync_oneStep hprof hmine h).trans (Dev.ptpOffset_steers _ _ _ hst)
    refine ⟨fun h hdue => ?_, fun h hdue hin => ?_, fun h hdue hout hlocked => ?_, fun h => ?_, fun a ha => ?_⟩
    · rw [hsync, honeStep h, Dev.steer_stepDue (d := d.tookSync ms) off hdue, Dev.stepped,
        Dev.withOffset_tookSync, hnow]
    · rw [hsync, honeStep h, Dev.steer_within (d := d.tookSync ms) off hdue
          (Nat.le_trans hin (Nat.le_of_eq hlimit.symm)), Dev.slewing_sender (d := d.tookSync ms) off true hsender,
        Dev.withOffset_tookSync, hnow]
      rfl
    · rw [hsync, honeStep h, Dev.steer_lockedBeyond (d := d.tookSync ms) off hdue hsender hlocked
          (Nat.lt_of_le_of_lt (Nat.le_of_eq hlimit) hout), Dev.slewing_sender (d := d.tookSync ms) off false hsender,
        Dev.withOffset_tookSync, hnow]
      rfl
    · rw [hsync, Dev.ptpSync_twoStep hprof hmine h]
    · refine (hrow (Dev.ptpFollowUp port m)).trans ?_
      rw [Dev.ptpFollowUp_ofSync hprof hmine ha]
  case delayResp =>
    intro g t3 hprof hsel hgport hsource hreq hme
    refine (hrow (Dev.ptpDelayResp port m)).trans ?_
    rw [Dev.ptpDelayResp_ofRequest hprof hreq, if_pos ⟨rfl, rfl, hme, Dev.fromSelected_of hsel hgport hsource⟩]
  case delayReq =>
    intro g egress hsel hgport
    refine (act_whenPorts (fun d => d.onSender (Dev.delayReqTx port egress)) hruns.1).trans ?_
    rw [Dev.onSender_open _ hruns.2, Dev.delayReqTx_slavePort egress hsel hgport]
  case announce =>
    intro hprof hnew
    refine (hrow (Dev.ptpAnnounce port m)).trans ?_
    rw [Dev.ptpAnnounce_new hprof hnew, hnow]
    rfl
  case timeout =>
    have hnow0 : d0.now = t := Dev.begin_now t s.dev
    have hrow : exec (.announceReceiptTimeout t port) s = .next (after t s (d0.announceTimeout port)) := by
      refine (act_whenFirmware (fun d => d.onSender (Dev.announceTimeout port)) (Dev.pliukRuns_of_portsRun hruns.1)
        (Dev.not_recovery_of_portsRun hruns.1)).trans ?_
      rw [Dev.onSender_open _ hruns.2]
    rw [hrow]
    intro late
    refine ⟨fun h => ?_, fun h => ?_⟩
    · rw [Dev.announceTimeout_late (by rwa [hnow0]), hnow0]
      rfl
    · rw [Dev.announceTimeout_none (by rwa [hnow0])]

/-- Settles O19: the frame is dropped or taken, and a message taken is foreign, passed over or used. -/
theorem everyPtpMessageCompletesOnASender : Obligations.EveryPtpMessageCompletesOnASender := by
  intro s t port m d0 hruns hport
  refine ⟨?dropped, ?taken⟩
  case dropped =>
    intro h i hi
    simp only [List.mem_cons, List.not_mem_nil, or_false] at hi
    obtain rfl | rfl | rfl | rfl := hi
    · exact act_onPtp_dropped hruns hport (Dev.ptpSync port m) h
    · exact act_onPtp_dropped hruns hport (Dev.ptpFollowUp port m) h
    · exact act_onPtp_dropped hruns hport (Dev.ptpAnnounce port m) h
    · exact act_onPtp_dropped hruns hport (Dev.ptpDelayResp port m) h
  case taken =>
    intro hvlan hlen d at' mine waits
    have hnow : d.now = t := (Dev.smpteRx_now port m d0).trans (Dev.begin_now t s.dev)
    have hrow (f : Dev → Dev) : act t (fun d => d.whenPorts (fun d => d.onPtp port m f)) s = .next (after t s (f d)) :=
      act_onPtp hruns hport f hvlan hlen
    refine ⟨(hrow (Dev.ptpSync port m)).trans ?_, (hrow (Dev.ptpFollowUp port m)).trans ?_,
      (hrow (Dev.ptpDelayResp port m)).trans ?_, (hrow (Dev.ptpAnnounce port m)).trans ?_⟩ <;>
      refine congrArg (fun e => Host.Outcome.next (after t s e)) ?_
    · split
      next hprof => exact Dev.ptpSync_foreign hprof
      next hprof =>
        have hin := eq_true_of_ne_false hprof
        split
        next hmine => exact Dev.ptpSync_otherMaster hin hmine
        next hmine =>
          split
          next htwo => exact Dev.ptpSync_twoStep hin (eq_true_of_ne_false hmine) htwo
          next hone => exact Dev.ptpSync_oneStep hin (eq_true_of_ne_false hmine) (eq_false_of_ne_true hone)
    · split
      next hprof => exact Dev.ptpFollowUp_foreign hprof
      next hprof =>
        have hin := eq_true_of_ne_false hprof
        split
        next hmine => exact Dev.ptpFollowUp_otherMaster hin hmine
        next hmine =>
          cases hw : d.time.awaiting.find? (fun a => a.1 == port && a.2.1 == m.sequence) with
          | none =>
            rw [show waits = none from hw]
            exact Dev.ptpFollowUp_noSync hin (eq_true_of_ne_false hmine) hw
          | some a =>
            rw [show waits = some a from hw]
            exact Dev.ptpFollowUp_ofSync hin (eq_true_of_ne_false hmine) hw
    · split
      next hprof => exact Dev.ptpDelayResp_foreign hprof
      next hprof =>
        split
        next hreq => exact Dev.ptpDelayResp_noRequest (eq_true_of_ne_false hprof) hreq
        next q seq t3 hreq => exact Dev.ptpDelayResp_ofRequest (eq_true_of_ne_false hprof) hreq
    · split
      next hprof => exact Dev.ptpAnnounce_foreign hprof
      next hprof =>
        rw [Dev.ptpAnnounce_joins (eq_true_of_ne_false hprof), hnow]
        rfl

/-! ### Time states and their watches (R83, R86, R88, R92, R93, R519) -/

namespace Dev

section
variable {d : Dev} {u : Time}

theorem holdoverEnd_expired (hhold : d.tstate = tsHoldover) (hat : d.time.holdoverAt = some u)
    (h : u + d.obj K.HOLDOVER_LIMIT * 1000000 ≤ d.now) :
    d.holdoverEnd = d.setTimeState (if d.isSender then tsFreerun else tsUnlocked) := by
  simp [holdoverEnd, hat, hhold, h]

theorem holdoverEnd_running (hat : d.time.holdoverAt = some u) (h : d.now < u + d.obj K.HOLDOVER_LIMIT * 1000000) :
    d.holdoverEnd = d := by
  simp [holdoverEnd, hat, Nat.not_le.mpr h]

/-- A path is silent where its last Sync, if it had one, is 8 Sync intervals old (R86). -/
theorem pathSilent_of (h : PortId) (hq : ∀ u, d.time.lastSync.getD h none = some u → u + eightSyncs ≤ d.now) :
    d.pathSilent h = true := by
  cases hl : d.time.lastSync.getD h none with
  | none => simp only [pathSilent, hl]
  | some u => simpa only [pathSilent, hl, decide_eq_true_eq] using hq u hl

theorem pathSilent_recent (h : PortId) (hl : d.time.lastSync.getD h none = some u) (hu : d.now < u + eightSyncs) :
    d.pathSilent h = false := by
  simpa only [pathSilent, hl, decide_eq_false_iff_not, Nat.not_le] using hu

theorem tstate_setTimeSource (v : Nat) : (d.setObj K.TIME_SOURCE v).tstate = d.tstate :=
  setObj_obj_other _ _ (by decide)

section
variable (htile : d.isTile = true)
include htile

/-- A tile whose two paths are silent follows no source any more (R93). -/
theorem syncLoss_silent (h0 : d.pathSilent 0 = true) (h1 : d.pathSilent 1 = true) : d.syncLoss = d.loseSource := by
  simp [syncLoss, htile, h0, h1]

theorem loseSource_lockedTile (hlocked : d.tstate = tsLocked) :
    d.loseSource = ((d.setObj K.TIME_SOURCE 255).setTimeState tsHoldover).fault 3 K.TIME_STATE 0 := by
  have hsender : d.isSender = false := tile_not_sender htile
  have ht : (d.setObj K.TIME_SOURCE 255).tstate = tsLocked := (tstate_setTimeSource 255).trans hlocked
  simp only [loseSource, enterHoldover, setObj_isSender, hsender, ht, Bool.false_eq_true, if_false, if_true]

theorem loseSource_acquiringTile (hacq : d.tstate = tsAcquiring) :
    d.loseSource = (d.setObj K.TIME_SOURCE 255).setTimeState tsUnlocked := by
  have hsender : d.isSender = false := tile_not_sender htile
  have ht : (d.setObj K.TIME_SOURCE 255).tstate = tsAcquiring := (tstate_setTimeSource 255).trans hacq
  have hne : tsAcquiring ≠ tsLocked := by decide
  simp only [loseSource, setObj_isSender, hsender, ht, hne, Bool.false_eq_true, if_false, if_true]

/-- The path that is not active becomes the source where the active one is silent and it is not (R86, R87). -/
theorem sourceSwitch_takesOther (ha : d.obj K.PATH_ACTIVE ≤ 1) (hsilent : d.pathSilent (d.obj K.PATH_ACTIVE) = true)
    (hother : d.pathSilent (otherPort (d.obj K.PATH_ACTIVE)) = false) :
    d.sourceSwitch = (d.followPath (otherPort (d.obj K.PATH_ACTIVE))).reportClass := by
  simp [sourceSwitch, htile, ha, hsilent, hother]

theorem dirCheck_apart (h : 128 ≤ d.time.dirBad) :
    d.dirCheck = (d.setTb (fun b => { b with dirBad := 0 })).bumpFault 3 K.DIR_CHECK_FAULTS 0 := by
  simp [dirCheck, htile, h]

end

theorem pairOffsetCheck_apart (hsender : d.isSender = true)
    (hapart : d.obj K.PAIR_OFFSET_LIMIT * 1000 < (d.objI 32 K.PAIR_TIME_OFFSET).natAbs)
    (hsince : d.time.pairBeyond = some u) (h : u + 10 ^ 9 ≤ d.now) :
    d.pairOffsetCheck = (d.setTb (fun b => { b with pairBeyond := some d.now })).fault 3 K.PAIR_TIME_OFFSET 0 := by
  simp only [pairOffsetCheck, hsince, pairApart, hsender, hapart, h, decide_true, Bool.and_self, if_true]

/-! The check of the time base (R519) -/

/-- Checks in succession that were beyond 200 ppm, this one among them. -/
def ppmBadWith (d : Dev) (ppm : Int) : Nat := if ppm.natAbs > 200 then d.time.ppmBad + 1 else 0

/-- The outcome of a check is kept. -/
def checked (ppm : Int) (fail : Bool) (d : Dev) : Dev :=
  d.setTb (fun b => { b with ppmBad := d.ppmBadWith ppm, baseBad := fail })

theorem baseCheck_sound {ppm : Int} (h : d.ppmBadWith ppm < 8) : d.baseCheck true ppm = d.checked ppm false := by
  have hfail : (!true || decide (8 ≤ d.ppmBadWith ppm)) = false := by simpa using h
  refine (if_neg (ne_true_of_eq_false hfail)).trans ?_
  rw [← hfail]
  rfl

/-- A Locked device whose check fails leaves lock, with a fault where the check before it did not fail too. -/
theorem baseCheck_failsLocked {pll : Bool} {ppm : Int} (h : pll = false ∨ 8 ≤ d.ppmBadWith ppm)
    (hlocked : d.tstate = tsLocked) :
    d.baseCheck pll ppm =
      (let e := (d.checked ppm true).setTimeState tsHoldover
       if d.time.baseBad = true then e else e.fault 3 K.TIME_STATE 0) := by
  have hfail : (!pll || decide (8 ≤ d.ppmBadWith ppm)) = true := by simpa using h
  have hlost : (d.checked ppm true).baseLost = (d.checked ppm true).setTimeState tsHoldover := if_pos (.inl hlocked)
  refine (if_pos hfail).trans ?_
  rw [← hlost, ← hfail]
  rfl

end
end Dev

/-- Settles O21: each watch finds its condition, and none of them what it does not time. -/
theorem timeStatesAreLeftAndWatched : Obligations.TimeStatesAreLeftAndWatched := by
  intro s t d
  have hnow : d.now = t := Dev.begin_now t s.dev
  refine ⟨?holdover, ?tile, ?pair, ?base⟩
  case holdover =>
    intro u hruns hrec hhold hat
    have hrow : exec (.holdoverLimitExpiry t) s = .next (after t s d.holdoverEnd) :=
      act_whenFirmware Dev.holdoverEnd hruns hrec
    rw [hrow]
    refine ⟨fun h => ?_, fun h => ?_⟩
    · rw [Dev.holdoverEnd_expired hhold hat (by rwa [hnow])]
    · rw [Dev.holdoverEnd_running hat (by rwa [hnow])]
  case tile =>
    rintro ⟨hports, htile⟩
    have hsilent (h : PortId) (hq : ∀ u, d.time.lastSync.getD h none = some u → u + eightSyncs ≤ t) :
        d.pathSilent h = true := Dev.pathSilent_of h (by rwa [hnow])
    refine ⟨⟨fun h0 h1 => ?loss, fun u ha hq hl hu => ?switch⟩, fun h => ?directions⟩
    case loss =>
      have hrow : exec (.syncLossTimeout t) s = .next (after t s d.loseSource) := by
        refine (act_whenPorts Dev.syncLoss hports).trans ?_
        rw [Dev.syncLoss_silent htile (hsilent 0 h0) (hsilent 1 h1)]
      rw [hrow]
      refine ⟨fun hlocked => ?_, fun hacq => ?_⟩
      · rw [Dev.loseSource_lockedTile htile hlocked]
      · rw [Dev.loseSource_acquiringTile htile hacq]
    case switch =>
      refine (act_whenPorts Dev.sourceSwitch hports).trans ?_
      rw [Dev.sourceSwitch_takesOther htile ha (hsilent _ hq) (Dev.pathSilent_recent _ hl (by rwa [hnow]))]
      rfl
    case directions =>
      refine (act_whenPorts Dev.dirCheck hports).trans ?_
      rw [Dev.dirCheck_apart htile h]
  case pair =>
    rintro u ⟨hports, hsender⟩ hapart hsince h
    refine (act_whenPorts Dev.pairOffsetCheck hports).trans ?_
    rw [Dev.pairOffsetCheck_apart hsender hapart hsince (by rwa [hnow]), hnow]
  case base =>
    intro hruns hrec pll ppm bad
    have hrow : exec (.timeBaseCheck t pll ppm) s = .next (after t s (d.baseCheck pll ppm)) :=
      act_whenFirmware (Dev.baseCheck pll ppm) hruns hrec
    rw [hrow]
    refine ⟨?sound, fun hfail hlocked => ?fails⟩
    case sound =>
      rintro ⟨rfl, hbad⟩
      rw [Dev.baseCheck_sound hbad]
      rfl
    case fails =>
      rw [Dev.baseCheck_failsLocked hfail hlocked]
      rfl

/-! ### Elements replaced in a list, and ports -/

theorem upd_eq_modify {α : Type} (f : α → α) (i : Nat) (l : List α) : upd i f l = l.modify i f := by
  induction l generalizing i with
  | nil => simp [upd]
  | cons a l ih => cases i <;> simp [upd, ih]

theorem getD_upd_same {α : Type} {i : Nat} {l : List α} (f : α → α) (a : α) (h : i < l.length) :
    (upd i f l).getD i a = f (l.getD i a) := by
  simp [upd_eq_modify, List.getElem?_eq_getElem h]

namespace Dev

section
variable (h : PortId) (f g : Port → Port) (d : Dev)

theorem setPort_setPort : (d.setPort h f).setPort h g = d.setPort h (g ∘ f) := by
  simp only [setPort, upd_eq_modify, List.modify_modify_eq]

theorem port_setPort_same (hlt : h < d.withy.ports.length) : (d.setPort h f).port h = f (d.port h) := by
  simp only [port, setPort, ← List.getD_eq_getElem?_getD]
  exact getD_upd_same f portInit hlt

theorem port_setPort_cases (k : PortId) :
    (d.setPort h f).port k = d.port k ∨ (d.setPort h f).port k = f (d.port k) := by
  simp only [port, setPort, upd_eq_modify, List.getElem?_modify]
  cases d.withy.ports[k]? with
  | none => exact .inl rfl
  | some q => by_cases hk : h = k <;> simp [hk]

/-! Time-stamps go by the rate of a port and its measured phase (R89). -/

section
variable (hrate : ∀ q, (f q).rate = q.rate) (hphase : ∀ q, (f q).phasePs = q.phasePs) (k : PortId)
include hrate hphase

theorem txStamp_setPort (raw : Nat) : (d.setPort h f).txStamp k raw = d.txStamp k raw := by
  unfold txStamp
  obtain e | e := port_setPort_cases h f d k <;> simp only [e, hrate, hphase]

theorem rxStamp_setPort (raw : Nat) : (d.setPort h f).rxStamp k raw = d.rxStamp k raw := by
  unfold rxStamp
  obtain e | e := port_setPort_cases h f d k <;> simp only [e, hrate, hphase]

end
end

/-- A sound packet that is not stomped is counted as started, and in no other way (R404, R405). -/
theorem countRx_passes {p : Packet} (h : PortId) (d : Dev) (hpass : pktPasses p = true) :
    d.countRx h p = d.setPort h (fun q => { q with started := q.started + 1 }) := by
  obtain ⟨hsound, hstomp⟩ : pktSound p = true ∧ pktStomped p = false := by simpa [pktPasses] using hpass
  simp [countRx, hsound, hstomp]

section
variable {p : Packet} (h k : PortId) (d : Dev) (raw : Nat) (hpass : pktPasses p = true)
include hpass

theorem rxStamp_countRx : (d.countRx h p).rxStamp k raw = d.rxStamp k raw := by
  rw [countRx_passes h d hpass]
  refine rxStamp_setPort h _ d ?_ ?_ k raw <;> exact fun _ => rfl

theorem countRx_now : (d.countRx h p).now = d.now := by
  rw [countRx_passes h d hpass]
  rfl

theorem countRx_time : (d.countRx h p).time = d.time := by
  rw [countRx_passes h d hpass]
  rfl

end

/-- A tile's own packet waits for a grant run (R416). -/
theorem sendOwn_tile {d : Dev} {h : PortId} (q : Packet) (hup : d.portUp h = true) (htile : d.isTile = true) :
    d.sendOwn h q = d.setPort h (fun x => { x with own := x.own ++ [q] }) := by
  simp [sendOwn, hup, tile_not_sender htile]

end Dev

/-! ### The fields of a TIM packet (R81) -/

/-- A field in front holds its value modulo its width. -/
theorem fieldAt_be_left_mod {n v : Nat} (b : Bytes) : fieldAt 0 n (be n v ++ b) = v % 2 ^ (8 * n) := by
  simp [fieldAt, slice, List.take_left']

section
variable (mtype domain flags seq : Nat) (corr : Int) (clock port : Nat) (logInt : Int) (own : Bytes)

theorem timType_timBytes (h : mtype < 16) :
    timType (timBytes mtype domain flags seq corr clock port logInt own) = mtype := by
  have hfield : fieldAt 0 1 (timBytes mtype domain flags seq corr clock port logInt own) = mtype := by
    simp only [timBytes, List.append_assoc]
    exact fieldAt_be_left _ (by omega)
  rw [timType, hfield, Nat.mod_eq_of_lt h]

theorem timSeq_timBytes (h : seq < 2 ^ 16) :
    timSeq (timBytes mtype domain flags seq corr clock port logInt own) = seq := by
  simp (disch := omega) only [timSeq, timBytes, List.append_assoc, zeros_eq_be, fieldAt_be_left, fieldAt_be_right,
    Nat.reduceSub]

/-- What a message has of its own begins behind the header of 34 bytes. -/
theorem fieldAt_timBytes_own (off n : Nat) :
    fieldAt (34 + off) n (timBytes mtype domain flags seq corr clock port logInt own) = fieldAt off n own := by
  rw [timBytes, fieldAt_append_right n own (by simp [zeros_eq_be])]
  simp [zeros_eq_be]

end

namespace Dev

/-! ### What a sender sends (R80 to R82) -/

/-- The body of the next Announce of a port (R81, R82). -/
def announceBody (d : Dev) (h : PortId) : Bytes :=
  timBytes 0xB (d.bootObj K.PTP_DOMAIN) (8 * d.obj K.PTP_TIMESCALE) (d.time.announceSeq.getD h 0) 0 d.fix.fuses.uid
    (h + 1) (-4) (stampBytes 0 ++ be 2 (d.obj K.UTC_OFFSET) ++ zeros 1 ++
      be 1 ((d.time.selected.map (·.priority1)).getD 128) ++ be 1 d.classNow ++
      be 1 ((d.time.selected.map (·.accuracy)).getD 0xFE) ++ be 2 ((d.time.selected.map (·.variance)).getD 0xFFFF) ++
      be 1 ((d.time.selected.map (·.priority2)).getD 128) ++ be 8 (d.obj K.GM_IDENTITY) ++
      be 2 ((d.time.selected.map (fun x => x.stepsRemoved + 1)).getD 0) ++ be 1 0x20)

theorem timType_announceBody (d : Dev) (h : PortId) : timType (d.announceBody h) = 0xB :=
  timType_timBytes _ _ _ _ _ _ _ _ _ (by omega)

theorem timClass_announceBody (d : Dev) (h : PortId) : timClass (d.announceBody h) = d.classNow % 256 := by
  rw [timClass, announceBody, fieldAt_timBytes_own _ _ _ _ _ _ _ _ _ 14 1]
  simp (disch := omega) only [stampBytes, List.append_assoc, zeros_eq_be, fieldAt_be_right, fieldAt_be_left_mod,
    Nat.reduceSub, Nat.reduceMul, Nat.reducePow]

section
variable {d : Dev} {h : PortId} (hserving : d.serving = true) (hup : d.portUp h = true)
include hserving hup

theorem syncTx_serving (egress : Nat) :
    d.syncTx h egress = (d.transmit h (mkPacket clsTim 0xFF 0
      (timBytes 0 (d.bootObj K.PTP_DOMAIN) 0 (d.time.syncSeq.getD h 0)
        (psToCorr ((d.txStamp h egress % 1000 : Nat) : Int)) d.fix.fuses.uid (h + 1) (-13)
        (stampBytes (d.txStamp h egress))))).setTb
      (fun b => { b with syncSeq := upd h (fun q => (q + 1) % 2 ^ 16) b.syncSeq }) :=
  if_pos (by rw [hserving, hup]; rfl)

theorem announceTx_serving :
    d.announceTx h = (d.transmit h (mkPacket clsTim 0xFF 0 (d.announceBody h))).setTb
      (fun b => { b with announceSeq := upd h (fun q => (q + 1) % 2 ^ 16) b.announceSeq }) :=
  if_pos (by rw [hserving, hup]; rfl)

end

/-! ### Link delays (R80, R84, R411, R416) -/

/-- A Pdelay_Req of a device into a port (R81). -/
def pdelayReq (d : Dev) (h : PortId) (seq : Nat) : Packet :=
  mkPacket clsTim 0 1 (timBytes 2 (if d.isSender then d.bootObj K.PTP_DOMAIN else d.time.domain) 0 seq 0 d.fix.fuses.uid
    (h + 1) (-3) (stampBytes 0 ++ zeros 10))

/-- The next Pdelay_Req takes its sequence. -/
def pdelayNext (h : PortId) (d : Dev) : Dev :=
  d.setTb (fun b => { b with pdelaySeq := upd h (fun _ => (d.time.pdelaySeq.getD h 0 + 1) % 2 ^ 16) b.pdelaySeq })

/-- The body with which a device answers a Pdelay_Req (R411). -/
def pdelayAnswer (d : Dev) (h : PortId) (p : Packet) : Bytes :=
  timBytes 3 (timDomain p.body) 0 (timSeq p.body) (timCorr p.body) d.fix.fuses.uid (h + 1) 0x7F
    (stampBytes 0 ++ be 8 (timClock p.body) ++ slice 28 2 p.body)

section
variable {d : Dev} {h : PortId} {p : Packet}

theorem timType_pdelayReq (seq : Nat) : timType (d.pdelayReq h seq).body = 2 :=
  timType_timBytes _ _ _ _ _ _ _ _ _ (by omega)

theorem timSeq_pdelayReq {seq : Nat} (hseq : seq < 2 ^ 16) : timSeq (d.pdelayReq h seq).body = seq :=
  timSeq_timBytes _ _ _ _ _ _ _ _ _ hseq

theorem timType_pdelayAnswer : timType (d.pdelayAnswer h p) = 3 := timType_timBytes _ _ _ _ _ _ _ _ _ (by omega)

/-- A Pdelay_Req that leaves is stamped (R89). -/
theorem launchOwn_pdelayReq (egress : Nat) (hcls : p.cls = clsTim) (htype : timType p.body = 2) :
    d.launchOwn h egress p = (d.transmit h p).setTb (fun b => { b with
      pdelayOut := upd h (fun _ => some (timSeq p.body, d.txStamp h egress)) b.pdelayOut }) := if_pos ⟨hcls, htype⟩

/-- A Pdelay_Resp that leaves takes its turnaround into its correction (R411). -/
theorem launchOwn_pdelayResp {r : Int} {rest : List Int} (egress : Nat) (hcls : p.cls = clsTim)
    (htype : timType p.body = 3) (hin : (d.port h).respIn = r :: rest) :
    d.launchOwn h egress p = (d.setPort h (fun q => { q with respIn := rest })).transmit h
      (mkPacket p.cls p.target p.flags
        (splice 8 (be 8 (ofSigned 64 (timCorr p.body + psToCorr ((d.txStamp h egress : Int) - r)))) p.body)) := by
  have hreq : ¬ (p.cls = clsTim ∧ timType p.body = 2) := by simp [htype]
  rw [launchOwn, if_neg hreq, if_pos ⟨hcls, htype⟩, hin]

theorem pdelayTx_tile (egress : Nat) (hup : d.portUp h = true) (htile : d.isTile = true) :
    d.pdelayTx h egress = (d.pdelayNext h).setPort h (fun x => { x with
      own := x.own ++ [d.pdelayReq h ((d.time.pdelaySeq.getD h 0 + 1) % 2 ^ 16)] }) := by
  have hopen : (d.portUp h && d.pdelayOpen) = true := by simp [hup, pdelayOpen, htile]
  exact (if_pos hopen).trans ((if_pos htile).trans (sendOwn_tile _ hup htile))

theorem pdelayTx_sender (egress : Nat) (hup : d.portUp h = true) (hsender : d.isSender = true)
    (htimed : d.time.everTimed = true) :
    d.pdelayTx h egress =
      (let seq := (d.time.pdelaySeq.getD h 0 + 1) % 2 ^ 16
       ((d.pdelayNext h).transmit h (d.pdelayReq h seq)).setTb (fun b => { b with
         pdelayOut := upd h (fun _ => some (seq, d.txStamp h egress)) b.pdelayOut })) := by
  have hopen : (d.portUp h && d.pdelayOpen) = true := by simp [hup, pdelayOpen, htimed]
  have hseq : (d.time.pdelaySeq.getD h 0 + 1) % 2 ^ 16 < 2 ^ 16 := Nat.mod_lt _ (by omega)
  refine (if_pos hopen).trans ((if_neg (ne_true_of_eq_false (sender_not_tile hsender))).trans ?_)
  refine (launchOwn_pdelayReq (p := d.pdelayReq h _) egress rfl (timType_pdelayReq _)).trans ?_
  rw [timSeq_pdelayReq hseq]
  rfl

section
variable (ingress : Nat) (hup : d.portUp h = true) (hpass : pktPasses p = true) (hlink : pktLink p = true)
include hup hpass hlink

/-- A Pdelay_Req with LINK set is remembered with its instant and answered (R411). -/
theorem pdelayReqRx_answers (egress : Nat) (hopen : d.isTile = true ∨ d.time.everTimed = true) :
    d.pdelayReqRx h p ingress egress =
      (let e := (d.countRx h p).setPort h (fun q => { q with respIn := q.respIn ++ [d.rxStamp h ingress] })
       if d.isTile then e.sendOwn h (mkPacket clsTim 0 1 (d.pdelayAnswer h p))
       else e.launchOwn h egress (mkPacket clsTim 0 1 (d.pdelayAnswer h p))) := by
  have hopen' : (d.setPort h (fun q => { q with started := q.started + 1 })).pdelayOpen = true := by
    have hd : d.pdelayOpen = true := by simpa [pdelayOpen] using hopen
    exact hd
  have hrx : (d.setPort h (fun q => { q with started := q.started + 1 })).rxStamp h ingress = d.rxStamp h ingress := by
    rw [← countRx_passes h d hpass, rxStamp_countRx h h d ingress hpass]
  simp only [pdelayReqRx, hup, hpass, hlink, countRx_passes h d hpass, hopen', hrx, Bool.not_true, Bool.or_self,
    Bool.false_eq_true, if_false]
  rfl

theorem pdelayReqRx_tile (egress : Nat) (htile : d.isTile = true) :
    d.pdelayReqRx h p ingress egress =
      ((d.countRx h p).setPort h (fun x => { x with respIn := x.respIn ++ [d.rxStamp h ingress] })).setPort h
        (fun x => { x with own := x.own ++ [mkPacket clsTim 0 1 (d.pdelayAnswer h p)] }) := by
  rw [pdelayReqRx_answers ingress hup hpass hlink egress (.inl htile), countRx_passes h d hpass]
  exact (if_pos htile).trans (sendOwn_tile _ hup htile)

theorem pdelayReqRx_sender (egress : Nat) (hsender : d.isSender = true) (htimed : d.time.everTimed = true)
    (hin : (d.port h).respIn = []) (hlt : h < d.withy.ports.length) :
    d.pdelayReqRx h p ingress egress =
      ((d.countRx h p).setPort h (fun x => { x with respIn := [] })).transmit h (mkPacket clsTim 0 1
        (splice 8 (be 8 (ofSigned 64 (timCorr (d.pdelayAnswer h p) +
          psToCorr ((d.txStamp h egress : Int) - d.rxStamp h ingress)))) (d.pdelayAnswer h p))) := by
  rw [pdelayReqRx_answers ingress hup hpass hlink egress (.inr htimed), countRx_passes h d hpass, setPort_setPort,
    setPort_setPort]
  refine (if_neg (ne_true_of_eq_false (sender_not_tile hsender))).trans ?_
  have hr : ((d.setPort h ((fun q => { q with respIn := q.respIn ++ [d.rxStamp h ingress] }) ∘
      (fun q => { q with started := q.started + 1 }))).port h).respIn = [d.rxStamp h ingress] := by
    rw [port_setPort_same h _ d hlt, Function.comp, hin, List.nil_append]
  rw [launchOwn_pdelayResp (p := mkPacket clsTim 0 1 (d.pdelayAnswer h p)) egress rfl timType_pdelayAnswer hr,
    setPort_setPort, txStamp_setPort h _ d (fun _ => by rfl) (fun _ => by rfl)]
  rfl

/-- A Pdelay_Resp to the request in flight measures half the round trip into the median of the last 16 (R84). -/
theorem pdelayRespRx_measures {t1 : Nat} (hout : d.time.pdelayOut.getD h none = some (timSeq p.body, t1))
    (huid : fieldAt 44 8 p.body = d.fix.fuses.uid) :
    d.pdelayRespRx h p ingress =
      (let m := ((d.rxStamp h ingress - (t1 : Int) - corrToPs (timCorr p.body)) / 2).toNat
       let hist := ((d.time.pdelayHist.getD h []) ++ [m]).drop ((d.time.pdelayHist.getD h []).length - 15)
       ((d.countRx h p).setTb (fun b => { b with
         pdelayOut := upd h (fun _ => none) b.pdelayOut,
         pdelayHist := upd h (fun _ => hist) b.pdelayHist })).setLinkDelay h
           ((medianOf (hist.map Int.ofNat)).toNat)) := by
  simp only [pdelayRespRx, hup, hpass, hlink, countRx_time h d hpass, countRx_fix, rxStamp_countRx h h d ingress hpass,
    hout, huid, Bool.not_true, Bool.or_self, Bool.false_eq_true, and_self, if_false, if_true]

end

/-! ### Syncs and Announces on a tile, and of a partner (R82 to R86) -/

/-- The offsets of the partner's time over the hoops shared with it (R83). -/
def sharedOffsets (d : Dev) : List Int :=
  (List.range 4).filterMap (fun k => if d.hoopClosed k then d.time.pairOffset.getD k none else none)

theorem sharedOffsets_of {x : Int} (h4 : h < 4) (hclosed : d.hoopClosed h = true)
    (hoff : d.time.pairOffset.getD h none = some x) : d.sharedOffsets.isEmpty = false := by
  have hmem : x ∈ d.sharedOffsets :=
    List.mem_filterMap.mpr ⟨h, List.mem_range.mpr h4, (if_pos hclosed).trans hoff⟩
  exact List.isEmpty_eq_false_iff.mpr (List.ne_nil_of_mem hmem)

section
variable (hup : d.portUp h = true) (hpass : pktPasses p = true)
include hup hpass

/-- A Sync is used by the tile and forwarded with its residence and the delay of its link (R84 to R86). -/
theorem timSyncRx_forwards (ingress egress : Nat) (hlink : pktLink p = false) :
    d.timSyncRx h p ingress egress =
      (let e := (d.countRx h p).useSync h p ingress
       let k := K.WITHY_RESIDENCE_MAX (otherPort h)
       let e := if e.portUp (otherPort h) then
           e.setObj k (clampN (e.obj k) 65535
             (ceilDiv ((e.txStamp (otherPort h) egress : Int) - e.rxStamp h ingress).toNat 1000)) else e
       e.forward h p (splice 8 (be 8 (ofSigned 64
         (timCorr p.body + psToCorr ((e.txStamp (otherPort h) egress : Int) - e.rxStamp h ingress +
           (e.linkDelay h : Int))))) p.body)) := by
  simp only [timSyncRx, hup, hlink, hpass, Bool.not_true, Bool.false_eq_true, if_false, if_true]

theorem timAnnounceRx_forwards (hlink : pktLink p = false) :
    d.timAnnounceRx h p =
      ((((d.countRx h p).setTb (fun b => { b with
        portClass := upd h (fun _ => timClass p.body) b.portClass, portGm := upd h (fun _ => timGm p.body) b.portGm,
        domain := timDomain p.body })).reportClass).forward h p p.body) := by
  simp only [timAnnounceRx, hup, hlink, hpass, Bool.not_true, Bool.false_eq_true, if_false, if_true]

/-- Since when the partner has been in Freerun, once it announces this class (R433). -/
def freerunSince (d : Dev) (cls : Nat) (since : Option Time) : Option Time :=
  if cls = 248 then (match since with
    | some u => some u
    | none => some d.now) else none

theorem pairSyncRx_announce (ingress : Nat) (htype : timType p.body = 0xB) :
    d.pairSyncRx h p ingress = (d.countRx h p).setTb (fun b => { b with
      portClass := upd h (fun _ => timClass p.body) b.portClass
      partnerFreerunSince := d.freerunSince (timClass p.body) b.partnerFreerunSince }) := by
  rw [countRx_passes h d hpass]
  refine (if_neg (by simp [hup])).trans ((if_neg (by simp [hpass])).trans ((if_pos htype).trans ?_))
  rw [countRx_passes h d hpass]
  rfl

/-- What a Sync of the partner brings: the offset of its time over a port. -/
def partnerSync (h : PortId) (p : Packet) (ingress : Nat) (d : Dev) : Dev :=
  let raw := d.rxStamp h ingress - ((timStamp p.body : Int) + corrToPs (timCorr p.body)) - (d.linkDelay h : Int)
  d.setTb (fun b => { b with
    lastSync := upd h (fun _ => some d.now) b.lastSync, pairOffset := upd h (fun _ => some (-raw)) b.pairOffset })

/-- The pair offset becomes the median over the hoops shared with the partner, this one among them (R83). -/
theorem pairSyncRx_sync (ingress : Nat) (htype : timType p.body ≠ 0xB) (hclosed : d.hoopClosed h = true)
    (hlt : h < d.time.pairOffset.length) (h4 : h < 4) :
    d.pairSyncRx h p ingress =
      (let e := (d.countRx h p).partnerSync h p ingress
       (e.setObjI 32 K.PAIR_TIME_OFFSET (medianOf e.sharedOffsets)).watchPair) := by
  have hlive : ((d.countRx h p).partnerSync h p ingress).sharedOffsets.isEmpty = false := by
    rw [countRx_passes h d hpass]
    exact sharedOffsets_of h4 hclosed (getD_upd_same _ none hlt)
  refine (if_neg (by simp [hup])).trans ((if_neg (by simp [hpass])).trans ((if_neg htype).trans ?_))
  exact if_neg (ne_true_of_eq_false hlive)

end

end

end Dev

/-- Settles O22: each packet is one that its port sends, answers, measures by, uses or forwards. -/
theorem timeTravelsTheWall : Obligations.TimeTravelsTheWall := by
  intro s t h d hports hup
  have hnow : d.now = t := Dev.begin_now t s.dev
  have hrow (f : Dev → Dev) : act t (fun d => d.whenPorts f) s = .next (after t s (f d)) := act_whenPorts f hports
  have hwire (p : Packet) (f : Dev → Dev) : act t (fun d => d.wire h p (fun d => d.onTile f)) s =
      .next (after t s (d.onTile f)) := by
    rw [act_eq, Dev.wire_open h p _ hports]
  refine ⟨?sender, ?request, ?received⟩
  case sender =>
    intro hserving
    refine ⟨fun egress => ?_, d.announceBody h, Dev.timClass_announceBody d h, Dev.timType_announceBody d h, ?_⟩
    · refine (hrow (Dev.syncTx h egress)).trans ?_
      rw [Dev.syncTx_serving hserving hup]
    · refine (hrow (Dev.announceTx h)).trans ?_
      rw [Dev.announceTx_serving hserving hup]
  case request =>
    intro egress
    refine ⟨fun hsender htimed => ?_, fun htile => ?_⟩
    · refine (hrow (Dev.pdelayTx h egress)).trans ?_
      rw [Dev.pdelayTx_sender egress hup hsender htimed]
      rfl
    · refine (hrow (Dev.pdelayTx h egress)).trans ?_
      rw [Dev.pdelayTx_tile egress hup htile]
      rfl
  case received =>
    intro p ingress hpass
    refine ⟨fun egress hlink => ⟨fun hsender htimed hin hlt => ?_, fun htile => ?_⟩, fun t1 hlink hout huid => ?_,
      fun egress htile hlink _ => ?_, fun htile hlink => ?_,
      fun hsender => ⟨fun htype => ?_, fun htype hclosed hlt h4 => ?_⟩⟩
    · refine (hrow (Dev.pdelayReqRx h p ingress egress)).trans ?_
      rw [Dev.pdelayReqRx_sender ingress hup hpass hlink egress hsender htimed hin hlt]
      rfl
    · refine (hrow (Dev.pdelayReqRx h p ingress egress)).trans ?_
      rw [Dev.pdelayReqRx_tile ingress hup hpass hlink egress htile]
      rfl
    · refine (hrow (Dev.pdelayRespRx h p ingress)).trans ?_
      rw [Dev.pdelayRespRx_measures ingress hup hpass hlink hout huid]
    · refine (hwire p (Dev.timSyncRx h p ingress egress)).trans ?_
      rw [Dev.onTile_open _ htile, Dev.timSyncRx_forwards hup hpass ingress egress hlink]
    · refine (hwire p (Dev.timAnnounceRx h p)).trans ?_
      rw [Dev.onTile_open _ htile, Dev.timAnnounceRx_forwards hup hpass hlink]
    · refine (hrow (fun d => d.onSender (Dev.pairSyncRx h p ingress))).trans ?_
      rw [Dev.onSender_open _ hsender, Dev.pairSyncRx_announce hup hpass ingress htype, ← hnow]
      rfl
    · refine (hrow (fun d => d.onSender (Dev.pairSyncRx h p ingress))).trans ?_
      rw [Dev.onSender_open _ hsender, Dev.pairSyncRx_sync hup hpass ingress htype hclosed hlt h4, Dev.partnerSync,
        Dev.countRx_now h d hpass, hnow]
      rfl

/-! ### Capture inputs (R101 to R106) -/

namespace Dev

section
variable {d : Dev} {n : Nat} {rising : Bool} {width : Nat}

/-- The level behind the glitch filter differs from that of an edge that changes it; before the first edge it is the
opposite of the edge's. -/
theorem filterLevel_ne (h : (d.cap n).level ≠ some rising) : (d.cap n).level.getD (!rising) ≠ rising := by
  cases hl : (d.cap n).level with
  | none => simp
  | some l =>
    rw [hl] at h
    exact fun he => h (congrArg some he)

theorem capStamp_setCap (m : Nat) (f : Capture → Capture) (d : Dev) : (d.setCap m f).capStamp n = d.capStamp n := rfl

/-- Is an edge of this direction one that CAPn_EDGE selects (R101)? -/
def edgeWanted (d : Dev) (n : Nat) (rising : Bool) : Bool :=
  d.obj (K.CAP_EDGE n) == 2 || (d.obj (K.CAP_EDGE n) == 0 && rising) || (d.obj (K.CAP_EDGE n) == 1 && !rising)

/-- The stamp of a selected edge is taken; any other edge leaves the device alone (R101, R106). -/
def stampEdge (n : Nat) (rising : Bool) (d : Dev) : Dev :=
  if d.edgeWanted n rising then
    (d.setObj (K.CAP_LAST_EDGE n) (d.capStamp n % 2 ^ 48)).capPush n (b2n rising * 2 ^ 63 + d.capStamp n % 2 ^ 48)
  else d

/-- What the monitor of an input's mode does with an edge (R103 to R105). -/
def monitorEdge (mode n at' : Nat) (rising wanted : Bool) (d : Dev) : Dev :=
  if mode = 2 then d.shutterEdge n at' (rising != (d.obj (K.CAP_INVERT n) == 1))
  else if mode = 3 && wanted then d.syncEdge n at'
  else d

/-- An edge behind the glitch filter is stamped, and then monitored. -/
theorem captureEdge_passes (hn : n < 8) (hwidth : 20 ≤ width) (hlevel : (d.cap n).level ≠ some rising)
    (hmode : d.obj (K.CAP_MODE n) ≠ 0) :
    d.captureEdge n rising width =
      ((d.setCap n (fun c => { c with level := some rising })).stampEdge n rising).monitorEdge (d.obj (K.CAP_MODE n)) n
        (d.capStamp n) rising (d.edgeWanted n rising) := by
  have hpass : ¬ (width < 20 ∨ (d.cap n).level.getD (!rising) = rising) :=
    not_or.mpr ⟨Nat.not_lt.mpr hwidth, filterLevel_ne hlevel⟩
  exact (if_neg (Nat.not_le.mpr hn)).trans ((if_neg hpass).trans (if_neg hmode))

/-- An edge of a pulse that is too short, or that brings the level back, only leaves the filter's level. -/
theorem captureEdge_filtered (hn : n < 8) (h : width < 20 ∨ (d.cap n).level = some rising) :
    d.captureEdge n rising width =
      d.setCap n (fun c => { c with level := some ((d.cap n).level.getD (!rising)) }) := by
  have hfilter : width < 20 ∨ (d.cap n).level.getD (!rising) = rising := h.imp id (fun hl => by rw [hl]; rfl)
  exact (if_neg (Nat.not_le.mpr hn)).trans (if_pos hfilter)

theorem shutterTimeout_open {o : Nat} (hopen : (d.cap n).openAt = some o) (hmode : d.mode ≠ 0)
    (hlate : o + d.baseFrame ≤ d.capStamp n) :
    d.shutterTimeout n = (d.setCap n (fun c => { c with openAt := none })).bump (K.CAP_OUTSIDE_COUNT n) := by
  simp [shutterTimeout, hopen, hmode, hlate]

end

end Dev

/-- Settles O23: the glitch filter passes the edge or keeps its level, and an exposure left open is forgotten. -/
theorem captureEdgesAreStamped : Obligations.CaptureEdgesAreStamped := by
  intro s t n d hruns hrec
  have hnow : d.now = t := Dev.begin_now t s.dev
  refine ⟨fun rising width hn hwidth hlevel hmode => ?passes, fun rising width hn h => ?filtered,
    fun o hopen hmode hlate => ?timeout⟩
  case passes =>
    have hstamp : d.capStamp n = ((t : Int) - d.objI 32 (K.CAP_DELAY_COMP n)).toNat := by rw [Dev.capStamp, hnow]
    refine (act_whenFirmware (Dev.captureEdge n rising width) hruns hrec).trans ?_
    rw [Dev.captureEdge_passes hn hwidth hlevel hmode]
    simp only [Dev.stampEdge, Dev.monitorEdge, Dev.capStamp_setCap, hstamp, Bool.and_eq_true, decide_eq_true_eq]
    rfl
  case filtered =>
    refine (act_whenFirmware (Dev.captureEdge n rising width) hruns hrec).trans ?_
    rw [Dev.captureEdge_filtered hn h]
  case timeout =>
    refine (act_whenFirmware (Dev.shutterTimeout n) hruns hrec).trans ?_
    rw [Dev.shutterTimeout_open hopen hmode (by rwa [Dev.capStamp, hnow])]

/-! ### Trigger outputs (R107 to R110) -/

namespace Dev

section
variable {d : Dev} {sid n v : Nat} {x : Session}

/-- A row write of TRIGn_MODE that nothing else forbids is judged by R108 and R109. -/
theorem rowWriteAt_trigMode (hn : n < 8) (hopen : ScalarOpen d sid (K.TRIG_MODE n) v x) :
    d.rowWriteAt 8 n sid (K.TRIG_MODE n) v =
      entryDone sid (K.TRIG_MODE n) (d.actIf false (d.trigModeCheck n v) (fun d => d.trigModeSet n v)) := by
  rw [rowWriteAt, if_pos hn, rowWrite_action hopen (action_trigMode d false x.id v n hn)]

theorem trigModeCheck_range {p : Nat} (hp : d.trigPeriod n v = some p) (h : p ≤ d.obj (K.TRIG_WIDTH n) + 20) :
    d.trigModeCheck n v = Status.RANGE := by
  simp [trigModeCheck, hp, h, Status.RANGE]

theorem trigModeCheck_tooLate (h : wallDiff (d.obj (K.TRIG_START n)) d.wall < 10000) :
    d.trigModeCheck n 1 = Status.TOO_LATE := by
  simp [trigModeCheck, trigPeriod, h, Status.TOO_LATE]

theorem trigModeCheck_ok (hp : ∀ p, d.trigPeriod n v = some p → d.obj (K.TRIG_WIDTH n) + 20 < p)
    (h : v = 1 → 10000 ≤ wallDiff (d.obj (K.TRIG_START n)) d.wall) : d.trigModeCheck n v = Status.OK := by
  have hstart : ¬ (v = 1 ∧ wallDiff (d.obj (K.TRIG_START n)) d.wall < 10000) := fun hl => absurd (h hl.1) (by omega)
  cases hper : d.trigPeriod n v with
  | none => simp [trigModeCheck, hper, hstart, Status.OK]
  | some p => simp [trigModeCheck, hper, hstart, Nat.not_le.mpr (hp p hper), Status.OK]

theorem trigFire_due (hn : n < 8) (h : d.trigDue n = true) :
    d.trigFire n =
      ((((d.setTrig n (fun g => { g with fired := true, pulseEnd := some (d.now + d.obj (K.TRIG_WIDTH n)) })).bumpWrap
        (K.TRIG_FIRED_COUNT n)).setObj (K.TRIG_LAST_EDGE n) d.wall).emit
          (.trig n (d.obj (K.TRIG_INVERT n) == 0) (d.obj (K.TRIG_WIDTH n)))) := by
  rw [trigFire, if_pos (by simp [hn, h])]
  rfl

end

end Dev

/-- Settles O24: what a write of TRIGn_MODE meets is one of the three answers of its check. -/
theorem triggersAreProgrammedAndFire : Obligations.TriggersAreProgrammedAndFire := by
  intro s t n hn
  have hnow : (s.dev.begin t).now = t := Dev.begin_now t s.dev
  refine ⟨fun sid v x hopen => ?mode, fun hruns hrec hdue => ?fire⟩
  case mode =>
    have hrow : exec (.trigModeWrite t sid n v) s = .next (after t s _) :=
      (act_eq t _ s).trans (by rw [Dev.rowWriteAt_trigMode hn hopen])
    rw [hrow]
    refine ⟨fun ⟨p, hp, hle⟩ => ?_, fun h1 hlate => ?_, fun hp hstart => ?_⟩
    · rw [Dev.trigModeCheck_range hp hle]
      rfl
    · rw [h1, Dev.trigModeCheck_tooLate hlate]
      rfl
    · rw [Dev.trigModeCheck_ok hp hstart]
      simp only [Dev.actIf, Dev.trigModeSet, Dev.trigStart, hnow]
      rfl
  case fire =>
    refine (act_whenFirmware (Dev.trigFire n) hruns hrec).trans ?_
    rw [Dev.trigFire_due hn hdue, hnow]

end Sys2Proof.Machine

/-!
PROOFS. Source ingest (04_ingest.md): frames and packets on the ingest ports (R112 to R114), the legs of a slot and what
becomes of their packets (R126 to R131), links, and the still buffers (R123 to R125, R162, R163).
-/
namespace Sys2Proof.Machine
open Sys2Proof.Safety

/-- An effect of a sender that goes on while its ports run. -/
theorem act_senderRuns {t : Time} {s : State} (f : Dev → Dev) (h : SenderRuns (s.dev.begin t)) :
    act t (fun d => d.whenPorts (fun d => d.onSender f)) s = .next (after t s (f (s.dev.begin t))) := by
  obtain ⟨hports, hsender⟩ := h
  rw [act_whenPorts _ hports, Dev.onSender_open _ hsender]

namespace Dev

/-! ### Frames on an ingest port (R112, R113) -/

section
variable {d : Dev} {port len : Nat} {vlan : Bool} (hport : d.portExists port = true)
include hport

theorem onFrame_dropped (f : Dev → Dev) (h : vlan = true ∨ 1522 < len) :
    d.onFrame ⟨port, vlan, len⟩ f = d.bump (K.ING_DROPPED port) := by
  simp [onFrame, hport, h]

theorem onFrame_taken (f : Dev → Dev) (hlen : len ≤ 1522) : d.onFrame ⟨port, false, len⟩ f = f d := by
  simp [onFrame, hport, Nat.not_lt.mpr hlen]

end

section
variable {d : Dev} {port : Nat}

theorem arpRx_own (sender mac : Nat) (h : d.obj (K.ING_IPV4_ADDR port) ≠ 0) :
    d.arpRx port (d.obj (K.ING_IPV4_ADDR port)) sender mac = d.emit (.arpReply port sender mac) := by
  simp [arpRx, h]

theorem icmpRx_own (src : Nat) (data : Bytes) (h : d.obj (K.ING_IPV4_ADDR port) ≠ 0) :
    d.icmpRx port (d.obj (K.ING_IPV4_ADDR port)) src data = d.emit (.icmpReply port src data) := by
  simp [icmpRx, h]

theorem igmpTx_groups (hport : d.portExists port = true) (h : d.groupsOf port ≠ []) :
    d.igmpTx port = d.emit (.igmpReport port (d.groupsOf port)) := by
  simp [igmpTx, hport, h]

/-- A link that comes up has a gearbox phase of its own (log entry 129). -/
theorem ingestLink_up (hn : port < 8) (hport : d.portExists port = true) :
    d.ingestLink port true =
      (({ d with free := d.free + 1 }).setTb (fun b => { b with
        ingestPhase := upd port (fun _ => Config.freeValue d.free % 2 ^ 32) b.ingestPhase })).setObj
          (K.ING_LINK port) 1 := by
  simp only [ingestLink, if_pos hn, hport]
  rfl

theorem ingestLink_down (hn : port < 8) :
    d.ingestLink port false =
      (d.setTb (fun b => { b with
        ingestPhase := upd port (fun _ => d.time.ingestPhase.getD port 0) b.ingestPhase })).setObj
          (K.ING_LINK port) 0 := by
  simp only [ingestLink, if_pos hn]
  rfl

/-! ### Packets and their legs (R114, R126 to R131) -/

theorem rtpRx_noLeg {p : RtpPkt} (h : ∀ nl ∈ allLegs, d.legMatches port p nl.1 nl.2 = false) :
    d.rtpRx port p = d.bump (K.ING_DROPPED port) := by
  have hnone : d.findLeg port p = none := List.find?_eq_none.mpr (fun nl hnl => by simp [h nl hnl])
  rw [rtpRx, hnone]

theorem rtpRx_leg {p : RtpPkt} {n l : Nat} (h : d.findLeg port p = some (n, l)) : d.rtpRx port p = d.legPacket n l p := by
  rw [rtpRx, h]

end

/-- The 32-bit sequence number of a packet (R126). -/
def rtpNumber (p : RtpPkt) : Nat := (p.extended % 65536) * 65536 + p.sequence % 65536

/-- A leg is heard now, and the slot's first copies age (R128). -/
def legHeard (n l : Nat) (d : Dev) : Dev :=
  ((d.setStream n (fun q => { q with legAt := upd l (fun _ => some d.now) q.legAt })).setObj (K.STR_LEG_STATE n)
    (setBit l true (d.obj (K.STR_LEG_STATE n)))).ageSeen n

/-- A number is noted as seen on a leg. -/
def numberSeen (n l seq : Nat) (d : Dev) : Dev :=
  d.setStream n (fun q => { q with seen := (seq, l, d.now) :: q.seen })

/-- Has the slot a frame of this time-stamp, or discarded one less than 2 s ago? -/
def stampKnown (d : Dev) (n stamp : Nat) : Bool :=
  (d.stream n).frames.any (fun f => f.stamp == stamp) ||
    (d.stream n).dropped.any (fun z => z.1 == stamp && decide (d.now < z.2 + 2000000000))

/-- A packet goes into its frame, which is opened where its time-stamp is new (R130). -/
def placeInFrame (n : Nat) (p : RtpPkt) (d : Dev) : Dev :=
  if d.stampKnown n p.timestamp then d.placePacket n (rtpNumber p) p
  else (d.openFrame n p.timestamp).placePacket n (rtpNumber p) p

@[simp] theorem legHeard_now (n l : Nat) (d : Dev) : (d.legHeard n l).now = d.now := rfl

/-- What becomes of a packet on the leg that has heard it: the checks of R126 to R128, one after the other. -/
theorem legPacket_eq (n l : Nat) (p : RtpPkt) (d : Dev) :
    d.legPacket n l p =
      if p.version ≠ 2 ∨ 3 < p.segments.length then d.legHeard n l
      else if p.segments.any ((d.legHeard n l).segmentBad n) then (d.legHeard n l).bump (K.STR_PKT_MALFORMED n)
      else if (d.legHeard n l).skewed n l (rtpNumber p) then (d.legHeard n l).bump (K.STR_SKEW_EXCEEDED n)
      else if ((d.legHeard n l).stream n).seen.any (fun x => x.1 == rtpNumber p) then d.legHeard n l
      else ((d.legHeard n l).numberSeen n l (rtpNumber p)).placeInFrame n p := by
  rw [placeInFrame, ← apply_ite (fun e => placePacket n (rtpNumber p) p e)]
  rfl

section
variable {d : Dev} {n l : Nat} {p : RtpPkt}

theorem legPacket_otherFormat (h : p.version ≠ 2 ∨ 3 < p.segments.length) : d.legPacket n l p = d.legHeard n l := by
  rw [legPacket_eq, if_pos h]

section
variable (hver : p.version = 2) (hlen : p.segments.length ≤ 3)
include hver hlen

theorem legPacket_malformed (hbad : p.segments.any ((d.legHeard n l).segmentBad n) = true) :
    d.legPacket n l p = (d.legHeard n l).bump (K.STR_PKT_MALFORMED n) := by
  rw [legPacket_eq, if_neg (by omega), if_pos hbad]

variable (hgood : p.segments.any ((d.legHeard n l).segmentBad n) = false)
include hgood

theorem legPacket_skewed (hskew : (d.legHeard n l).skewed n l (rtpNumber p) = true) :
    d.legPacket n l p = (d.legHeard n l).bump (K.STR_SKEW_EXCEEDED n) := by
  rw [legPacket_eq, if_neg (by omega), if_neg (ne_true_of_eq_false hgood), if_pos hskew]

variable (hskew : (d.legHeard n l).skewed n l (rtpNumber p) = false)
include hskew

theorem legPacket_copy (hseen : ((d.legHeard n l).stream n).seen.any (fun x => x.1 == rtpNumber p) = true) :
    d.legPacket n l p = d.legHeard n l := by
  rw [legPacket_eq, if_neg (by omega), if_neg (ne_true_of_eq_false hgood), if_neg (ne_true_of_eq_false hskew),
    if_pos hseen]

theorem legPacket_firstCopy (hseen : ((d.legHeard n l).stream n).seen.any (fun x => x.1 == rtpNumber p) = false) :
    d.legPacket n l p = ((d.legHeard n l).numberSeen n l (rtpNumber p)).placeInFrame n p := by
  rw [legPacket_eq, if_neg (by omega), if_neg (ne_true_of_eq_false hgood), if_neg (ne_true_of_eq_false hskew),
    if_neg (ne_true_of_eq_false hseen)]

end
end

end Dev

section
variable {s : State} {t : Time} {port : Nat} (hruns : SenderRuns (s.dev.begin t))
include hruns

/-- A frame that an existing port of a running sender drops (R113). -/
theorem act_onFrame_dropped {vlan : Bool} {len : Nat} (f : Dev → Dev) (hport : (s.dev.begin t).portExists port = true)
    (h : vlan = true ∨ 1522 < len) :
    act t (fun d => d.whenPorts (fun d => d.onSender (fun d => d.onFrame ⟨port, vlan, len⟩ f))) s =
      .next (after t s ((s.dev.begin t).bump (K.ING_DROPPED port))) := by
  rw [act_senderRuns _ hruns, Dev.onFrame_dropped hport f h]

/-- A frame that an existing port of a running sender takes (R113). -/
theorem act_onFrame_taken {len : Nat} (f : Dev → Dev) (hport : (s.dev.begin t).portExists port = true)
    (hlen : len ≤ 1522) :
    act t (fun d => d.whenPorts (fun d => d.onSender (fun d => d.onFrame ⟨port, false, len⟩ f))) s =
      .next (after t s (f (s.dev.begin t))) := by
  rw [act_senderRuns _ hruns, Dev.onFrame_taken hport f hlen]

end

/-- A packet that carries no tag and is not too long reaches the port's legs. -/
theorem exec_rtpPacket_taken {s : State} {t : Time} {port : Nat} {p : RtpPkt} (hruns : SenderRuns (s.dev.begin t))
    (hport : (s.dev.begin t).portExists port = true) (hvlan : p.vlan = false) (hlen : p.frameLen ≤ 1522) :
    exec (.ingestRtpPacket t port p) s = .next (after t s ((s.dev.begin t).rtpRx port p)) := by
  have hrow := act_onFrame_taken hruns (fun d => d.rtpRx port p) hport hlen
  rw [← hvlan] at hrow
  exact hrow

/-- Settles O25: a frame is dropped or taken, a packet taken finds its leg or is dropped, and its checks come in order. -/
theorem ingestPortsTakeTheirPackets : Obligations.IngestPortsTakeTheirPackets := by
  intro s t port d hruns
  have hnow : d.now = t := Dev.begin_now t s.dev
  refine ⟨fun hport => ⟨fun p hdrop => ?dropped, fun p n l hvlan hlen hleg => ?leg,
    fun sender mac len haddr hlen => ?arp, fun src data len haddr hlen => ?icmp,
    fun vlan len target src mac data htag => ⟨?arpDropped, ?icmpDropped⟩, fun hgroups => ?igmp,
    fun hn => ⟨?linkUp, ?linkDown⟩⟩, fun up => ?mgmt⟩
  case dropped =>
    by_cases htag : p.vlan = true ∨ 1522 < p.frameLen
    · exact act_onFrame_dropped hruns (fun d => d.rtpRx port p) hport htag
    · obtain ⟨hvlan, hlen⟩ := not_or.mp htag
      rw [exec_rtpPacket_taken hruns hport (eq_false_of_ne_true hvlan) (Nat.not_lt.mp hlen),
        Dev.rtpRx_noLeg ((or_assoc.mpr hdrop).resolve_left htag)]
  case leg =>
    rw [exec_rtpPacket_taken hruns hport hvlan hlen, Dev.rtpRx_leg hleg]
    intro e seq e'
    have he : e = d.legHeard n l := by rw [Dev.legHeard, hnow]
    have he' : e' = (d.legHeard n l).numberSeen n l (Dev.rtpNumber p) := by
      rw [Dev.numberSeen, Dev.legHeard_now, hnow, ← he]
      rfl
    have hnow' : e'.now = t := hnow
    rw [he]
    refine ⟨fun hother => ?_, fun hver hsegs => ⟨fun hbad => ?_, fun hgood => ⟨fun hskew => ?_,
      fun hskew => ⟨fun hseen => ?_, fun hseen => ?_⟩⟩⟩⟩
    · rw [Dev.legPacket_otherFormat hother]
    · rw [Dev.legPacket_malformed hver hsegs hbad]
    · rw [Dev.legPacket_skewed hver hsegs hgood hskew]
    · rw [Dev.legPacket_copy hver hsegs hgood hskew hseen]
    · rw [Dev.legPacket_firstCopy hver hsegs hgood hskew hseen, ← he', Dev.placeInFrame, Dev.stampKnown, hnow']
      rfl
  case arp =>
    rw [← Dev.arpRx_own sender mac haddr]
    exact act_onFrame_taken hruns (fun d => d.arpRx port _ sender mac) hport hlen
  case icmp =>
    rw [← Dev.icmpRx_own src data haddr]
    exact act_onFrame_taken hruns (fun d => d.icmpRx port _ src data) hport hlen
  case arpDropped => exact act_onFrame_dropped hruns (fun d => d.arpRx port target src mac) hport htag
  case icmpDropped => exact act_onFrame_dropped hruns (fun d => d.icmpRx port target src data) hport htag
  case igmp =>
    rw [← Dev.igmpTx_groups hport hgroups]
    exact act_senderRuns (Dev.igmpTx port) hruns
  case linkUp =>
    rw [← Dev.ingestLink_up hn hport]
    exact act_senderRuns (Dev.ingestLink port true) hruns
  case linkDown =>
    rw [← Dev.ingestLink_down hn]
    exact act_senderRuns (Dev.ingestLink port false) hruns
  case mgmt =>
    obtain ⟨hports, hsender⟩ := hruns
    refine (act_eq t _ s).trans ?_
    rw [Dev.onSender_open _ hsender, if_pos (by simp [hports])]

/-! ### Frames that stay incomplete, and legs that fall silent (R130, R131) -/

namespace Dev

/-- Is a frame open still, 20 ms after its end (R130)? -/
def frameLate (at' : Time) (f : InFrame) : Bool :=
  f.completeAt.isNone && !f.closed &&
    (match f.endAt with
      | none => false
      | some e => decide (e + 20000000 ≤ at'))

theorem closeFrames_eq (n : Nat) (d : Dev) :
    d.closeFrames n =
      ((d.stream n).frames.filter (frameLate d.now)).foldl (fun d f => d.endIncomplete n f)
        (d.setStream n (fun q => { q with
          frames := q.frames.map (fun f => if frameLate d.now f then { f with closed := true } else f) })) := rfl

section
variable {d : Dev} {n : Nat}

theorem legLost_silent {l a : Nat} (hleg : (d.stream n).legAt.getD l none = some a) (h : a + 10000000 ≤ d.now) :
    d.legLost n l =
      (d.setStream n (fun q => { q with legAt := upd l (fun _ => none) q.legAt })).setObj (K.STR_LEG_STATE n)
        (setBit l false (d.obj (K.STR_LEG_STATE n))) := by
  rw [legLost, hleg]
  exact if_pos h

/-! ### Captures (R123, R125) -/

theorem tryCapture_complete {m w u : Nat} {f : InFrame} (hcap : (d.stillSt n).capture = some (m, w)) (hw : w ≤ d.now)
    (hframe : d.candidate m w = some f) (hdone : f.completeAt = some u) :
    d.tryCapture n =
      (d.setStill n (fun q => { q with rows := f.rows, capture := none })).setObj (K.STILL_STATE n) 2 := by
  simp only [tryCapture, hcap, if_neg (Nat.not_lt.mpr hw), hframe, hdone]

theorem captureTimeout_late {m w : Nat} (hcap : (d.stillSt n).capture = some (m, w)) (h : w + 1000000000 ≤ d.now) :
    d.captureTimeout n = d.stillFail n := by
  rw [captureTimeout, hcap]
  exact if_pos h

variable {sid v : Nat} {x : Session}

theorem rowWriteAt_stillCapture (hn : n < 16) (hopen : ScalarOpen d sid (K.STILL_CAPTURE n) v x)
    (hok : d.captureCheck n v = Status.OK) :
    d.rowWriteAt 16 n sid (K.STILL_CAPTURE n) v =
      (d.captureStart n v).emit (.entry sid (K.STILL_CAPTURE n) Status.OK) := by
  rw [rowWriteAt, if_pos hn, rowWrite_action hopen (action_stillCapture d false x.id v n hn), hok]
  rfl

/-! ### Releases (R163) -/

theorem rowWriteAt_stillRelease (hn : n < 16) (hopen : ScalarOpen d sid (K.STILL_RELEASE n) v x) :
    d.rowWriteAt 16 n sid (K.STILL_RELEASE n) v =
      entryDone sid (K.STILL_RELEASE n) (d.actIf false (d.releaseCheck n) (fun d => d.stillRelease n)) := by
  rw [rowWriteAt, if_pos hn, rowWrite_action hopen (action_stillRelease d false x.id v n hn)]

theorem rowWriteAt_stillRelease_loading (hn : n < 16) (hopen : ScalarOpen d sid (K.STILL_RELEASE n) v x)
    (h : d.stillState n = 1) :
    d.rowWriteAt 16 n sid (K.STILL_RELEASE n) v = d.emit (.entry sid (K.STILL_RELEASE n) Status.BUSY) := by
  rw [rowWriteAt_stillRelease hn hopen, releaseCheck, if_pos h]
  rfl

theorem rowWriteAt_stillRelease_ok (hn : n < 16) (hopen : ScalarOpen d sid (K.STILL_RELEASE n) v x)
    (h : d.stillState n ≠ 1) :
    d.rowWriteAt 16 n sid (K.STILL_RELEASE n) v =
      (d.stillRelease n).emit (.entry sid (K.STILL_RELEASE n) Status.OK) := by
  rw [rowWriteAt_stillRelease hn hopen, releaseCheck, if_neg h]
  rfl

theorem stillRelease_held (h : d.stillState n = 3) :
    d.stillRelease n = d.setStill n (fun q => { q with releasing := true }) := if_pos h

theorem stillRelease_filled (h : d.stillState n = 2 ∨ d.stillState n = 4) : d.stillRelease n = d.stillEmpty n :=
  (if_neg (by omega)).trans (if_pos h)

theorem stillRelease_empty (h : d.stillState n = 0) : d.stillRelease n = d :=
  (if_neg (by omega)).trans (if_neg (by omega))

/-! ### Uploads (R124) -/

theorem blobNext_stillData (hn : n < 16) (total : Nat) : d.blobNext (K.STILL_DATA n) total = Status.OK := by
  have hi : K.STILL_DATA n / 256 = 0x3200 + n := by unfold K.STILL_DATA; omega
  have hcal : K.STILL_DATA n ≠ K.PRISM_CAL_IMAGE := by unfold K.STILL_DATA K.PRISM_CAL_IMAGE; omega
  have hmap : K.STILL_DATA n ≠ K.LDL_LAMP_MAP := by unfold K.STILL_DATA K.LDL_LAMP_MAP; omega
  unfold blobNext
  simp only [hi]
  rw [if_neg (by omega), if_neg hcal, if_neg hmap, if_neg (by omega)]

theorem blobDone_stillData (hn : n < 16) (data : Bytes) (rb : Bool) :
    d.blobDone (K.STILL_DATA n) data rb = (Status.OK, d.stillDone n data) := by
  have hi : K.STILL_DATA n / 256 = 0x3200 + n := by unfold K.STILL_DATA; omega
  have hcommand : K.STILL_DATA n ≠ K.OVL_COMMAND := by unfold K.STILL_DATA K.OVL_COMMAND; omega
  have hcal : K.STILL_DATA n ≠ K.PRISM_CAL_IMAGE := by unfold K.STILL_DATA K.PRISM_CAL_IMAGE; omega
  have hkey : K.STILL_DATA n ≠ K.OTP_SAFETY_KEY := by unfold K.STILL_DATA K.OTP_SAFETY_KEY; omega
  unfold blobDone
  simp only [hi]
  rw [if_neg hcommand, if_neg hcal, if_neg hkey, if_pos (by omega), Nat.add_sub_cancel_left]

/-- A last chunk gives the whole value to the BLOB's chapter. -/
theorem takeChunk_last {b : Chunk} (sid txn k : Nat) (data : Bytes) (done : Bytes → Dev → Nat × Dev) (d : Dev)
    (h : b.more = false) : d.takeChunk sid txn k b data done = done data (d.dropStage sid txn k) :=
  if_neg (ne_true_of_eq_false h)

/-- The last chunk of an upload makes the buffer Ready. -/
theorem rowChunk_stillData_last {b : Chunk} {g : BlobStage} (hn : n < 16) (h : ChunkOpen d sid (K.STILL_DATA n) b x)
    (hstage : d.stageOf x.id 0 (K.STILL_DATA n) = some g) (hfits : chunkFits g b = true) (hlast : b.more = false) :
    d.rowChunk sid (K.STILL_DATA n) b true =
      ((d.dropStage x.id 0 (K.STILL_DATA n)).stillDone n (g.data ++ b.data)).emit
        (.entry sid (K.STILL_DATA n) Status.OK) := by
  rw [rowChunk_following true h (blobNext_stillData hn b.total) hstage, if_pos hfits, takeChunk_last _ _ _ _ _ _ hlast,
    wholeDone, blobDone_stillData hn]
  rfl

end

end Dev

/-- Settles O26: each timer finds what it times, and each write takes the branch of the buffer's state. -/
theorem framesAndStillsFollowTheirStates : Obligations.FramesAndStillsFollowTheirStates := by
  intro s t n d
  have hnow : d.now = t := Dev.begin_now t s.dev
  refine ⟨fun hruns => ⟨?incomplete, fun l a hleg hsilent => ?legLoss, fun m w f u hcap hw hframe hdone => ?instant,
    fun m w hcap hlate => ?timeout⟩, fun hn sid x => ⟨fun v hopen hok => ?capture, fun v hopen => ?release,
    fun b g hopen hstage hfits hlast => ?upload⟩⟩
  case incomplete =>
    refine (act_senderRuns (Dev.closeFrames n) hruns).trans ?_
    rw [Dev.closeFrames_eq, hnow]
    rfl
  case legLoss =>
    rw [← hnow] at hsilent
    rw [← Dev.legLost_silent hleg hsilent]
    exact act_senderRuns (Dev.legLost n l) hruns
  case instant =>
    rw [← hnow] at hw
    rw [← Dev.tryCapture_complete hcap hw hframe hdone]
    exact act_senderRuns (Dev.tryCapture n) hruns
  case timeout =>
    rw [← hnow] at hlate
    refine (act_senderRuns (Dev.captureTimeout n) hruns).trans ?_
    rw [Dev.captureTimeout_late hcap hlate]
    rfl
  case capture =>
    refine (act_eq t _ s).trans ?_
    rw [Dev.rowWriteAt_stillCapture hn hopen hok, Dev.captureStart, hnow]
  case release =>
    have hrow : exec (.stillRelease t sid n v) s =
        .next (after t s (d.rowWriteAt 16 n sid (K.STILL_RELEASE n) v)) := act_eq t _ s
    rw [hrow]
    refine ⟨fun hheld => ?_, fun hfilled => ?_, fun hloading => ?_, fun hempty => ?_⟩
    · rw [Dev.rowWriteAt_stillRelease_ok hn hopen (by omega), Dev.stillRelease_held hheld]
    · rw [Dev.rowWriteAt_stillRelease_ok hn hopen (by omega), Dev.stillRelease_filled hfilled]
      rfl
    · rw [Dev.rowWriteAt_stillRelease_loading hn hopen hloading]
    · rw [Dev.rowWriteAt_stillRelease_ok hn hopen (by omega), Dev.stillRelease_empty hempty]
  case upload =>
    have hmem : (Instr.stillDataWrite t sid n b, K.STILL_DATA n, 16) ∈ blobRows t sid n b := by simp [blobRows]
    rw [exec_blobRow hmem hn s, Dev.rowChunk_stillData_last hn hopen hstage hfits hlast]
    rfl

end Sys2Proof.Machine

/-!
PROOFS. The Wale codec and the check values of the CRCs (06_wale_codec.md, 16_check_units.md): wales coded and sent on a
sender (R191 to R200, R221, R336), fragments, decoding, path selection, Prism and the load of the drivers on a tile (R201 to
R206, R220 to R224, R240, R414, R418, R430, R588), and the algorithms of R475.
-/
namespace Sys2Proof.Machine
open Sys2Proof.Safety

/-! ### CRCs (R192, R279, R475, R476) -/

/-- The nine characters over which R475 gives its check values. -/
def checkString : Bytes := [0x31, 0x32, 0x33, 0x34, 0x35, 0x36, 0x37, 0x38, 0x39]

theorem crcFeed_checkString :
    crcFeed (crcAlg 1) (crcAlg 1).init checkString ^^^ (crcAlg 1).xorOut = 0xCBF43926 ∧
      crcFeed (crcAlg 2) (crcAlg 2).init checkString ^^^ (crcAlg 2).xorOut = 0xE3069283 ∧
      crcFeed (crcAlg 3) (crcAlg 3).init checkString ^^^ (crcAlg 3).xorOut = 0x29B1 ∧
      crcFeed (crcAlg 4) (crcAlg 4).init checkString ^^^ (crcAlg 4).xorOut = 0x6C40DF5F0B497347 := by
  decide +kernel

/-- The register carries all that the bytes fed so far leave behind (R476). -/
theorem crcFeed_append (alg : CrcAlg) (r : Nat) (a b : Bytes) :
    crcFeed alg r (a ++ b) = crcFeed alg (crcFeed alg r a) b := by
  induction a generalizing r with
  | nil => rfl
  | cons x a ih => exact ih (crcByte alg r x)

/-- Settles O57: the check values are computed, and a split of the bytes is an append. -/
theorem crcsGiveTheirCheckValues : Obligations.CrcsGiveTheirCheckValues := by
  obtain ⟨hcrc32, hcrc32c, hcrc16, hcrc64⟩ := crcFeed_checkString
  simp only [Obligations.CrcsGiveTheirCheckValues, crc32c, crc16, crcOf]
  rw [checkString] at hcrc32 hcrc32c hcrc16 hcrc64
  exact ⟨hcrc32, hcrc32c, hcrc16, hcrc64, hcrc32c, hcrc16, fun n => crcFeed_append (crcAlg n)⟩

namespace Dev

/-! ### Wales on a sender (R191 to R200, R221, R336) -/

@[simp] theorem settleSelection_now (t : Time) (d : Dev) : (d.settleSelection t).now = d.now := by
  obtain ⟨_, _, _, _, _, _, _, h⟩ := settleSelection_begun t d
  rw [h]

/-- The reference of wale `i` of a region in facet number `q` (R180). -/
def encodeRef (d : Dev) (q i : Nat) (g : EncRegion) : RefWale :=
  refFor g.refs (q % facetCount d.mode) i ((q / facetCount d.mode) % 2 ^ 32) g.w16

/-- The bits that the facet's budget leaves for wale `i` of a region, with room kept for the wales after it (R198, R199). -/
def encodeRoom (d : Dev) (h : PortId) (i : Nat) (g : EncRegion) : Nat :=
  let b := g.w16 * 16 * (g.h16 * 16) * d.obj (K.ENC_BPP_BUDGET h) / 256
  b - (g.h16 - 1 - i) * (b / (16 * g.h16)) - g.spent

/-- Wale `i` of a region coded in time: against its reference, with the refresh column of R181 outside band mode. -/
def codeInTime (d : Dev) (h : PortId) (q i : Nat) (g : EncRegion) : WaleOut :=
  codeWale (d.bandMode h) g.e (d.obj (K.ENC_E_MAX h)) (d.encodeRef q i g)
    (if d.bandMode h then none else some ((q / facetCount d.mode) % g.w16)) (d.composedWale (q % facetCount d.mode) g i)
    (d.encodeRoom h i g)

/-- A coded wale leaves composition and the port; with the facet's last one the check rectangles report (R336). -/
def passOn (h : PortId) (dist q i : Nat) (g : EncRegion) (ref : RefWale) (late : Bool) (o : WaleOut) (d : Dev) :
    Dev :=
  let e := (d.notePassed g i late).emitWale h dist q i g ref o
  if e.facetPassed q then e.senderChecks q else e

section
variable {d : Dev} {h : PortId} {dist i q : Nat} {g : EncRegion} (hregion : d.regionAt h dist i = some (q, g))
include hregion

theorem encodeMet_inTime (hdue : d.now ≤ d.encodeDeadline q g.h16 i) :
    d.encodeMet h dist i { fault := .sound } = d.passOn h dist q i g (d.encodeRef q i g) false (d.codeInTime h q i g) := by
  have hsound : d.encodeMet h dist i { fault := .sound } = d.encodeWale h dist i := rfl
  simp only [hsound, encodeWale, hregion, if_neg (Nat.not_lt.mpr hdue)]
  rfl

theorem lateWale_due (hdue : d.encodeDeadline q g.h16 i ≤ d.now) :
    d.lateWale h dist i =
      (d.bump K.COMP_WALES_LATE).passOn h dist q i g (d.encodeRef q i g) true (truncForm (d.encodeRef q i g)) := by
  simp only [lateWale, hregion, if_neg (Nat.not_lt.mpr hdue)]
  rfl

end

end Dev

/-- Settles O28: the region's wale is in time or due, and each of the two passes it on coded or truncated. -/
theorem walesAreCodedAndSent : Obligations.WalesAreCodedAndSent := by
  intro s t h dist i q g hruns d hregion
  have hnow : (s.dev.begin t).now = t := Dev.begin_now t s.dev
  have hd : (s.dev.begin t).settleSelection ((s.dev.begin t).now + 1) = d := by rw [hnow]
  have hdnow : d.now = t := (Dev.settleSelection_now _ _).trans hnow
  refine ⟨fun hdue => ?inTime, fun hdue => ?late⟩
  case inTime =>
    rw [← hdnow] at hdue
    refine (act_senderRuns _ hruns).trans ?_
    rw [hd, Dev.encodeMet_inTime hregion hdue]
    rfl
  case late =>
    rw [← hdnow] at hdue
    refine (act_senderRuns _ hruns).trans ?_
    rw [hd, Dev.lateWale_due hregion hdue]
    rfl

/-- An effect of a tile that goes on while its ports run. -/
theorem act_tileRuns {t : Time} {s : State} (f : Dev → Dev) (h : TileRuns (s.dev.begin t)) :
    act t (fun d => d.whenPorts (fun d => d.onTile f)) s = .next (after t s (f (s.dev.begin t))) := by
  obtain ⟨hports, htile⟩ := h
  rw [act_whenPorts _ hports, Dev.onTile_open _ htile]

namespace Dev

/-! ### Fragments on a tile (R405, R414, R418, R588) -/

/-- A device whose ports run is not Halted. -/
theorem not_halted_of_portsRun {d : Dev} (h : d.portsRun = true) : (d.start.run == .halted) = false := by
  cases hr : d.start.run with
  | halted => simp [portsRun, baseRun, hr] at h
  | _ => rfl

section
variable {d : Dev} {h : PortId} {p : Packet} (htile : d.isTile = true) (hup : d.portUp h = true) (hlink : pktLink p = false)
include htile hup hlink

/-- What a tile does with a sound packet that names it, by the UNIQUE_ID of its body. -/
theorem pixRx_mine (can : Bool) (hme : targetsMe p = true) (hpass : pktPasses p = true) (hlen : 17 ≤ p.body.length) :
    d.pixRx h p can =
      if fieldAt 0 4 p.body ≠ d.fix.fuses.uid % 2 ^ 32 then (d.countRx h p).bump (K.WITHY_MISADDRESSED h)
      else if (d.countRx h p).tileActive then (d.countRx h p).takeFragment h p.body
      else d.countRx h p := by
  simp [pixRx, hup, tile_not_sender htile, hlink, hme, hpass, Nat.not_lt.mpr hlen]

/-- What a tile does with a packet for another tile, where its other port is Up. -/
theorem pixRx_other (can : Bool) (hme : targetsMe p = false) (hother : (d.countRx h p).portUp (otherPort h) = true) :
    d.pixRx h p can =
      if can = true ∨ ((d.countRx h p).port h).rate ≤ ((d.countRx h p).port (otherPort h)).rate then
        (d.countRx h p).forward h p p.body
      else (d.countRx h p).bump (K.WITHY_PIX_DROPPED (otherPort h)) := by
  simp [pixRx, hup, tile_not_sender htile, hlink, hme, hother]

end

/-! ### Path selection (R206, R223, R239, R430) -/

/-- Both paths decode wale `i` of facet number `q` with what has arrived, its tests armed (R203, R317). -/
def decodeBoth (q i : Nat) (d : Dev) : Dev :=
  let c := facetCount d.mode
  ((d.armTests q).decodeWale 0 ((q / c) % 2 ^ 32) (q % c) i).decodeWale 1 ((q / c) % 2 ^ 32) (q % c) i

/-- What a wale shows where no path gives it: the loss end state or the display buffer (R206, R240). -/
def standingRow (d : Dev) (j i : Nat) : List PixWord := if d.tile.endShow then d.endRow i else d.dispRow j i

/-- Source selection for a wale of which path selection gave `picked` over `back` (SCAN_SOURCE, the loss end state of R240). -/
def sourceRow (d : Dev) (i : Nat) (back picked : List PixWord) : List PixWord :=
  match d.obj K.SCAN_SOURCE with
  | 0 => picked
  | 1 => if d.tile.endShow then back else d.patternRow i
  | _ => if d.tile.endShow then back else d.imageRow (d.obj K.SCAN_IMAGE_SELECT) i

/-- A selected wale joins the pass; with the last one the facet is judged (R239, R240). -/
def takeSelected (i : Nat) (picked src : List PixWord) (d : Dev) : Dev :=
  let e := d.setTile (fun z => { z with sel := z.sel ++
    [{ wale := i, picked := picked, src := src, shown := d.overlayRow i src, prism := none, loaded := false,
       missed := false }] })
  if i + 1 = e.wales then e.judgeLost else e

/-- Path selection closes for a wale that both paths have decoded. -/
def selectWale (j i : Nat) (d : Dev) : Dev :=
  let back := d.standingRow j i
  let r := d.pickWale i back
  r.2.takeSelected i r.1 (r.2.sourceRow i back r.1)

theorem selectionClose_due {d : Dev} {q i : Nat} {f : Time} (hpass : d.tile.pass = some (q, f))
    (hactive : d.tileActive = true) (hi : i < d.wales) (hclose : d.closeTime q i ≤ d.now)
    (hsel : d.tile.sel.any (fun y => y.wale == i) = false) (hcomposed : d.passUncomposed q = false) :
    d.selectionClose i = (d.decodeBoth q i).selectWale (q % facetCount d.mode) i := by
  have hopen : ¬ ((!d.tileActive) = true ∨ d.wales ≤ i ∨ d.now < d.closeTime q i ∨
      d.tile.sel.any (fun y => y.wale == i) = true ∨ d.passUncomposed q = true) := by
    simp [hactive, Nat.not_le.mpr hi, Nat.not_lt.mpr hclose, hsel, hcomposed]
  simp only [selectionClose, hpass]
  rw [if_neg hopen]
  rfl

/-! ### Prism and loading (R220 to R224) -/

/-- What Prism gives for a selected wale of facet index `j`, position by position (R245 to R263). -/
def prismOuts (d : Dev) (j i : Nat) (y : SelWale) : List SlotOut :=
  (y.shown.zip (List.range y.shown.length)).flatMap (fun z =>
    d.prismPixel (16 * i * d.regionW + z.2) (z.1.r, z.1.g, z.1.b) (fun p => d.rangeBit j i (4 * z.2 + p)))

/-- A corrected wale joins the pass, its clips counted; with the last one the facet is counted (R251, R259). -/
def takeCorrected (i : Nat) (outs : List SlotOut) (d : Dev) : Dev :=
  let e := (d.bumpBy (outs.filter (·.clipNeg)).length K.PRISM_CLIP_NEG).bumpBy
    (outs.filter (·.clipFull)).length K.PRISM_CLIP_FULL
  let e := e.setSel i (fun z => { z with prism := some (outs.map (fun o => { count := o.count, low := o.low })) })
  if i + 1 = e.wales then e.bumpWrap K.PRISM_FACETS else e

/-- A wale's drive words go into the back banks and the load image, its pixels into the display buffer (R220, R222). -/
def loadSelected (j i : Nat) (words : List Nat) (px : List PixWord) (d : Dev) : Dev :=
  ((d.loadRows j i words).setSel i (fun z => { z with loaded := true })).setTile (fun z => { z with
    image := putLoad { facet := j, wale := i, words := words, counts := true } z.image
    disp := putDisp { facet := j, wale := i, px := px } z.disp })

section
variable {d : Dev} {q i : Nat} {f : Time} (hpass : d.tile.pass = some (q, f))
include hpass

section
variable {y : SelWale} (hy : d.selOf i = some y) (hmissed : y.missed = false)
include hy hmissed

theorem prismMet_selected (hprism : y.prism = none) (hkept : d.tile.abandoned.contains i = false) :
    d.prismMet i { fault := .sound } =
      d.takeCorrected i (d.prismOuts (q % facetCount d.mode) i y) := by
  have hsound : d.prismMet i { fault := .sound } = d.prismWale i := rfl
  have hopen : ¬ (y.prism.isSome = true ∨ y.missed = true ∨ d.tile.abandoned.contains i = true) := by
    simpa [hprism, hmissed] using hkept
  simp only [hsound, prismWale, hpass, hy]
  rw [if_neg hopen]
  rfl

theorem waleLoad_ready {ws : List SlotWord} (hprism : y.prism = some ws) (hloaded : y.loaded = false)
    (hbefore : d.loadedBefore i = true) (hdue : d.now ≤ d.waleDue (facetAt d.mode q) i) :
    d.waleLoad i =
      d.loadSelected (q % facetCount d.mode) i (d.driveWords i ws) y.src := by
  have hopen : (y.loaded || y.missed || !d.loadedBefore i || decide (d.waleDue (facetAt d.mode q) i < d.now)) = false := by
    simp [hloaded, hmissed, hbefore, Nat.not_lt.mpr hdue]
  simp only [waleLoad, hpass, hy, hprism, hopen]
  rfl

end

/-- At its deadline a wale that path selection never gave comes from the load image (R224). -/
theorem waleLoadDeadline_unselected (hactive : d.tileActive = true) (hi : i < d.wales)
    (hdue : d.waleDue (facetAt d.mode q) i ≤ d.now) (hcomposed : d.passUncomposed q = false) (hnone : d.selOf i = none) :
    d.waleLoadDeadline i = d.loadFromImage q i := by
  have hopen : ¬ ((!d.tileActive) = true ∨ d.wales ≤ i ∨ d.now < d.waleDue (facetAt d.mode q) i ∨
      d.passUncomposed q = true) := by
    simp [hactive, Nat.not_le.mpr hi, Nat.not_lt.mpr hdue, hcomposed]
  simp only [waleLoadDeadline, hpass, hnone]
  rw [if_neg hopen]

end

theorem lossHoldEnd_enough {d : Dev} (htile : d.isTile = true) (hholding : d.obj K.SCAN_STATE = 4)
    (hrun : d.obj K.LOSS_HOLD_FACETS ≤ d.tile.lostRun) : d.lossHoldEnd = d.setScan 5 :=
  if_pos ⟨htile, hholding, hrun⟩

end Dev

/-- A packet on a port of a running tile reaches PIX reception: such a tile is not Halted. -/
theorem exec_pixFragment_tile {s : State} {t : Time} (h : PortId) (p : Packet) (can : Bool)
    (hports : (s.dev.begin t).portsRun = true) :
    exec (.pixFragmentReceived t h p can) s = .next (after t s ((s.dev.begin t).pixRx h p can)) := by
  show Host.Outcome.next (after t s (if (s.dev.begin t).start.run == .halted && !can then s.dev.begin t
    else (s.dev.begin t).wire h p (fun d => d.pixRx h p can))) = _
  rw [Dev.not_halted_of_portsRun hports, Dev.wire_open h p _ hports]
  rfl

/-- Settles O29: each row reaches its meaning, and each meaning takes the branch of its premises. -/
theorem aTileTakesDecodesAndLoadsWales : Obligations.ATileTakesDecodesAndLoadsWales := by
  intro s t d hruns
  have ⟨hports, htile⟩ := hruns
  have hnow : d.now = t := Dev.begin_now t s.dev
  refine ⟨fun h p hup hlink => ⟨fun hme hpass hlen => ⟨fun huid hactive can => ?taken, fun huid can => ?misaddressed⟩,
    fun hme hother => ⟨fun can hstart => ?forwarded, fun hslower => ?dropped⟩⟩,
    fun path frame facet wale => ?decoded,
    fun q f i hpass hactive hi hclose hsel hcomposed => ?selected,
    fun hholding hrun => ?lost,
    fun q f i y hpass hy hmissed => ⟨fun hprism hkept => ?corrected, fun ws hprism hloaded hbefore hdue => ?loaded⟩,
    fun q f i hpass hactive hi hdue hcomposed hnone => ?fromImage⟩
  case taken =>
    rw [exec_pixFragment_tile h p can hports, Dev.pixRx_mine htile hup hlink can hme hpass hlen,
      if_neg (not_not_intro huid), if_pos hactive]
  case misaddressed =>
    rw [exec_pixFragment_tile h p can hports, Dev.pixRx_mine htile hup hlink can hme hpass hlen, if_pos huid]
  case forwarded =>
    rw [exec_pixFragment_tile h p can hports, Dev.pixRx_other htile hup hlink can hme hother, if_pos hstart]
  case dropped =>
    rw [exec_pixFragment_tile h p false hports, Dev.pixRx_other htile hup hlink false hme hother,
      if_neg (by simpa using hslower)]
  case decoded => exact act_tileRuns (fun d => d.decodeMet path frame facet wale { fault := .sound }) hruns
  case selected =>
    rw [← hnow] at hclose
    refine (act_tileRuns (Dev.selectionClose i) hruns).trans ?_
    rw [Dev.selectionClose_due hpass hactive hi hclose hsel hcomposed]
    extract_lets c j e back r src e'
    show Host.Outcome.next (after t s (r.2.takeSelected i r.1 (r.2.sourceRow i back r.1))) = _
    clear_value r
    rfl
  case lost =>
    rw [← Dev.lossHoldEnd_enough htile hholding hrun]
    exact act_whenPorts Dev.lossHoldEnd hports
  case corrected =>
    refine (act_tileRuns (Dev.prismMet i { fault := .sound }) hruns).trans ?_
    rw [Dev.prismMet_selected hpass hy hmissed hprism hkept]
    rfl
  case loaded =>
    rw [← hnow] at hdue
    refine (act_tileRuns (Dev.waleLoad i) hruns).trans ?_
    rw [Dev.waleLoad_ready hpass hy hmissed hprism hloaded hbefore hdue]
    rfl
  case fromImage =>
    rw [← hnow] at hdue
    refine (act_tileRuns (Dev.waleLoadDeadline i) hruns).trans ?_
    rw [Dev.waleLoadDeadline_unselected hpass hactive hi hdue hcomposed hnone]

end Sys2Proof.Machine

/-!
PROOFS. Facet scan-out (07_facet_scanout.md) and the corrections of Prism (08_prism.md): flip packets sent and received (R226
to R232, R256, R414), the latch point and the facet boundary (R230, R233, R236, R508, R526), tile images (R243, R244), and the
calibration image and the canvas derivation (R265, R266, R269, R273, R274).
-/
namespace Sys2Proof.Machine
open Sys2Proof.Safety

namespace Dev

/-! ### Flip packets from a sender (R226, R526) -/

/-- When a port sends the FLP of the facet in force: 20 µs into it, and once more at half of it (R226). -/
def flpInstant (d : Dev) (second : Bool) : Time :=
  let a := facetAt d.mode (facetNo d.mode d.now)
  if second then a + (facetAt d.mode (facetNo d.mode d.now + 1) - a) / 2 else a + 20000

/-- The FLP of the coming boundary leaves a port and is counted, checked against the complements (R226, R526). -/
def sendFlp (h : PortId) (d : Dev) : Dev :=
  let e := d.checkKept false atFlp
  (e.sendOwn h (mkPacket clsFlp 0xFF 0 (flpBytes e.flpNext))).bumpWrap K.FLP_SENT

theorem flpTx_due {d : Dev} {h : PortId} {second : Bool} (hsender : d.isSender = true) (hmode : d.mode ≠ 0)
    (htime : d.tstate ≠ tsUnlocked) (hsending : d.pair.sending = true) (hup : d.portUp h = true)
    (hnormal : d.obj K.INTEG_STATE = 1) (hdue : d.now = d.flpInstant second)
    (hsince : d.enc.modeAt.2 ≤ facetAt d.mode (facetNo d.mode d.now)) : d.flpTx h second = d.sendFlp h := by
  have hsends : ¬ (d.isTile = true ∨ d.mode = 0 ∨ d.tstate = tsUnlocked ∨ (!d.pair.sending) = true ∨
      (!d.portUp h) = true ∨ d.obj K.INTEG_STATE ≠ 1) := by
    simp [sender_not_tile hsender, hmode, htime, hsending, hup, hnormal]
  have hnow : ¬ (d.now ≠ d.flpInstant second ∨ facetAt d.mode (facetNo d.mode d.now) < d.enc.modeAt.2) := by
    simp [← hdue, Nat.not_lt.mpr hsince]
  exact (if_neg hsends).trans (if_neg hnow)

/-! ### Flip packets on a tile (R228, R229, R232, R233, R256, R414) -/

/-- An FLP is counted as it arrives and, where LINK is clear, forwarded (R414). -/
def passFlp (h : PortId) (p : Packet) (d : Dev) : Dev :=
  if pktLink p then d.countRx h p else (d.countRx h p).forward h p p.body

/-- A valid FLP is held for its path, and what the tile uses for its boundary takes effect (R229, R232, R233, R256). -/
def heedFlp (h : PortId) (x : Flp) (d : Dev) : Dev :=
  let d := (if flpClamped x then d.bump K.PRISM_PARAM_CLAMPED else d).holdFlp h x
  match d.flpFor x.f with
  | none => d
  | some x => ((if x.kind = 0 ∧ x.mode ≠ d.mode then d.adoptMode x else d).planFor x).armIfGoverned

theorem flpClamped_iff (x : Flp) : flpClamped x = true ↔ 768 < x.fader ∨ 0x8000 < x.ceiling := by
  simp [flpClamped]

section
variable {d : Dev} {h : PortId} {p : Packet} (htile : d.isTile = true) (hup : d.portUp h = true)
include htile hup

theorem flpRx_tile :
    d.flpRx h p =
      if pktPasses p then
        match (d.passFlp h p).validFlp p.body with
        | none => (d.passFlp h p).bumpFault 8 K.SCAN_FLP_INVALID h
        | some x => (d.passFlp h p).heedFlp h x
      else d.passFlp h p := by
  have hcounted : (d.countRx h p).isSender = false := by simp [tile_not_sender htile]
  unfold flpRx
  simp only [hup, hcounted]
  cases pktPasses p <;> rfl

theorem flpRx_damaged (hpass : pktPasses p = false) : d.flpRx h p = d.passFlp h p := by
  rw [flpRx_tile htile hup, hpass]
  rfl

theorem flpRx_invalid (hpass : pktPasses p = true) (hnone : (d.passFlp h p).validFlp p.body = none) :
    d.flpRx h p = (d.passFlp h p).bumpFault 8 K.SCAN_FLP_INVALID h := by
  rw [flpRx_tile htile hup, if_pos hpass, hnone]

theorem flpRx_valid {x : Flp} (hpass : pktPasses p = true) (hvalid : (d.passFlp h p).validFlp p.body = some x) :
    d.flpRx h p = (d.passFlp h p).heedFlp h x := by
  rw [flpRx_tile htile hup, if_pos hpass, hvalid]

end

/-! ### The latch point and the facet boundary (R230, R233, R236, R508, R526) -/

/-- L of the boundary `f` of facet number `q`: complements, the tile's flip, reloads that end, and an update (R233, R526). -/
def latchFor (u : Upsets) (q : Nat) (f : Time) (d : Dev) : Dev :=
  let e := d.complementChecks u
  let e := if e.isTile then e.tileLatch q f else e
  (e.setInteg (fun g => { g with reloading := g.reloading.filter (fun s => s != 4) })).updLatch f

/-- The start of a boundary: its values are checked, a sender's rectangles report, and an update acts (R336, R508, R526). -/
def openBoundary (f : Time) (d : Dev) : Dev :=
  let e := d.checkKept false atUse
  let q := facetNo e.mode f
  (if e.isSender && e.enc.composing == some q then e.senderChecks q else e).updBoundary f

/-- The rest of the boundary `f`, number `q`: what is due applies, and the device turns to the next facet (R61, R230, R511). -/
def turnFacet (q : Nat) (f : Time) (d : Dev) : Dev :=
  let e := d.applyDue (some f)
  let e := if e.isTile then e.ovlApplyDue f else e
  let e := e.fallbackDue
  if e.isTile then e.tileBoundary q f else e.senderBoundary f

section
variable {d : Dev} (hmode : d.mode ≠ 0)
include hmode

theorem latchPoint_coming (u : Upsets) (hcoming : d.now + latchLead = d.comingBoundary) :
    d.latchPoint u = d.latchFor u (facetAfter d.mode d.now) d.comingBoundary :=
  if_neg (not_or.mpr ⟨hmode, not_not_intro hcoming⟩)

theorem facetBoundary_edge (hedge : isBoundary d.mode d.now = true) :
    d.facetBoundary =
      if (d.openBoundary d.now).start.run = .step 1 then d.openBoundary d.now
      else (d.openBoundary d.now).turnFacet (facetNo (d.checkKept false atUse).mode d.now) d.now :=
  if_neg (not_or.mpr ⟨hmode, by simp [hedge]⟩)

end

theorem facetBoundary_elsewhere {d : Dev} (h : d.mode = 0 ∨ isBoundary d.mode d.now = false) :
    d.facetBoundary = if d.isSender && d.adoptDue then d.senderBoundary d.now else d :=
  if_pos (by simpa using h)

end Dev

/-- A packet on a port of a running device reaches FLP reception. -/
theorem exec_flpReceived_runs {s : State} {t : Time} (h : PortId) (p : Packet) (hports : (s.dev.begin t).portsRun = true) :
    exec (.flpReceived t h p) s = .next (after t s ((s.dev.begin t).flpRx h p)) := by
  rw [← Dev.wire_open h p (Dev.flpRx h p) hports]
  exact act_eq t _ s

/-- Settles O30: each command takes the branch of its premises, and its effect is the one that the statement writes out. -/
theorem flipsAndBoundaries : Obligations.FlipsAndBoundaries := by
  intro s t d hports
  have hnow : d.now = t := Dev.begin_now t s.dev
  refine ⟨fun h second hsender hmode htime hsending hup hnormal => fun hdue hsince => ?sent,
    fun h p htile hup => ⟨fun hpass => ?damaged, fun hpass hnone => ?invalid, fun x hpass hvalid => ?valid⟩,
    fun hmode => ⟨fun u hcoming => ?latched, fun hedge => ?turned⟩, fun helse => ?elsewhere⟩
  case sent =>
    rw [← hnow] at hdue hsince
    refine (act_whenPorts (Dev.flpTx h second) hports).trans ?_
    rw [Dev.flpTx_due hsender hmode htime hsending hup hnormal hdue hsince]
    rfl
  case damaged => rw [exec_flpReceived_runs h p hports, Dev.flpRx_damaged htile hup hpass, Dev.passFlp]
  case invalid => rw [exec_flpReceived_runs h p hports, Dev.flpRx_invalid htile hup hpass hnone, Dev.passFlp]
  case valid =>
    rw [exec_flpReceived_runs h p hports, Dev.flpRx_valid htile hup hpass hvalid, Dev.heedFlp]
    simp only [Dev.flpClamped_iff]
    rfl
  case latched =>
    rw [← hnow] at hcoming
    refine (act_whenPorts (Dev.latchPoint u) hports).trans ?_
    rw [Dev.latchPoint_coming hmode u hcoming, hnow]
    rfl
  case turned =>
    rw [← hnow] at hedge
    refine (act_whenPorts Dev.facetBoundary hports).trans ?_
    rw [Dev.facetBoundary_edge hmode hedge, hnow]
    rfl
  case elsewhere =>
    rw [← hnow] at helse
    refine (act_whenPorts Dev.facetBoundary hports).trans ?_
    rw [Dev.facetBoundary_elsewhere helse, hnow]

namespace Dev

/-! ### Tile images (R243, R244) -/

section
variable {d : Dev} {sid i : Nat} {x : Session}

theorem blobNext_timgData (hi : i < 2) (hshown : d.imageShown i = false) :
    d.blobNext (K.TIMG_DATA i) (d.regionPixels * 6) = Status.OK := by
  have hindex : K.TIMG_DATA i / 256 = 0x4020 + i := by unfold K.TIMG_DATA; omega
  unfold blobNext
  simp only [hindex]
  rw [if_pos (by omega), Nat.add_sub_cancel_left]
  simp [timgFirst, hshown]

theorem blobDone_timgData (hi : i < 2) (data : Bytes) (rb : Bool) :
    d.blobDone (K.TIMG_DATA i) data rb = (Status.OK, d.timgDone i data) := by
  have hindex : K.TIMG_DATA i / 256 = 0x4020 + i := by unfold K.TIMG_DATA; omega
  have hcommand : K.TIMG_DATA i ≠ K.OVL_COMMAND := by unfold K.TIMG_DATA K.OVL_COMMAND; omega
  have hcal : K.TIMG_DATA i ≠ K.PRISM_CAL_IMAGE := by unfold K.TIMG_DATA K.PRISM_CAL_IMAGE; omega
  have hkey : K.TIMG_DATA i ≠ K.OTP_SAFETY_KEY := by unfold K.TIMG_DATA K.OTP_SAFETY_KEY; omega
  unfold blobDone
  simp only [hindex]
  rw [if_neg hcommand, if_neg hcal, if_neg hkey, if_neg (by omega), if_pos (by omega), Nat.add_sub_cancel_left]

/-- The last chunk of a staging gives the whole value to the BLOB's chapter. -/
theorem rowChunk_ends {k : Nat} {b : Chunk} {g : BlobStage} (rb : Bool) (h : ChunkOpen d sid k b x)
    (hnext : d.blobNext k b.total = Status.OK) (hstage : d.stageOf x.id 0 k = some g) (hfits : chunkFits g b = true)
    (hlast : b.more = false) :
    d.rowChunk sid k b rb = entryDone sid k (wholeDone k rb (g.data ++ b.data) (d.dropStage x.id 0 k)) := by
  rw [rowChunk_following rb h hnext hstage, if_pos hfits, takeChunk_last _ _ _ _ _ _ hlast]

/-- The last chunk of an upload makes the image Ready. -/
theorem rowChunk_timgData_last {b : Chunk} {g : BlobStage} (hi : i < 2) (h : ChunkOpen d sid (K.TIMG_DATA i) b x)
    (hstage : d.stageOf x.id 0 (K.TIMG_DATA i) = some g) (hshown : d.imageShown i = false)
    (htotal : b.total = d.regionPixels * 6) (hfits : chunkFits g b = true) (hlast : b.more = false) :
    d.rowChunk sid (K.TIMG_DATA i) b true =
      ((d.dropStage x.id 0 (K.TIMG_DATA i)).timgDone i (g.data ++ b.data)).emit
        (.entry sid (K.TIMG_DATA i) Status.OK) := by
  have hnext : d.blobNext (K.TIMG_DATA i) b.total = Status.OK := by rw [htotal, blobNext_timgData hi hshown]
  rw [rowChunk_ends true h hnext hstage hfits hlast, wholeDone, blobDone_timgData hi]
  rfl

theorem rowWriteAt_timgClear {v : Nat} (hi : i < 2) (hopen : ScalarOpen d sid (K.TIMG_CLEAR i) v x)
    (hshown : d.imageShown i = false) :
    d.rowWriteAt 2 i sid (K.TIMG_CLEAR i) v = (d.timgClear i).emit (.entry sid (K.TIMG_CLEAR i) Status.OK) := by
  rw [rowWriteAt, if_pos hi, rowWrite_action hopen (action_timgClear d false x.id v i hi), hshown]
  rfl

end

/-! ### The calibration image (R269, R273, R274) -/

section
variable {d : Dev} {sid : Nat} {x : Session}

theorem blobNext_calImage (total : Nat) (hdark : d.obj K.SCAN_STATE = 1) (hnone : d.obj K.PRISM_CAL_STATE = 6) :
    d.blobNext K.PRISM_CAL_IMAGE total = Status.OK := by
  have hindex : ¬ (K.PRISM_CAL_IMAGE / 256 = 0x4020 ∨ K.PRISM_CAL_IMAGE / 256 = 0x4021) := by decide
  have hopen : ¬ (d.obj K.SCAN_STATE ≠ 1 ∨ d.obj K.PRISM_CAL_STATE ≠ 6) := by simp [hdark, hnone]
  unfold blobNext
  extract_lets i
  rw [if_neg hindex, if_pos rfl, calImageFirst, if_neg hopen]

theorem calImageCheck_wellFormed {img : Bytes} (hlen : img.length = 64 + fieldAt 40 4 img)
    (hcause : calCause d.fix.fuses.uid d.regionW d.regionH d.lampsPer img = 0) : d.calImageCheck img = Status.OK :=
  (if_neg (not_not_intro hlen)).trans (if_neg (not_not_intro hcause))

theorem blobDone_calImage (img : Bytes) (rb : Bool) :
    d.blobDone K.PRISM_CAL_IMAGE img rb =
      ((d.calImageDone img rb).1,
        if (d.calImageDone img rb).1 = Status.OK then (d.calImageDone img rb).2.judgeCurves else (d.calImageDone img rb).2) := by
  have hkey : K.PRISM_CAL_IMAGE ≠ K.OVL_COMMAND := by decide
  unfold blobDone
  rw [if_neg hkey, if_pos rfl]

/-- A well-formed image that reads back lies in both copies and is loaded, and the wear ledger's curves are judged again. -/
theorem wholeDone_calImage_readBack {img : Bytes} (hok : d.calImageCheck img = Status.OK) :
    wholeDone K.PRISM_CAL_IMAGE true img d = (Status.OK, ((d.setCopies img).loadCorrections).2.judgeCurves) := by
  have hdone : d.calImageDone img true = (Status.OK, ((d.setCopies img).loadCorrections).2) :=
    if_neg (not_not_intro hok)
  rw [wholeDone, blobDone_calImage, hdone]
  rfl

/-- A well-formed image whose read-back fails is not written. -/
theorem wholeDone_calImage_failed {img : Bytes} (hok : d.calImageCheck img = Status.OK) :
    wholeDone K.PRISM_CAL_IMAGE false img d = (Status.DEVICE, d) := by
  have hdone : d.calImageDone img false = (Status.DEVICE, d) := if_neg (not_not_intro hok)
  rw [wholeDone, blobDone_calImage, hdone]
  rfl

/-- The last chunk of a calibration image, while scan-out is Dark with no calibration. -/
theorem rowChunk_calImage_last {b : Chunk} {g : BlobStage} (rb : Bool) (h : ChunkOpen d sid K.PRISM_CAL_IMAGE b x)
    (hstage : d.stageOf x.id 0 K.PRISM_CAL_IMAGE = some g) (hdark : d.obj K.SCAN_STATE = 1)
    (hnone : d.obj K.PRISM_CAL_STATE = 6) (hfits : chunkFits g b = true) (hlast : b.more = false) :
    d.rowChunk sid K.PRISM_CAL_IMAGE b rb =
      entryDone sid K.PRISM_CAL_IMAGE
        (wholeDone K.PRISM_CAL_IMAGE rb (g.data ++ b.data) (d.dropStage x.id 0 K.PRISM_CAL_IMAGE)) :=
  rowChunk_ends rb h (blobNext_calImage b.total hdark hnone) hstage hfits hlast

/-- The staging that an image arrived in plays no part in its checks. -/
theorem calImageCheck_dropStage (s n k : Nat) (img : Bytes) :
    (d.dropStage s n k).calImageCheck img = d.calImageCheck img := rfl

/-- A conditional action whose condition holds. -/
theorem actIf_ok (f : Dev → Dev) (d : Dev) : d.actIf false Status.OK f = (Status.OK, f d) := rfl

theorem rowWrite_calErase_dark {v : Nat} (hopen : ScalarOpen d sid K.PRISM_CAL_ERASE v x) (hdark : d.obj K.SCAN_STATE = 1) :
    d.rowWrite sid K.PRISM_CAL_ERASE v = d.calErase.judgeCurves.emit (.entry sid K.PRISM_CAL_ERASE Status.OK) := by
  rw [rowWrite_action hopen (action_calErase d false x.id v), if_pos hdark, actIf_ok, entryDone]

theorem rowWrite_calErase_lit {v : Nat} (hopen : ScalarOpen d sid K.PRISM_CAL_ERASE v x) (hlit : d.obj K.SCAN_STATE ≠ 1) :
    d.rowWrite sid K.PRISM_CAL_ERASE v = d.emit (.entry sid K.PRISM_CAL_ERASE Status.NOT_IDLE) := by
  rw [rowWrite_action hopen (action_calErase d false x.id v), if_neg hlit]
  rfl

end

/-! ### The canvas derivation (R265, R266) -/

/-- The canvas matrices of a calibrated tile are derived from the colorimetry of its input (R265, R266). -/
theorem deriveCanvas_calibrated {d : Dev} (huse : d.prism.use = .copyA ∨ d.prism.use = .copyB) :
    d.deriveCanvas =
      (let e := d.setPrism (fun q => { q with colorimetry := d.obj K.PRISM_IN_COLORIMETRY, derivePending := false })
       e.bumpBy e.derivedClamps K.PRISM_PARAM_CLAMPED) := by
  unfold deriveCanvas
  rcases huse with h | h <;> simp [setPrism, h]

end Dev

/-- Settles O31: each command is allowed by its premises, and ends in the one effect its chapter gives it. -/
theorem imagesAndCalibrationAreStored : Obligations.ImagesAndCalibrationAreStored := by
  intro s t sid x d
  refine ⟨fun i hi => ⟨fun b g hopen hstage hshown htotal hfits hlast => ?imageStored, fun v hopen hshown => ?imageCleared⟩,
    fun b g hopen hstage hdark hnone hfits hlast => fun hlen hcause => ⟨?written, ?notWritten⟩,
    fun v hopen => ⟨fun hdark => ?erased, fun hlit => ?notErased⟩, fun hruns hpending huse => ?derived⟩
  case imageStored =>
    refine (act_eq t (fun d => d.rowChunkAt 2 i sid (K.TIMG_DATA i) b) s).trans ?_
    rw [Dev.rowChunkAt_lt sid _ b _ hi, Dev.rowChunk_timgData_last hi hopen hstage hshown htotal hfits hlast, Dev.timgDone]
  case imageCleared =>
    refine (act_eq t (fun d => d.rowWriteAt 2 i sid (K.TIMG_CLEAR i) v) s).trans ?_
    rw [Dev.rowWriteAt_timgClear hi hopen hshown, Dev.timgClear]
  case written =>
    have hok : d.calImageCheck (g.data ++ b.data) = Status.OK := Dev.calImageCheck_wellFormed hlen hcause
    rw [← Dev.calImageCheck_dropStage x.id 0 K.PRISM_CAL_IMAGE] at hok
    refine (act_eq t (fun d => d.rowChunk sid K.PRISM_CAL_IMAGE b true) s).trans ?_
    rw [Dev.rowChunk_calImage_last true hopen hstage hdark hnone hfits hlast,
      Dev.wholeDone_calImage_readBack hok, Dev.entryDone]
  case notWritten =>
    have hok : d.calImageCheck (g.data ++ b.data) = Status.OK := Dev.calImageCheck_wellFormed hlen hcause
    rw [← Dev.calImageCheck_dropStage x.id 0 K.PRISM_CAL_IMAGE] at hok
    refine (act_eq t (fun d => d.rowChunk sid K.PRISM_CAL_IMAGE b false) s).trans ?_
    rw [Dev.rowChunk_calImage_last false hopen hstage hdark hnone hfits hlast,
      Dev.wholeDone_calImage_failed hok, Dev.entryDone]
  case erased =>
    refine (act_eq t (fun d => d.rowWrite sid K.PRISM_CAL_ERASE v) s).trans ?_
    rw [Dev.rowWrite_calErase_dark hopen hdark, Dev.calErase]
  case notErased =>
    refine (act_eq t (fun d => d.rowWrite sid K.PRISM_CAL_ERASE v) s).trans ?_
    rw [Dev.rowWrite_calErase_lit hopen hlit]
  case derived =>
    refine (act_tileRuns (fun d => if d.prism.derivePending then d.deriveCanvas.scanFollow else d) hruns).trans ?_
    rw [if_pos hpending, Dev.deriveCanvas_calibrated huse]

end Sys2Proof.Machine

/-!
PROOFS. The Lamp Driver Link (09_lamp_driver_link.md): drive words and packets (R279 to R283, R285), what a column driver
does with the packets, marks and pulses that reach it (R283 to R311), and the tile's side: bring-up, echoes, probes, diagnostic
reads and lamp states (R300 to R314).
-/
namespace Sys2Proof.Machine
open Sys2Proof.Safety

/-! ### Bits of a number, most significant first (R285) -/

/-- The number that a string of bits spells. -/
def bitsVal (bs : List Bool) : Nat := bs.foldl (fun a b => 2 * a + b2n b) 0

@[simp] theorem bitsVal_concat (bs : List Bool) (b : Bool) : bitsVal (bs ++ [b]) = 2 * bitsVal bs + b2n b := by
  simp [bitsVal]

/-- A string of bits is empty, or a shorter one followed by its last bit. -/
theorem bits_concat_induction {p : List Bool → Prop} (nil : p []) (concat : ∀ bs b, p bs → p (bs ++ [b]))
    (bs : List Bool) : p bs := by
  rw [← bs.reverse_reverse]
  induction bs.reverse with
  | nil => exact nil
  | cons b bs ih =>
    rw [List.reverse_cons]
    exact concat _ b ih

theorem b2n_le_one (b : Bool) : b2n b ≤ 1 := by cases b <;> decide

@[simp] theorem b2n_testBit_zero (v : Nat) : b2n (v.testBit 0) = v % 2 := by
  rcases Nat.mod_two_eq_zero_or_one v with h | h <;> simp [b2n, h]

@[simp] theorem length_bitsOf (n v : Nat) : (bitsOf n v).length = n := by
  induction n with
  | zero => rfl
  | succ n ih => simp [bitsOf, ih]

/-- The last bit is that of the units. -/
theorem bitsOf_succ (n v : Nat) : bitsOf (n + 1) v = bitsOf n (v / 2) ++ [v.testBit 0] := by
  induction n with
  | zero => rfl
  | succ n ih =>
    rw [bitsOf, ih, bitsOf, Nat.testBit_succ, List.cons_append]

theorem bitsVal_bitsOf (n v : Nat) : bitsVal (bitsOf n v) = v % 2 ^ n := by
  induction n generalizing v with
  | zero => simp [bitsOf, bitsVal, Nat.mod_one]
  | succ n ih => rw [bitsOf_succ, bitsVal_concat, ih, b2n_testBit_zero, Nat.pow_succ', Nat.mod_mul, Nat.add_comm]

theorem bitsVal_lt (bs : List Bool) : bitsVal bs < 2 ^ bs.length := by
  induction bs using bits_concat_induction with
  | nil => decide
  | concat bs b ih =>
    have hb := b2n_le_one b
    rw [bitsVal_concat, List.length_append, List.length_singleton, Nat.pow_succ']
    omega

theorem bitsOf_bitsVal (bs : List Bool) : bitsOf bs.length (bitsVal bs) = bs := by
  induction bs using bits_concat_induction with
  | nil => rfl
  | concat bs b ih =>
    have hb := b2n_le_one b
    have hhalf : (2 * bitsVal bs + b2n b) / 2 = bitsVal bs := by omega
    have hlast : (2 * bitsVal bs + b2n b).testBit 0 = b := by cases b <;> simp [b2n]
    rw [bitsVal_concat, List.length_append, List.length_singleton, bitsOf_succ, hhalf, hlast, ih]

/-! ### Drive words in LDL words (R285) -/

theorem length_flatMap_bitsOf (n : Nat) (ws : List Nat) : (ws.flatMap (bitsOf n)).length = n * ws.length := by
  induction ws with
  | nil => rfl
  | cons w ws ih => rw [List.flatMap_cons, List.length_append, length_bitsOf, ih, List.length_cons, Nat.mul_succ, Nat.add_comm]

@[simp] theorem length_wordsOfBits (n : Nat) (bs : List Bool) : (wordsOfBits n bs).length = n := by
  induction n generalizing bs with
  | zero => rfl
  | succ n ih => rw [wordsOfBits, List.length_cons, ih]

theorem wordsOfBits_lt (n : Nat) (bs : List Bool) : ∀ w ∈ wordsOfBits n bs, w < 2 ^ 16 := by
  induction n generalizing bs with
  | zero => simp [wordsOfBits]
  | succ n ih =>
    intro w hw
    rcases List.mem_cons.mp hw with rfl | hw
    · exact Nat.lt_of_lt_of_le (bitsVal_lt (bs.take 16)) (Nat.pow_le_pow_right (by decide) (List.length_take_le 16 bs))
    · exact ih _ w hw

/-- Words cut from bits spell those bits again. -/
theorem flatMap_bitsOf_wordsOfBits (n : Nat) (bs : List Bool) (h : bs.length = 16 * n) :
    (wordsOfBits n bs).flatMap (bitsOf 16) = bs := by
  induction n generalizing bs with
  | zero => exact (List.eq_nil_of_length_eq_zero h).symm
  | succ n ih =>
    have htake : (bs.take 16).length = 16 := by rw [List.length_take]; omega
    have hfirst : bitsOf 16 (bitsVal (bs.take 16)) = bs.take 16 := by
      have hspell := bitsOf_bitsVal (bs.take 16)
      rwa [htake] at hspell
    have hrest := ih (bs.drop 16) (by rw [List.length_drop]; omega)
    calc (wordsOfBits (n + 1) bs).flatMap (bitsOf 16)
        = bitsOf 16 (bitsVal (bs.take 16)) ++ (wordsOfBits n (bs.drop 16)).flatMap (bitsOf 16) := rfl
      _ = bs.take 16 ++ bs.drop 16 := by rw [hfirst, hrest]
      _ = bs := List.take_append_drop 16 bs

/-- Drive words are read back from their bits. -/
theorem driveOfBits_driveBits (ws : List Nat) (h : ∀ w ∈ ws, w < 2 ^ 20) :
    driveOfBits ws.length (ws.flatMap driveBits) = ws := by
  induction ws with
  | nil => rfl
  | cons w ws ih =>
    have hw : bitsVal (driveBits w) = w := by
      rw [driveBits, bitsVal_bitsOf, Nat.mod_eq_of_lt (h w List.mem_cons_self)]
    have hlen : (driveBits w).length = 20 := length_bitsOf 20 w
    have hws := ih fun x hx => h x (List.mem_cons_of_mem w hx)
    rw [List.flatMap_cons, List.length_cons, driveOfBits, List.take_left' hlen, List.drop_left' hlen, hws]
    exact congrArg (· :: ws) hw

theorem unpackDrive_packDrive (ws : List Nat) (hlen : ws.length = 48) (hws : ∀ w ∈ ws, w < 2 ^ 20) :
    unpackDrive (packDrive ws) = ws := by
  have hbits : (ws.flatMap driveBits).length = 16 * 60 := by
    rw [show driveBits = bitsOf 20 from rfl, length_flatMap_bitsOf, hlen]
  rw [unpackDrive, packDrive, flatMap_bitsOf_wordsOfBits 60 _ hbits, ← hlen, driveOfBits_driveBits ws hws]

/-! ### Packets and masks (R279, R281, R282, R283) -/

/-- The CRC word of a packet is not among the words it covers. -/
theorem mkLdl_crc (op addr count : Nat) (words : List Nat) :
    (mkLdl op addr count words).crc = ldlCrc (mkLdl op addr count words) := rfl

theorem ldlSound_mkLdl {op addr count : Nat} {words : List Nat}
    (h : ldlLength (mkLdl op addr count words) = none ∨ ldlLength (mkLdl op addr count words) = some words.length) :
    ldlSound (mkLdl op addr count words) = true := by
  unfold ldlSound
  rcases h with hnone | hlen
  · simp [mkLdl_crc, hnone]
  · simp [mkLdl_crc, hlen, show (mkLdl op addr count words).words = words from rfl]

theorem wordsMask_maskWords {m : Nat} (h : m < 2 ^ 48) : wordsMask (maskWords m) = m := by
  simp only [wordsMask, maskWords, List.foldl_cons, List.foldl_nil]
  omega

/-- Settles O56: bits are packed and unpacked without loss, the CRC is the one checked, and three words hold 48 bits. -/
theorem driveWordsSurviveTheirPacking : Obligations.DriveWordsSurviveTheirPacking := by
  refine ⟨fun ws hlen hws => ?packed, fun op addr count words => ?sound, fun m hm => ?mask⟩
  case packed => exact ⟨unpackDrive_packDrive ws hlen hws, length_wordsOfBits _ _, wordsOfBits_lt _ _⟩
  case sound => exact ⟨mkLdl_crc op addr count words, ldlSound_mkLdl⟩
  case mask => exact ⟨wordsMask_maskWords hm, rfl⟩

/-! ### Packets that a driver hears (R282, R283) -/

section
variable {v : Driver} {k : LdlPkt}

/-- The address is 31, or the driver's own. -/
theorem hears_of_addr (h : k.addr = 31 ∨ (k.addr < 24 ∧ v.addr = some k.addr)) : v.hears k = true := by
  rcases h with hall | ⟨hlt, hown⟩
  · simp [Driver.hears, hall]
  · simp [Driver.hears, hlt, hown]

theorem addr_ne_of_unheard (h : v.hears k = false) : k.addr ≠ 31 := by
  intro hall
  simp [Driver.hears, hall] at h

theorem blockOf_run {a : Nat} (hown : v.addr = some a) (hlt : k.addr < 24) (hfirst : k.addr ≤ a)
    (hlast : a < k.addr + k.count) (hcount : k.count ≤ 24) : v.blockOf k = some (a - k.addr) := by
  simp [Driver.blockOf, hown, hlt, hfirst, hlast, hcount]

theorem answers_own (hsound : ldlSound k = true) (hlt : k.addr < 24) (hown : v.addr = some k.addr) : v.answers k = true := by
  simp [Driver.answers, hsound, hlt, hown]

theorem answers_unsound (h : ldlSound k = false) : v.answers k = false := by simp [Driver.answers, h]

theorem answers_unheard (h : v.hears k = false) : v.answers k = false := by
  have hown : (decide (k.addr < 24) && v.addr == some k.addr) = false := (Bool.or_eq_false_iff.mp h).2
  rw [Driver.answers, Bool.and_assoc, hown, Bool.and_false]

/-! ### Packets that a driver does not hear (R283) -/

theorem writeRow_noBlock (h : v.blockOf k = none) : v.writeRow k = v := by simp [Driver.writeRow, h]
theorem setPlan_unheard (h : v.hears k = false) : v.setPlan k = v := if_neg (addr_ne_of_unheard h)
theorem takeFlip_unheard (now : Time) (h : v.hears k = false) : v.takeFlip now k = v := if_neg (addr_ne_of_unheard h)
theorem setRange_unheard (h : v.hears k = false) : v.setRange k = v := by simp [Driver.setRange, h]
theorem blank_unheard (h : v.hears k = false) : v.blank k = v := by simp [Driver.blank, h]
theorem test_noBlock (h : v.blockOf k = none) : v.test k = v := by simp [Driver.test, h]
theorem enumerate_unheard (h : v.hears k = false) : v.enumerate k = v := if_neg (addr_ne_of_unheard h)

theorem enumForward_unsound (h : ldlSound k = false) : enumForward k = k := if_neg (by simp [h])
theorem enumForward_unheard (h : v.hears k = false) : enumForward k = k := if_neg fun hall => addr_ne_of_unheard h hall.2

end

/-! ### A packet at a driver (R283, R284) -/

namespace Dev

/-- A driver takes a state, and nothing else changes. -/
def putDriverAt (s p : Nat) (w : Driver) (d : Dev) : Dev :=
  d.setLdl (fun l => { l with drivers := putDriver (s * 24 + p) w l.drivers })

section
variable {d : Dev} {s p : Nat} (hs : s < 32) (hp : p < 24)
include hs hp

theorem onDriver_eq (f : Driver → Driver) : d.onDriver s p f = d.putDriverAt s p (f (d.driver s p)) := if_pos ⟨hs, hp⟩

theorem ldlReach_eq (k : LdlPkt) (act : Driver → Driver) (onward : LdlPkt) :
    d.ldlReach s p k act onward = (d.putDriverAt s p ((d.driver s p).take k act)).emit (.driver s p onward) := by
  rw [ldlReach, if_pos ⟨hs, hp⟩, onDriver_eq hs hp]

theorem ldlReach_unsound {k : LdlPkt} (act : Driver → Driver) (onward : LdlPkt) (h : ldlSound k = false) :
    d.ldlReach s p k act onward = (d.putDriverAt s p (d.driver s p).refuse).emit (.driver s p onward) := by
  rw [ldlReach_eq hs hp, Driver.take, h, if_neg Bool.false_ne_true]

theorem ldlReach_sound {k : LdlPkt} (act : Driver → Driver) (onward : LdlPkt) (h : ldlSound k = true) :
    d.ldlReach s p k act onward = (d.putDriverAt s p (act (d.driver s p))).emit (.driver s p onward) := by
  rw [ldlReach_eq hs hp, Driver.take, if_pos h]

end

section
variable {d : Dev} {s p : Nat} {k : LdlPkt}

theorem readFlags_unanswered (h : (d.driver s p).answers k = false) : d.readFlags s p k = d.ldlReach s p k id k := by
  simp [readFlags, h]

theorem readStatus_unanswered (h : (d.driver s p).answers k = false) : d.readStatus s p k = d.ldlReach s p k id k := by
  simp [readStatus, h]

theorem readIdent_unanswered (h : (d.driver s p).answers k = false) : d.readIdent s p k = d.ldlReach s p k id k := by
  simp [readIdent, h]

end
end Dev

/-- A command of a driver, in a tile that has power. -/
theorem act_driverPowered {t : Time} {st : State} (f : Dev → Dev) (h : DriverPowered (st.dev.begin t)) :
    act t (fun d => d.whenDriver f) st = .next (after t st (f (st.dev.begin t))) := by
  rw [act_eq, Dev.whenDriver_open _ h]

/-- The commands that bring a packet to a driver, each with the packet as its row reads it. -/
def ldlRows (t : Time) (s p : Nat) (k : LdlPkt) : List (Instr × LdlPkt) :=
  [(.writeRow t s p k, Dev.asOpcode 1 k), (.setPlan t s p k, Dev.asOpcode 2 k), (.flip t s p k, Dev.asOpcode 3 k),
    (.setRange t s p k, Dev.asOpcode 4 k), (.blank t s p k, Dev.asBlank true k), (.unblank t s p k, Dev.asBlank false k),
    (.test t s p k, Dev.asOpcode 6 k), (.readDiagRowFlags t s p k, Dev.asItem 1 k),
    (.readDiagStatus t s p k, Dev.asItem 2 k), (.readDiagIdent t s p k, Dev.asItem 3 k),
    (.readDiagReserved t s p k, Dev.asOpcode 7 k), (.enumerate t s p k, Dev.asOpcode 8 k),
    (.ldlReservedOpcode t s p k, k)]

section
variable {t : Time} {st : State} {s p : Nat} {k : LdlPkt}

/-- A packet that is unsound or not heard reaches the driver, which does nothing with it unless it finds a block of its own,
and goes on as it came (R283, R284). -/
theorem exec_ldlRow_unheard (hpow : DriverPowered (st.dev.begin t)) {i : Instr × LdlPkt} (hi : i ∈ ldlRows t s p k)
    (h : ldlSound i.2 = false ∨ ((st.dev.begin t).driver s p).hears i.2 = false) :
    ∃ act : Driver → Driver, exec i.1 st = .next (after t st ((st.dev.begin t).ldlReach s p i.2 act i.2)) ∧
      ∀ v : Driver, v.hears i.2 = false → v.blockOf i.2 = none → act v = v := by
  have hquiet : ((st.dev.begin t).driver s p).answers i.2 = false := h.elim answers_unsound answers_unheard
  have hforward : enumForward i.2 = i.2 := h.elim enumForward_unsound enumForward_unheard
  simp only [ldlRows, List.mem_cons, List.not_mem_nil, or_false] at hi
  rcases hi with rfl | rfl | rfl | rfl | rfl | rfl | rfl | rfl | rfl | rfl | rfl | rfl | rfl
  · exact ⟨_, act_driverPowered _ hpow, fun v _ hblock => writeRow_noBlock hblock⟩
  · exact ⟨_, act_driverPowered _ hpow, fun v hno _ => setPlan_unheard hno⟩
  · exact ⟨_, act_driverPowered _ hpow, fun v hno _ => takeFlip_unheard _ hno⟩
  · exact ⟨_, act_driverPowered _ hpow, fun v hno _ => setRange_unheard hno⟩
  · exact ⟨_, act_driverPowered _ hpow, fun v hno _ => blank_unheard hno⟩
  · exact ⟨_, act_driverPowered _ hpow, fun v hno _ => blank_unheard hno⟩
  · exact ⟨_, act_driverPowered _ hpow, fun v _ hblock => test_noBlock hblock⟩
  · refine ⟨id, (act_driverPowered _ hpow).trans ?_, fun v _ _ => rfl⟩
    rw [Dev.readFlags_unanswered hquiet]
  · refine ⟨id, (act_driverPowered _ hpow).trans ?_, fun v _ _ => rfl⟩
    rw [Dev.readStatus_unanswered hquiet]
  · refine ⟨id, (act_driverPowered _ hpow).trans ?_, fun v _ _ => rfl⟩
    rw [Dev.readIdent_unanswered hquiet]
  · exact ⟨id, act_driverPowered _ hpow, fun v _ _ => rfl⟩
  · refine ⟨_, (act_driverPowered _ hpow).trans ?_, fun v hno _ => enumerate_unheard hno⟩
    rw [hforward]
  · exact ⟨id, act_driverPowered _ hpow, fun v _ _ => rfl⟩

end

/-- Settles O32: a packet that is unsound or not heard goes on as it came; it is counted in the first case, and leaves the
driver alone in the second. -/
theorem unsoundAndForeignPacketsAreNotActedOn : Obligations.UnsoundAndForeignPacketsAreNotActedOn := by
  intro st t s p k d hpow hs hp v put i hi
  refine ⟨fun hunsound => ?counted, fun hsound hno hblock => ?ignored⟩
  case counted =>
    obtain ⟨act, hexec, _⟩ := exec_ldlRow_unheard hpow hi (.inl hunsound)
    rw [hexec, Dev.ldlReach_unsound hs hp act i.2 hunsound]
    rfl
  case ignored =>
    obtain ⟨act, hexec, hidle⟩ := exec_ldlRow_unheard hpow hi (.inr hno)
    rw [hexec, Dev.ldlReach_sound hs hp act i.2 hsound, hidle v hno hblock]
    rfl

/-! ### What a driver does with a sound packet it hears (R282, R286, R291, R298, R301, R308 to R311) -/

/-- The first word after W0, by either of its names. -/
theorem headD_eq_getD_zero (ws : List Nat) : ws.headD 0 = ws.getD 0 0 := by cases ws <;> rfl

section
variable {v : Driver} {k : LdlPkt}

theorem writeRow_block {b : Nat} (h : v.blockOf k = some b) :
    v.writeRow k =
      (let r := k.words.getD 0 0 % 32
       let row := unpackDrive ((k.words.drop (1 + 60 * b)).take 60)
       if v.front = 0 then { v with written := setBit r true v.written, bank1 := putRow r row v.bank1 }
       else { v with written := setBit r true v.written, bank0 := putRow r row v.bank0 }) := by
  rw [Driver.writeRow, h, headD_eq_getD_zero]

/-- The plan that the three words of a SET_PLAN spell (R282). -/
def planOfWords (w : Nat → Nat) : Plan :=
  { segs := 16 * 2 ^ (w 0 / 2 ^ 14), mux := bits 9 5 (w 0) + 1, g := (w 0 % 16) * 65536 + w 1, dead := w 2 / 256,
    det := w 2 % 256 }

theorem setPlan_all (h : k.addr = 31) : v.setPlan k = { v with staged := some (planOfWords fun i => k.words.getD i 0) } :=
  if_pos h

/-- The FLIP that the four words of its packet spell, received at an instant (R282, R291). -/
def flipOfWords (w : Nat → Nat) (now : Time) : FlipCmd :=
  { exchange := bit 15 (w 0), plan := bit 14 (w 0), na0 := (w 0 % 256) * 65536 + w 1, nfc := (w 2 % 16) * 65536 + w 3,
    at' := now }

theorem takeFlip_all (now : Time) (h : k.addr = 31) :
    v.takeFlip now k = { v with flips := v.flips ++ [flipOfWords (fun i => k.words.getD i 0) now] } :=
  if_pos h

theorem setRange_heard (h : v.hears k = true) : v.setRange k = { v with ratio := k.words.getD 0 0 } := by
  rw [Driver.setRange, if_pos h, headD_eq_getD_zero]

theorem blank_heard (h : v.hears k = true) (hbit : bit 0 (k.words.headD 0) = true) :
    v.blank k = { v with blanked := true, unblank := false, armed := [], running := [] } := by
  rw [Driver.blank, h, if_neg (by decide), if_pos hbit]

theorem unblank_heard (h : v.hears k = true) (hbit : bit 0 (k.words.headD 0) = false) :
    v.blank k = { v with unblank := true } := by
  rw [Driver.blank, h, hbit, if_neg (by decide), if_neg Bool.false_ne_true]

/-- The pulse that a TEST arms by its words and the three of the driver's block `b` (R282, R310). -/
def testOfWords (ws : List Nat) (b : Nat) : ArmedTest :=
  { row := ws.getD 0 0 % 32, mask := wordsMask ((ws.drop (3 + 3 * b)).take 3),
    start := (ws.getD 1 0 % 16) * 65536 + ws.getD 2 0, width := ws.getD 0 0 / 256 }

theorem test_block {b : Nat} (h : v.blockOf k = some b) :
    v.test k =
      if v.blanked then v
      else if 32 ≤ v.armed.length then v.refuse
      else { v with armed := v.armed ++ [testOfWords k.words b] } := by
  rw [Driver.test, h]
  rfl

theorem enumerate_all (h : k.addr = 31) :
    v.enumerate k =
      { v with addr := if k.words.getD 0 0 < 24 then some (k.words.getD 0 0) else none, blanked := true, unblank := false,
               written := 0, armed := [], running := [] } := by
  rw [Driver.enumerate, if_pos h, headD_eq_getD_zero]

theorem enumForward_all (hsound : ldlSound k = true) (h : k.addr = 31) :
    enumForward k = mkLdl k.opcode 31 k.count [min (k.words.getD 0 0 + 1) 0xFFFF] := by
  rw [enumForward, if_pos ⟨hsound, h⟩, h, headD_eq_getD_zero]

end

namespace Dev

/-- A sound BLANK has a W1, and its bit 0 is the B of the row. -/
theorem bit0_asBlank {b : Bool} {k : LdlPkt} (h : ldlSound (asBlank b k) = true) :
    bit 0 ((asBlank b k).words.headD 0) = b := by
  unfold asBlank at h ⊢
  cases hw : k.words with
  | nil => simp [hw, ldlSound, ldlLength] at h
  | cons w ws => cases b <;> simp [bit, b2n]

/-- The row that a READ_DIAG names lies in the low byte of W1, which the item leaves as it is. -/
theorem row_asItem (n : Nat) (k : LdlPkt) : (asItem n k).words.headD 0 % 32 = k.words.getD 0 0 % 256 % 32 := by
  rw [← headD_eq_getD_zero]
  simp only [asItem, List.headD_cons]
  omega

section
variable {d : Dev} {s p : Nat} {k : LdlPkt}

theorem readFlags_answered (h : (d.driver s p).answers k = true) :
    d.readFlags s p k =
      d.ldlReach s p k (fun v => { v with flags := v.flags.filter (fun f => f.row != k.words.headD 0 % 32) })
        (diagAnswer k (flagWords ((d.driver s p).rowFlags (k.words.headD 0 % 32)))) :=
  if_pos h

/-- The over-temperature bit of a STATUS answer is drawn as a free value (log entry 44). -/
theorem readStatus_answered (h : (d.driver s p).answers k = true) :
    d.readStatus s p k =
      { d with free := d.free + 1 }.ldlReach s p k (fun v => { v with darkSeen := 0, crcErrors := 0 })
        (diagAnswer k ((d.driver s p).statusWords (Config.freeValue d.free % 2 ^ 1))) :=
  if_pos h

theorem readIdent_answered (h : (d.driver s p).answers k = true) :
    d.readIdent s p k =
      d.ldlReach s p k id (diagAnswer k
        (let word := Config.driverIdent (s * 24 + p)
         [word 0 % 65536, word 1 % 65536, word 2 % 256 * 256, 1])) :=
  if_pos h

end
end Dev

/-- A sound packet that reaches a driver leaves the driver as its meaning makes it, and something goes on. -/
theorem act_soundPacket {t : Time} {st : State} {s p : Nat} {k : LdlPkt} (hpow : DriverPowered (st.dev.begin t)) (hs : s < 32)
    (hp : p < 24) (f : Dev → Driver → Driver) (onward : LdlPkt) (hsound : ldlSound k = true) :
    act t (fun d => d.whenDriver (fun d => d.ldlReach s p k (f d) onward)) st =
      .next (after t st (((st.dev.begin t).putDriverAt s p (f (st.dev.begin t) ((st.dev.begin t).driver s p))).emit
        (.driver s p onward))) := by
  rw [act_driverPowered _ hpow, Dev.ldlReach_sound hs hp _ _ hsound]

/-- Settles O33: each packet is sound and heard, so what its row does with it is the effect that the statement writes out. -/
theorem driversActOnSoundPackets : Obligations.DriversActOnSoundPackets := by
  intro st t s p k d hpow hs hp v put w
  have hnow : d.now = t := Dev.begin_now t st.dev
  refine ⟨fun hsound a hown hlt hfirst hlast hcount => ?row, fun hsound hall => ?plan, fun hsound hall => ?flip,
    fun haddr => ⟨fun hsound => ?range, fun hsound => ?blank, fun hsound => ?unblank⟩,
    fun hsound a hown hlt hfirst hlast hcount => ?test,
    fun hlt hown => ⟨fun hsound => ?flags, fun hsound => ?status, fun hsound => ?ident⟩,
    fun hsound => ?reservedItem, fun hsound hall => ?enumerate, fun hsound => ?reserved⟩
  case row =>
    have hblock : v.blockOf (Dev.asOpcode 1 k) = some (a - k.addr) := blockOf_run hown hlt hfirst hlast hcount
    refine (act_soundPacket hpow hs hp _ _ hsound).trans ?_
    rw [writeRow_block hblock]
    rfl
  case plan =>
    refine (act_soundPacket hpow hs hp _ _ hsound).trans ?_
    rw [setPlan_all (k := Dev.asOpcode 2 k) hall]
    rfl
  case flip =>
    refine (act_soundPacket hpow hs hp _ _ hsound).trans ?_
    rw [takeFlip_all (k := Dev.asOpcode 3 k) _ hall, hnow]
    rfl
  case range =>
    have hheard : v.hears (Dev.asOpcode 4 k) = true := hears_of_addr haddr
    refine (act_soundPacket hpow hs hp _ _ hsound).trans ?_
    rw [setRange_heard hheard]
    rfl
  case blank =>
    have hheard : v.hears (Dev.asBlank true k) = true := hears_of_addr haddr
    refine (act_soundPacket hpow hs hp _ _ hsound).trans ?_
    rw [blank_heard hheard (Dev.bit0_asBlank hsound)]
    rfl
  case unblank =>
    have hheard : v.hears (Dev.asBlank false k) = true := hears_of_addr haddr
    refine (act_soundPacket hpow hs hp _ _ hsound).trans ?_
    rw [unblank_heard hheard (Dev.bit0_asBlank hsound)]
    rfl
  case test =>
    have hblock : v.blockOf (Dev.asOpcode 6 k) = some (a - k.addr) := blockOf_run hown hlt hfirst hlast hcount
    refine (act_soundPacket hpow hs hp _ _ hsound).trans ?_
    rw [test_block hblock]
    rfl
  case flags =>
    refine (act_driverPowered _ hpow).trans ?_
    rw [Dev.readFlags_answered (answers_own hsound hlt hown), Dev.ldlReach_sound hs hp _ _ hsound, Dev.row_asItem]
    rfl
  case status =>
    refine (act_driverPowered _ hpow).trans ?_
    rw [Dev.readStatus_answered (answers_own hsound hlt hown), Dev.ldlReach_sound hs hp _ _ hsound]
    rfl
  case ident =>
    refine (act_driverPowered _ hpow).trans ?_
    rw [Dev.readIdent_answered (answers_own hsound hlt hown), Dev.ldlReach_sound hs hp _ _ hsound]
    rfl
  case reservedItem => exact act_soundPacket hpow hs hp (fun _ => id) _ hsound
  case enumerate =>
    refine (act_soundPacket hpow hs hp _ _ hsound).trans ?_
    rw [enumerate_all (k := Dev.asOpcode 8 k) hall, enumForward_all hsound hall]
    rfl
  case reserved => exact act_soundPacket hpow hs hp (fun _ => id) _ hsound

/-! ### Marks and exchanges (R287, R289, R291, R293, R308, R310) -/

section
variable {v : Driver}

/-- A mark that takes the last of the FLIPs that came at least 1 µs before it. -/
theorem mark_takesFlip {now : Time} {f : FlipCmd}
    (h : (v.flips.filter (fun f => decide (f.at' + 1000 ≤ now))).getLast? = some f) :
    v.mark now =
      { v with
        blanked := v.blanked && !v.unblank, unblank := false
        flips := v.flips.filter (fun f => !decide (f.at' + 1000 ≤ now))
        flip := some f, due := some f, markAt := some now, armed := []
        running := v.armed.filter (fun x => decide (x.start + (v.plan.map (·.dead)).getD 0 + x.width < f.na0)) } := by
  have hsome : (v.flips.filter (fun f => decide (f.at' + 1000 ≤ now))).isEmpty = false := by
    cases hl : v.flips.filter (fun f => decide (f.at' + 1000 ≤ now)) with
    | nil => simp [hl] at h
    | cons => rfl
  simp [Driver.mark, h, hsome]

/-- A mark that no FLIP came in time for keeps the last one's N_A0, and shows dark rows dark once more. -/
theorem mark_keepsFlip {now : Time} (h : v.flips.filter (fun f => decide (f.at' + 1000 ≤ now)) = []) :
    v.mark now =
      { v with
        blanked := v.blanked && !v.unblank, unblank := false, due := none, markAt := some now, armed := []
        darkSeen := if v.flip.isSome then v.darkSeen ||| darkRows v.plan v.dark else v.darkSeen
        running := v.armed.filter (fun x =>
          decide (x.start + (v.plan.map (·.dead)).getD 0 + x.width < (v.flip.map (·.na0)).getD 0)) } := by
  have hlate : v.flips.filter (fun f => !decide (f.at' + 1000 ≤ now)) = v.flips := by
    rw [List.filter_eq_self]
    intro f hf
    simpa using List.filter_eq_nil_iff.mp h f hf
  simp [Driver.mark, h, hlate]

theorem exchange_none (c : Nat) (h : v.due = none) : v.exchange c = v := by simp [Driver.exchange, h]

theorem exchange_early {c : Nat} {f : FlipCmd} (h : v.due = some f) (hc : c < f.nfc) : v.exchange c = v := by
  simp [Driver.exchange, h, Nat.not_le.mpr hc]

theorem exchange_due {c : Nat} {f : FlipCmd} (h : v.due = some f) (hc : f.nfc ≤ c) : v.exchange c = v.takeDue f := by
  simp [Driver.exchange, h, hc]

/-- The staged plan comes into force where P is set. -/
def takePlan (f : FlipCmd) (v : Driver) : Driver :=
  if f.plan then { v with plan := v.staged.orElse (fun _ => v.plan), staged := none } else v

theorem takeDue_eq (f : FlipCmd) :
    v.takeDue f =
      (let dark := 2 ^ 32 - 1 - v.written % 2 ^ 32
       let u := takePlan f v
       let u := if f.exchange then { u with front := 1 - v.front, dark := dark, written := 0,
                                            darkSeen := v.darkSeen ||| darkRows u.plan dark }
         else { u with darkSeen := v.darkSeen ||| darkRows u.plan v.dark }
       { u with due := none }) := by
  unfold Driver.takeDue takePlan
  cases f.exchange <;> cases f.plan <;> rfl

/-! ### Lit intervals and test pulses (R309, R310) -/

/-- Is a channel judged at the end of a lit interval by count `c` (R309)? -/
def judgedAt (v : Driver) (c r s : Nat) (x : LampVolt) : Bool :=
  decide (x.ch < 48) && bit 17 ((v.frontRow r).getD x.ch 0) &&
    (v.interval r s x.ch).any (fun n => decide (n.1 ≤ c) && decide ((v.plan.map (·.det)).getD 0 ≤ n.2))

theorem litEnd_eq (c r s : Nat) (xs : List LampVolt) :
    v.litEnd c r s xs =
      if (xs.filter (judgedAt v c r s)).isEmpty then v
      else v.putFlags ((xs.filter (judgedAt v c r s)).foldl judge (v.rowFlags r)) := by
  show (match xs.filter (judgedAt v c r s) with
    | [] => v
    | ys => v.putFlags (ys.foldl judge (v.rowFlags r))) = _
  cases xs.filter (judgedAt v c r s) <;> rfl

section
variable {x : ArmedTest} {rest : List ArmedTest} (h : v.running = x :: rest)
include h

theorem testEnd_early {c : Nat} (xs : List LampVolt) (hc : c < x.start + (v.plan.map (·.dead)).getD 0 + x.width) :
    v.testEnd c xs = v := by
  simp only [Driver.testEnd, h, if_pos hc]

theorem testEnd_over {c : Nat} (xs : List LampVolt) (hc : x.start + (v.plan.map (·.dead)).getD 0 + x.width ≤ c) :
    v.testEnd c xs =
      if v.canLight && decide ((v.plan.map (·.det)).getD 0 ≤ x.width) then
        { v with running := rest }.putFlags
          ((xs.filter (fun (y : LampVolt) => decide (y.ch < 48) && decide (x.mask &&& chanBit y.ch ≠ 0))).foldl judge
            (v.rowFlags x.row))
      else { v with running := rest } := by
  simp only [Driver.testEnd, h, if_neg (Nat.not_lt.mpr hc)]
  rfl

end
end

namespace Dev

/-- A driver's GCLK count at an instant: the edges since its last mark (R289, R293). -/
theorem driverCount_at {d : Dev} {t : Time} (h : d.now = t) (v : Driver) :
    d.driverCount v =
      (v.markAt.map (fun m =>
        (gclkPhase d.gclk d.gspread (m % 2 ^ 48 + (t - m)) - gclkPhase d.gclk d.gspread (m % 2 ^ 48)) /
          31250000000)).getD 0 := by
  subst h
  rfl

/-! ### Power-on (R308) -/

theorem driverPowerOn_eq {s p : Nat} (d : Dev) (hp : p < 24) :
    d.driverPowerOn s p = d.setLdl (fun l => { l with drivers := l.drivers.filter (fun x => x.1 != s * 24 + p) }) := by
  simp [driverPowerOn, Nat.not_le.mpr hp]

/-- A driver that is not listed is as at power-on. -/
theorem driver_unlisted (s p : Nat) (d : Dev) :
    (d.setLdl (fun l => { l with drivers := l.drivers.filter (fun x => x.1 != s * 24 + p) })).driver s p = .powerOn := by
  have hnone : (d.ldl.drivers.filter (fun x => x.1 != s * 24 + p)).find? (fun x => x.1 == s * 24 + p) = none := by
    simp [List.find?_eq_none]
  simp [driver, setLdl, hnone]

end Dev

/-- A mark, exchange, interval or pulse changes the one driver that it is for. -/
theorem act_onDriver {t : Time} {st : State} {s p : Nat} (hpow : DriverPowered (st.dev.begin t)) (hs : s < 32) (hp : p < 24)
    (f : Dev → Driver → Driver) :
    act t (fun d => d.whenDriver (fun d => d.onDriver s p (f d))) st =
      .next (after t st ((st.dev.begin t).putDriverAt s p (f (st.dev.begin t) ((st.dev.begin t).driver s p)))) := by
  rw [act_driverPowered _ hpow, Dev.onDriver_eq hs hp]

/-- Settles O34: each command changes its driver as the rule of the mark, exchange, interval or pulse says. -/
theorem driversFollowMarksAndPulses : Obligations.DriversFollowMarksAndPulses := by
  intro st t s p d hpow hs hp v put soon c
  have hnow : d.now = t := Dev.begin_now t st.dev
  have hcount : d.driverCount v = c := Dev.driverCount_at hnow v
  clear_value c
  refine ⟨fun f hlast => ?flipTaken, fun hnone => ?flipKept, fun hdue => ?noExchange, fun f hdue hearly => ?tooEarly,
    fun f hdue hreached => ?exchanged, fun r g xs => ?litEnd,
    fun x rest xs hrun => ⟨fun hearly => ?pulseRuns, fun hover => ?pulseOver⟩, ?powerOn, Dev.driver_unlisted s p d⟩
  case flipTaken =>
    refine (act_onDriver hpow hs hp (fun d => Driver.mark d.now)).trans ?_
    rw [hnow, mark_takesFlip hlast]
    rfl
  case flipKept =>
    refine (act_onDriver hpow hs hp (fun d => Driver.mark d.now)).trans ?_
    rw [hnow, mark_keepsFlip hnone]
    rfl
  case noExchange =>
    refine (act_onDriver hpow hs hp (fun d v => v.exchange (d.driverCount v))).trans ?_
    rw [exchange_none _ hdue]
    rfl
  case tooEarly =>
    refine (act_onDriver hpow hs hp (fun d v => v.exchange (d.driverCount v))).trans ?_
    rw [hcount, exchange_early hdue hearly]
    rfl
  case exchanged =>
    refine (act_onDriver hpow hs hp (fun d v => v.exchange (d.driverCount v))).trans ?_
    rw [hcount, exchange_due hdue hreached, takeDue_eq]
    rfl
  case litEnd =>
    refine (act_onDriver hpow hs hp (fun d v => v.litEnd (d.driverCount v) r g xs)).trans ?_
    rw [hcount, litEnd_eq]
    rfl
  case pulseRuns =>
    refine (act_onDriver hpow hs hp (fun d v => v.testEnd (d.driverCount v) xs)).trans ?_
    rw [hcount, testEnd_early hrun xs hearly]
    rfl
  case pulseOver =>
    refine (act_onDriver hpow hs hp (fun d v => v.testEnd (d.driverCount v) xs)).trans ?_
    rw [hcount, testEnd_over hrun xs hover]
    rfl
  case powerOn =>
    refine (act_driverPowered (fun d => d.driverPowerOn s p) hpow).trans ?_
    rw [Dev.driverPowerOn_eq _ hp]

namespace Dev

/-! ### Echoes (R303, R304) -/

/-- A packet that no driver changes returns as it was sent. -/
theorem echoOk_unchanged {k : LdlPkt} (h7 : k.opcode ≠ 7) (h8 : k.opcode ≠ 8) : echoOk k (ldlWords k) = true := by
  simp [echoOk, h7, h8]

/-- The oldest packet of a strand is awaited no longer, and the run of failures has ended. -/
def echoSettled (n : Nat) (rest : List (LdlPkt × Bool)) (d : Dev) : Dev :=
  (d.setStrand n (fun x => { x with sent := rest })).setStrand n (fun x => { x with fails := 0 })

section
variable {d : Dev} {n : Nat} {k : LdlPkt} {again : Bool} {rest : List (LdlPkt × Bool)} {ws : List Nat}
  (hsent : (d.strand n).sent = (k, again) :: rest)
include hsent

theorem sretEcho_settles (hok : echoOk k ws = true) :
    d.sretEcho n ws =
      if k.opcode = 7 ∧ bit 7 (ws.getD 1 0) then
        (if k.words.headD 0 / 256 = 1 then
          (d.echoSettled n rest).rowRead n k.addr (k.words.headD 0 % 32) (ws.drop 2)
        else if k.words.headD 0 / 256 = 2 then (d.echoSettled n rest).statusRead n (ws.drop 2)
        else d.echoSettled n rest)
      else d.echoSettled n rest := by
  rw [sretEcho, hsent]
  exact if_pos hok

theorem sretEcho_unanswered (hok : echoOk k ws = true) (hop : k.opcode ≠ 7) : d.sretEcho n ws = d.echoSettled n rest := by
  rw [sretEcho_settles hsent hok, if_neg fun h => hop h.1]

theorem sretEcho_rowFlags (hok : echoOk k ws = true) (hop : k.opcode = 7) (hresp : bit 7 (ws.getD 1 0) = true)
    (hitem : k.words.headD 0 / 256 = 1) :
    d.sretEcho n ws = (d.echoSettled n rest).rowRead n k.addr (k.words.headD 0 % 32) (ws.drop 2) := by
  rw [sretEcho_settles hsent hok, if_pos ⟨hop, hresp⟩, if_pos hitem]

theorem sretEcho_status (hok : echoOk k ws = true) (hop : k.opcode = 7) (hresp : bit 7 (ws.getD 1 0) = true)
    (hitem : k.words.headD 0 / 256 = 2) :
    d.sretEcho n ws = (d.echoSettled n rest).statusRead n (ws.drop 2) := by
  rw [sretEcho_settles hsent hok, if_pos ⟨hop, hresp⟩, if_neg (by omega), if_pos hitem]

theorem sretEcho_fails (hbad : echoOk k ws = false) :
    d.sretEcho n ws = (d.setStrand n (fun x => { x with sent := rest })).echoFailed n k again := by
  rw [sretEcho, hsent]
  exact if_neg (Bool.eq_false_iff.mp hbad)

theorem echoTimeout_fails :
    d.echoTimeout n = (d.setStrand n (fun x => { x with sent := rest })).echoFailed n k again := by
  rw [echoTimeout, hsent]

end

/-! ### Probes of a Broken strand (R304) -/

/-- The STATUS read of driver 0 leaves as a probe. -/
def probeSent (n : Nat) (d : Dev) : Dev :=
  (d.setStrand n (fun x => { x with probedAt := some d.now })).emit (.ldl n (diagPkt 0 2 0))

theorem probeSent_at {d : Dev} {t : Time} (n : Nat) (h : d.now = t) :
    d.probeSent n = (d.setStrand n (fun x => { x with probedAt := some t })).emit (.ldl n (diagPkt 0 2 0)) := by
  rw [probeSent, h]

theorem mayProbe_of {d : Dev} {n : Nat} (hn : n < 32) (harmed : d.start.run = .armed) (hbroken : d.obj (K.STR_STATE n) = 4)
    (hidle : (d.strand n).bringing = false) (hnone : (d.strand n).again = none)
    (hpause : ∀ m, (d.strand n).probedAt = some m → m + 1000000000 ≤ d.now) (hdark : d.inDarkGap = true)
    (hroom : d.mayStart n (diagPkt 0 2 0) = true) : d.mayProbe n = true := by
  have hpause' : (d.strand n).probedAt.all (fun t => decide (t + 1000000000 ≤ d.now)) = true := by
    simpa [Option.all_eq_true] using hpause
  simp [mayProbe, hn, harmed, hbroken, hidle, hnone, hpause', hdark, hroom]

section
variable {d : Dev} {n : Nat} (hmay : d.mayProbe n = true)
include hmay

theorem brokenProbe_returns {ws : List Nat} (hok : echoOk (diagPkt 0 2 0) ws = true) :
    d.brokenProbe n (some ws) =
      (let e := (d.probeSent n).setStrand n (fun x => { x with again := some (d.probeSent n).nextDarkGap })
       if bit 7 (ws.getD 1 0) then e.statusRead n (ws.drop 2) else e) := by
  simp only [brokenProbe, if_pos hmay, Option.filter, hok]
  rfl

theorem brokenProbe_fails {back : Option (List Nat)} (hnone : back.filter (echoOk (diagPkt 0 2 0)) = none) :
    d.brokenProbe n back = (d.probeSent n).bump (K.STR_ECHO_FAIL n) := by
  simp only [brokenProbe, if_pos hmay, hnone]
  rfl

end

/-! ### Diagnostic reads and lamp states (R312, R314) -/

theorem diagDue_of {d : Dev} (harmed : d.start.run = .armed)
    (hperiod : ∀ m, d.ldl.diagAt = some m → m + d.obj K.DIAG_READ_PERIOD * 1000000 ≤ d.now) : d.diagDue = true := by
  have hperiod' : d.ldl.diagAt.all (fun t => decide (t + d.obj K.DIAG_READ_PERIOD * 1000000 ≤ d.now)) = true := by
    simpa [Option.all_eq_true] using hperiod
  simp [diagDue, harmed, hperiod']

/-- The reads that a strand is due: ROW_FLAGS of its mapped rows, and STATUS of its drivers (R312). -/
def readStrand (n : Nat) (d : Dev) : Dev :=
  let e := (d.mappedRows n).foldl (fun e x => e.sendLow n (diagPkt x.1 1 x.2) false) d
  (List.range (min 24 (e.obj (K.STR_DRIVERS_FOUND n)))).foldl (fun e a => e.sendLow n (diagPkt a 2 0) false) e

theorem diagRead_due {d : Dev} (hdue : d.diagDue = true) :
    d.diagRead =
      (let f := d.setLdl (fun l => { l with diagAt := some d.now })
       f.strandsLive.foldl (fun e n => e.readStrand n) f) := by
  unfold diagRead
  rw [hdue]
  rfl

theorem verifyExpiry_old {d : Dev} {lamp : Nat} (hgood : d.lampState lamp = 2)
    (hold : d.verifiedOlder lamp (d.obj K.DIAG_VERIFY_MAX_AGE) = true) :
    d.verifyExpiry lamp = d.setLdl (fun l => { l with lamps := Store.del lamp l.lamps }) :=
  if_pos ⟨hgood, hold⟩

theorem rowWrite_lampClear {d : Dev} {sid v : Nat} {x : Session} (hopen : ScalarOpen d sid K.LAMP_CLEAR v x)
    (hlamp : v = 0xFFFFFFFF ∨ d.lampExists v = true) :
    d.rowWrite sid K.LAMP_CLEAR v = (d.lampClear v).emit (.entry sid K.LAMP_CLEAR Status.OK) := by
  have hok : d.lampClearOk v = true := by simpa [lampClearOk] using hlamp
  rw [rowWrite_action hopen (action_lampClear d false x.id v), if_pos hok, actIf_ok, entryDone]

end Dev

/-- Settles O35: each command takes the branch of its premises: a packet returns or fails, a strand may be probed, a read is
due, a lamp is verified too long ago or cleared. -/
theorem theTileWatchesItsStrands : Obligations.TheTileWatchesItsStrands := by
  intro s t d
  have hnow : d.now = t := Dev.begin_now t s.dev
  refine ⟨fun hruns => ⟨fun rs => act_tileRuns (fun d => d.bringupDone rs) hruns,
    fun n k again rest hsent => ⟨fun ws hws h7 h8 => ?unchanged,
      fun ws hok hop hresp => ⟨fun hitem => ?rowFlags, fun hitem => ?status⟩,
      fun ws hbad => ?damaged, ?late, rfl⟩,
    fun n hn harmed hbroken hidle hnone hpause hdark hroom => ?probes,
    fun harmed hperiod => ?reads, fun lamp hgood hold => ?unverified⟩, fun sid x v htile hopen hlamp => ?cleared⟩
  case unchanged =>
    have hok : Dev.echoOk k ws = true := hws ▸ Dev.echoOk_unchanged h7 h8
    refine (act_tileRuns (fun d => d.sretEcho n ws) hruns).trans ?_
    rw [Dev.sretEcho_unanswered hsent hok h7]
    rfl
  case rowFlags =>
    refine (act_tileRuns (fun d => d.sretEcho n ws) hruns).trans ?_
    rw [Dev.sretEcho_rowFlags hsent hok hop hresp hitem]
    rfl
  case status =>
    refine (act_tileRuns (fun d => d.sretEcho n ws) hruns).trans ?_
    rw [Dev.sretEcho_status hsent hok hop hresp hitem]
    rfl
  case damaged =>
    refine (act_tileRuns (fun d => d.sretEcho n ws) hruns).trans ?_
    rw [Dev.sretEcho_fails hsent hbad]
  case late =>
    refine (act_tileRuns (fun d => d.echoTimeout n) hruns).trans ?_
    rw [Dev.echoTimeout_fails hsent]
  case probes =>
    have hmay : d.mayProbe n = true :=
      Dev.mayProbe_of hn harmed hbroken hidle hnone (fun m hm => hnow ▸ hpause m hm) hdark hroom
    refine ⟨fun ws hok => ?_, fun ws hbad => ?_, ?_⟩
    · refine (act_tileRuns (fun d => d.brokenProbe n (some ws)) hruns).trans ?_
      rw [Dev.brokenProbe_returns hmay hok, Dev.probeSent_at n hnow]
    · refine (act_tileRuns (fun d => d.brokenProbe n (some ws)) hruns).trans ?_
      rw [Dev.brokenProbe_fails hmay (Option.filter_some_neg hbad), Dev.probeSent_at n hnow]
    · refine (act_tileRuns (fun d => d.brokenProbe n none) hruns).trans ?_
      rw [Dev.brokenProbe_fails hmay rfl, Dev.probeSent_at n hnow]
  case reads =>
    have hdue : d.diagDue = true := Dev.diagDue_of harmed fun m hm => hnow ▸ hperiod m hm
    refine (act_tileRuns Dev.diagRead hruns).trans ?_
    rw [Dev.diagRead_due hdue, hnow]
    rfl
  case unverified =>
    refine (act_tileRuns (fun d => d.verifyExpiry lamp) hruns).trans ?_
    rw [Dev.verifyExpiry_old hgood hold]
  case cleared =>
    refine (act_eq t (fun d => d.rowWrite sid K.LAMP_CLEAR v) s).trans ?_
    rw [Dev.rowWrite_lampClear hopen hlamp]
    rfl

end Sys2Proof.Machine

/-!
PROOFS. Overlays (10_overlay_checks.md): the checks of an overlay command (R325, R326), what an accepted one does (R327 to
R329), and how the last chunk of an image ends Loading (R323, R324).
-/
namespace Sys2Proof.Machine
open Sys2Proof.Safety

/-- The CMD of a command is its first byte. -/
theorem ovlFields_cmd {cmd : Nat} (body : Bytes) (h : cmd < 256) : (ovlFields (be 1 cmd ++ body)).cmd = cmd :=
  fieldAt_be_left body h

namespace Dev

/-! ### The checks of a command (R326) -/

/-- A reserved CMD is no valid field. -/
theorem ovlFieldsBad_reserved {f : OvlFields} (h : f.cmd = 0 ∨ 5 < f.cmd) : ovlFieldsBad f = true := by
  unfold ovlFieldsBad
  split
  case h_6 => exact Bool.or_true _
  all_goals omega

section
variable {d : Dev} {b : Bytes}

theorem ovlCheck_length (h : b.length ≠ 104) : d.ovlCheck b = Status.LENGTH := if_pos h

/-- A command whose fields are bad fails one of the checks up to that of its fields. -/
theorem ovlCheck_ne_OK_of_fieldsBad (h : ovlFieldsBad (ovlFields b) = true) : d.ovlCheck b ≠ Status.OK := by
  have hlength : Status.LENGTH ≠ Status.OK := by decide
  have hauth : Status.AUTH ≠ Status.OK := by decide
  have hrange : Status.RANGE ≠ Status.OK := by decide
  simp only [ovlCheck, h, if_true]
  exact ite_ne_of_ne hlength (ite_ne_of_ne hauth (ite_ne_of_ne hrange (ite_ne_of_ne hauth (ite_ne_of_ne hauth hrange))))

/-- Bad fields are answered RANGE where every check before that of the fields passes. -/
theorem ovlCheck_fieldsBad (hbad : ovlFieldsBad (ovlFields b) = true) (hlen : b.length = 104)
    (hmac : d.fix.otp.safetyKey.map (fun key => ovlMac key b) = some (slice 72 32 b))
    (hcomp : slice 36 36 b = complement (b.take 36))
    (htarget : (ovlFields b).target = d.fix.fuses.uid ∨ (ovlFields b).target = 2 ^ 64 - 1)
    (hseq : d.obj K.OVL_SEQUENCE < (ovlFields b).seq) : d.ovlCheck b = Status.RANGE := by
  unfold ovlCheck
  extract_lets f
  rw [if_neg (not_not_intro hlen), if_neg (not_not_intro hmac), if_neg (not_not_intro hcomp),
    if_neg (fun ⟨hother, hsome⟩ => htarget.elim hother hsome), if_neg (Nat.not_le.mpr hseq), if_pos hbad]

/-! ### A command, taken or refused (R326 to R329) -/

theorem ovlCommand_accepted (h : d.ovlCheck b = Status.OK) :
    d.ovlCommand b = (Status.OK, d.ovlTake (ovlFields b)) := by
  unfold ovlCommand
  extract_lets st keyOk
  rw [if_pos h]
  exact congrArg (fun z => (z, d.ovlTake (ovlFields b))) h

theorem ovlCommand_refused (h : d.ovlCheck b ≠ Status.OK) :
    d.ovlCommand b = (d.ovlCheck b, d.ovlRefuse (b.length == 104 &&
      d.fix.otp.safetyKey.map (fun key => ovlMac key b) == some (slice 72 32 b) &&
      slice 36 36 b != complement (b.take 36))) := if_neg h

/-- A command sent whole is checked as a command, whatever its length. -/
theorem ovlChunk_wholeChunk (b : Bytes) (d : Dev) : d.ovlChunk (wholeChunk b) = d.ovlCommand b := by
  by_cases hlen : b.length = 104
  · exact if_pos ⟨rfl, rfl, hlen, hlen⟩
  · have hcheck : d.ovlCheck b = Status.LENGTH := ovlCheck_length hlen
    have hshort : ¬ ((wholeChunk b).offset = 0 ∧ !(wholeChunk b).more ∧ (wholeChunk b).total = 104 ∧
        (wholeChunk b).data.length = 104) := fun ⟨_, _, _, hdata⟩ => hlen hdata
    rw [ovlChunk, if_neg hshort, ovlCommand_refused (by rw [hcheck]; decide), hcheck, beq_false_of_ne hlen]
    rfl

end

/-- An allowed command meets its own checks. -/
theorem rowOverlay_open {d : Dev} {sid cmd : Nat} {body : Bytes} {x : Session} (h : OverlayOpen d sid x)
    (hlen : body.length < 1024) :
    d.rowOverlay sid cmd body = entryDone sid K.OVL_COMMAND (d.ovlCommand (be 1 cmd ++ body)) := by
  obtain ⟨hwrites, hentry, ⟨o, hdef, hblob⟩, hdevice, hlocked, hupdate⟩ := h
  have hsized : chunkSized (wholeChunk (be 1 cmd ++ body)) = true := by
    simp only [chunkSized, wholeChunk, List.length_append, length_be, Bool.and_eq_true, decide_eq_true_eq]
    omega
  have himage : K.OVL_COMMAND ≠ K.UPD_IMAGE := by decide
  have hloading : d.loadingFor (writerOf x false).sid 0 K.OVL_COMMAND = false := rfl
  have hlocked : d.lockedFor (writerOf x false).sid K.OVL_COMMAND = false := hlocked
  have hflash : (d.persists K.OVL_COMMAND && (d.updState == 5 || d.updState == 6)) = false := by
    rcases hupdate with hvolatile | ⟨hne5, hne6⟩
    · simp [hvolatile]
    · simp [hne5, hne6]
  rw [rowOverlay, rowChunk, bySession_open _ hwrites, writeChunk, ← ovlChunk_wholeChunk]
  simp only [hentry, hdef, hblob, hsized, hdevice, himage, hloading, hlocked, hflash]
  rfl

/-! ### What an accepted command does (R327 to R329) -/

/-- A command that has been accepted waits for its boundary: SEQUENCE is kept, and the command joins those that wait. -/
def ovlWait (f : OvlFields) (d : Dev) : Dev :=
  (d.putFlash K.OVL_SEQUENCE f.seq).setOvl (fun l => l ++ [
    { cmd := f.cmd, slot := f.slot, seq := f.seq, x := f.x, y := f.y, w := f.w, h := f.h, crc := f.crc,
      applyAt := if f.applyAt = 0 then 0 else wallToAbs d.now f.applyAt, taken := d.now, held := false }])

section
variable {f : OvlFields}

@[simp] theorem ovlWait_now (f : OvlFields) (d : Dev) : (d.ovlWait f).now = d.now := rfl

/-- A command that waits leaves the mode in force alone. -/
@[simp] theorem ovlWait_mode (f : OvlFields) (d : Dev) : (d.ovlWait f).mode = d.mode := by
  have hother : K.MODE_NUMBER ≠ K.OVL_SEQUENCE := by decide
  have hobj : (d.ovlWait f).obj K.MODE_NUMBER = d.obj K.MODE_NUMBER := setObj_obj_other f.seq d hother
  have hon : (d.ovlWait f).modeOn = d.modeOn := rfl
  rw [mode, mode, hobj, hon]

theorem ovlTake_load (d : Dev) (h : f.cmd = 1) :
    d.ovlTake f =
      ((((((((d.putFlash K.OVL_SEQUENCE f.seq).ovlDropData f.slot).setBlob (K.OVL_DATA f.slot) []).flashBlob
        (K.OVL_DATA f.slot)).setOvlState f.slot 1).putFlash (K.OVL_W f.slot) f.w).putFlash
          (K.OVL_H f.slot) f.h).putFlash (K.OVL_IMAGE_CRC f.slot) f.crc) := by
  simp [ovlTake, h]

theorem ovlTake_clear (d : Dev) (h : f.cmd = 4) :
    d.ovlTake f =
      ((((((((((d.putFlash K.OVL_SEQUENCE f.seq).ovlDropData f.slot).setBlob (K.OVL_DATA f.slot) []).flashBlob
        (K.OVL_DATA f.slot)).putFlash (K.OVL_W f.slot) 0).putFlash (K.OVL_H f.slot) 0).putFlash
          (K.OVL_IMAGE_CRC f.slot) 0).putFlash (K.OVL_X f.slot) 0).putFlash (K.OVL_Y f.slot) 0).setOvlState f.slot 0) := by
  simp [ovlTake, h]

/-- Any other command waits; with no mode in force, those that are due apply at once. -/
theorem ovlTake_waits (d : Dev) (hload : f.cmd ≠ 1) (hclear : f.cmd ≠ 4) :
    d.ovlTake f = if d.mode = 0 then (d.ovlWait f).ovlApplyDue d.now else d.ovlWait f := by
  rw [← ovlWait_mode f d, ← ovlWait_now f d]
  have hkeeps : ¬ (f.cmd = 1 ∨ f.cmd = 4) := by omega
  simp only [ovlTake, if_neg hkeeps]
  rfl

theorem ovlTake_moving {d : Dev} (hload : f.cmd ≠ 1) (hclear : f.cmd ≠ 4) (hmode : d.mode ≠ 0) :
    d.ovlTake f = d.ovlWait f := by
  rw [ovlTake_waits d hload hclear, if_neg hmode]

theorem ovlTake_still {d : Dev} (hload : f.cmd ≠ 1) (hclear : f.cmd ≠ 4) (hmode : d.mode = 0) :
    d.ovlTake f = (d.ovlWait f).ovlApplyDue d.now := by
  rw [ovlTake_waits d hload hclear, if_pos hmode]

end

/-! ### The last chunk of an image (R323, R324, R329) -/

/-- Every byte has arrived with a last chunk that fits. -/
theorem length_of_chunkFits_last {g : BlobStage} {b : Chunk} (hfits : chunkFits g b = true) (hlast : b.more = false) :
    (g.data ++ b.data).length = b.total := by
  simp only [chunkFits, hlast, Bool.and_eq_true, beq_iff_eq, decide_eq_true_eq, eq_comm (a := false),
    decide_eq_false_iff_not] at hfits
  rw [List.length_append]
  omega

section
variable {d : Dev} {sid k : Nat} {x : Session}

theorem ovlDataFirst_loading (hstate : d.ovlState k = 1) :
    d.ovlDataFirst k (d.obj (K.OVL_W k) * d.obj (K.OVL_H k) * 6) = Status.OK := by
  simp [ovlDataFirst, hstate]

theorem blobNext_ovlData (hk : k < 4) (total : Nat) : d.blobNext (K.OVL_DATA k) total = d.ovlDataFirst k total := by
  have hindex : K.OVL_DATA k / 256 = 0x6810 + k := by unfold K.OVL_DATA; omega
  have hcal : K.OVL_DATA k ≠ K.PRISM_CAL_IMAGE := by unfold K.OVL_DATA K.PRISM_CAL_IMAGE; omega
  have hmap : K.OVL_DATA k ≠ K.LDL_LAMP_MAP := by unfold K.OVL_DATA K.LDL_LAMP_MAP; omega
  unfold blobNext
  simp only [hindex]
  rw [if_neg (by omega), if_neg hcal, if_neg hmap, if_pos (by omega), Nat.add_sub_cancel_left]

theorem blobDone_ovlData (hk : k < 4) (data : Bytes) (rb : Bool) :
    d.blobDone (K.OVL_DATA k) data rb = d.actIf false (d.ovlDataFirst k data.length) (fun d => d.ovlDataDone k data) := by
  have hindex : K.OVL_DATA k / 256 = 0x6810 + k := by unfold K.OVL_DATA; omega
  have hcommand : K.OVL_DATA k ≠ K.OVL_COMMAND := by unfold K.OVL_DATA K.OVL_COMMAND; omega
  have hcal : K.OVL_DATA k ≠ K.PRISM_CAL_IMAGE := by unfold K.OVL_DATA K.PRISM_CAL_IMAGE; omega
  have hkey : K.OVL_DATA k ≠ K.OTP_SAFETY_KEY := by unfold K.OVL_DATA K.OTP_SAFETY_KEY; omega
  unfold blobDone
  simp only [hindex]
  rw [if_neg hcommand, if_neg hcal, if_neg hkey, if_neg (by omega), if_neg (by omega), if_pos (by omega),
    Nat.add_sub_cancel_left]

/-- The last chunk of an image of a Loading slot ends its loading. -/
theorem rowChunk_ovlData_last {b : Chunk} {g : BlobStage} (hk : k < 4) (h : ChunkOpen d sid (K.OVL_DATA k) b x)
    (hstage : d.stageOf x.id 0 (K.OVL_DATA k) = some g) (hfits : chunkFits g b = true) (hlast : b.more = false)
    (hstate : d.ovlState k = 1) (htotal : b.total = d.obj (K.OVL_W k) * d.obj (K.OVL_H k) * 6) :
    d.rowChunk sid (K.OVL_DATA k) b true =
      ((d.dropStage x.id 0 (K.OVL_DATA k)).ovlDataDone k (g.data ++ b.data)).emit
        (.entry sid (K.OVL_DATA k) Status.OK) := by
  have hfirst : d.ovlDataFirst k b.total = Status.OK := by rw [htotal, ovlDataFirst_loading hstate]
  have hnext : d.blobNext (K.OVL_DATA k) b.total = Status.OK := by rw [blobNext_ovlData hk, hfirst]
  have hwhole : (d.dropStage x.id 0 (K.OVL_DATA k)).ovlDataFirst k (g.data ++ b.data).length = Status.OK := by
    rw [length_of_chunkFits_last hfits hlast]
    exact hfirst
  rw [rowChunk_ends true h hnext hstage hfits hlast, wholeDone, blobDone_ovlData hk, hwhole, actIf_ok]
  rfl

end

section
variable {d : Dev} {k : Nat} {data : Bytes}

/-- An image whose CRC is IMAGE_CRC makes its slot Ready. -/
theorem ovlDataDone_right
    (h : crc32c data = ((d.setBlob (K.OVL_DATA k) data).flashBlob (K.OVL_DATA k)).obj (K.OVL_IMAGE_CRC k)) :
    d.ovlDataDone k data = ((d.setBlob (K.OVL_DATA k) data).flashBlob (K.OVL_DATA k)).setOvlState k 2 := if_pos h

/-- Any other image makes its slot Failed, and an ACTIVATE that waits for the slot is discarded and logged. -/
theorem ovlDataDone_wrong
    (h : crc32c data ≠ ((d.setBlob (K.OVL_DATA k) data).flashBlob (K.OVL_DATA k)).obj (K.OVL_IMAGE_CRC k)) :
    d.ovlDataDone k data =
      (let r := (((d.setBlob (K.OVL_DATA k) data).flashBlob (K.OVL_DATA k)).setOvlState k 4).fault 8 (K.OVL_STATE k) k
       (r.flash.ovl.filter (fun c => c.cmd == 2 && c.slot == k)).foldl (fun r _ => r.fault 14 (K.OVL_STATE k) k)
         (r.setOvl (fun l => l.filter (fun c => !(c.cmd == 2 && c.slot == k))))) := if_neg h

end

end Dev

/-! ### The rows of overlay commands (R325, R329) -/

/-- The rows that write `OVL_COMMAND`, each with the CMD that it sends. -/
def overlayRows (t : Time) (sid : SessionId) (cmd : Nat) (body : Bytes) : List (Nat × Instr) :=
  [(1, .ovlLoad t sid body), (2, .ovlActivate t sid body), (3, .ovlDeactivate t sid body), (4, .ovlClear t sid body),
    (5, .ovlDeactivateAll t sid body), (cmd, .ovlReservedCmd t sid cmd body)]

/-- Each of these rows is an overlay command of its CMD. -/
theorem exec_overlayRow {t : Time} {sid : SessionId} {cmd : Nat} {body : Bytes} {i : Nat × Instr}
    (hi : i ∈ overlayRows t sid cmd body) (s : State) :
    exec i.2 s = .next (after t s ((s.dev.begin t).rowOverlay sid i.1 body)) := by
  simp only [overlayRows, List.mem_cons, List.not_mem_nil, or_false] at hi
  obtain rfl | rfl | rfl | rfl | rfl | rfl := hi <;> exact act_eq t _ s

section
variable {s : State} {t : Time} {sid : SessionId} {cmd : Nat} {body : Bytes} {x : Session} {i : Nat × Instr}
  (hi : i ∈ overlayRows t sid cmd body) (hopen : OverlayOpen (s.dev.begin t) sid x) (hlen : body.length < 1024)
include hi hopen hlen

theorem exec_overlay_accepted (hok : (s.dev.begin t).ovlCheck (be 1 i.1 ++ body) = Status.OK) :
    exec i.2 s = .next (after t s (((s.dev.begin t).ovlTake (ovlFields (be 1 i.1 ++ body))).emit
      (.entry sid K.OVL_COMMAND Status.OK))) := by
  rw [exec_overlayRow hi, Dev.rowOverlay_open hopen hlen, Dev.ovlCommand_accepted hok, Dev.entryDone]

theorem exec_overlay_refused (hno : (s.dev.begin t).ovlCheck (be 1 i.1 ++ body) ≠ Status.OK) :
    exec i.2 s = .next (after t s (((s.dev.begin t).ovlRefuse ((be 1 i.1 ++ body).length == 104 &&
      (s.dev.begin t).fix.otp.safetyKey.map (fun key => ovlMac key (be 1 i.1 ++ body)) ==
        some (slice 72 32 (be 1 i.1 ++ body)) &&
      slice 36 36 (be 1 i.1 ++ body) != complement ((be 1 i.1 ++ body).take 36))).emit
        (.entry sid K.OVL_COMMAND ((s.dev.begin t).ovlCheck (be 1 i.1 ++ body))))) := by
  rw [exec_overlayRow hi, Dev.rowOverlay_open hopen hlen, Dev.ovlCommand_refused hno, Dev.entryDone]

end

/-- Settles O36: each row is a command that its checks take or refuse, and the last chunk of an image ends Loading. -/
theorem overlayCommandsTakeEffectOrAreCounted : Obligations.OverlayCommandsTakeEffectOrAreCounted := by
  intro s t sid body x d
  have hnow : d.now = t := Dev.begin_now t s.dev
  refine ⟨?command, ?image⟩
  case command =>
    intro cmd hcmd hlen b f hopen ok e e1 wait keyOk bad refused
    have hfcmd : f.cmd = cmd := ovlFields_cmd body hcmd
    have hwait : d.ovlWait f = wait := by rw [Dev.ovlWait, hnow, hfcmd]
    have hreserved (h : cmd = 0 ∨ 5 < cmd) : ovlFieldsBad f = true := Dev.ovlFieldsBad_reserved (hfcmd.symm ▸ h)
    refine ⟨fun hok => ⟨?load, ?clear, ?wait⟩, ?refused, fun hres => ⟨?reserved, ?range⟩⟩
    case load =>
      rintro rfl
      have hrow : (1, .ovlLoad t sid body) ∈ overlayRows t sid 1 body := by simp [overlayRows]
      refine (exec_overlay_accepted hrow hopen hlen hok).trans ?_
      rw [Dev.ovlTake_load _ hfcmd]
    case clear =>
      rintro rfl
      have hrow : (4, .ovlClear t sid body) ∈ overlayRows t sid 4 body := by simp [overlayRows]
      refine (exec_overlay_accepted hrow hopen hlen hok).trans ?_
      rw [Dev.ovlTake_clear _ hfcmd]
    case wait =>
      intro i hi hicmd
      have hrow : i ∈ overlayRows t sid cmd body := by
        simp only [List.mem_cons, List.not_mem_nil, or_false] at hi
        obtain rfl | rfl | rfl := hi <;> simp [overlayRows]
      obtain ⟨hload, hclear⟩ : f.cmd ≠ 1 ∧ f.cmd ≠ 4 := by
        simp only [List.mem_cons, List.not_mem_nil, or_false] at hi
        rw [hfcmd, hicmd]
        obtain rfl | rfl | rfl := hi <;> simp
      subst hicmd
      have hrun := exec_overlay_accepted hrow hopen hlen hok
      refine ⟨fun hmode => hrun.trans ?_, fun hmode => hrun.trans ?_⟩
      · rw [Dev.ovlTake_moving hload hclear hmode, hwait]
      · rw [Dev.ovlTake_still hload hclear hmode, hwait, hnow]
    case refused =>
      rintro i hi rfl hno
      exact exec_overlay_refused hi hopen hlen hno
    case reserved => exact Dev.ovlCheck_ne_OK_of_fieldsBad (hreserved hres)
    case range =>
      intro hlen104 hkey hcomp htarget hseq
      have hrange : d.ovlCheck b = Status.RANGE :=
        Dev.ovlCheck_fieldsBad (hreserved hres) hlen104 (eq_of_beq hkey) hcomp htarget hseq
      have hno : d.ovlCheck b ≠ Status.OK := Dev.ovlCheck_ne_OK_of_fieldsBad (hreserved hres)
      have hbad : bad = false := by simp only [bad, hcomp, bne_self_eq_false, Bool.and_false]
      have hrow : (cmd, .ovlReservedCmd t sid cmd body) ∈ overlayRows t sid cmd body := by simp [overlayRows]
      refine (exec_overlay_refused hrow hopen hlen hno).trans ?_
      change Host.Outcome.next refused = _
      simp only [refused, hbad, hrange]
  case image =>
    intro k b g hk hopen hstage hfits hlast hstate htotal data e ok
    have hrun : exec (.ovlDataWrite t sid k b) s = .next (ok ((d.dropStage x.id 0 (K.OVL_DATA k)).ovlDataDone k data)) := by
      have hrow : (Instr.ovlDataWrite t sid k b, K.OVL_DATA k, 4) ∈ blobRows t sid k b := by simp [blobRows]
      rw [exec_blobRow hrow hk s, Dev.rowChunk_ovlData_last hk hopen hstage hfits hlast hstate htotal]
    refine ⟨fun hcrc => hrun.trans ?_, fun hcrc => hrun.trans ?_⟩
    · rw [Dev.ovlDataDone_right hcrc]
    · rw [Dev.ovlDataDone_wrong hcrc]

end Sys2Proof.Machine

/-!
PROOFS. The wear ledger (11_wear_ledger.md): the whole second (R340, R344, R352, R353), checkpoints and the Service writes
(R355, R359, R360), and ceiling requests (R348, R349).
-/
namespace Sys2Proof.Machine
open Sys2Proof.Safety

namespace Dev

/-! ### The whole second (R340, R344, R352, R353) -/

/-- With no poisoned or corrected accumulator, and no control restart, LEDGER_FOLD is what the second brings. -/
theorem ledgerTick_sound {d : Dev} (h : d.integ.restart = none) : d.ledgerTick {} = d.ledgerSecond := by
  simp [ledgerTick, h]

section
variable {d : Dev}

theorem ledgerSecond_between (h : d.now % 1000000000 ≠ 0) : d.ledgerSecond = d := if_pos h

theorem ledgerSecond_second (hwhole : d.now % 1000000000 = 0) (h : d.now / 1000000000 % 60 ≠ 0) :
    d.ledgerSecond = d.fold.journalSecond (d.now / 1000000000) := by
  rw [ledgerSecond, if_neg (not_not_intro hwhole)]
  exact if_neg h

theorem ledgerSecond_minute (hwhole : d.now % 1000000000 = 0) (h : d.now / 1000000000 % 60 = 0) :
    d.ledgerSecond = (List.range 16).foldl (fun r k => r.closePdWindow k)
      (d.fold.journalSecond (d.now / 1000000000)).gainUpdate := by
  rw [ledgerSecond, if_neg (not_not_intro hwhole)]
  exact if_pos h

end

/-- A changed interval comes into force at a snapshot instant (R353). -/
def takeInterval (sec : Nat) (d : Dev) : Dev :=
  if sec % d.obj K.LEDG_INTERVAL_IN_FORCE = 0 then d.setObj K.LEDG_INTERVAL_IN_FORCE d.intervalNow else d

/-- A second before a snapshot instant its PROJECTION record is written (R352). -/
def projectAhead (sec : Nat) (d : Dev) : Dev :=
  if (sec + 1) % d.obj K.LEDG_INTERVAL_IN_FORCE = 0 then
    let opened := d.openCkpt ((d.now + 1000000000) % 2 ^ 48) false
    opened.2.setLedger (fun l => { l with next := some opened.1 })
  else d

/-- Does the journal take nothing at a whole second: it may not be written, or the device is on its way to Standby or Off
(R358, R556, R559)? -/
def JournalRests (d : Dev) : Prop :=
  d.journalWritable = false ∨ d.start.run = .toStandby ∨ d.start.run = .toOff

section
variable {d : Dev} (sec : Nat)

theorem journalSecond_rests (h : JournalRests d) : d.journalSecond sec = d := by
  unfold journalSecond
  rw [if_pos (by simpa [JournalRests, or_assoc] using h)]

theorem journalSecond_open (h : ¬ JournalRests d) :
    d.journalSecond sec = (d.snapshotDue.takeInterval sec).projectAhead sec := by
  unfold journalSecond
  rw [if_neg (by simpa [JournalRests, or_assoc] using h)]
  rfl

end

theorem snapshotDue_none {d : Dev} (h : d.ledger.next = none) : d.snapshotDue = d := by
  rw [snapshotDue, h]

/-- A snapshot that was projected is taken at its instant, skipped while a checkpoint is in progress, or given up. -/
theorem snapshotDue_some {d : Dev} {c : Ckpt} (h : d.ledger.next = some c) :
    d.snapshotDue =
      (let f := d.setLedger (fun l => { l with next := none })
       if c.snapTime ≠ d.wall then f
       else if d.ledger.ckpt.isSome then f.bump K.LEDG_SNAPSHOTS_SKIPPED
       else f.takeSnapshot c) := by
  rw [snapshotDue, h]
  rfl

@[simp] theorem takeSnapshot_now (c : Ckpt) (d : Dev) : (d.takeSnapshot c).now = d.now := by
  unfold takeSnapshot
  split <;> rfl

@[simp] theorem takeInterval_now (sec : Nat) (d : Dev) : (d.takeInterval sec).now = d.now := by
  unfold takeInterval
  split <;> rfl

@[simp] theorem snapshotDue_now (d : Dev) : d.snapshotDue.now = d.now := by
  unfold snapshotDue
  split
  · rfl
  · dsimp only
    split
    · rfl
    · split
      · rfl
      · exact takeSnapshot_now _ _

/-! ### Checkpoints (R352, R355, R360) -/

/-- A checkpoint in progress writes its segments and its COMMIT, with the blocks that fail known. -/
def writeCkpt (failing : List (Nat × Nat)) (c : Ckpt) (d : Dev) : Dev :=
  let n := ceilDiv d.entryCount 8176
  ((List.range n).foldl (fun r i => r.writeRecord (r.segmentRecord c.seq i))
    (d.setJournal (fun j => { j with failing := j.failing ++ failing }))).appendRecord
      (mkRecord 3 c.seq 0 [c.snapTime / 2 ^ 32 % 2 ^ 16, c.snapTime % 2 ^ 32, d.entryCount, n])

/-- A checkpoint whose COMMIT stands is complete: its instant is reported, and a CLOSE follows where one is due. -/
def ckptDone (c : Ckpt) (d : Dev) : Dev :=
  let e := (d.setObj K.LEDG_LAST_SNAPSHOT (c.snapTime % 2 ^ 48)).setLedger (fun l => { l with ckpt := none })
  (if c.close then e.appendRecord (mkRecord 4 c.seq 0 [e.wall / 2 ^ 32, e.wall % 2 ^ 32]) else e).reportJournal

section
variable {d : Dev} {c : Ckpt} {failing : List (Nat × Nat)} (hckpt : d.ledger.ckpt = some c)
  (hopen : d.journalWritable = true)
include hckpt hopen

/-- A checkpoint in progress on a writable journal is written, and complete unless its blocks end the journal. -/
theorem finishCkpt_inProgress :
    d.finishCkpt failing = if (d.writeCkpt failing c).journalWritable then (d.writeCkpt failing c).ckptDone c
      else d.writeCkpt failing c := by
  have hstill : (d.setJournal (fun j => { j with failing := j.failing ++ failing })).ledger.ckpt = some c := hckpt
  have hwritable : (d.setJournal (fun j => { j with failing := j.failing ++ failing })).journalWritable = true := hopen
  unfold finishCkpt
  simp only [hstill, hwritable, Bool.not_true, Bool.false_eq_true, if_false]
  cases hend : (d.writeCkpt failing c).journalWritable with
  | false => exact if_pos (by rw [Bool.not_eq_true']; exact hend)
  | true => exact if_neg (by rw [Bool.not_eq_true', Bool.not_eq_false]; exact hend)

end

/-! An immediate checkpoint writes its PROJECTION, then takes its snapshot (R355, R361). -/

section
variable {d : Dev} (close : Bool)

theorem immediateCkpt_shut (h : d.journalWritable = false) : d.immediateCkpt close = d := by
  simp [immediateCkpt, h]

theorem immediateCkpt_open (htile : d.isTile = true) (h : d.journalWritable = true) :
    d.immediateCkpt close = (d.openCkpt d.wall close).2.takeSnapshot (d.openCkpt d.wall close).1 := by
  simp [immediateCkpt, htile, h]

theorem takeSnapshot_shut (c : Ckpt) (h : d.journalWritable = false) : d.takeSnapshot c = d := by
  simp [takeSnapshot, h]

theorem takeSnapshot_open (c : Ckpt) (h : d.journalWritable = true) :
    d.takeSnapshot c = d.setLedger (fun l => { l with snap := l.acc, prev := l.acc, ckpt := some c }) := if_pos h

end

/-! ### The Service writes (R355, R359) -/

section
variable {d : Dev} {sid v : Nat} {x : Session}

theorem rowWrite_checkpointNow (hopen : ScalarOpen d sid K.LEDG_CHECKPOINT_NOW v x) :
    d.rowWrite sid K.LEDG_CHECKPOINT_NOW v =
      (d.immediateCkpt false).emit (.entry sid K.LEDG_CHECKPOINT_NOW Status.OK) :=
  rowWrite_action hopen (action_checkpointNow d false x.id v)

theorem rowWrite_ledgerFormat (hopen : ScalarOpen d sid K.LEDG_FORMAT v x) :
    d.rowWrite sid K.LEDG_FORMAT v = d.ledgerFormat.emit (.entry sid K.LEDG_FORMAT Status.OK) :=
  rowWrite_action hopen (action_ledgerFormat d false x.id v)

theorem rowWrite_lampReset (hopen : ScalarOpen d sid K.LEDG_LAMP_RESET v x)
    (hlamp : v = 0xFFFFFFFF ∨ d.lampExists v = true) :
    d.rowWrite sid K.LEDG_LAMP_RESET v = (d.ledgerLampReset v).emit (.entry sid K.LEDG_LAMP_RESET Status.OK) := by
  have hok : d.lampResetOk v = true := by simpa [lampResetOk] using hlamp
  rw [rowWrite_action hopen (action_lampReset d false x.id v), if_pos hok, actIf_ok, entryDone]

theorem rowWrite_ceilingReset (hopen : ScalarOpen d sid K.LEDG_TILE_CEILING_RESET v x) :
    d.rowWrite sid K.LEDG_TILE_CEILING_RESET v =
      d.ledgerCeilingReset.emit (.entry sid K.LEDG_TILE_CEILING_RESET Status.OK) :=
  rowWrite_action hopen (action_ceilingReset d false x.id v)

end

end Dev

/-- Settles O37: the whole second is the fold and the journal's part, a checkpoint is written and complete unless its blocks
end the journal, and each Service write is its action. -/
theorem theWearLedgerFoldsAndCheckpoints : Obligations.TheWearLedgerFoldsAndCheckpoints := by
  intro s t d
  have hnow : d.now = t := Dev.begin_now t s.dev
  refine ⟨fun hruns hrestart => ?fold, fun hruns c failing hckpt hopen => ?complete, fun htile sid x v => ?service⟩
  case fold =>
    have hrun : exec (.ledgerFold t {}) s = .next (after t s d.ledgerSecond) := by
      refine (act_tileRuns _ hruns).trans ?_
      rw [Dev.ledgerTick_sound hrestart]
    refine ⟨fun hbetween => ?_, fun hwhole => ?_⟩
    · rw [hrun, Dev.ledgerSecond_between (by rwa [hnow])]
    · intro u sec e due paced opened e2
      have hjournal : d.fold.journalSecond sec = e2 := by
        have hdue : d.fold.snapshotDue = due := by
          cases hnext : e.ledger.next with
          | none =>
            simp only [due, hnext]
            exact Dev.snapshotDue_none hnext
          | some c =>
            have hwall : d.fold.wall = t % 2 ^ 48 := congrArg (· % 2 ^ 48) hnow
            simp only [due, hnext]
            rw [← hwall]
            exact Dev.snapshotDue_some hnext
        have hpaced : d.fold.snapshotDue.takeInterval sec = paced := congrArg (Dev.takeInterval sec) hdue
        have hpacedNow : paced.now = t := by
          rw [← hpaced, Dev.takeInterval_now, Dev.snapshotDue_now]
          exact hnow
        by_cases hrests : Dev.JournalRests d.fold
        · rw [Dev.journalSecond_rests sec hrests]
          exact (if_pos hrests).symm
        · rw [Dev.journalSecond_open sec hrests, hpaced, Dev.projectAhead, hpacedNow]
          exact (if_neg hrests).symm
      have hsec : d.now / 1000000000 = sec := congrArg (· / 1000000000) hnow
      have hwhole : d.now % 1000000000 = 0 := by rwa [hnow]
      refine ⟨fun hsecond => ?_, fun hminute => ?_⟩
      · rw [hrun, Dev.ledgerSecond_second hwhole (by rwa [hsec]), hsec, hjournal]
      · rw [hrun, Dev.ledgerSecond_minute hwhole (by rwa [hsec]), hsec, hjournal]
  case complete =>
    intro n f e
    have hrun : exec (.checkpointComplete t failing) s = .next (after t s (d.finishCkpt failing)) := by
      refine (act_whenFirmware _ (Dev.pliukRuns_of_portsRun hruns.1) (Dev.not_recovery_of_portsRun hruns.1)).trans ?_
      rw [Dev.onTile_open _ hruns.2]
    have hfinish := Dev.finishCkpt_inProgress (failing := failing) hckpt hopen
    refine ⟨fun hend => ?_, fun hgoes => ?_⟩
    · rw [hrun, hfinish]
      exact congrArg (fun r => Host.Outcome.next (after t s r)) (if_neg (ne_true_of_eq_false hend))
    · rw [hrun, hfinish]
      exact congrArg (fun r => Host.Outcome.next (after t s r)) (if_pos hgoes)
  case service =>
    intro ok
    refine ⟨fun hopen => ?_, fun hopen => ?_, fun hopen hlamp => ?_, fun hopen => ?_⟩
    · have hrun : exec (.ledgCheckpointNow t sid v) s =
          .next (ok K.LEDG_CHECKPOINT_NOW (d.immediateCkpt false)) :=
        congrArg (fun r => Host.Outcome.next (after t s r)) (Dev.rowWrite_checkpointNow hopen)
      refine ⟨fun hshut => ?_, fun hwritable => ?_⟩
      · rw [hrun, Dev.immediateCkpt_shut false hshut]
      · rw [hrun, Dev.immediateCkpt_open false htile hwritable]
        refine ⟨fun hend => ?_, fun hgoes => ?_⟩
        · rw [Dev.takeSnapshot_shut _ hend]
        · rw [Dev.takeSnapshot_open _ hgoes]
    · exact congrArg (fun r => Host.Outcome.next (after t s r)) (Dev.rowWrite_ledgerFormat hopen)
    · exact congrArg (fun r => Host.Outcome.next (after t s r)) (Dev.rowWrite_lampReset hopen hlamp)
    · exact congrArg (fun r => Host.Outcome.next (after t s r)) (Dev.rowWrite_ceilingReset hopen)

/-! ### Ceiling requests (R348, R349, R410, R414) -/

namespace Dev

section
variable {d : Dev} {h : PortId} {p : Packet}

/-- A request that stands is sent once more, ten seconds after it was last sent. -/
theorem requestResend_due (htile : d.isTile = true) (hlow : d.obj K.LEDG_WALL_REQUEST < 0x8000)
    (hold : ∀ m, d.ledger.requestAt = some m → m + 10000000000 ≤ d.now) : d.requestResend = d.sendRequestCtl := by
  have hall : d.ledger.requestAt.all (fun m => decide (m + 10000000000 ≤ d.now)) = true := by
    simpa [Option.all_eq_true] using hold
  simp only [requestResend, htile, hlow, hall, decide_true, Bool.and_self, if_true]

/-- A tile sends a ceiling request of another tile on. -/
theorem ctlRx_ceilingRequest (htile : d.isTile = true) (hup : d.portUp h = true) (hkind : fieldAt 0 1 p.body = 4)
    (hother : isMine p = false) : d.ctlRx h p = (d.countRx h p).forward h p p.body := by
  simp [ctlRx, tile_not_sender htile, hup, hkind, hother]

section
variable (hsender : d.isSender = true) (hup : d.portUp h = true) (hpass : pktPasses p = true)
include hsender hup hpass

/-- A sender keeps a sound request beside the earlier ones, and reports the lowest. -/
theorem ceilingRequestRx_kept (hlen : p.body.length = 20) (hcomp : fieldAt 18 2 p.body = 65535 - fieldAt 16 2 p.body) :
    d.ceilingRequestRx h p = ((d.countRx h p).setLedger (fun l => { l with
      requests := l.requests ++ [(fieldAt 4 8 p.body, fieldAt 16 2 p.body, d.now)] })).reportRequests := by
  simp [ceilingRequestRx, hsender, hup, hpass, hlen, hcomp, countRx_now h d hpass]

theorem ceilingRequestRx_malformed (hbad : p.body.length ≠ 20 ∨ fieldAt 18 2 p.body ≠ 65535 - fieldAt 16 2 p.body) :
    d.ceilingRequestRx h p = d.countRx h p := by
  simp only [ceilingRequestRx, hsender, hup, hpass, Bool.not_true, Bool.false_eq_true, or_self, if_false]
  exact if_pos hbad

end

theorem requestExpiry_old {r : Nat × Nat × Time} (hsender : d.isSender = true) (hr : r ∈ d.ledger.requests)
    (hold : r.2.2 + 30000000000 ≤ d.now) : d.requestExpiry r.1 = d.reportRequests := by
  have hany : d.ledger.requests.any (fun q => q.1 == r.1 && decide (q.2.2 + 30000000000 ≤ d.now)) = true :=
    List.any_eq_true.mpr ⟨r, hr, by simp [hold]⟩
  simp only [requestExpiry, hsender, hany, Bool.and_self, if_true]

end

end Dev

section
variable {s : State} {t : Time} (h : PortId) (p : Packet)

theorem exec_ctlCeilingRequest_tile (hruns : TileRuns (s.dev.begin t)) :
    exec (.ctlCeilingRequest t h p) s = .next (after t s ((s.dev.begin t).ctlRx h p)) := by
  obtain ⟨hports, htile⟩ := hruns
  refine (act_eq t _ s).trans ?_
  rw [Dev.wire_open h p _ hports, if_pos htile]

theorem exec_ctlCeilingRequest_sender (hruns : SenderRuns (s.dev.begin t)) :
    exec (.ctlCeilingRequest t h p) s = .next (after t s ((s.dev.begin t).ceilingRequestRx h p)) := by
  obtain ⟨hports, hsender⟩ := hruns
  refine (act_eq t _ s).trans ?_
  rw [Dev.wire_open h p _ hports, if_neg (by simp [Dev.sender_not_tile hsender])]

end

/-- Settles O38: a request that stands is sent again, a tile forwards one, and a sender reports those of the last 30 s. -/
theorem ceilingRequestsStandAndLapse : Obligations.CeilingRequestsStandAndLapse := by
  intro s t h p d report
  have hnow : d.now = t := Dev.begin_now t s.dev
  have hreport (e : Dev) (he : e.now = t) : e.reportRequests = report e := by
    unfold Dev.reportRequests
    rw [he]
  refine ⟨?resend, ?forward, ?receive, ?expiry⟩
  case resend =>
    intro hruns hlow hold
    refine (act_whenPorts _ hruns.1).trans ?_
    rw [Dev.requestResend_due hruns.2 hlow (by rwa [hnow]), Dev.sendRequestCtl]
    rw [hnow]
  case forward =>
    intro hruns hup hkind hother
    rw [exec_ctlCeilingRequest_tile h p hruns, Dev.ctlRx_ceilingRequest hruns.2 hup hkind hother]
  case receive =>
    intro hruns hup hpass
    refine ⟨fun hlen hcomp => ?_, fun hbad => ?_⟩
    · rw [exec_ctlCeilingRequest_sender h p hruns, Dev.ceilingRequestRx_kept hruns.2 hup hpass hlen hcomp,
        hreport _ ?_, hnow]
      exact (Dev.countRx_now h d hpass).trans hnow
    · rw [exec_ctlCeilingRequest_sender h p hruns, Dev.ceilingRequestRx_malformed hruns.2 hup hpass hbad]
  case expiry =>
    intro hruns r hr hold
    refine (act_whenPorts _ hruns.1).trans ?_
    rw [Dev.requestExpiry_old hruns.2 hr (by rwa [hnow]), hreport d hnow]

end Sys2Proof.Machine

/-!
PROOFS. Standby and Off (19_startup.md): entry into Standby (R556, R557) and the exit from it (R474, R558), and the
preparation for Off (R355, R559).
-/
namespace Sys2Proof.Machine
open Sys2Proof.Safety

namespace Dev

/-! ### What leaves the start sequence alone -/

@[simp] theorem sendAll_start (p : LdlPkt) (d : Dev) : (d.sendAll p).start = d.start :=
  List.foldlRecOn (motive := fun e : Dev => e.start = d.start) _ _ rfl fun _ he _ _ => he

@[simp] theorem blankDrivers_start (d : Dev) : d.blankDrivers.start = d.start := by
  unfold blankDrivers
  split
  · exact sendAll_start _ _
  · rfl

@[simp] theorem logFault_start (cls severity key subject detail : Nat) (d : Dev) :
    (d.logFault cls severity key subject detail).start = d.start := by
  unfold logFault
  dsimp only
  split <;> rfl

@[simp] theorem setScan_start (v : Nat) (d : Dev) : (d.setScan v).start = d.start := by
  unfold setScan
  split
  · rfl
  · dsimp only
    refine (apply_ite start _ _ _).trans ?_
    rw [fault, logFault_start, ite_self]
    split <;> split <;> rfl

@[simp] theorem scanDark_start (d : Dev) : d.scanDark.start = d.start := by
  unfold scanDark
  split
  · rfl
  · split
    · exact setScan_start _ _
    · exact (setScan_start _ _).trans (blankDrivers_start d)

@[simp] theorem stopShow_start (d : Dev) : d.stopShow.start = d.start := by
  unfold stopShow
  split
  · split
    · exact scanDark_start d
    · exact (scanDark_start _).trans (blankDrivers_start d)
  · rfl

@[simp] theorem flogAppend_start (x : FaultEntry) (d : Dev) : (d.flogAppend x).start = d.start := by
  unfold flogAppend
  dsimp only
  split <;> rfl

@[simp] theorem flogWrite_start (x : FaultEntry) (d : Dev) : (d.flogWrite x).start = d.start := by
  unfold flogWrite
  dsimp only
  split
  · exact flogAppend_start x _
  · rfl

@[simp] theorem flogPersist_start (d : Dev) : d.flogPersist.start = d.start := by
  unfold flogPersist
  split
  · exact List.foldlRecOn (motive := fun e : Dev => e.start = d.start) _ _ rfl fun e he x _ =>
      (flogWrite_start x e).trans he
  · rfl

/-! ### STBY_REQ_N (R556, R558) -/

section
variable {d : Dev}

theorem standbyRequest_noted (h : d.start.run ≠ .armed) :
    d.standbyRequest = d.setStart (fun z => { z with stbyLow := true }) := if_neg h

theorem standbyRequest_armed (h : d.start.run = .armed) :
    d.standbyRequest = (d.setStart (fun z => { z with stbyLow := true })).standbyBegin := if_pos h

theorem standbyExitRequest_noted (h : d.start.run ≠ .standby) :
    d.standbyExitRequest = d.setStart (fun z => { z with stbyLow := false }) := if_neg h

theorem standbyExitRequest_standby (h : d.start.run = .standby) :
    d.standbyExitRequest = (d.setStart (fun z => { z with stbyLow := false })).standbyExit := if_pos h

end

/-! ### Steps that end (R474, R558) -/

/-- The device as START_STEP_COMPLETE finds it: with what the step reports of the start calibration and of the journal. -/
def stepReported (r : StepResult) (d : Dev) : Dev :=
  (d.setStart (fun z => { z with calFail := r.calFail })).journalErrors r.journal

@[simp] theorem journalErrors_start (es : List JournalError) (d : Dev) : (d.journalErrors es).start = d.start :=
  List.foldlRecOn (motive := fun e : Dev => e.start = d.start) _ _ rfl fun _ he _ _ => he

@[simp] theorem journalErrors_isSender (es : List JournalError) (d : Dev) :
    (d.journalErrors es).isSender = d.isSender :=
  List.foldlRecOn (motive := fun e : Dev => e.isSender = d.isSender) _ _ rfl fun _ he _ _ => he

@[simp] theorem stepReported_run (r : StepResult) (d : Dev) : (d.stepReported r).start.run = d.start.run := by
  rw [stepReported, journalErrors_start]
  rfl

@[simp] theorem stepReported_isSender (r : StepResult) (d : Dev) : (d.stepReported r).isSender = d.isSender := by
  rw [stepReported, journalErrors_isSender]
  rfl

theorem stepNow_fromStandby {d : Dev} {n : Nat} (h : d.start.run = .fromStandby n) : d.stepNow = some n := by
  rw [stepNow, h]

section
variable {d : Dev} {r : StepResult} (hnormal : d.obj K.INTEG_STATE = 1)
include hnormal

/-- Step 5 of an exit waits for every die's range and every serving channel's count; then self-refresh ends, and the sense
block starts or the start fails. -/
theorem stepComplete_exit5 (hrun : d.start.run = .fromStandby 5) :
    d.stepComplete r =
      (let e := d.stepReported r
       let x := e.selfRefreshExit r.ranges r.counts r.retrain
       let f := (List.range x.2.dieCount).foldl (fun f k => f.hotDie k (r.ranges.getD k 0)) x.2
       if e.exitReady r.ranges r.counts then (if x.1 then f.senseStart.stepTo 6 else f.goTo .startFailed) else e) := by
  have hstep : d.stepNow = some 5 := stepNow_fromStandby hrun
  have hrun' : (d.stepReported r).start.run = .fromStandby 5 := (stepReported_run r d).trans hrun
  have hstep' : (d.stepReported r).stepNow = some 5 := stepNow_fromStandby hrun'
  unfold stepReported at hrun' hstep' ⊢
  simp only [stepComplete, hnormal, hstep, hstep', hrun', ne_eq, not_true_eq_false, Option.isNone_some, Bool.false_eq_true,
    or_self, if_false, if_true]
  cases (Dev.exitReady _ _ _) <;> rfl

theorem stepComplete_exit6 (hrun : d.start.run = .fromStandby 6) :
    d.stepComplete r = ((d.stepReported r).loadEqTable.startPorts).stepTo 7 := by
  have hstep : d.stepNow = some 6 := stepNow_fromStandby hrun
  have hstep' : (d.stepReported r).stepNow = some 6 := stepNow_fromStandby ((stepReported_run r d).trans hrun)
  unfold stepReported at hstep' ⊢
  simp [stepComplete, hnormal, hstep, hstep']

theorem stepComplete_exit8 (hsender : d.isSender = true) (hrun : d.start.run = .fromStandby 8) :
    d.stepComplete r = (d.stepReported r).step9Begin.reviewPlan := by
  have hstep : d.stepNow = some 8 := stepNow_fromStandby hrun
  have hstep' : (d.stepReported r).stepNow = some 8 := stepNow_fromStandby ((stepReported_run r d).trans hrun)
  have hsender' : (d.stepReported r).isSender = true := (stepReported_isSender r d).trans hsender
  unfold stepReported at hstep' hsender' ⊢
  simp [stepComplete, hnormal, hstep, hstep', hsender']

theorem stepComplete_exit9 (hover : (d.stepReported r).step9Over = true) (hrun : d.start.run = .fromStandby 9) :
    d.stepComplete r = (d.stepReported r).arm := by
  have hstep : d.stepNow = some 9 := stepNow_fromStandby hrun
  have hstep' : (d.stepReported r).stepNow = some 9 := stepNow_fromStandby ((stepReported_run r d).trans hrun)
  unfold stepReported at hstep' hover ⊢
  simp [stepComplete, hnormal, hstep, hstep', hover]

end

/-! ### Off is asked for (R559) -/

/-- OFF_REQ_N is low. -/
def offAsked (d : Dev) : Dev := d.setStart (fun z => { z with offLow := true })

/-- The device stands at `run` as it sets out for Off. -/
def leaveFrom (run : Run) (d : Dev) : Dev := (d.setStart (fun z => { z with offFrom := run })).goTo .toOff

section
variable {d : Dev}

theorem leaveFrom_ofRun {run : Run} (h : d.start.run = run) :
    (d.setStart (fun z => { z with offFrom := z.run })).goTo .toOff = d.leaveFrom run := by
  subst h
  rfl

/-- From step 5 on there is a show, a ledger and a log to close. -/
theorem offRequest_prepares (h : d.start.run = .armed ∨ d.start.run = .standby ∨ d.start.run = .toStandby ∨
      (∃ n, d.start.run = .fromStandby n) ∨ ∃ n, 5 ≤ n ∧ d.start.run = .step n) :
    d.offRequest = d.offAsked.offBegin := by
  unfold offRequest
  rcases h with h | h | h | ⟨n, h⟩ | ⟨n, hn, h⟩ <;> simp only [setStart_start, h]
  · rfl
  · rfl
  · rfl
  · rfl
  · rw [if_pos hn]
    rfl

/-- In Recovery and after a failed start there is the show and the log (log entry 88). -/
theorem offRequest_idle (h : d.start.run = .recovery ∨ d.start.run = .startFailed) :
    d.offRequest = d.offAsked.stopShow.flogPersist.leaveFrom d.start.run := by
  have hrun : d.offAsked.stopShow.flogPersist.start.run = d.start.run := by
    rw [flogPersist_start, stopShow_start]
    rfl
  rw [← leaveFrom_ofRun hrun]
  unfold offRequest
  rcases h with h | h <;> simp only [setStart_start, h]
  · rfl
  · rfl

/-- Before step 5 there is nothing to prepare (log entry 88). -/
theorem offRequest_early {n : Nat} (hn : n < 5) (h : d.start.run = .step n) :
    d.offRequest = d.offAsked.leaveFrom d.start.run := by
  have hrun : d.offAsked.start.run = d.start.run := rfl
  rw [← leaveFrom_ofRun hrun]
  simp only [offRequest, setStart_start, h, Nat.not_le.mpr hn, if_false]
  rfl

end

/-- With no checkpoint in progress a device that prepared for Off is ready for power to go. -/
theorem offReady_open {d : Dev} (hrun : d.start.run = .toOff) (hnone : d.ledger.ckpt = none) :
    d.offReady = d.setStart (fun z => { z with run := .offReady, stepAt := d.now }) :=
  if_pos ⟨hrun, Option.isNone_iff_eq_none.mpr hnone⟩

/-- The preparation for Off: the show stops, settings that wait are saved, the ledger is closed by the checkpoint in progress
on the way to Standby or by one at once, and the log is written. -/
theorem offBegin_eq (d : Dev) : d.offBegin =
    (let e := d.stopShow
     let e := if e.flash.dirty.isEmpty && e.flash.urgent.isEmpty then e else e.saveSettings
     let e := if d.start.run = .toStandby ∧ e.ledger.ckpt.isSome then
         e.setLedger (fun l => { l with ckpt := l.ckpt.map (fun c => { c with close := true }) })
       else e.immediateCkpt true
     e.flogPersist.leaveFrom d.start.run) := by
  simp only [offBegin, Bool.and_eq_true, beq_iff_eq]
  rfl

end Dev

/-- Settles O54: each request takes the branch of the point at which the device stands, and each step of the exit ends as it
does on a start. -/
theorem standbyAndOffAreEnteredAndLeft : Obligations.StandbyAndOffAreEnteredAndLeft := by
  intro s t d low high off leave
  have hnow : d.now = t := Dev.begin_now t s.dev
  refine ⟨?stay, ?enter, ?awake, ?exit, ?steps, ?prepare, ?idle, ?early, ?ready⟩
  case stay =>
    intro hrun
    refine (act_eq t _ s).trans ?_
    rw [Dev.standbyRequest_noted hrun]
  case enter =>
    intro hrun
    refine (act_eq t _ s).trans ?_
    rw [Dev.standbyRequest_armed hrun]
    rfl
  case awake =>
    intro hrun
    refine (act_eq t _ s).trans ?_
    rw [Dev.standbyExitRequest_noted hrun]
  case exit =>
    intro hrun
    refine (act_eq t _ s).trans ?_
    rw [Dev.standbyExitRequest_standby hrun]
    rfl
  case steps =>
    intro hnormal r e
    have hexec : exec (.startStepComplete t r) s = .next (after t s (d.stepComplete r)) := act_eq t _ s
    refine ⟨fun hrun => ?_, fun hrun => ?_, fun hrun hsender => ?_, fun hrun hover => ?_⟩
    · rw [hexec, Dev.stepComplete_exit5 hnormal hrun]
      intro x f
      refine ⟨fun hwaits => congrArg (fun e => Host.Outcome.next (after t s e)) (if_neg ?_),
        fun hready => congrArg (fun e => Host.Outcome.next (after t s e)) (if_pos hready)⟩
      exact ne_true_of_eq_false hwaits
    · rw [hexec, Dev.stepComplete_exit6 hnormal hrun]
      rfl
    · rw [hexec, Dev.stepComplete_exit8 hnormal hsender hrun]
      rfl
    · rw [hexec, Dev.stepComplete_exit9 hnormal hover hrun]
      rfl
  case prepare =>
    intro hrun
    refine (act_eq t _ s).trans ?_
    rw [Dev.offRequest_prepares hrun, Dev.offBegin_eq]
    rfl
  case idle =>
    intro hrun
    refine (act_eq t _ s).trans ?_
    rw [Dev.offRequest_idle hrun]
    rfl
  case early =>
    intro n hn hrun
    refine (act_eq t _ s).trans ?_
    rw [Dev.offRequest_early hn hrun]
    rfl
  case ready =>
    intro hrun hnone
    refine (act_eq t _ s).trans ?_
    rw [Dev.offReady_open hrun hnone, hnow]

end Sys2Proof.Machine

/-!
PROOFS. Sense (12_sense.md): conversion periods and thermal cycles (R362 to R366, R368, R374), calibration runs and the start
calibration (R367 to R373), absent thermal inputs (R375) and photodiode captures (R380).
-/
namespace Sys2Proof.Machine
open Sys2Proof.Safety

namespace Dev

/-! ### Conversion periods (R362, R363, R368, R370, R371, R373) -/

/-- Every input is sampled in a conversion period. -/
def takeSamples (rs : List SenseReading) (d : Dev) : Dev := (List.range 16).foldl (fun e i => e.takeSample rs i) d

section
variable {d : Dev} (rs : List SenseReading) (temp : Int)

theorem convert_between (hbetween : d.wall % 500000 ≠ 0) : d.convert rs temp = d := if_pos hbetween

theorem convert_whole (hwhole : d.wall % 500000 = 0) :
    d.convert rs temp = (((d.setObjI 16 K.SNS_DIE_TEMP temp).periodBegin).handoverCheck rs).takeSamples rs :=
  if_neg (not_not_intro hwhole)

/-- Where no run begins, a period is counted, and the first of the start calibration takes the die temperature. -/
theorem periodBegin_of_not_due (hnot : ¬ (d.sense.due = true ∧ d.sense.phase = .idle)) :
    d.periodBegin = d.setSense (fun q => { q with
      periods := q.periods + 1
      startTemp := if q.phase = .starting ∧ q.periods = 0 then d.objI 16 K.SNS_DIE_TEMP else q.startTemp }) := by
  have hbegin : ¬ (d.sense.due && d.sense.phase == .idle) = true := by simpa using hnot
  unfold periodBegin
  rw [if_neg hbegin]

theorem periodBegin_starting (hphase : d.sense.phase = .starting) :
    d.periodBegin = d.setSense (fun q => { q with
      periods := q.periods + 1
      startTemp := if q.periods = 0 then d.objI 16 K.SNS_DIE_TEMP else q.startTemp }) := by
  rw [periodBegin_of_not_due (by simp [hphase])]
  simp [setSense, hphase]

/-- A run that is due begins with the period, which is its first (R371). -/
theorem periodBegin_due (hdue : d.sense.due = true) (hphase : d.sense.phase = .idle) :
    d.periodBegin = d.calRunStart.setSense (fun q => { q with periods := 1 }) := by
  have hbegin : (d.sense.due && d.sense.phase == .idle) = true := by simp [hdue, hphase]
  unfold periodBegin
  rw [if_pos hbegin]
  rfl

theorem periodBegin_goes (hphase : d.sense.phase ≠ .starting) (hidle : d.sense.phase = .idle → d.sense.due = false) :
    d.periodBegin = d.setSense (fun q => { q with periods := q.periods + 1 }) := by
  rw [periodBegin_of_not_due (by rintro ⟨hdue, h⟩; simp [hidle h] at hdue)]
  simp [setSense, hphase]

/-- Only the first period of a return crossfade compares the converters. -/
theorem handoverCheck_away (haway : ∀ c, d.sense.phase = .back c → d.sense.periods ≠ 1) : d.handoverCheck rs = d := by
  unfold handoverCheck
  split
  next c hback => exact if_pos (haway c hback)
  next => rfl

/-- In the first period of a return a converter that is far from the spare is retired, and the run ends (R370). -/
theorem handoverCheck_first {c : Nat} (hback : d.sense.phase = .back c) (hfirst : d.sense.periods = 1) :
    d.handoverCheck rs =
      (let far := [2 * c, 2 * c + 1].any (fun i =>
         match d.sampleOf rs 8 i, d.sampleOf rs c i with
         | some a, some b => decide (d.obj K.SNS_HANDOVER_TOL < ((a.1 : Int) - (b.1 : Int)).natAbs)
         | _, _ => false)
       if far then (d.retireConverter c).calRunEnd false else d) := by
  unfold handoverCheck
  rw [hback]
  exact if_neg (not_not_intro hfirst)

end

/-! ### Thermal cycles (R365, R366, R371, R374) -/

section
variable {d : Dev}

theorem thermalCycle_between (hbetween : d.wall % 100000000 ≠ 0) : d.thermalCycle = d := if_pos hbetween

/-- A thermal cycle closes the windows and judges the limits, runs the loop on a tile, and may make a run due. -/
theorem thermalCycle_whole (hwhole : d.wall % 100000000 = 0) :
    d.thermalCycle =
      (let e := (List.range 16).foldl (fun e i => (e.closeWindow i).checkLimits i) d
       let e := if e.isTile then e.thermLoop else e
       if e.calStartCheck = Status.OK ∧ e.calAutoDue then e.setSense (fun q => { q with due := true }) else e) :=
  if_neg (not_not_intro hwhole)

theorem windowPasses_whole (hwhole : d.wall % 100000000 = 0) : d.windowPasses = d.windowsBegin := if_pos hwhole

end

end Dev

section
variable {s : State} {t : Time} (rs : List SenseReading) (temp : Int)

theorem exec_conversion_whole (hports : (s.dev.begin t).portsRun = true) (hwhole : t % 2 ^ 48 % 500000 = 0) :
    exec (.senseConversionTrigger t rs temp) s = .next (after t s
      (((((s.dev.begin t).setObjI 16 K.SNS_DIE_TEMP temp).periodBegin).handoverCheck rs).takeSamples rs).checkDieTemp) := by
  have hwall : (s.dev.begin t).wall % 500000 = 0 := by rwa [Dev.wall, Dev.begin_now]
  refine (act_whenPorts _ hports).trans ?_
  rw [Dev.convert_whole rs temp hwall]

theorem exec_conversion_between (hports : (s.dev.begin t).portsRun = true) (hbetween : t % 2 ^ 48 % 500000 ≠ 0) :
    exec (.senseConversionTrigger t rs temp) s = .next (after t s (s.dev.begin t).checkDieTemp) := by
  have hwall : (s.dev.begin t).wall % 500000 ≠ 0 := by rwa [Dev.wall, Dev.begin_now]
  refine (act_whenPorts _ hports).trans ?_
  rw [Dev.convert_between rs temp hwall]

theorem exec_thermalLoop_runs (hports : (s.dev.begin t).portsRun = true) (hruns : (s.dev.begin t).controlRuns = true) :
    exec (.thermalLoopTrigger t) s =
      .next (after t s ((s.dev.begin t).checkRails (s.dev.begin t).thermalCycle)) := by
  refine (act_whenPorts _ hports).trans ?_
  rw [if_pos hruns]

theorem exec_thermalLoop_holds (hports : (s.dev.begin t).portsRun = true) (hholds : (s.dev.begin t).controlRuns = false) :
    exec (.thermalLoopTrigger t) s = .next (after t s (s.dev.begin t).windowPasses) := by
  refine (act_whenPorts _ hports).trans ?_
  rw [if_neg (ne_true_of_eq_false hholds)]

end

/-- Settles O39: a period begins as its phase says and samples every input, and a thermal cycle closes every window. -/
theorem conversionsAndThermalCycles : Obligations.ConversionsAndThermalCycles := by
  intro s t d hports
  have hwall : d.wall = t % 2 ^ 48 := congrArg (· % 2 ^ 48) (Dev.begin_now t s.dev)
  refine ⟨fun rs temp hwhole => ?periods, fun hruns hwhole => ?cycle,
    fun hbetween rs temp => exec_conversion_between rs temp hports hbetween, fun hruns hbetween => ?idle,
    fun hholds hwhole => ?restart⟩
  case periods =>
    intro e sampled
    have hsense : e.sense = d.sense := rfl
    have hrun : exec (.senseConversionTrigger t rs temp) s =
        .next (after t s (sampled (e.periodBegin.handoverCheck rs)).checkDieTemp) :=
      exec_conversion_whole rs temp hports hwhole
    refine ⟨fun hphase => ?_, fun hdue hphase => ?_, fun c hphase hperiods => ?_, fun hphase hidle haway => ?_⟩
    · rw [hrun, Dev.periodBegin_starting (d := e) hphase, Dev.handoverCheck_away]
      intro c hback
      cases hphase.symm.trans hback
    · rw [hrun, Dev.periodBegin_due (d := e) hdue hphase, Dev.handoverCheck_away]
      · rfl
      · intro c hback
        cases hback
    · have hgoes : e.periodBegin = e.setSense (fun q => { q with periods := 1 }) := by
        rw [Dev.periodBegin_goes (by simp [hsense, hphase]) (by simp [hsense, hphase])]
        simp [Dev.setSense, hsense, hperiods]
      rw [hrun, hgoes]
      exact congrArg (fun e => Host.Outcome.next (after t s (sampled e).checkDieTemp))
        (Dev.handoverCheck_first rs hphase rfl)
    · rw [hrun, Dev.periodBegin_goes (d := e) hphase hidle, Dev.handoverCheck_away]
      intro c hback hfirst
      exact haway c hback (Nat.succ.inj hfirst)
  case cycle =>
    have hexec : exec (.thermalLoopTrigger t) s = .next (after t s (d.checkRails d.thermalCycle)) :=
      exec_thermalLoop_runs hports hruns
    rw [hexec, Dev.thermalCycle_whole (by rwa [hwall])]
    simp only [Dev.closeWindow, Dev.thermLoop, Dev.slotsReady]
  case idle =>
    rw [exec_thermalLoop_runs hports hruns, Dev.thermalCycle_between (by rwa [hwall])]
  case restart =>
    rw [exec_thermalLoop_holds hports hholds, Dev.windowPasses_whole (by rwa [hwall])]
    rfl

/-! ### Calibration runs (R367 to R372) -/

namespace Dev

section
variable {d : Dev} {m : CalMeasure} (hrun : d.calStepRun = true)
include hrun

theorem calStepEnd_spare_passes (hphase : d.sense.phase = .spare)
    (hpass : calFails (phaseMean m.zeros) (phaseMean m.refs) = false) :
    d.calStepEnd m = (((d.setCorrections 8 (phaseMean m.zeros) (phaseMean m.refs)).setObj (K.ADC_STATE 8) 6).setObj
      (K.ADC_STATE 0) 2).calPhaseTo (.toSpare 0) := by
  simp [calStepEnd, hrun, hphase, hpass]

theorem calStepEnd_spare_fails (hphase : d.sense.phase = .spare)
    (hfail : calFails (phaseMean m.zeros) (phaseMean m.refs) = true) :
    d.calStepEnd m = ((d.bump (K.ADC_CAL_FAILS 8)).retireConverter 8).calRunEnd false := by
  simp [calStepEnd, hrun, hphase, hfail]

theorem calStepEnd_toSpare {c : Nat} (hphase : d.sense.phase = .toSpare c) :
    d.calStepEnd m = (((d.setObj (K.ADC_STATE c) 3).setObj (K.ADC_STATE 8) 1).setObj K.SNS_SPARE_FOR c).calPhaseTo
      (.zero c) := by
  simp [calStepEnd, hrun, hphase]

theorem calStepEnd_zero {c : Nat} (hphase : d.sense.phase = .zero c) :
    d.calStepEnd m = d.setSense (fun q => { q with zero := phaseMean m.zeros, phase := .refer c, periods := 0 }) := by
  simp [calStepEnd, hrun, hphase, calPhaseTo, setSense]

theorem calStepEnd_refer_passes {c : Nat} (hphase : d.sense.phase = .refer c)
    (hpass : calFails d.sense.zero (phaseMean m.refs) = false) :
    d.calStepEnd m = ((d.setCorrections c d.sense.zero (phaseMean m.refs)).setObj (K.ADC_STATE c) 4).calPhaseTo
      (.back c) := by
  simp [calStepEnd, hrun, hphase, hpass]

theorem calStepEnd_refer_fails {c : Nat} (hphase : d.sense.phase = .refer c)
    (hfail : calFails d.sense.zero (phaseMean m.refs) = true) :
    d.calStepEnd m = ((d.bump (K.ADC_CAL_FAILS c)).retireConverter c).calRunEnd false := by
  simp [calStepEnd, hrun, hphase, hfail]

/-- A return crossfade goes on with the next converter, or ends the run after the last. -/
theorem calStepEnd_back {c : Nat} (hphase : d.sense.phase = .back c) :
    d.calStepEnd m =
      (let e := ((d.setObj (K.ADC_STATE c) 1).setObj (K.ADC_STATE 8) 6).setObj K.SNS_SPARE_FOR 255
       if c < 7 then (e.setObj (K.ADC_STATE (c + 1)) 2).calPhaseTo (.toSpare (c + 1)) else e.calRunEnd true) := by
  simp [calStepEnd, hrun, hphase]

end

/-- A run that ends well takes the die temperature it began at, and the block runs again (R369). -/
theorem calRunEnd_complete (d : Dev) :
    d.calRunEnd true =
      (((((d.setSense (fun q => { q with phase := .idle, periods := 0, lastEnd := some d.now })).setObj K.SNS_CAL_LAST
        d.wall).bumpWrap K.SNS_CAL_RUNS).setObjI 16 K.SNS_CAL_TEMP d.sense.startTemp).setObj K.SNS_STATE 2) := rfl

/-! ### A run that is asked for (R371, R372) -/

section
variable {d : Dev} {sid v : Nat} {x : Session}

theorem calStartCheck_retired (hretired : ∃ k, k < 9 ∧ d.obj (K.ADC_STATE k) = 5) :
    d.calStartCheck = Status.DEVICE := by
  have hany : (List.range 9).any (fun k => d.adcState k == 5) = true := by simpa [adcState] using hretired
  exact if_pos hany

/-- With no converter retired, a run in progress or due alone stands in the way of another. -/
theorem calStartCheck_in_service (hservice : ¬ ∃ k, k < 9 ∧ d.obj (K.ADC_STATE k) = 5) :
    d.calStartCheck = if d.sense.phase ≠ .idle ∨ d.sense.due then Status.BUSY else Status.OK := by
  have hnone : ¬ (List.range 9).any (fun k => d.adcState k == 5) = true := by simpa [adcState] using hservice
  exact if_neg hnone

theorem rowWrite_calStart (hopen : ScalarOpen d sid K.SNS_CAL_START v x) :
    d.rowWrite sid K.SNS_CAL_START v = entryDone sid K.SNS_CAL_START
      (d.actIf false d.calStartCheck (fun e => e.setSense (fun q => { q with due := true }))) :=
  rowWrite_action hopen (action_calStart d false x.id v)

theorem rowWrite_calStart_ok (hopen : ScalarOpen d sid K.SNS_CAL_START v x) (hok : d.calStartCheck = Status.OK) :
    d.rowWrite sid K.SNS_CAL_START v =
      (d.setSense (fun q => { q with due := true })).emit (.entry sid K.SNS_CAL_START Status.OK) := by
  rw [rowWrite_calStart hopen, hok, actIf_ok, entryDone]

/-- A run that is refused is answered with the cause, and changes nothing. -/
theorem rowWrite_calStart_refused (hopen : ScalarOpen d sid K.SNS_CAL_START v x) (hno : d.calStartCheck ≠ Status.OK) :
    d.rowWrite sid K.SNS_CAL_START v = d.emit (.entry sid K.SNS_CAL_START d.calStartCheck) := by
  have hrefused : ¬ (false || d.calStartCheck == Status.OK) = true := by simpa using hno
  rw [rowWrite_calStart hopen, actIf, if_neg hrefused, entryDone]

end

/-! ### The start calibration (R373) -/

/-- The start calibration corrects one converter, or retires it where it fails. -/
def startCorrect (ms : List CalMeasure) (d : Dev) (c : Nat) : Dev :=
  match ms[c]? with
  | none => d
  | some m =>
    if calFails (phaseMean m.zeros) (phaseMean m.refs) then (d.bump (K.ADC_CAL_FAILS c)).retireConverter c
    else d.setCorrections c (phaseMean m.zeros) (phaseMean m.refs)

section
variable {d : Dev} {ms : List CalMeasure}

theorem senseStartDone_due (hphase : d.sense.phase = .starting) (hperiods : 128 ≤ d.sense.periods) :
    d.senseStartDone ms =
      (let e := (List.range 9).foldl (fun e c => e.setObj (K.ADC_STATE c) (if c = 8 then 6 else 1)) d
       let e := ((e.setSense (fun q => { q with phase := .idle, periods := 0, lastEnd := some d.now })).setObj K.SNS_STATE
         2).setObjI 16 K.SNS_CAL_TEMP e.sense.startTemp
       ([8, 0, 1, 2, 3, 4, 5, 6, 7] : List Nat).foldl (fun e c => e.startCorrect ms c) e) := by
  have hdue : ¬ (d.sense.phase ≠ .starting ∨ d.sense.periods < 128) :=
    not_or.mpr ⟨not_not_intro hphase, Nat.not_lt.mpr hperiods⟩
  have hnow : ((List.range 9).foldl (fun e c => e.setObj (K.ADC_STATE c) (if c = 8 then 6 else 1)) d).now = d.now :=
    List.foldlRecOn (motive := fun e : Dev => e.now = d.now) _ _ rfl fun _ he _ _ => he
  rw [← hnow]
  exact if_neg hdue

theorem startCorrect_passes {c : Nat} (hc : c < ms.length)
    (hpass : ∀ m ∈ ms, calFails (phaseMean m.zeros) (phaseMean m.refs) = false) (d : Dev) :
    d.startCorrect ms c =
      (let m := ms.getD c { zeros := [], refs := [] }
       d.setCorrections c (phaseMean m.zeros) (phaseMean m.refs)) := by
  simp [startCorrect, List.getElem?_eq_getElem hc, hpass _ (List.getElem_mem hc)]

/-- Where none fails, the start calibration corrects each of its converters. -/
theorem startCorrect_foldl {cs : List Nat} (hlt : ∀ c ∈ cs, c < ms.length)
    (hpass : ∀ m ∈ ms, calFails (phaseMean m.zeros) (phaseMean m.refs) = false) (d : Dev) :
    cs.foldl (fun e c => e.startCorrect ms c) d =
      cs.foldl (fun e c =>
        let m := ms.getD c { zeros := [], refs := [] }
        e.setCorrections c (phaseMean m.zeros) (phaseMean m.refs)) d := by
  refine List.foldl_rel (r := Eq) rfl fun c hc e e' he => ?_
  subst he
  exact startCorrect_passes (hlt c hc) hpass e

end

end Dev

/-- Settles O40: each phase of a run ends in its own way, a run that is asked for is judged, and a start calibration in which
none fails corrects every converter. -/
theorem calibrationRunsStepByStep : Obligations.CalibrationRunsStepByStep := by
  intro s t m d goes z ref correct
  have hnow : d.now = t := Dev.begin_now t s.dev
  refine ⟨fun hports hrun => ?steps, fun sid x v hopen => ?asked, fun hports hphase hperiods ms hlen hpass => ?start⟩
  case steps =>
    have hexec : exec (.senseCalStepEnd t m) s = .next (after t s (d.calStepEnd m)) := act_whenPorts _ hports
    rw [hexec]
    refine ⟨fun hphase => ⟨fun hpass => ?_, fun hfail => ?_⟩, fun c hphase => ?_, fun c hphase => ?_,
      fun c hphase => ⟨fun hpass => ?_, fun hfail => ?_⟩, fun c hphase => ⟨fun hmore => ?_, fun hlast => ?_⟩⟩
    · rw [Dev.calStepEnd_spare_passes hrun hphase hpass, Dev.setCorrections, Dev.calPhaseTo]
    · rw [Dev.calStepEnd_spare_fails hrun hphase hfail]
    · rw [Dev.calStepEnd_toSpare hrun hphase]
      rfl
    · rw [Dev.calStepEnd_zero hrun hphase]
    · rw [Dev.calStepEnd_refer_passes hrun hphase hpass]
      rfl
    · rw [Dev.calStepEnd_refer_fails hrun hphase hfail]
    · rw [Dev.calStepEnd_back hrun hphase]
      exact congrArg (fun e => Host.Outcome.next (after t s e)) (if_pos hmore)
    · rw [Dev.calStepEnd_back hrun hphase, ← hnow]
      exact congrArg (fun e => Host.Outcome.next (after d.now s e))
        ((if_neg (Nat.not_lt.mpr hlast)).trans (Dev.calRunEnd_complete _))
  case asked =>
    intro retired fin'
    have hexec : exec (.snsCalStart t sid v) s = .next (after t s (d.rowWrite sid K.SNS_CAL_START v)) := act_eq t _ s
    rw [hexec]
    refine ⟨fun hservice hidle hnot => ?_, fun hservice hbusy => ?_, fun hretired => ?_⟩
    · have hok : d.calStartCheck = Status.OK := by
        rw [Dev.calStartCheck_in_service hservice, if_neg (by simp [hidle, hnot])]
      rw [Dev.rowWrite_calStart_ok hopen hok]
    · have hcheck : d.calStartCheck = Status.BUSY := by
        rw [Dev.calStartCheck_in_service hservice, if_pos (Or.inl hbusy)]
      rw [Dev.rowWrite_calStart_refused hopen (by rw [hcheck]; decide), hcheck]
    · have hcheck : d.calStartCheck = Status.DEVICE := Dev.calStartCheck_retired hretired
      rw [Dev.rowWrite_calStart_refused hopen (by rw [hcheck]; decide), hcheck]
  case start =>
    have hlt : ∀ c ∈ [8, 0, 1, 2, 3, 4, 5, 6, 7], c < ms.length := by rw [hlen]; decide
    refine (act_whenPorts _ hports).trans ?_
    rw [Dev.senseStartDone_due hphase hperiods, Dev.startCorrect_foldl hlt hpass, hnow]
    rfl

/-! ### Absent thermal inputs and photodiode captures (R375, R380) -/

namespace Dev

section
variable {d : Dev}

theorem thermFail_due {p : Nat} {t0 : Time} (habsent : (d.sense.absentSince[p]?).getD none = some t0)
    (hlate : t0 + 10000000000 ≤ d.now) : d.thermFail p = d.publishTemp p (d.objI 16 K.THERM_FAIL_TEMP) := by
  simp only [thermFail, habsent]
  exact if_pos hlate

theorem pdDarkEnd_due {i n : Nat} {t0 : Time} {sum : Nat} (hdark : (d.senseIn i).dark = some (t0, sum, n))
    (hlate : t0 + 1000000000 ≤ d.now) (hsome : 0 < n) :
    d.pdDarkEnd i = (d.setSenseIn i (fun q => { q with dark := none })).keepObj (K.SNS_PD_DARK i)
      (unstatedDiv (sum : Int) n).toNat := by
  simp only [pdDarkEnd, hdark]
  exact (if_pos hlate).trans (if_neg (Nat.ne_of_gt hsome))

theorem pdCapture_dark (i : Nat) :
    d.pdCapture false i 1 = if d.obj K.SCAN_STATE = 1 then (Status.OK, d.pdDarkStart i) else (Status.NOT_IDLE, d) := by
  simp [pdCapture]

theorem pdCapture_baseline (i : Nat) :
    d.pdCapture false i 2 =
      if d.obj K.SCAN_STATE = 3 then (Status.OK, d.setSenseIn i (fun q => { q with baseline := true }))
      else (Status.NOT_IDLE, d) := by
  simp [pdCapture]

theorem rowWriteAt_pdCapture {sid i v : Nat} {x : Session} (hi : i < 16)
    (hopen : ScalarOpen d sid (K.SNS_PD_CAPTURE i) v x) :
    d.rowWriteAt 16 i sid (K.SNS_PD_CAPTURE i) v = entryDone sid (K.SNS_PD_CAPTURE i) (d.pdCapture false i v) := by
  rw [rowWriteAt, if_pos hi, rowWrite_action hopen (action_pdCapture d false x.id v i hi)]

end

end Dev

/-- Settles O41: each timer finds what it times, and a capture is taken in its own state of scan-out alone. -/
theorem absentInputsAndPhotodiodeCaptures : Obligations.AbsentInputsAndPhotodiodeCaptures := by
  intro s t d
  have hnow : d.now = t := Dev.begin_now t s.dev
  refine ⟨fun ⟨hports, htile⟩ => ⟨fun p t0 habsent hlate => ?fail, fun i t0 sum n hdark hlate hsome => ?done⟩,
    fun sid x i hi => ?captures⟩
  case fail =>
    refine (act_whenPorts _ hports).trans ?_
    rw [Dev.onTile_open _ htile, Dev.thermFail_due habsent (by rwa [hnow])]
    rfl
  case done =>
    refine (act_whenPorts _ hports).trans ?_
    rw [Dev.onTile_open _ htile, Dev.pdDarkEnd_due hdark (by rwa [hnow]) hsome]
  case captures =>
    intro fin'
    refine ⟨fun hopen => ?_, fun hopen => ?_⟩
    · have hexec : exec (.pdDarkCapture t sid i) s = .next (after t s _) :=
        (act_eq t _ s).trans (by rw [Dev.rowWriteAt_pdCapture hi hopen])
      rw [hexec, Dev.pdCapture_dark]
      refine ⟨fun hstate => ?_, fun hstate => ?_⟩
      · rw [if_pos hstate, Dev.pdDarkStart, hnow]
        rfl
      · rw [if_neg hstate]
        rfl
    · have hexec : exec (.pdBaselineCapture t sid i) s = .next (after t s _) :=
        (act_eq t _ s).trans (by rw [Dev.rowWriteAt_pdCapture hi hopen])
      rw [hexec, Dev.pdCapture_baseline]
      refine ⟨fun hstate => ?_, fun hstate => ?_⟩
      · rw [if_pos hstate]
        rfl
      · rw [if_neg hstate]
        rfl

end Sys2Proof.Machine

/-!
PROOFS. The Withy link (13_withy.md): lanes, rate steps and failed attempts (R387, R395 to R402), hellos and the writes
that train a port (R391 to R394, R399), columns and grant runs (R385 to R390, R416, R417), link checks, unknown packets
and enumeration (R406, R411, R413, R420 to R425).
-/
namespace Sys2Proof.Machine
open Sys2Proof.Safety

namespace Dev

/-! ### What leaves the step of a port alone -/

/-- A port is where it was in its bring-up: in its state, its phase, at its rate and its agreed rate, and no time has
passed. -/
structure SameStep (h : PortId) (d e : Dev) : Prop where
  state : e.linkState h = d.linkState h
  phase : (e.port h).phase = (d.port h).phase
  rate : (e.port h).rate = (d.port h).rate
  agreed : (e.port h).agreed = (d.port h).agreed
  now : e.now = d.now

section
variable (h k : PortId) (f : Port → Port) (p : Packet) (n : Nat) (d : Dev)

theorem sameStep_refl : SameStep h d d := ⟨rfl, rfl, rfl, rfl, rfl⟩

theorem SameStep.trans {h : PortId} {a b c : Dev} (x : SameStep h a b) (y : SameStep h b c) : SameStep h a c :=
  ⟨y.state.trans x.state, y.phase.trans x.phase, y.rate.trans x.rate, y.agreed.trans x.agreed, y.now.trans x.now⟩

/-- What an update of ports leaves alone is read as before. -/
theorem port_setPort_proj {α : Type} (g : Port → α) (hf : ∀ q, g (f q) = g q) :
    g ((d.setPort h f).port k) = g (d.port k) := by
  obtain e | e := port_setPort_cases h f d k <;> simp only [e, hf]

theorem sameStep_setPort (hphase : ∀ q, (f q).phase = q.phase) (hrate : ∀ q, (f q).rate = q.rate)
    (hagreed : ∀ q, (f q).agreed = q.agreed) : SameStep h d (d.setPort k f) :=
  ⟨rfl, port_setPort_proj k h f d Port.phase hphase, port_setPort_proj k h f d Port.rate hrate,
    port_setPort_proj k h f d Port.agreed hagreed, rfl⟩

theorem sameStep_setObj {j : Nat} (v : Nat) (hj : K.WITHY_STATE h ≠ j) : SameStep h d (d.setObj j v) :=
  ⟨setObj_obj_other v d hj, rfl, rfl, rfl, rfl⟩

theorem sameStep_emit (o : Output) : SameStep h d (d.emit o) := ⟨rfl, rfl, rfl, rfl, rfl⟩

theorem sameStep_transmit : SameStep h d (d.transmit k p) :=
  (sameStep_setPort h k (fun q => { q with sent := q.sent + 1 }) d (fun _ => rfl) (fun _ => rfl) (fun _ => rfl)).trans
    (sameStep_emit h _ _)

theorem sameStep_countRx (hpass : pktPasses p = true) : SameStep h d (d.countRx k p) := by
  rw [countRx_passes k d hpass]
  exact sameStep_setPort h k _ d (fun _ => rfl) (fun _ => rfl) (fun _ => rfl)

theorem sameStep_countSync : SameStep h d (d.countSync h n) :=
  (sameStep_setObj h d _ (by simp)).trans (sameStep_setPort h h _ _ (fun _ => rfl) (fun _ => rfl) (fun _ => rfl))

theorem sameStep_abortRx (mid : Option Packet) : SameStep h d (d.abortRx k mid) := by
  unfold abortRx
  split
  · exact sameStep_refl h d
  · have hcounted := sameStep_setPort h k (fun q => { q with started := q.started + 1 }) d
      (fun _ => rfl) (fun _ => rfl) (fun _ => rfl)
    dsimp only
    split
    · exact hcounted.trans (sameStep_transmit h _ _ _)
    · exact hcounted

/-- A port that is doing anything is one of the device's. -/
theorem lt_length_of_phase (hphase : (d.port h).phase ≠ .idle) : h < d.withy.ports.length := by
  by_contra hout
  have hoff : d.port h = portInit := by simp [port, List.getElem?_eq_none (Nat.not_lt.mp hout)]
  exact hphase (by rw [hoff]; rfl)

end

/-! ### Lanes (R387, R396, R401) -/

/-- A lane is locked, and what its ALIGN columns show and its inversion are kept (R387). -/
def laneSeen (h lane : Nat) (a : LaneAlign) (d : Dev) : Dev :=
  (d.setPort h (fun z => { z with
    lanes := upd lane (fun _ => true) z.lanes, align := upd lane (fun _ => (a.lane, a.skewPs)) z.align })).setObj
      K.LANE_RX_INVERTED (setBit (8 + 4 * h + lane) a.inverted (d.obj K.LANE_RX_INVERTED))

/-- A port that waits for lock begins to verify once it is locked (R396). -/
def lockFollow (h : PortId) (d : Dev) : Dev :=
  match (d.port h).phase with
  | .locking prev =>
    if d.portLocked h then
      (d.setPort h (fun z => { z with phase := .verify prev, intact := 0, errors := 0, since := d.now })).sendPatterns h
    else d
  | _ => d

/-- A lane is down, with the sync header errors found, and a packet in progress is aborted (R387, R405). -/
def laneDown (h lane : Nat) (mid : Option Packet) (sync : Nat) (d : Dev) : Dev :=
  let e := (d.countSync h sync).setPort h (fun z => { z with lanes := upd lane (fun _ => false) z.lanes })
  (if d.portLocked h then e.bump (K.WITHY_LOCK_LOSSES h) else e).abortRx h mid

/-- What the loss of a lane means to a port that was locked or not: a fall-back, or a step that failed (R397, R401). -/
def lossFollow (h : PortId) (was : Bool) (d : Dev) : Dev :=
  if d.linkState h = 3 then d.fallBack h
  else
    match (d.port h).phase with
    | .verify prev => d.stepFailed h prev
    | .hello | .request _ => if was && decide (0 < (d.port h).rate) then d.stepFailed h ((d.port h).rate - 1) else d
    | _ => d

section
variable {d : Dev} {h lane : Nat}

theorem sameStep_laneSeen (a : LaneAlign) : SameStep h d (d.laneSeen h lane a) := by
  have hkey : K.WITHY_STATE h ≠ K.LANE_RX_INVERTED := by unfold K.WITHY_STATE K.LANE_RX_INVERTED; omega
  refine (sameStep_setPort h h _ d ?_ ?_ ?_).trans (sameStep_setObj h _ _ hkey) <;> exact fun _ => rfl

theorem sameStep_laneDown (mid : Option Packet) (sync : Nat) : SameStep h d (d.laneDown h lane mid sync) := by
  have hdown := (sameStep_countSync h sync d).trans
    (sameStep_setPort h h (fun z => { z with lanes := upd lane (fun _ => false) z.lanes }) _
      (fun _ => rfl) (fun _ => rfl) (fun _ => rfl))
  refine SameStep.trans ?_ (sameStep_abortRx h h _ mid)
  split
  · exact hdown.trans (sameStep_setObj h _ _ (by simp))
  · exact hdown

section
variable (hport : h < d.nPorts) (hen : d.linkState h ≠ 1) (hlane : lane < 4)
include hport hen hlane

theorem lane_open : ¬ (d.nPorts ≤ h ∨ d.linkState h = 1 ∨ 4 ≤ lane) := by omega

theorem laneGained_eq (a : LaneAlign) : d.laneGained h lane a = (d.laneSeen h lane a).lockFollow h :=
  if_neg (lane_open hport hen hlane)

theorem laneLost_eq (mid : Option Packet) (sync : Nat) :
    d.laneLost h lane mid sync = (d.laneDown h lane mid sync).lossFollow h (d.portLocked h) :=
  if_neg (lane_open hport hen hlane)

end

theorem lockFollow_locked {prev : Nat} (hphase : (d.port h).phase = .locking prev) (hlocked : d.portLocked h = true) :
    d.lockFollow h =
      ((d.setPort h (fun z => { z with phase := .verify prev, intact := 0, errors := 0, since := d.now })).setPort h
        (fun z => { z with sent := z.sent + patternCount (d.port h).rate })).emitAll
          (List.replicate (patternCount (d.port h).rate) (.withy h (mkPacket clsChk 0 1 chkPattern))) := by
  have hrate : ((d.setPort h (fun z => { z with
      phase := .verify prev, intact := 0, errors := 0, since := d.now })).port h).rate = (d.port h).rate :=
    port_setPort_proj h h _ d Port.rate (fun _ => rfl)
  simp only [lockFollow, hphase, hlocked, if_true, sendPatterns, hrate]

theorem lockFollow_waits (hwaits : d.portLocked h = false ∨ ∀ prev, (d.port h).phase ≠ .locking prev) :
    d.lockFollow h = d := by
  unfold lockFollow
  split
  case h_1 prev hphase => simp [hwaits.resolve_right (fun hnot => hnot prev hphase)]
  case h_2 => rfl

theorem lossFollow_up (was : Bool) (hup : d.linkState h = 3) : d.lossFollow h was = d.fallBack h := if_pos hup

section
variable (hdown : d.linkState h ≠ 3)
include hdown

theorem lossFollow_verify {prev : Nat} (was : Bool) (hphase : (d.port h).phase = .verify prev) :
    d.lossFollow h was = d.stepFailed h prev := by
  rw [lossFollow, if_neg hdown, hphase]

theorem lossFollow_waits (hphase : (d.port h).phase = .hello ∨ ∃ x, (d.port h).phase = .request x)
    (hrate : 0 < (d.port h).rate) : d.lossFollow h true = d.stepFailed h ((d.port h).rate - 1) := by
  have hwas : (true && decide (0 < (d.port h).rate)) = true := by simp [hrate]
  rw [lossFollow, if_neg hdown]
  obtain hphase | ⟨x, hphase⟩ := hphase <;> simp only [hphase] <;> exact if_pos hwas

end

/-! ### Verification and time-outs (R396 to R398) -/

theorem phaseLasted_of {ns : Nat} (hlate : (d.port h).since + ns ≤ d.now) : d.phaseLasted h ns = true :=
  decide_eq_true hlate

theorem stepLockLate_due {prev : Nat} (hphase : (d.port h).phase = .locking prev) (hstate : d.linkState h = 2)
    (hlate : (d.port h).since + 2000000 ≤ d.now) : d.stepLockLate h = d.stepFailed h prev := by
  simp only [stepLockLate, hphase]
  exact if_pos ⟨hstate, phaseLasted_of hlate⟩

section
variable {prev : Nat} (hphase : (d.port h).phase = .verify prev)
include hphase

/-- A verification counts the errors of its millisecond with those found before. -/
theorem port_countSync_verify (n : Nat) : (d.countSync h n).port h =
    { d.port h with rxErrors := (d.port h).rxErrors + n, errors := (d.port h).errors + n } :=
  port_setPort_same h _ _ (lt_length_of_phase h d (by simp [hphase]))

theorem verifyEnd_passes {n : Nat} (hlate : (d.port h).since + 1000000 ≤ d.now) (hintact : 8 ≤ (d.port h).intact)
    (herrors : (d.port h).errors + n = 0) :
    d.verifyEnd h n =
      (let e := (d.countSync h n).sendHello h 3 0xFF
       if (e.port h).agreed ≤ (e.port h).rate then e.enterUp h
       else (e.setPort h (fun z => { z with since := e.now })).sendRequest h) := by
  have hgood : 8 ≤ ((d.countSync h n).port h).intact ∧ ((d.countSync h n).port h).errors = 0 := by
    rw [port_countSync_verify hphase]
    exact ⟨hintact, herrors⟩
  simp only [verifyEnd, hphase, phaseLasted_of hlate, Bool.not_true, Bool.false_eq_true, if_false]
  exact if_pos hgood

theorem verifyEnd_fails {n : Nat} (hlate : (d.port h).since + 1000000 ≤ d.now)
    (hbad : (d.port h).intact < 8 ∨ (d.port h).errors + n ≠ 0) :
    d.verifyEnd h n = (d.countSync h n).stepFailed h prev := by
  have hnot : ¬ (8 ≤ ((d.countSync h n).port h).intact ∧ ((d.countSync h n).port h).errors = 0) := by
    rw [port_countSync_verify hphase]
    exact fun ⟨hintact, herrors⟩ => hbad.elim (Nat.not_lt.mpr hintact) (fun hne => hne herrors)
  simp only [verifyEnd, hphase, phaseLasted_of hlate, Bool.not_true, Bool.false_eq_true, if_false]
  exact if_neg hnot

theorem chkPatternRx_intact {p : Packet} (hport : h < d.nPorts) (hen : d.linkState h ≠ 1) (hpass : pktPasses p = true)
    (hlink : pktLink p = true) (hlen : p.body.length = 1024) :
    d.chkPatternRx h p = (d.countRx h p).setPort h (fun z => { z with intact := z.intact + 1 }) := by
  have hopen : ¬ (d.nPorts ≤ h ∨ d.linkState h = 1) := by omega
  have hcounted : ((d.countRx h p).port h).phase = .verify prev := (sameStep_countRx h h p d hpass).phase.trans hphase
  simp [chkPatternRx, hopen, hpass, hlink, hcounted, hlen]

end

/-- Hellos are awaited for 10 ms (R397, R398). -/
theorem helloLate_due (hstate : d.linkState h = 2)
    (hphase : (d.port h).phase = .hello ∨ ∃ n, (d.port h).phase = .request n)
    (hlate : (d.port h).since + 10000000 ≤ d.now) : d.helloLate h = d.attemptFailed h := by
  have htrain : ¬ d.linkState h ≠ 2 := not_not_intro hstate
  rw [helloLate, if_neg htrain]
  obtain hphase | ⟨n, hphase⟩ := hphase <;> simp only [hphase] <;> exact if_pos (phaseLasted_of hlate)

theorem backoffOver_due (hphase : (d.port h).phase = .backoff) (hstate : d.linkState h = 2)
    (hlate : (d.port h).since + backoffTime (d.obj (K.WITHY_ATTEMPTS h)) ≤ d.now) :
    d.backoffOver h = d.startAttempt h (d.obj (K.WITHY_ATTEMPTS h) + 1) := by
  simp only [backoffOver, hphase]
  exact if_pos ⟨hstate, phaseLasted_of hlate⟩

end

end Dev

/-- Settles O42: each event of a lane, of a step or of an attempt finds the port in the phase that gives it its
effect. -/
theorem portsStepTheirRates : Obligations.PortsStepTheirRates := by
  intro s t h d q hports hport hen back
  have hnow : d.now = t := Dev.begin_now t s.dev
  have hback : ∀ prev (e : Dev), e.now = t → e.stepFailed h prev = back prev e := fun prev e he => by
    simp only [Dev.stepFailed, he]
    rfl
  refine ⟨fun lane a hlane => ?gained, fun lane mid n hlane => ?lost, fun prev hphase hstate hlate => ?lockLate,
    fun prev hphase => ⟨fun n hlate => ?verifyEnd, fun p hpass hlink hlen => ?pattern⟩,
    fun hstate hphase hlate => ?helloLate, fun hphase hstate hlate => ?backoff⟩
  case gained =>
    intro e n
    have hsame := Dev.sameStep_laneSeen (d := d) (h := h) (lane := lane) a
    have hexec : exec (.laneLockGained t h lane a) s = .next (after t s ((d.laneSeen h lane a).lockFollow h)) := by
      rw [← Dev.laneGained_eq hport hen hlane]
      exact act_whenPorts _ hports
    rw [hexec]
    refine ⟨fun prev hphase hlocked => ?_, fun hwaits => ?_⟩
    · rw [Dev.lockFollow_locked (hsame.phase.trans hphase) hlocked, hsame.rate, ← hnow]
      rfl
    · rw [Dev.lockFollow_waits (hwaits.imp_right fun hnot prev => hsame.phase.trans_ne (hnot prev))]
      rfl
  case lost =>
    have hsame := Dev.sameStep_laneDown (d := d) (h := h) (lane := lane) mid n
    have hlost : (d.laneDown h lane mid n).now = t := hsame.now.trans hnow
    have hexec : exec (.laneLockLost t ⟨h, n⟩ lane mid) s =
        .next (after t s ((d.laneDown h lane mid n).lossFollow h (d.portLocked h))) := by
      rw [← Dev.laneLost_eq hport hen hlane]
      exact act_whenPorts _ hports
    intro down gone
    rw [hexec]
    refine ⟨fun hup => ?_, fun prev hnot hphase => ?_, fun hnot hphase hlocked hrate => ?_⟩
    · rw [Dev.lossFollow_up _ (hsame.state.trans hup)]
      simp only [Dev.fallBack, hlost]
      rfl
    · rw [Dev.lossFollow_verify (hsame.state.trans_ne hnot) _ (hsame.phase.trans hphase), hback _ _ hlost]
      rfl
    · rw [← hsame.phase] at hphase
      rw [← hsame.rate] at hrate
      rw [hlocked, Dev.lossFollow_waits (hsame.state.trans_ne hnot) hphase hrate, hback _ _ hlost, hsame.rate]
      rfl
  case lockLate =>
    rw [← hnow] at hlate
    refine (act_whenPorts _ hports).trans ?_
    rw [Dev.stepLockLate_due hphase hstate hlate, hback _ _ hnow]
  case verifyEnd =>
    rw [← hnow] at hlate
    intro e
    have hexec : exec (.stepVerifyEnd t ⟨h, n⟩) s = .next (after t s (d.verifyEnd h n)) := act_whenPorts _ hports
    rw [hexec]
    refine ⟨fun hintact herrors => ?_, fun hbad => ?_⟩
    · have hsame : Dev.SameStep h d e := (Dev.sameStep_countSync h n d).trans (Dev.sameStep_transmit h h _ _)
      have hsent : e.now = t := hsame.now.trans hnow
      rw [Dev.verifyEnd_passes hphase hlate hintact herrors]
      refine ⟨fun hthere => ?_, fun hmore => ?_⟩
      · rw [← hsame.agreed, ← hsame.rate] at hthere
        exact congrArg (fun e => Host.Outcome.next (after t s e)) (if_pos hthere)
      · rw [← hsame.agreed, ← hsame.rate] at hmore
        rw [← hsent]
        exact congrArg (fun x => Host.Outcome.next (after e.now s x)) (if_neg (Nat.not_le.mpr hmore))
    · rw [Dev.verifyEnd_fails hphase hlate hbad, hback]
      exact hnow
  case pattern =>
    refine (act_whenPorts _ hports).trans ?_
    rw [Dev.chkPatternRx_intact hphase hport hen hpass hlink hlen]
  case helloLate =>
    intro slow
    rw [← hnow] at hlate
    have hexec : exec (.helloTimeout t h) s = .next (after t s (d.attemptFailed h)) := by
      rw [← Dev.helloLate_due hstate hphase hlate]
      exact act_whenPorts _ hports
    rw [hexec]
    refine ⟨fun hmore => ?_, fun hlast => ?_⟩
    · simp only [Dev.attemptFailed, if_pos hmore, hnow]
      rfl
    · simp only [Dev.attemptFailed, if_neg (Nat.not_lt.mpr hlast), Dev.enterDark, hnow]
      rfl
  case backoff =>
    rw [← hnow] at hlate
    refine (act_whenPorts _ hports).trans ?_
    rw [Dev.backoffOver_due hphase hstate hlate]

namespace Dev

/-! ### Hellos received (R394 to R396, R399, R400, R428) -/

/-- A sender takes the highest generation seen (R428). -/
def noteGen (x : Hello) (d : Dev) : Dev :=
  if d.isSender then d.setObj K.PAIR_GEN_SEEN (max (d.obj K.PAIR_GEN_SEEN) (x.genSeen % 2 ^ 24)) else d

/-- An Up port whose partner requests the next index goes back to Training (R402). -/
def stepUpAnswered (h : PortId) (x : Hello) (d : Dev) : Dev :=
  ((((d.setPort h (fun z => { z with
    steppingUp := true, agreed := topRate (d.rateMask h &&& x.rateMask), phase := .hello, since := d.now })).setObj
    (K.WITHY_STATE h) 2).setObj (K.WITHY_RATE h) 255).trainOn h x)

/-- What a hello of another device means to a port, by its state. -/
def helloFollow (h : PortId) (x : Hello) (d : Dev) : Dev :=
  match d.linkState h, (d.port h).phase with
  | 4, _ => ((d.startAttempt h 1).notePartner h x).trainOn h x
  | 3, _ => if x.step = 1 ∧ x.next = (d.port h).rate + 1 then d.stepUpAnswered h x else d
  | _, .backoff => ((d.startAttempt h 1).notePartner h x).trainOn h x
  | _, _ => ((d.notePartner h x).helloSeen h).trainOn h x

section
variable {d : Dev} {h : Nat} {x : Hello}

theorem noteGen_sender (hsender : d.isSender = true) :
    d.noteGen x = d.setObj K.PAIR_GEN_SEEN (max (d.obj K.PAIR_GEN_SEEN) (x.genSeen % 2 ^ 24)) := if_pos hsender

theorem noteGen_tile (htile : d.isSender = false) : d.noteGen x = d := if_neg (ne_true_of_eq_false htile)

theorem sameStep_noteGen : SameStep h d (d.noteGen x) := by
  cases hpers : d.isSender with
  | true =>
    rw [noteGen_sender hpers]
    exact sameStep_setObj h d _ (by unfold K.WITHY_STATE K.PAIR_GEN_SEEN; omega)
  | false =>
    rw [noteGen_tile hpers]
    exact sameStep_refl h d

theorem rateMask_countRx {p : Packet} (hpass : pktPasses p = true) : (d.countRx h p).rateMask h = d.rateMask h := by
  rw [countRx_passes h d hpass]
  rfl

theorem rateMask_noteGen : (d.noteGen x).rateMask h = d.rateMask h := by
  have hkey : K.WITHY_RATE_MAX h ≠ K.PAIR_GEN_SEEN := by unfold K.WITHY_RATE_MAX K.PAIR_GEN_SEEN; omega
  cases hpers : d.isSender with
  | true => rw [noteGen_sender hpers, rateMask, rateMask, setObj_obj_other _ d hkey]
  | false => rw [noteGen_tile hpers]

section
variable {p : Packet} (hport : h < d.nPorts) (hen : d.linkState h ≠ 1) (hpass : pktPasses p = true)
  (hlink : pktLink p = true) (hhello : parseHello p.body = some x)
include hport hen hpass hlink hhello

/-- A hello of this device's own, or of a sender on a sender, puts the port in Dark (R400). -/
theorem helloRx_wrong (hwrong : (d.isSender = true ∧ x.pers = 1) ∨ x.uid = d.fix.fuses.uid) :
    d.helloRx h p =
      (((d.countRx h p).enterDark h).setObj (K.WITHY_PARTNER_ID h) x.uid).fault 14 (K.WITHY_STATE h) h := by
  have hopen : ¬ (d.linkState h = 1 ∨ d.nPorts ≤ h) := by omega
  simp [helloRx, hopen, hpass, hlink, hhello, hwrong]

theorem helloRx_right (hright : ¬ ((d.isSender = true ∧ x.pers = 1) ∨ x.uid = d.fix.fuses.uid)) :
    d.helloRx h p = ((d.countRx h p).noteGen x).helloFollow h x := by
  have hopen : ¬ (d.linkState h = 1 ∨ d.nPorts ≤ h) := by omega
  simp only [helloRx, if_neg hopen, hpass, hlink, hhello, Bool.not_true, Bool.false_eq_true, if_false,
    countRx_isSender, countRx_fix]
  refine (if_neg (by simpa using hright)).trans ?_
  rw [helloFollow, noteGen, countRx_isSender]
  rfl

end

theorem helloFollow_begins (hstate : d.linkState h = 4 ∨ (d.linkState h = 2 ∧ (d.port h).phase = .backoff)) :
    d.helloFollow h x = ((d.startAttempt h 1).notePartner h x).trainOn h x := by
  obtain hstate | ⟨hstate, hphase⟩ := hstate
  · simp only [helloFollow, hstate]
  · simp only [helloFollow, hstate, hphase]

theorem helloFollow_trains (hstate : d.linkState h = 2) (hphase : (d.port h).phase ≠ .backoff) :
    d.helloFollow h x = ((d.notePartner h x).helloSeen h).trainOn h x := by
  unfold helloFollow
  rw [hstate]
  split
  · contradiction
  · contradiction
  · contradiction
  · rfl

theorem helloFollow_up (hstate : d.linkState h = 3) :
    d.helloFollow h x = if x.step = 1 ∧ x.next = (d.port h).rate + 1 then d.stepUpAnswered h x else d := by
  simp only [helloFollow, hstate]

/-! ### Hellos sent (R394, R399) -/

section
variable (hport : h < d.nPorts)
include hport

theorem helloTick_hello (hstate : d.linkState h = 2) (hphase : (d.port h).phase = .hello) :
    d.helloTick h = d.sendHello h 0 0xFF := by
  simp only [helloTick, if_neg (Nat.not_le.mpr hport), hstate, hphase]

theorem helloTick_request {n : Nat} (hstate : d.linkState h = 2) (hphase : (d.port h).phase = .request n) :
    d.helloTick h = d.sendHello h 1 n := by
  simp only [helloTick, if_neg (Nat.not_le.mpr hport), hstate, hphase]

section
variable (hstate : d.linkState h = 4)
include hstate

theorem helloTick_beacon (hbeacon : (d.port h).beacon = true) : d.helloTick h = d.sendHello h 0 0xFF := by
  simp only [helloTick, if_neg (Nat.not_le.mpr hport), hstate, hbeacon, if_true]

theorem beaconTurn_starts (hlate : (d.port h).since + 1000000000 ≤ d.now) :
    d.beaconTurn h true =
      (d.setPort h (fun z => { z with beacon := true, since := d.now })).sendHello h 0 0xFF := by
  have hopen : ¬ (d.linkState h ≠ 4 ∨ d.nPorts ≤ h) := by omega
  simp only [beaconTurn, if_neg hopen, phaseLasted_of hlate, if_true]

theorem beaconTurn_ends (hlate : (d.port h).since + 10000000 ≤ d.now) :
    d.beaconTurn h false = d.setPort h (fun z => { z with beacon := false }) := by
  have hopen : ¬ (d.linkState h ≠ 4 ∨ d.nPorts ≤ h) := by omega
  simp only [beaconTurn, if_neg hopen, phaseLasted_of hlate, if_true, Bool.false_eq_true, if_false]

end
end

/-- The end of a hoop with the lower UNIQUE_ID asks for the next index (R402). -/
theorem stepUpTick_due (hport : h < d.nPorts) (hpartner : (d.port h).partner = some x) (hup : d.portUp h = true)
    (hrate : (d.port h).rate < topRate (d.rateMask h &&& x.rateMask)) (hfails : (d.port h).failedStepUps < 3)
    (hclosed : d.hoopClosed h = true) (hlower : d.fix.fuses.uid < x.uid)
    (hlate : (d.port h).since + d.obj (K.WITHY_RETRY_UP h) * 1000000 ≤ d.now) :
    d.stepUpTick h = (((d.setPort h (fun z => { z with
      steppingUp := true, since := d.now, agreed := topRate (d.rateMask h &&& x.rateMask) })).setObj
      (K.WITHY_STATE h) 2).setObj (K.WITHY_RATE h) 255).sendRequest h := by
  simp [stepUpTick, hport, stepUp, hpartner, hup, hrate, hfails, hclosed, hlower, phaseLasted_of hlate]

/-! ### The writes that train a port (R391 to R393, R398, R399) -/

section
variable {sid v : Nat} {y : Session} (hlt : h < 4)
include hlt

theorem rowWriteAt_retrain (hopen : ScalarOpen d sid (K.WITHY_RETRAIN h) v y) :
    d.rowWriteAt 4 h sid (K.WITHY_RETRAIN h) v =
      (d.withyRetrain h).emit (.entry sid (K.WITHY_RETRAIN h) Status.OK) := by
  rw [rowWriteAt, if_pos hlt, rowWrite_action hopen (action_withyRetrain d false y.id v h hlt), entryDone]

theorem rowWriteAt_enable (hopen : ScalarOpen d sid (K.WITHY_ENABLE h) v y) :
    d.rowWriteAt 4 h sid (K.WITHY_ENABLE h) v =
      (d.withyEnable h v).emit (.entry sid (K.WITHY_ENABLE h) Status.OK) := by
  rw [rowWriteAt, if_pos hlt, rowWrite_action hopen (action_withyEnable d false y.id v h hlt), entryDone]

end

theorem withyRetrain_disabled (hstate : d.linkState h = 1) : d.withyRetrain h = d := if_pos (.inl hstate)

theorem withyRetrain_begins (hstate : d.linkState h ≠ 1) (hports : d.portsRun = true) :
    d.withyRetrain h = d.startAttempt h 1 := if_neg (by simp [hstate, hports])

theorem withyEnable_same {v : Nat} (hsame : v = d.obj (K.WITHY_ENABLE h)) :
    d.withyEnable h v = d.keepObj (K.WITHY_ENABLE h) v := if_pos (.inl hsame)

theorem withyEnable_changes {v : Nat} (hnew : v ≠ d.obj (K.WITHY_ENABLE h)) (hports : d.portsRun = true) :
    d.withyEnable h v =
      (let e := d.keepObj (K.WITHY_ENABLE h) v
       if v = 1 then e.startAttempt h 1 else e.disablePort h) := by
  have hruns : (d.keepObj (K.WITHY_ENABLE h) v).portsRun = true := by
    rw [← hports, keepObj, markDirty]
    split <;> rfl
  exact if_neg (by simp [hnew, hruns])

/-- A whole equalisation table is stored for the next start, or refused (R391 to R393). -/
theorem wholeDone_eqTable (data : Bytes) :
    wholeDone K.EQ_TABLE true data d =
      if eqTableOk data then
        (Status.OK_BOOT, (d.keepBlob K.EQ_TABLE data).setPliuk (fun p => { p with
          bootOld := Store.put K.EQ_TABLE 0 p.bootOld }))
      else (Status.RANGE, d) := by
  have hdone : d.blobDone K.EQ_TABLE data true = if eqTableOk data then
      (Status.OK_BOOT, (d.keepBlob K.EQ_TABLE data).setPliuk (fun p => { p with
        bootOld := Store.put K.EQ_TABLE 0 p.bootOld }))
    else (Status.RANGE, d) := rfl
  rw [wholeDone, hdone]
  split <;> rfl

theorem rowChunk_eqTable_last {sid : Nat} {y : Session} {b : Chunk} {g : BlobStage}
    (hopen : ChunkOpen d sid K.EQ_TABLE b y) (hstage : d.stageOf y.id 0 K.EQ_TABLE = some g)
    (hfits : chunkFits g b = true) (hlast : b.more = false) :
    d.rowChunk sid K.EQ_TABLE b true =
      entryDone sid K.EQ_TABLE (wholeDone K.EQ_TABLE true (g.data ++ b.data) (d.dropStage y.id 0 K.EQ_TABLE)) :=
  rowChunk_ends true hopen rfl hstage hfits hlast

end

end Dev

/-- Settles O43: a hello means what the state of its port makes it mean, the timers of a port find what they time, and
each write is the action of its object. -/
theorem hellosTrainPorts : Obligations.HellosTrainPorts := by
  intro s t h d q
  have hnow : d.now = t := Dev.begin_now t s.dev
  refine ⟨fun hports hport => ⟨fun p x hen hpass hlink hhello => ?received, fun hstate hphase => ?hello,
    fun n hstate hphase => ?request, fun hstate hbeacon => ?beacon, fun hstate => ?turn,
    fun x hpartner hup hrate hfails hclosed hlower hlate => ?stepUp⟩,
    fun sid x v hlt => ⟨fun hopen => ?retrain, fun hopen => ?enable⟩,
    fun sid x b g hopen hstage hfits hlast => ?table⟩
  case received =>
    intro e wrong
    have hexec : exec (.helloReceived t h p) s = .next (after t s (d.helloRx h p)) := act_whenPorts _ hports
    rw [hexec]
    refine ⟨fun hwrong => ?_, fun hright => ?_⟩
    · rw [Dev.helloRx_wrong hport hen hpass hlink hhello hwrong]
    · rw [Dev.helloRx_right hport hen hpass hlink hhello hright]
      intro f
      have hf : f = e.noteGen x := by rw [Dev.noteGen, Dev.countRx_isSender]
      have hsame : Dev.SameStep h d f := by
        rw [hf]
        exact (Dev.sameStep_countRx h h p d hpass).trans Dev.sameStep_noteGen
      have hmask : f.rateMask h = d.rateMask h := by
        rw [hf, Dev.rateMask_noteGen]
        exact Dev.rateMask_countRx hpass
      have hseen : f.now = t := hsame.now.trans hnow
      rw [← hf, ← hsame.state, ← hsame.phase, ← hsame.rate]
      refine ⟨fun hstate => ?_, fun hstate hphase => ?_, fun hup hstep hnext => ?_, fun hup hother => ?_⟩
      · rw [Dev.helloFollow_begins hstate]
      · rw [Dev.helloFollow_trains hstate hphase]
      · rw [Dev.helloFollow_up hup, if_pos ⟨hstep, hnext⟩, Dev.stepUpAnswered, hmask, hseen]
      · rw [Dev.helloFollow_up hup, if_neg (by omega)]
  case hello =>
    refine (act_whenPorts _ hports).trans ?_
    rw [Dev.helloTick_hello hport hstate hphase]
  case request =>
    refine (act_whenPorts _ hports).trans ?_
    rw [Dev.helloTick_request hport hstate hphase]
  case beacon =>
    refine (act_whenPorts _ hports).trans ?_
    rw [Dev.helloTick_beacon hport hstate hbeacon]
  case turn =>
    refine ⟨fun hlate => ?_, fun hlate => ?_⟩
    · refine (act_whenPorts _ hports).trans ?_
      rw [Dev.beaconTurn_starts hport hstate (by rwa [hnow]), hnow]
    · refine (act_whenPorts _ hports).trans ?_
      rw [Dev.beaconTurn_ends hport hstate (by rwa [hnow])]
  case stepUp =>
    refine (act_whenPorts _ hports).trans ?_
    rw [Dev.stepUpTick_due hport hpartner hup hrate hfails hclosed hlower (by rwa [hnow]), hnow]
  case retrain =>
    intro ok
    have hexec : exec (.withyRetrain t sid h v) s = .next (ok (d.withyRetrain h)) := by
      refine (act_eq t _ s).trans ?_
      rw [Dev.rowWriteAt_retrain hlt hopen]
    rw [hexec]
    refine ⟨fun hstate => ?_, fun hstate hports => ?_⟩
    · rw [Dev.withyRetrain_disabled hstate]
    · rw [Dev.withyRetrain_begins hstate hports]
  case enable =>
    intro ok e
    have hexec : exec (.withyEnable t sid h v) s = .next (ok (d.withyEnable h v)) := by
      refine (act_eq t _ s).trans ?_
      rw [Dev.rowWriteAt_enable hlt hopen]
    rw [hexec]
    refine ⟨fun hsame => ?_, fun hnew hports => ?_⟩
    · rw [Dev.withyEnable_same hsame]
    · rw [Dev.withyEnable_changes hnew hports]
      refine ⟨fun hone => ?_, fun hzero => ?_⟩
      · exact congrArg (fun e => Host.Outcome.next (ok e)) (if_pos hone)
      · exact congrArg (fun e => Host.Outcome.next (ok e)) (if_neg (by rw [hzero]; decide))
  case table =>
    intro data e
    have hexec : exec (.eqTableWrite t sid b) s =
        .next (after t s (Dev.entryDone sid K.EQ_TABLE (Dev.wholeDone K.EQ_TABLE true data e))) := by
      refine (act_eq t _ s).trans ?_
      rw [Dev.rowChunk_eqTable_last hopen hstage hfits hlast]
    rw [hexec, Dev.wholeDone_eqTable]
    refine ⟨fun hgood => ?_, fun hbad => ?_⟩
    · rw [if_pos hgood, Dev.entryDone]
    · rw [if_neg (ne_true_of_eq_false hbad), Dev.entryDone]

theorem Dev.whenForwarding_open {d : Dev} (f : Dev → Dev) (h : d.portsRun = true) : d.whenForwarding f = f d := by
  simp [Dev.whenForwarding, h]

/-- An effect on columns that a tile forwards goes on while the ports run. -/
theorem act_whenForwarding {t : Time} {s : State} (f : Dev → Dev) (h : (s.dev.begin t).portsRun = true) :
    act t (fun d => d.whenForwarding f) s = .next (after t s (f (s.dev.begin t))) := by
  rw [act_eq, Dev.whenForwarding_open _ h]

namespace Dev

/-! ### Control columns (R385 to R390) -/

section
variable {d : Dev} {h : Nat}

section
variable (htile : d.isTile = true) (hup : d.portUp h = true)
include htile hup

theorem slackRx_open {depth : Nat} :
    d.slackRx h depth =
      if 3 < depth then
        (d.setPort (otherPort h) (fun z => { z with fifo := depth })).bumpWrap (K.WITHY_SLACK_DELETED h)
      else if d.portUp (otherPort h) then
        (d.setPort (otherPort h) (fun z => { z with fifo := depth + 1 })).emit (.column (otherPort h) .slack)
      else d := if_neg (by simp [htile, hup])

theorem slackInsert_open (hlt : h < d.withy.ports.length) (depth : Nat) :
    d.slackInsert ⟨h, depth⟩ =
      (let e := d.setPort h (fun z => { z with fifo := depth })
       if depth = 0 then (e.bumpWrap (K.WITHY_SLACK_INSERTED h)).emit (.column h .slack) else e) := by
  have hfifo : ((d.setPort h (fun z => { z with fifo := depth })).port h).fifo = depth := by
    rw [port_setPort_same h _ d hlt]
  have hopen : (d.isTile && d.portUp h) = true := by rw [htile, hup]; rfl
  simp only [slackInsert, hopen, if_true, hfifo]

end

theorem slackTick_sends (hsender : d.isSender = true) (hsends : d.sendsColumns h = true) :
    d.slackTick h = d.emit (.column h .slack) := if_pos (by rw [hsender, hsends]; rfl)

theorem alignTick_sends (hsends : d.sendsColumns h = true) :
    d.alignTick h = d.emit (.column h (.align (d.port h).rate)) := if_pos hsends

/-! ### Block errors (R385, R386, R405) -/

/-- A column of sound types, or one outside a packet, is as an IDLE column. -/
theorem blockErr_idle {types : List (Option Nat)} {mid : Option Packet} (hidle : mid = none ∨ columnBad types = false) :
    d.blockErr ⟨h, types, mid⟩ = d := by
  obtain rfl | hgood := hidle
  · exact ite_self _
  · exact if_pos (by simp [hgood])

section
variable {types : List (Option Nat)} {p : Packet} (hport : h < d.nPorts) (hen : d.linkState h ≠ 1)
  (hbad : columnBad types = true)
include hport hen hbad

theorem blockErr_aborts :
    d.blockErr ⟨h, types, some p⟩ =
      (let e := d.setPort h (fun z => { z with started := z.started + 1 })
       if d.isTile && !isMine p && d.portUp (otherPort h) then
         e.transmit (otherPort h)
           (let q := onward p p.body
            { q with term := 3, crc := inv32 (pktCrc q) })
       else e) := if_neg (by simp [hport, hen, hbad])

end

/-! ### Grant runs (R416, R417) -/

/-- A grant run of `g.n` columns goes out of a port: with the first pending packet in front where that fits. -/
def grantOut (k : PortId) (g : GrantRun) (d : Dev) : Dev :=
  match (d.port k).own with
  | p :: rest =>
    if pktColumns p ≤ g.n then
      ((d.setPort k (fun z => { z with own := rest })).launchOwn k g.egressPs p).emit
        (.column k (.grant (g.n - pktColumns p)))
    else d.emit (.column k (.grant g.n))
  | [] => d.emit (.column k (.grant g.n))

theorem grantOut_takes {g : GrantRun} {p : Packet} {rest : List Packet} (hown : (d.port h).own = p :: rest)
    (hfits : pktColumns p ≤ g.n) :
    d.grantOut h g = ((d.setPort h (fun z => { z with own := rest })).launchOwn h g.egressPs p).emit
      (.column h (.grant (g.n - pktColumns p))) := by
  simp only [grantOut, hown]
  exact if_pos hfits

theorem grantOut_passes {g : GrantRun}
    (hown : (d.port h).own = [] ∨ ∃ p rest, (d.port h).own = p :: rest ∧ g.n < pktColumns p) :
    d.grantOut h g = d.emit (.column h (.grant g.n)) := by
  obtain hown | ⟨p, rest, hown, hlong⟩ := hown <;> simp only [grantOut, hown]
  exact if_neg (Nat.not_le.mpr hlong)

/-- Who opens a grant run opens one of 192 columns, its GRANT the first of them. -/
theorem grantTick_opens (hup : d.portUp h = true) (hopens : d.isSender = true ∨ (d.port h).grants = true) (ps : Nat) :
    d.grantTick ⟨h, ps⟩ = d.grantOut h ⟨191, ps⟩ := if_pos (by simpa [hup] using hopens)

/-- A GRANT is noted on the port it comes on, and ends the runs that the tile opens into the other (R417). -/
def grantNoted (h : PortId) (d : Dev) : Dev :=
  (d.setPort h (fun z => { z with lastGrant := some d.now })).setPort (otherPort h)
    (fun z => { z with grants := false })

theorem grantRx_noted (g : GrantRun) (htile : d.isTile = true) (hup : d.portUp h = true) :
    d.grantRx h g =
      if d.portUp (otherPort h) then (d.grantNoted h).grantOut (otherPort h) g else d.grantNoted h := by
  have hopen : (d.isTile && d.portUp h) = true := by rw [htile, hup]; rfl
  refine (if_pos hopen).trans ?_
  cases hother : d.portUp (otherPort h)
  · exact if_pos (congrArg Bool.not hother)
  · have hgoes : (!(d.grantNoted h).portUp (otherPort h)) = false := congrArg Bool.not hother
    exact if_neg (ne_true_of_eq_false hgoes)

theorem grantLate_due (htile : d.isTile = true) (hlt : h < 2) (hother : d.portUp (otherPort h) = true)
    (hquiet : (d.port h).lastGrant = none ∨ ∃ g, (d.port h).lastGrant = some g ∧ g + 1000000 ≤ d.now) :
    d.grantLate h = d.setPort (otherPort h) (fun z => { z with grants := true }) := by
  obtain hnone | ⟨g, hsome, hlate⟩ := hquiet
  · simp [grantLate, htile, hlt, hother, hnone]
  · simp [grantLate, htile, hlt, hother, hsome, hlate]

end

end Dev

/-- Settles O44: each column of a port, and each run that is opened, passed on or missed, is one case of its row. -/
theorem columnsAndGrantRunsPass : Obligations.ColumnsAndGrantRunsPass := by
  intro s t h d o start hports
  have hnow : d.now = t := Dev.begin_now t s.dev
  have hstart : ∀ k ps p (e : Dev), e.launchOwn k ps p = start k ps p e := fun _ _ _ _ => rfl
  refine ⟨fun htile hup => ⟨fun depth => ?slack, fun hlt => ?insert⟩, fun hsender hsends => ?slackSend,
    fun hsends => ?align, fun types mid hidle => ?idle, fun hport hen types p hbad => ?abort,
    fun hup hopens ps => ?opens, fun htile hup hlt n ps => ?passes, fun htile hlt hother hquiet => ?late⟩
  case slack =>
    have hexec : exec (.slackColumnReceived t h depth) s = .next (after t s (d.slackRx h depth)) :=
      act_whenForwarding _ hports
    intro holds
    rw [hexec, Dev.slackRx_open htile hup]
    refine ⟨fun hdeep => ?_, fun hshallow hother => ?_⟩
    · rw [if_pos hdeep]
      rfl
    · rw [if_neg (Nat.not_lt.mpr hshallow), if_pos hother]
  case insert =>
    have hexec : ∀ depth, exec (.slackInsert t ⟨h, depth⟩) s = .next (after t s (d.slackInsert ⟨h, depth⟩)) :=
      fun depth => act_whenForwarding _ hports
    intro holds
    refine ⟨?_, fun depth hsome => ?_⟩
    · rw [hexec, Dev.slackInsert_open htile hup hlt]
      rfl
    · rw [hexec, Dev.slackInsert_open htile hup hlt]
      exact congrArg (fun e => Host.Outcome.next (after t s e)) (if_neg (Nat.ne_of_gt hsome))
  case slackSend =>
    refine (act_whenPorts _ hports).trans ?_
    rw [Dev.slackTick_sends hsender hsends]
  case align =>
    refine (act_whenPorts _ hports).trans ?_
    rw [Dev.alignTick_sends hsends]
  case idle =>
    refine (act_whenForwarding _ hports).trans ?_
    rw [Dev.blockErr_idle hidle]
  case abort =>
    have hexec : exec (.blockError t ⟨h, types, some p⟩) s = .next (after t s (d.blockErr ⟨h, types, some p⟩)) :=
      act_whenForwarding _ hports
    intro e
    rw [hexec, Dev.blockErr_aborts hport hen hbad]
    refine ⟨fun hends => ?_, fun htile hother hup => ?_⟩
    · have hstays : ¬ (d.isTile && !Dev.isMine p && d.portUp o) = true := by
        obtain hsender | hmine | hdown := hends
        · simp [Dev.sender_not_tile hsender]
        · simp [hmine]
        · simp [hdown]
      exact congrArg (fun e => Host.Outcome.next (after t s e)) (if_neg hstays)
    · have hgoes : (d.isTile && !Dev.isMine p && d.portUp o) = true := by simp [htile, hother, hup]
      exact congrArg (fun e => Host.Outcome.next (after t s e)) (if_pos hgoes)
  case opens =>
    have hexec : exec (.grantRunOpen t ⟨h, ps⟩) s = .next (after t s (d.grantOut h ⟨191, ps⟩)) := by
      rw [← Dev.grantTick_opens hup hopens]
      exact act_whenPorts _ hports
    rw [hexec]
    refine ⟨fun p rest hown hfits => ?_, fun hown => ?_⟩
    · rw [Dev.grantOut_takes hown hfits, hstart]
    · rw [Dev.grantOut_passes hown]
  case passes =>
    have hexec : exec (.grantReceived t h ⟨n, ps⟩) s = .next (after t s (d.grantRx h ⟨n, ps⟩)) :=
      act_whenForwarding _ hports
    intro e
    have he : d.grantNoted h = e := by rw [Dev.grantNoted, hnow]
    rw [hexec, Dev.grantRx_noted _ htile hup, he]
    refine ⟨fun hother => ?_, fun hother => ?_⟩
    · rw [if_neg (ne_true_of_eq_false hother)]
    · rw [if_pos hother]
      refine ⟨fun p rest hown hfits => ?_, fun hown => ?_⟩
      · rw [Dev.grantOut_takes hown hfits, hstart]
      · rw [Dev.grantOut_passes hown]
  case late =>
    refine (act_whenPorts _ hports).trans ?_
    rw [Dev.grantLate_due htile hlt hother (by rwa [hnow])]

/-! ### Fields of fixed width (R4) -/

theorem beVal_lt (b : Bytes) : beVal b < 2 ^ (8 * b.length) := by
  induction b with
  | nil => simp [beVal]
  | cons x xs ih =>
    have hx : x.toNat + 1 ≤ 2 ^ 8 := x.isLt
    calc beVal (x :: xs) < x.toNat * 2 ^ (8 * xs.length) + 2 ^ (8 * xs.length) := Nat.add_lt_add_left ih _
      _ = (x.toNat + 1) * 2 ^ (8 * xs.length) := by ring
      _ ≤ 2 ^ 8 * 2 ^ (8 * xs.length) := Nat.mul_le_mul_right _ hx
      _ = 2 ^ (8 * (x :: xs).length) := by rw [← pow_add, List.length_cons]; congr 1; omega

theorem fieldAt_lt (off n : Nat) (b : Bytes) : fieldAt off n b < 2 ^ (8 * n) := by
  have hlen : (slice off n b).length ≤ n := by simp [slice]
  exact (beVal_lt _).trans_le (Nat.pow_le_pow_right (by decide) (Nat.mul_le_mul_left 8 hlen))

namespace Dev

/-! ### Link checks (R413) -/

/-- The CHK of a port with a count of packets sent (R413). -/
def chkOf (z : Port) (sent : Nat) : Packet :=
  mkPacket clsChk 0 1 (be 4 z.chkSeq ++ be 4 sent ++ be 4 z.rxErrors ++ zeros 4)

/-- The next CHK takes the next SEQ, and the count of errors begins anew. -/
def chkNext (h : PortId) (d : Dev) : Dev :=
  d.setPort h (fun z => { z with chkSeq := (z.chkSeq + 1) % 2 ^ 32, rxErrors := 0 })

section
variable {d : Dev} {h : Nat} {p : Packet}

theorem portUp_chkNext (n : Nat) : ((d.countSync h n).chkNext h).portUp h = d.portUp h := by
  have hports : ((d.countSync h n).chkNext h).nPorts = d.nPorts := rfl
  have hstate : ((d.countSync h n).chkNext h).linkState h = d.linkState h := (sameStep_countSync h n d).state
  rw [portUp, portUp, hports, hstate]

/-- A sender's own packet starts at once. -/
theorem sendOwn_sender (hup : d.portUp h = true) (hsender : d.isSender = true) : d.sendOwn h p = d.launch h p := by
  simp [sendOwn, hup, hsender]

/-- A CHK takes the count of the packets sent as it starts. -/
theorem launch_chkOf (z : Port) (sent : Nat) :
    d.launch h (chkOf z sent) = (d.transmit h (chkOf z (d.port h).sent)).setPort h (fun z => { z with sent := 0 }) := by
  have hhead : (chkOf z sent).body.take 4 = be 4 z.chkSeq := by simp [chkOf, mkPacket, List.take_left']
  have htail : (chkOf z sent).body.drop 8 = be 4 z.rxErrors ++ zeros 4 := by
    simp [chkOf, mkPacket, List.drop_append]
  refine (if_pos rfl).trans ?_
  rw [hhead, htail, ← List.append_assoc]
  rfl

section
variable (hup : d.portUp h = true) (n : Nat)
include hup

theorem chkTx_up :
    d.chkTx h n = ((d.countSync h n).chkNext h).sendOwn h (chkOf ((d.countSync h n).port h) 0) := by
  have hopen : ¬ (!d.portUp h) = true := by simp [hup]
  exact (if_neg hopen).trans (by rw [chkOf, ← zeros_eq_be]; rfl)

theorem chkTx_sender (hsender : d.isSender = true) :
    d.chkTx h n =
      (((d.countSync h n).chkNext h).transmit h
        (chkOf ((d.countSync h n).port h) ((d.countSync h n).port h).sent)).setPort h
          (fun z => { z with sent := 0 }) := by
  have hsent : (((d.countSync h n).chkNext h).port h).sent = ((d.countSync h n).port h).sent :=
    port_setPort_proj h h _ _ Port.sent (fun _ => rfl)
  rw [chkTx_up hup, sendOwn_sender ((portUp_chkNext n).trans hup) hsender, launch_chkOf, hsent]

theorem chkTx_tile (htile : d.isTile = true) :
    d.chkTx h n = ((d.countSync h n).chkNext h).setPort h (fun z =>
      { z with own := z.own ++ [chkOf ((d.countSync h n).port h) 0] }) := by
  rw [chkTx_up hup, sendOwn_tile _ ((portUp_chkNext n).trans hup) htile]

end

/-- The SEQ of a CHK is noted, and the count of packet starts begins anew. -/
def chkNoted (h : PortId) (seq : Nat) (d : Dev) : Dev :=
  d.setPort h (fun z => { z with chkLast := some seq, started := 0 })

section
variable (hup : d.portUp h = true) (hpass : pktPasses p = true) (hlink : pktLink p = true) (hlen : p.body.length = 16)
include hup hpass hlink hlen

theorem chkRx_first (hlast : (d.port h).chkLast = none) :
    d.chkRx h p = (d.countRx h p).chkNoted h (fieldAt 0 4 p.body) := by
  have hcounted : ((d.countRx h p).port h).chkLast = none := by
    rw [countRx_passes h d hpass, ← hlast]
    exact port_setPort_proj h h _ d Port.chkLast (fun _ => rfl)
  simp [chkRx, hup, hpass, hlink, hlen, hcounted, chkNoted]

theorem chkRx_next {l : Nat} (hlast : (d.port h).chkLast = some l) :
    d.chkRx h p =
      (let e := (d.countRx h p).chkNoted h (fieldAt 0 4 p.body)
       if fieldAt 0 4 p.body ≠ (l + 1) % 2 ^ 32 ∨ fieldAt 4 4 p.body ≠ (d.port h).started then
         e.bumpFault 2 (K.WITHY_CHK_MISMATCH h) h
       else e) := by
  have hcounted : ((d.countRx h p).port h).chkLast = some l := by
    rw [countRx_passes h d hpass, ← hlast]
    exact port_setPort_proj h h _ d Port.chkLast (fun _ => rfl)
  simp only [chkRx, hup, hpass, hlink, hlen, hcounted, chkNoted, Bool.not_true, Bool.false_eq_true, if_false,
    ne_eq, not_true_eq_false]

end

/-! ### Unknown packets (R406, R411) -/

section
variable (hup : d.portUp h = true)
include hup

theorem unknownPacket_class (hcls : p.cls ≠ clsTim) :
    d.unknownPacket h p =
      (let e := if pktPasses p then (d.countRx h p).bump (K.WITHY_UNKNOWN h) else d.countRx h p
       if d.isSender = true ∨ pktLink p = true then e else e.forward h p p.body) := by
  have hopen : ¬ (!d.portUp h) = true := by simp [hup]
  have hpers : (if pktPasses p then (d.countRx h p).bump (K.WITHY_UNKNOWN h) else d.countRx h p).isSender =
      d.isSender := by
    split <;> simp [bump]
  rw [unknownPacket, if_neg hcls]
  refine (if_neg hopen).trans ?_
  simp only [hpers, Bool.or_eq_true]

theorem unknownPacket_tim (hcls : p.cls = clsTim) :
    d.unknownPacket h p =
      if pktPasses p = true ∧ timType p.body ∉ [0x0, 0x2, 0x3, 0xB] then (d.countRx h p).bump (K.WITHY_UNKNOWN h)
      else d.countRx h p := by
  have hopen : ¬ (!d.portUp h) = true := by simp [hup]
  rw [unknownPacket, if_pos hcls, if_neg hopen]
  simp [timKnown, timUnknown]

end

/-! ### Enumeration on a sender (R420, R424) -/

theorem enumTx_up (hup : d.portUp h = true) :
    d.enumTx h = (d.sendCtl h 3 0xFF d.fix.fuses.uid (zeros 1536)).setPort h
      (fun z => { z with lastEnum := some d.now }) := if_pos hup

section
variable (hup : d.portUp h = true)
include hup

theorem enumTaken_partner (hpass : pktPasses p = true) (hlen : p.body.length = 1552)
    (huid : fieldAt 4 8 p.body ≠ d.fix.fuses.uid) (hturned : pktTurned p = false) : d.enumTaken h p = true := by
  simp [enumTaken, hup, hpass, hlen, huid, hturned]

theorem enumTaken_turned (hpass : pktPasses p = true) (hlen : p.body.length = 1552)
    (huid : fieldAt 4 8 p.body = d.fix.fuses.uid) (hturned : pktTurned p = true)
    (hclosed : (d.hoopOf h).closed = false) : d.enumTaken h p = true := by
  simp [enumTaken, hup, hpass, hlen, huid, hturned, hclosed]

/-- A partner's ENUM is the list from the far end, and closes the hoop (R424). -/
theorem enumRxSender_partner (htaken : d.enumTaken h p = true) (hturned : pktTurned p = false) :
    d.enumRxSender h p =
      (let recs := writtenRecs (parseEnum 96 (p.body.drop 16))
       (d.countRx h p).setHoop h { tiles := recs.reverse, closed := true, partner := fieldAt 4 8 p.body,
                                   lastPartner := some (d.countRx h p).now, slowest := slowestOf recs }) := by
  simp [enumRxSender, hup, htaken, hturned]

theorem enumRxSender_turned (hpass : pktPasses p = true) (htaken : d.enumTaken h p = true)
    (hturned : pktTurned p = true) :
    d.enumRxSender h p =
      (let recs := writtenRecs (parseEnum 96 (p.body.drop 16))
       (d.countRx h p).setHoop h { (d.hoopOf h) with tiles := recs, slowest := slowestOf recs }) := by
  have hhoop : (d.countRx h p).hoopOf h = d.hoopOf h := by rw [countRx_passes h d hpass]; rfl
  simp [enumRxSender, hup, htaken, hturned, hhoop]

end

theorem hoopOpen_due {u : Time} (hsender : d.isSender = true) (hlt : h < 4) (hclosed : (d.hoopOf h).closed = true)
    (hlast : (d.hoopOf h).lastPartner = some u) (hlate : u + 300000000 ≤ d.now) :
    d.hoopOpen h = d.setHoop h { (d.hoopOf h) with closed := false, partner := 0 } := by
  simp [hoopOpen, hsender, hlt, hclosed, hlast, hlate]

/-! ### Enumeration on a tile (R420 to R423) -/

/-- What a tile learns of an untouched ENUM that reaches a port at an instant (R422, R423, R425). -/
def enumLearnt (h : PortId) (p : Packet) (at' : Time) (d : Dev) : Dev :=
  let n := p.hops + 1
  ({ d with withy := { d.withy with
    tileEnum := upd h (fun z => {
      dist := if n ≤ 96 then n else if z.sender = fieldAt 4 8 p.body then z.dist else 0, hops := n,
      sender := fieldAt 4 8 p.body, lastAt := some at' }) d.withy.tileEnum } }).reportEnum

/-- The body of an ENUM with the tile's own record in its place (R421, R422). -/
def enumBody (h : PortId) (p : Packet) (d : Dev) : Bytes :=
  if p.hops + 1 ≤ 96 then splice (16 + 16 * (p.hops + 1 - 1)) (enumRecBytes (d.enumRecord h)) p.body else p.body

theorem enumRx_untouched (hup : d.portUp h = true) (hother : isMine p = false) (hpass : pktPasses p = true)
    (hlen : p.body.length = 1552) (hturned : pktTurned p = false) :
    d.enumRx h p =
      (let r := (d.countRx h p).enumLearnt h p (d.countRx h p).now
       if r.portUp (otherPort h) then r.forward h p (r.enumBody h p)
       else
         let z := { p with hops := min (p.hops + 1) 255, flags := p.flags + 2, body := r.enumBody h p }
         r.sendOwn h { z with crc := pktCrc z }) := by
  simp only [enumRx, hup, hother, hpass, hlen, hturned, Bool.not_true, Bool.false_eq_true, if_false, Bool.false_or,
    bne_self_eq_false]
  rfl

theorem enumLate_due {u : Time} (htile : d.isTile = true) (hlast : (d.tileEnumOf h).lastAt = some u)
    (hlate : u + 300000000 ≤ d.now) : d.enumLate h = d.enumPortLost h := by
  simp [enumLate, htile, hlast, hlate]

end

end Dev

/-- Settles O45: a CHK that leaves or comes, a packet that no class explains, and an ENUM each take the branch of their
premises, and the two time-outs of enumeration find what they time. -/
theorem linkChecksAndEnumeration : Obligations.LinkChecksAndEnumeration := by
  intro s t h p d q e hports
  have hnow : d.now = t := Dev.begin_now t s.dev
  have hfirmware : ∀ f : Dev → Dev, act t (fun d => d.whenFirmware f) s = .next (after t s (f d)) := fun f =>
    act_whenFirmware f (Dev.pliukRuns_of_portsRun hports) (Dev.not_recovery_of_portsRun hports)
  refine ⟨fun hup => ⟨fun n => ?send, fun hpass hlink hlen => ?received, fun hcls => ?unknown, fun hcls => ?tim,
    fun hsender => ⟨?enumSend, fun hpass hlen => ?enumSender⟩,
    fun htile hother hpass hlen hturned => ?enumTile⟩,
    fun hsender hlt hclosed u hlast hlate => ?hoop, fun htile u hlast hlate => ?port⟩
  case send =>
    have hexec : exec (.chkSend t ⟨h, n⟩) s = .next (after t s (d.chkTx h n)) := act_whenPorts _ hports
    intro e z f chk
    rw [hexec]
    refine ⟨fun hsender => ?_, fun htile => ?_⟩
    · rw [Dev.chkTx_sender hup n hsender]
      rfl
    · rw [Dev.chkTx_tile hup n htile]
      rfl
  case received =>
    have hexec : exec (.chkReceived t h p) s = .next (after t s (d.chkRx h p)) := act_whenPorts _ hports
    intro seq r
    have hseq : seq < 2 ^ 32 := fieldAt_lt 0 4 p.body
    rw [hexec]
    refine ⟨fun l hlast hgap => ?_, fun hsound => ?_⟩
    · rw [Dev.chkRx_next hup hpass hlink hlen hlast]
      exact congrArg (fun e => Host.Outcome.next (after t s e)) (if_pos hgap)
    · obtain hnone | ⟨hlast, hstarts⟩ := hsound
      · rw [Dev.chkRx_first hup hpass hlink hlen hnone]
        rfl
      · rw [Dev.chkRx_next hup hpass hlink hlen hlast]
        have hnext : ¬ (seq ≠ ((seq + 2 ^ 32 - 1) % 2 ^ 32 + 1) % 2 ^ 32 ∨ fieldAt 4 4 p.body ≠ q.started) := by omega
        exact congrArg (fun e => Host.Outcome.next (after t s e)) (if_neg hnext)
  case unknown =>
    have hexec : exec (.unknownClassPacket t h p) s = .next (after t s (d.unknownPacket h p)) :=
      (act_eq t _ s).trans (by rw [Dev.wire_open h p _ hports])
    intro r
    rw [hexec, Dev.unknownPacket_class hup hcls]
    refine ⟨fun hends => ?_, fun htile hlink => ?_⟩
    · exact congrArg (fun e => Host.Outcome.next (after t s e)) (if_pos hends)
    · have hgoes : ¬ (d.isSender = true ∨ pktLink p = true) := by simp [Dev.tile_not_sender htile, hlink]
      exact congrArg (fun e => Host.Outcome.next (after t s e)) (if_neg hgoes)
  case tim =>
    have hexec : exec (.unknownClassPacket t h p) s = .next (after t s (d.unknownPacket h p)) :=
      (act_eq t _ s).trans (by rw [Dev.wire_open h p _ hports])
    rw [hexec, Dev.unknownPacket_tim hup hcls]
    refine ⟨fun hpass htype => ?_, fun hknown => ?_⟩
    · rw [if_pos ⟨hpass, htype⟩]
    · have hnot : ¬ (pktPasses p = true ∧ timType p.body ∉ [0x0, 0x2, 0x3, 0xB]) := fun ⟨hpass, htype⟩ =>
        hknown.elim (ne_false_of_eq_true hpass) htype
      rw [if_neg hnot]
  case enumSend =>
    refine (act_whenPorts _ hports).trans ?_
    rw [Dev.onSender_open _ hsender, Dev.enumTx_up hup, hnow]
  case enumSender =>
    have hexec (htaken : d.enumTaken h p = true) : exec (.enumReceivedSender t h p) s =
        .next (after t s ((d.enumRxSender h p).countUnplaced h).reviewPlan) := by
      refine (act_whenPorts _ hports).trans ?_
      rw [Dev.onSender_open _ hsender, if_pos htaken]
    intro recs
    refine ⟨fun huid hturned => ?_, fun huid hturned hopen => ?_⟩
    · have htaken : d.enumTaken h p = true := Dev.enumTaken_partner hup hpass hlen huid hturned
      rw [hexec htaken, Dev.enumRxSender_partner hup htaken hturned, Dev.countRx_now h d hpass, hnow]
    · have htaken : d.enumTaken h p = true := Dev.enumTaken_turned hup hpass hlen huid hturned hopen
      rw [hexec htaken, Dev.enumRxSender_turned hup hpass htaken hturned]
  case enumTile =>
    intro n r body
    have hr : (d.countRx h p).enumLearnt h p (d.countRx h p).now = r := by
      rw [Dev.countRx_now h d hpass, hnow]
      rfl
    have hexec : exec (.enumReceived t h p) s = .next (after t s ((d.enumRx h p).takePosition).scanFollow) := by
      refine (act_eq t _ s).trans ?_
      rw [Dev.wire_open h p _ hports, Dev.onTile_open _ htile]
    rw [hexec, Dev.enumRx_untouched hup hother hpass hlen hturned, hr]
    refine ⟨fun hon => ?_, fun hends => ?_⟩
    · exact congrArg (fun e : Dev => Host.Outcome.next (after t s e.takePosition.scanFollow)) (if_pos hon)
    · exact congrArg (fun e : Dev => Host.Outcome.next (after t s e.takePosition.scanFollow))
        (if_neg (ne_true_of_eq_false hends))
  case hoop =>
    refine (hfirmware _).trans ?_
    rw [Dev.hoopOpen_due hsender hlt hclosed hlast (by rwa [hnow])]
  case port =>
    refine (hfirmware _).trans ?_
    rw [Dev.enumLate_due htile hlast (by rwa [hnow])]
    rfl

end Sys2Proof.Machine

/-!
PROOFS. The machine (00_scope.md), Halted (R539), and a device without power or in reset (R545, R557, R559).
-/
namespace Sys2Proof.Machine
open Sys2Proof.Safety

/-! ### The queue, and the reset state -/

/-- Settles O1: the step takes the first of the commands that wait. -/
theorem stepRunsTheCommandInFront : Obligations.StepRunsTheCommandInFront := by
  intro c rest s hpending
  rw [step, hpending]

/-- No row of the opcode table is spelled by bits. -/
theorem decodeTableWord_none (nbits w : Nat) : decodeTableWord nbits w = none := rfl

/-- Settles O2: with no command in front the step answers the state, and no word puts one there. -/
theorem anEmptyQueueIdles : Obligations.AnEmptyQueueIdles := by
  refine ⟨fun s hempty => ?_, decodeTableWord_none, fun s nbits w => ?_⟩
  · rw [step, hempty]
  · rw [State.withFetchWord, decodeTableWord_none]

/-- Settles O3: the store and the BLOBs of the reset state list nothing, so every object reads its default. -/
theorem resetHoldsTheDefaults : Obligations.ResetHoldsTheDefaults :=
  ⟨rfl, rfl, fun _ => rfl, fun _ => rfl, rfl, rfl, rfl, rfl, rfl, rfl, rfl, rfl, rfl, rfl, rfl⟩

/-! ### Halted (R539) -/

namespace Dev

/-- A SLACK column that a tile deletes from a forwarding FIFO of more than three columns is counted. -/
theorem slackRx_deletes {d : Dev} {h : PortId} {depth : Nat} (htile : d.isTile = true) (hup : d.portUp h = true)
    (hfull : 3 < depth) :
    d.slackRx h depth =
      (d.setPort (otherPort h) (fun q => { q with fifo := depth })).bumpWrap (K.WITHY_SLACK_DELETED h) := by
  simp [slackRx, htile, hup, hfull]

theorem whenForwarding_halted {d : Dev} (f : Dev → Dev) (htile : d.isTile = true) (hhalted : d.start.run = .halted) :
    d.whenForwarding f = f d := by
  simp [whenForwarding, htile, hhalted]

end Dev

/-- What a command leaves of a device that is off, in reset or Halted afterwards is its effect: nothing follows. -/
theorem after_dead {s : State} (t : Time) {e : Dev} (h : e.alive = false) :
    (after t s e).dev = ({ e with events := [] } : Dev).protect s.dev.fix := by
  rw [after, sweep_dead _ _ h]

/-- A Halted tile whose port 0 is Up: it goes on forwarding columns. -/
def haltedForwarder : State :=
  { State.reset with dev :=
      ({ State.reset.dev with start := { State.reset.dev.start with run := .halted } } : Dev).setObj (K.WITHY_STATE 0) 3 }

/-- Refutes O6: a Halted tile still deletes SLACK columns from a forwarding FIFO of more than three columns, and counts each in
`WITHYh_SLACK_DELETED`, which is an object. -/
theorem not_haltedIsLeftOnlyByResetOrPower : ¬ Obligations.HaltedIsLeftOnlyByResetOrPower := by
  intro hkeeps
  obtain ⟨u, hexec, -, hdict, -⟩ := hkeeps (.slackColumnReceived 0 0 4) haltedForwarder rfl rfl
    (fun _ _ h => nomatch h) (fun _ h => nomatch h)
  let d := haltedForwarder.dev.begin 0
  have heffect : d.whenForwarding (fun d => d.slackRx 0 4) =
      (d.setPort 1 (fun q => { q with fifo := 4 })).bumpWrap (K.WITHY_SLACK_DELETED 0) :=
    (Dev.whenForwarding_halted _ rfl rfl).trans (Dev.slackRx_deletes rfl rfl (by decide))
  have hnext : u = after 0 haltedForwarder (d.whenForwarding (fun d => d.slackRx 0 4)) :=
    (Host.Outcome.next.inj ((act_eq 0 _ haltedForwarder).symm.trans hexec)).symm
  have hcounts : u.dev.obj (K.WITHY_SLACK_DELETED 0) = 1 := by
    rw [hnext, heffect, after_dead 0 rfl]
    rfl
  have hbefore : haltedForwarder.dev.obj (K.WITHY_SLACK_DELETED 0) = 0 := rfl
  have hsame : u.dev.obj (K.WITHY_SLACK_DELETED 0) = haltedForwarder.dev.obj (K.WITHY_SLACK_DELETED 0) := by
    have hpers : u.dev.pers = haltedForwarder.dev.pers := by
      rw [hnext]
      rfl
    unfold Dev.obj
    rw [hdict, hpers]
  exact absurd (hbefore.symm.trans (hsame.symm.trans hcounts)) (by decide)

/-! ### No power, and reset (R545, R557, R559) -/

namespace Dev

/-- The device has no power or is held in reset. -/
def Powerless (d : Dev) : Prop := d.start.run = .off ∨ d.start.run = .inReset

/-- `e` differs from `d` in the levels of request pins that were noted, in its column drivers where it has power, and in free
values and outputs. -/
def Lifeless (d e : Dev) : Prop :=
  ∃ z l n o, e = { d with start := z, ldl := l, free := n, out := o } ∧ z.run = d.start.run ∧
    (d.start.run = .off → l = d.ldl)

theorem lifeless_of_eq {d e : Dev} (h : e = d) : Lifeless d e := ⟨d.start, d.ldl, d.free, d.out, h, rfl, fun _ => rfl⟩

/-! Nothing that needs power and a rising RST_N runs. -/

section
variable {d : Dev} (hno : Powerless d)
include hno

theorem Powerless.baseRun : d.baseRun = .off ∨ d.baseRun = .inReset := by
  unfold Dev.baseRun
  rcases hno with h | h <;> simp [h]

theorem Powerless.portsRun : d.portsRun = false := by
  unfold Dev.portsRun
  rcases hno.baseRun with h | h <;> simp [h]

theorem Powerless.pliukRuns : d.pliukRuns = false := by
  unfold Dev.pliukRuns
  rcases hno.baseRun with h | h <;> simp [h]

theorem Powerless.alive : d.alive = false := by
  unfold Dev.alive
  rcases hno with h | h <;> simp [h]

theorem Powerless.notHalted : (d.start.run == .halted) = false := by rcases hno with h | h <;> simp [h]

theorem Powerless.stepNow : d.stepNow = none := by
  unfold Dev.stepNow
  rcases hno with h | h <;> simp [h]

theorem Powerless.controlRuns : d.controlRuns = false := by simp [Dev.controlRuns, hno.pliukRuns]

theorem Powerless.carrierOpen (c : Carrier) : d.carrierOpen c = false := by simp [Dev.carrierOpen, hno.pliukRuns]

theorem Powerless.spiRuns : d.spiRuns = false := by
  unfold Dev.spiRuns
  rcases hno.baseRun with h | h <;> simp [hno.pliukRuns, h]

end

/-! What a command does is gated by what runs. -/

section
variable {d : Dev} (hno : Powerless d)
include hno

theorem whenPorts_powerless (f : Dev → Dev) : d.whenPorts f = d := whenPorts_shut f hno.portsRun
theorem whenControl_powerless (f : Dev → Dev) : d.whenControl f = d := whenControl_shut f hno.controlRuns
theorem whenFirmware_powerless (f : Dev → Dev) : d.whenFirmware f = d := whenFirmware_shut f hno.pliukRuns
theorem whenForwarding_powerless (f : Dev → Dev) : d.whenForwarding f = d := by
  simp [whenForwarding, hno.portsRun, hno.notHalted]
theorem wire_powerless (h : PortId) (p : Packet) (f : Dev → Dev) : d.wire h p f = d := by
  simp [wire, hno.portsRun, hno.notHalted]
theorem receiveAs_powerless (op set clear : Nat) (c : Carrier) (m : Msg) : d.receiveAs op set clear c m = d := by
  simp [receiveAs, hno.carrierOpen]
theorem relayRx_powerless (src : Carrier) (uid : Nat) (m : Msg) : d.relayRx src uid m = d := by
  simp [relayRx, hno.carrierOpen]
theorem bySession_powerless (sid k : Nat) (f : Writer → Dev → Nat × Dev) : d.bySession sid k f = d := by
  simp [bySession, hno.controlRuns]
theorem rowWrite_powerless (sid k v : Nat) : d.rowWrite sid k v = d := bySession_powerless hno sid k _
theorem rowChunk_powerless (sid k : Nat) (b : Chunk) (rb : Bool) : d.rowChunk sid k b rb = d :=
  bySession_powerless hno sid k _
theorem rowOverlay_powerless (sid cmd : Nat) (body : Bytes) : d.rowOverlay sid cmd body = d :=
  rowChunk_powerless hno sid _ _ _
theorem rowClearSafe_powerless (sid v stalled : Nat) (ok : Bool) : d.rowClearSafe sid v stalled ok = d := by
  simp only [rowClearSafe, bySession_powerless hno]
theorem rowWriteAt_powerless (count n sid k v : Nat) : d.rowWriteAt count n sid k v = d := by
  simp [rowWriteAt, rowWrite_powerless hno, bySession_powerless hno]
theorem rowChunkAt_powerless (count n sid k : Nat) (b : Chunk) : d.rowChunkAt count n sid k b = d := by
  simp [rowChunkAt, rowChunk_powerless hno, bySession_powerless hno]
theorem spiWrite_powerless (m : Msg) : d.spiWrite m = d := by simp [spiWrite, hno.spiRuns]
theorem spiRead_powerless : d.spiRead = d := by simp [spiRead, hno.spiRuns]
theorem spiStatus_powerless : d.spiStatus = d := by simp [spiStatus, hno.spiRuns]
theorem stepComplete_powerless (r : StepResult) : d.stepComplete r = d := by simp [stepComplete, hno.stepNow]
theorem modeCommitTimeout_powerless : d.modeCommitTimeout = d := by simp [modeCommitTimeout, hno.stepNow]
theorem standbyEnter_powerless : d.standbyEnter = d := by
  unfold standbyEnter
  rcases hno with h | h <;> simp [h]
theorem offReady_powerless : d.offReady = d := by
  unfold Dev.offReady
  rcases hno with h | h <;> simp [h]

/-- The link of the management port is seen where the ports run or in Standby. -/
theorem mgmtLink_powerless (up : Bool) :
    d.onSender (fun d => if d.portsRun || d.baseRun == .standby then d.setObj K.MGMT_LINK (b2n up) else d) = d := by
  unfold onSender
  rcases hno.baseRun with h | h <;> simp [hno.portsRun, h]

/-! The request pins are noted, and no more. -/

theorem standbyRequest_powerless : Lifeless d d.standbyRequest := by
  rw [standbyRequest_noted (by rcases hno with h | h <;> simp [h])]
  exact ⟨_, d.ldl, d.free, d.out, rfl, rfl, fun _ => rfl⟩

theorem standbyExitRequest_powerless : Lifeless d d.standbyExitRequest := by
  rw [standbyExitRequest_noted (by rcases hno with h | h <;> simp [h])]
  exact ⟨_, d.ldl, d.free, d.out, rfl, rfl, fun _ => rfl⟩

theorem offRequest_powerless : Lifeless d d.offRequest := by
  have hnoted : d.offRequest = d.offAsked := by
    unfold offRequest
    rcases hno with h | h <;> simp only [setStart_start, h] <;> rfl
  exact ⟨_, d.ldl, d.free, d.out, hnoted, rfl, fun _ => rfl⟩

end

/-! The column drivers of a tile keep their supply in reset (log entry 107). -/

/-- `e` differs from `d` in its column drivers, free values and outputs. -/
def DriversOnly (d e : Dev) : Prop := ∃ l n o, e = { d with ldl := l, free := n, out := o }

section
variable (s p : Nat) (d : Dev)

theorem driversOnly_onDriver (f : Driver → Driver) : DriversOnly d (d.onDriver s p f) := by
  unfold onDriver
  split
  · exact ⟨_, d.free, d.out, rfl⟩
  · exact ⟨d.ldl, d.free, d.out, rfl⟩

theorem driversOnly_ldlReach (k : LdlPkt) (f : Driver → Driver) (onward : LdlPkt) :
    DriversOnly d (d.ldlReach s p k f onward) := by
  unfold ldlReach
  split
  · obtain ⟨l, n, o, he⟩ := driversOnly_onDriver s p d (Driver.take k f)
    rw [he]
    exact ⟨_, _, _, rfl⟩
  · exact ⟨d.ldl, d.free, d.out, rfl⟩

theorem driversOnly_readFlags (k : LdlPkt) : DriversOnly d (d.readFlags s p k) := by
  unfold readFlags
  dsimp only
  split
  · exact driversOnly_ldlReach s p d k _ _
  · exact driversOnly_ldlReach s p d k _ _

theorem driversOnly_readIdent (k : LdlPkt) : DriversOnly d (d.readIdent s p k) := by
  unfold readIdent
  dsimp only
  split
  · exact driversOnly_ldlReach s p d k _ _
  · exact driversOnly_ldlReach s p d k _ _

/-- The STATUS word draws a free value before the packet passes. -/
theorem driversOnly_readStatus (k : LdlPkt) : DriversOnly d (d.readStatus s p k) := by
  unfold readStatus
  dsimp only
  split
  · obtain ⟨l, n, o, he⟩ := driversOnly_ldlReach s p (d.drawFree 1).2 k
      (fun v => { v with darkSeen := 0, crcErrors := 0 }) (diagAnswer k ((d.driver s p).statusWords (d.drawFree 1).1))
    exact ⟨l, n, o, he⟩
  · exact driversOnly_ldlReach s p d k _ _

theorem driversOnly_powerOn : DriversOnly d (d.driverPowerOn s p) := ⟨_, d.free, d.out, rfl⟩

end

/-- With the tile off a driver's command finds no driver that has power. -/
theorem whenDriver_lifeless {d : Dev} {f : Dev → Dev} (h : DriversOnly d (f d)) : Lifeless d (d.whenDriver f) := by
  unfold whenDriver
  split
  · next hpower =>
    obtain ⟨l, n, o, he⟩ := h
    exact ⟨d.start, l, n, o, he, rfl, fun hoff => by simp [hoff] at hpower⟩
  · exact lifeless_of_eq rfl

/-- Without power or in reset every command but the three of power and reset leaves the device `Lifeless`: the drivers' commands
reach the drivers, the request pins are noted, and every other command is gated by what runs. -/
theorem exec_powerless (c : Instr) (s : State) (hno : Powerless s.dev) (hrelease : ∀ t x, c ≠ .resetRelease t x)
    (hassert : ∀ t w, c ≠ .resetAssert t w) (hloss : ∀ t, c ≠ .powerLoss t) :
    ∃ t e, exec c s = .next (after t s e) ∧ Lifeless (s.dev.atInstant t) e := by
  have hat (t : Time) : s.dev.begin t = s.dev.atInstant t := begin_dead t s.dev hno.alive
  suffices ∃ t e, exec c s = .next (after t s e) ∧ Lifeless (s.dev.begin t) e by
    obtain ⟨t, e, hexec, he⟩ := this
    exact ⟨t, e, hexec, hat t ▸ he⟩
  have hno (t : Time) : Powerless (s.dev.begin t) := by
    rw [Powerless, begin_start]
    exact hno
  cases c
  case resetRelease t x => exact absurd rfl (hrelease t x)
  case resetAssert t w => exact absurd rfl (hassert t w)
  case powerLoss t => exact absurd rfl (hloss t)
  case standbyRequest t => exact ⟨t, _, rfl, standbyRequest_powerless (hno t)⟩
  case standbyExitRequest t => exact ⟨t, _, rfl, standbyExitRequest_powerless (hno t)⟩
  case offRequest t => exact ⟨t, _, rfl, offRequest_powerless (hno t)⟩
  case readDiagRowFlags t n p k => exact ⟨t, _, rfl, whenDriver_lifeless (driversOnly_readFlags n p _ _)⟩
  case readDiagStatus t n p k => exact ⟨t, _, rfl, whenDriver_lifeless (driversOnly_readStatus n p _ _)⟩
  case readDiagIdent t n p k => exact ⟨t, _, rfl, whenDriver_lifeless (driversOnly_readIdent n p _ _)⟩
  case driverPowerOn t n p => exact ⟨t, _, rfl, whenDriver_lifeless (driversOnly_powerOn n p _)⟩
  case writeRow | setPlan | flip | setRange | blank | unblank | test | readDiagReserved | enumerate | ldlReservedOpcode =>
    exact ⟨_, _, rfl, whenDriver_lifeless (driversOnly_ldlReach _ _ _ _ _ _)⟩
  case gclkMark | bankExchange | litIntervalEnd | testPulse =>
    exact ⟨_, _, rfl, whenDriver_lifeless (driversOnly_onDriver _ _ _ _)⟩
  case spiReservedOperation t op => exact ⟨t, _, rfl, lifeless_of_eq rfl⟩
  case mgmtLinkChange t up => exact ⟨t, _, rfl, lifeless_of_eq (mgmtLink_powerless (hno t) up)⟩
  all_goals
    refine ⟨_, _, rfl, lifeless_of_eq ?_⟩
    simp only [whenPorts_powerless (hno _), whenControl_powerless (hno _), whenFirmware_powerless (hno _),
      whenForwarding_powerless (hno _), wire_powerless (hno _), receiveAs_powerless (hno _), relayRx_powerless (hno _),
      rowWrite_powerless (hno _), rowChunk_powerless (hno _), rowOverlay_powerless (hno _), rowClearSafe_powerless (hno _),
      rowWriteAt_powerless (hno _), rowChunkAt_powerless (hno _), spiWrite_powerless (hno _), spiRead_powerless (hno _),
      spiStatus_powerless (hno _), stepComplete_powerless (hno _), modeCommitTimeout_powerless (hno _),
      standbyEnter_powerless (hno _), offReady_powerless (hno _), ite_self]

end Dev

/-- Settles O7: what a command leaves `Lifeless` follows nothing up, and keeps everything but the noted pins and the drivers. -/
theorem nothingHappensWithoutPowerOrInReset : Obligations.NothingHappensWithoutPowerOrInReset := by
  intro c s hno _ hrelease hassert hloss
  obtain ⟨t, e, hexec, z, l, n, o, he, hrun, hldl⟩ := Dev.exec_powerless c s hno hrelease hassert hloss
  have hrun' : e.start.run = s.dev.start.run := by rw [he, hrun]; rfl
  have hdead : e.alive = false := Dev.Powerless.alive (d := e) (by rwa [Dev.Powerless, hrun'])
  have hfix : e.fix = s.dev.fix := by rw [he]; rfl
  have hafter : (after t s e).dev = { e with events := [] } :=
    (after_dead t hdead).trans (Dev.protect_same s.dev.fix hfix)
  refine ⟨after t s e, hexec, ?_⟩
  rw [hafter]
  refine ⟨hrun', ?_⟩
  rw [he]
  exact ⟨rfl, rfl, rfl, rfl, rfl, rfl, rfl, rfl, rfl, rfl, hldl⟩

end Sys2Proof.Machine

/-!
PROOFS. The check units (16_check_units.md): claims (R481, R482), algorithms, initial values and feeds (R477 to R479), and
states (R480).
-/
namespace Sys2Proof.Machine
open Sys2Proof.Safety

namespace Dev

/-! ### Claims (R481) -/

section
variable {d : Dev} {sid n : Nat}

theorem cuClaim_free (hfree : d.cuHeldBy n = none) : d.cuClaim sid n 1 = (Status.OK, d.setCuHolder n (some sid)) := by
  simp [cuClaim, hfree]

theorem cuClaim_idle (hfree : d.cuHeldBy n = none) : d.cuClaim sid n 0 = (Status.OK, d) := by simp [cuClaim, hfree]

theorem cuClaim_again (hmine : d.cuHeldBy n = some sid) : d.cuClaim sid n 1 = (Status.OK, d) := by
  simp [cuClaim, hmine]

theorem cuClaim_release (hmine : d.cuHeldBy n = some sid) : d.cuClaim sid n 0 = (Status.OK, d.setCuHolder n none) := by
  simp [cuClaim, hmine]

theorem cuClaim_foreign {y : Nat} (v : Nat) (hheld : d.cuHeldBy n = some y) (hother : y ≠ sid) :
    d.cuClaim sid n v = (Status.LOCKED, d) := by
  simp [cuClaim, hheld, hother]

theorem cuWrite_claim (v : Nat) : d.cuWrite sid n 1 v = d.cuClaim sid n v := if_pos rfl

/-! ### The other writes, of the holder and of others (R477 to R482) -/

theorem cuWrite_foreign {sub : Nat} (v : Nat) (hsub : sub ≠ 1) (hnot : d.cuHeldBy n ≠ some sid) :
    d.cuWrite sid n sub v = (Status.LOCKED, d) := by
  simp [cuWrite, cuMine, hsub, hnot]

section
variable (v : Nat) (hmine : d.cuHeldBy n = some sid)
include hmine

theorem cuWrite_algorithm : d.cuWrite sid n 2 v = (Status.OK, d.cuSelect n v) := by simp [cuWrite, cuMine, hmine]
theorem cuWrite_init : d.cuWrite sid n 3 v = (Status.OK, d.cuInit n) := by simp [cuWrite, cuMine, hmine]
theorem cuWrite_feed8 : d.cuWrite sid n 4 v = (Status.OK, d.cuFeed n 1 v) := by simp [cuWrite, cuMine, hmine]
theorem cuWrite_feed16 : d.cuWrite sid n 5 v = (Status.OK, d.cuFeed n 2 v) := by simp [cuWrite, cuMine, hmine]
theorem cuWrite_feed32 : d.cuWrite sid n 6 v = (Status.OK, d.cuFeed n 4 v) := by simp [cuWrite, cuMine, hmine]
theorem cuWrite_feed64 : d.cuWrite sid n 7 v = (Status.OK, d.cuFeed n 8 v) := by simp [cuWrite, cuMine, hmine]

theorem cuWrite_state_fits (hfits : v < 2 ^ (d.cuAlg n).width) :
    d.cuWrite sid n 8 v = (Status.OK, d.setObj (K.CU_STATE n) v) := by
  simp [cuWrite, cuMine, hmine, cuFits, hfits]

theorem cuWrite_state_wide (hwide : 2 ^ (d.cuAlg n).width ≤ v) : d.cuWrite sid n 8 v = (Status.RANGE, d) := by
  simp [cuWrite, cuMine, hmine, cuFits, Nat.not_lt.mpr hwide]

end

theorem cuSelect_eq (n v : Nat) (d : Dev) :
    d.cuSelect n v = (d.setObj (K.CU_ALGORITHM n) v).setObj (K.CU_STATE n) (crcAlg v).init := by
  simp [cuSelect, cuInit, cuAlg]

/-- A row write of a check unit that is allowed is what its action does. -/
theorem rowWriteAt_cu {k v sub : Nat} {x : Session} (hn : n < 4) (hopen : ScalarOpen d sid k v x)
    (haction : d.action false x.id k v = some (d.cuWrite x.id n sub v)) :
    d.rowWriteAt 4 n sid k v = entryDone sid k (d.cuWrite x.id n sub v) := by
  rw [rowWriteAt, if_pos hn, rowWrite_action hopen haction]

end

end Dev

/-! ### Feeds (R477) -/

/-- A feed is the bytes one at a time. -/
theorem crcFeed_eq_foldl (a : CrcAlg) (r : Nat) (bytes : Bytes) : crcFeed a r bytes = bytes.foldl (fun r b => crcByte a r b) r := by
  induction bytes generalizing r with
  | nil => rfl
  | cons b bytes ih => exact ih _

/-- The bytes of a value, most significant first. -/
theorem be_eq_map (w v : Nat) : be w v = (List.range w).map (fun i => BitVec.ofNat 8 (v / 2 ^ (8 * (w - 1 - i)))) := by
  induction w with
  | zero => rfl
  | succ w ih =>
    rw [be, ih, List.range_succ_eq_map, List.map_cons, List.map_map, Nat.shiftRight_eq_div_pow]
    congr 1
    refine List.map_congr_left fun i _ => ?_
    rw [Function.comp, show w + 1 - 1 - i.succ = w - 1 - i by omega]

/-- A feed of `w` bytes runs the algorithm in force over the bytes of the value, from the register. -/
theorem Dev.cuFeed_eq (n w v : Nat) (d : Dev) :
    d.cuFeed n w v = d.setObj (K.CU_STATE n)
      ((be w v).foldl (fun r b => crcByte (crcAlg (d.obj (K.CU_ALGORITHM n))) r b) (d.obj (K.CU_STATE n))) := by
  rw [Dev.cuFeed, crcFeed_eq_foldl]
  rfl

/-- Settles O48: each write is the action of its subindex, which goes by the holder of the engine. -/
theorem checkUnitsFeedAndHold : Obligations.CheckUnitsFeedAndHold := by
  intro s t sid n v x d hn alg reg held hold fin' feed
  have hexec (i : Instr) {k sub st : Nat} {e : Dev} (hrow : exec i s = act t (fun e => e.rowWriteAt 4 n sid k v) s)
      (hopen : ScalarOpen d sid k v x) (haction : d.action false x.id k v = some (d.cuWrite x.id n sub v))
      (hwrite : d.cuWrite x.id n sub v = (st, e)) : exec i s = .next (fin' k st e) := by
    rw [hrow, act_eq, Dev.rowWriteAt_cu hn hopen haction, hwrite, Dev.entryDone]
  refine ⟨fun hopen => ?claim, ?foreign, fun hmine => ⟨fun hopen => ?algorithm, fun hopen => ?init, fun hopen => ?feed8,
    fun hopen => ?feed16, fun hopen => ?feed32, fun hopen => ?feed64, fun hopen => ?state⟩⟩
  case claim =>
    have hclaim {st : Nat} {e : Dev} (h : d.cuClaim x.id n v = (st, e)) :
        exec (.cuClaim t sid n v) s = .next (fin' (K.CU_CLAIM n) st e) :=
      hexec (.cuClaim t sid n v) rfl hopen (Dev.action_cuClaim d false x.id v n hn)
        ((Dev.cuWrite_claim v).trans h)
    refine ⟨?_, ?_, ?_, ?_, fun y hheld hother => hclaim (Dev.cuClaim_foreign v hheld hother)⟩
    · rintro hfree rfl
      exact hclaim (Dev.cuClaim_free hfree)
    · rintro hfree rfl
      exact hclaim (Dev.cuClaim_idle hfree)
    · rintro hmine rfl
      exact hclaim (Dev.cuClaim_again hmine)
    · rintro hmine rfl
      exact hclaim (Dev.cuClaim_release hmine)
  case foreign =>
    intro i hi hopen hnot
    have hlocked {sub : Nat} (hsub : sub ≠ 1) := Dev.cuWrite_foreign (d := d) (sid := x.id) (n := n) v hsub hnot
    simp only [List.mem_cons, List.not_mem_nil, or_false] at hi
    rcases hi with rfl | rfl | rfl | rfl | rfl | rfl | rfl
    · exact hexec (.cuAlgorithm t sid n v) rfl hopen (Dev.action_cuAlgorithm d false x.id v n hn) (hlocked (by decide))
    · exact hexec (.cuInit t sid n v) rfl hopen (Dev.action_cuInit d false x.id v n hn) (hlocked (by decide))
    · exact hexec (.cuFeed8 t sid n v) rfl hopen (Dev.action_cuFeed8 d false x.id v n hn) (hlocked (by decide))
    · exact hexec (.cuFeed16 t sid n v) rfl hopen (Dev.action_cuFeed16 d false x.id v n hn) (hlocked (by decide))
    · exact hexec (.cuFeed32 t sid n v) rfl hopen (Dev.action_cuFeed32 d false x.id v n hn) (hlocked (by decide))
    · exact hexec (.cuFeed64 t sid n v) rfl hopen (Dev.action_cuFeed64 d false x.id v n hn) (hlocked (by decide))
    · exact hexec (.cuState t sid n v) rfl hopen (Dev.action_cuState d false x.id v n hn) (hlocked (by decide))
  case algorithm =>
    exact hexec (.cuAlgorithm t sid n v) rfl hopen (Dev.action_cuAlgorithm d false x.id v n hn)
      ((Dev.cuWrite_algorithm v hmine).trans (by rw [Dev.cuSelect_eq]))
  case init =>
    exact hexec (.cuInit t sid n v) rfl hopen (Dev.action_cuInit d false x.id v n hn) (Dev.cuWrite_init v hmine)
  case feed8 =>
    exact hexec (.cuFeed8 t sid n v) rfl hopen (Dev.action_cuFeed8 d false x.id v n hn)
      ((Dev.cuWrite_feed8 v hmine).trans (by rw [Dev.cuFeed_eq]; rfl))
  case feed16 =>
    refine hexec (.cuFeed16 t sid n v) rfl hopen (Dev.action_cuFeed16 d false x.id v n hn)
      ((Dev.cuWrite_feed16 v hmine).trans ?_)
    rw [Dev.cuFeed_eq, be_eq_map]
    simp [feed, reg, alg, List.range_succ]
  case feed32 =>
    refine hexec (.cuFeed32 t sid n v) rfl hopen (Dev.action_cuFeed32 d false x.id v n hn)
      ((Dev.cuWrite_feed32 v hmine).trans ?_)
    rw [Dev.cuFeed_eq, be_eq_map]
    rfl
  case feed64 =>
    refine hexec (.cuFeed64 t sid n v) rfl hopen (Dev.action_cuFeed64 d false x.id v n hn)
      ((Dev.cuWrite_feed64 v hmine).trans ?_)
    rw [Dev.cuFeed_eq, be_eq_map]
    rfl
  case state =>
    refine ⟨fun hfits => ?_, fun hwide => ?_⟩
    · exact hexec (.cuState t sid n v) rfl hopen (Dev.action_cuState d false x.id v n hn) (Dev.cuWrite_state_fits v hmine hfits)
    · exact hexec (.cuState t sid n v) rfl hopen (Dev.action_cuState d false x.id v n hn) (Dev.cuWrite_state_wide v hmine hwide)

end Sys2Proof.Machine

/-!
PROOFS. Pairs of senders (14_hoops.md): the partner's claim (R426 to R428, R438), take-over (R433 to R435), joining alone
(R437, R439) and the confirmed state (R440).
-/
namespace Sys2Proof.Machine
open Sys2Proof.Safety

namespace Dev

/-! ### What a fault and a kept object leave alone -/

section
variable {k : Nat} (cls key subject v : Nat) (d : Dev)

/-- A fault counts in `FLOG_OVERWRITTEN` alone of the objects. -/
theorem logFault_obj (severity detail : Nat) (hk : k ≠ K.FLOG_OVERWRITTEN) :
    (d.logFault cls severity key subject detail).obj k = d.obj k := by
  unfold logFault
  dsimp only
  split
  · exact setObj_obj_other _ d hk
  · rfl

theorem fault_obj (hk : k ≠ K.FLOG_OVERWRITTEN) : (d.fault cls key subject).obj k = d.obj k :=
  logFault_obj cls key subject d 2 _ hk

theorem markDirty_frame : ∃ f, d.markDirty key = { d with flash := f } := by
  unfold markDirty
  split
  · exact ⟨_, rfl⟩
  · exact ⟨d.flash, rfl⟩

theorem keepObj_obj_other (hk : k ≠ key) : (d.keepObj key v).obj k = d.obj k := by
  obtain ⟨f, hf⟩ := markDirty_frame key (d.setObj key v)
  rw [keepObj, hf]
  exact setObj_obj_other v d hk

theorem keepObj_now : (d.keepObj key v).now = d.now := by
  obtain ⟨f, hf⟩ := markDirty_frame key (d.setObj key v)
  rw [keepObj, hf]
  rfl

theorem bootObj_setObj_other (hk : k ≠ key) : (d.setObj key v).bootObj k = d.bootObj k := by
  simp only [bootObj, setObj_pliuk, setObj_obj_other v d hk]

end

/-! ### The partner's claim (R427, R428, R435, R437, R438) -/

/-- The claim and generation of the partner are noted, its silence ends, and a clash of ranks is logged once. -/
def noteClaim (x : Flp) (d : Dev) : Dev :=
  let e := (d.setObj K.PAIR_PARTNER_CLAIM x.claim).setObj K.PAIR_GEN_SEEN (max (d.obj K.PAIR_GEN_SEEN) (claimGen x.claim))
  let clash := claimRank x.claim == d.bootObj K.PAIR_RANK && !d.pair.clashLogged
  let e := e.setPair (fun q => { q with quietSince := d.now, clashLogged := q.clashLogged || clash })
  if clash then e.fault 14 K.PAIR_RANK 0 else e

section
variable (x : Flp) (d : Dev)

theorem noteClaim_obj {k : Nat} (hlog : k ≠ K.FLOG_OVERWRITTEN) (hclaim : k ≠ K.PAIR_PARTNER_CLAIM)
    (hgen : k ≠ K.PAIR_GEN_SEEN) : (d.noteClaim x).obj k = d.obj k := by
  have hset (v w : Nat) : ((d.setObj K.PAIR_PARTNER_CLAIM v).setObj K.PAIR_GEN_SEEN w).obj k = d.obj k :=
    (setObj_obj_other w _ hgen).trans (setObj_obj_other v d hclaim)
  unfold noteClaim
  dsimp only
  split
  · exact (fault_obj _ _ _ _ hlog).trans (hset _ _)
  · exact hset _ _

theorem noteClaim_partner : (d.noteClaim x).obj K.PAIR_PARTNER_CLAIM = x.claim := by
  have hset (v : Nat) : ((d.setObj K.PAIR_PARTNER_CLAIM x.claim).setObj K.PAIR_GEN_SEEN v).obj K.PAIR_PARTNER_CLAIM = x.claim :=
    (setObj_obj_other v _ (by decide)).trans (setObj_obj_same _ _ d)
  unfold noteClaim
  dsimp only
  split
  · exact (fault_obj _ _ _ _ (by decide)).trans (hset _)
  · exact hset _

theorem noteClaim_role : (d.noteClaim x).role = d.role := noteClaim_obj x d (by decide) (by decide) (by decide)

end

section
variable {x : Flp} {d : Dev}

theorem readPartnerFlp_eq : d.readPartnerFlp x =
    (let e := d.noteClaim x
     if e.role = 1 ∨ e.role = 5 then
       let f := (e.setObj K.PAIR_ROLE 5).rejoin x.claim
       if f.pair.settled then f.setPair (fun q => { q with adopt := some x }) else f
     else e.compareRole) := by
  have hrank (v w : Nat) :
      ((d.setObj K.PAIR_PARTNER_CLAIM v).setObj K.PAIR_GEN_SEEN w).bootObj K.PAIR_RANK = d.bootObj K.PAIR_RANK :=
    (bootObj_setObj_other _ _ _ (by decide)).trans (bootObj_setObj_other _ _ _ (by decide))
  unfold readPartnerFlp noteClaim
  dsimp only
  rw [hrank]
  rfl

/-- In Starting or Rejoining the sender rejoins, and adopts what the FLP says once its own claim is settled. -/
theorem readPartnerFlp_joining (hrole : d.role = 1 ∨ d.role = 5) : d.readPartnerFlp x =
    (let f := ((d.noteClaim x).setObj K.PAIR_ROLE 5).rejoin x.claim
     if f.pair.settled then f.setPair (fun q => { q with adopt := some x }) else f) := by
  rw [readPartnerFlp_eq]
  exact if_pos (by rwa [noteClaim_role])

/-- Elsewhere the two claims decide. -/
theorem readPartnerFlp_serving (hstarted : d.role ≠ 1) (hjoined : d.role ≠ 5) : d.readPartnerFlp x =
    (let e := d.noteClaim x
     if x.claim < e.claim then e.setObj K.PAIR_ROLE 2 else if e.claim < x.claim then e.setObj K.PAIR_ROLE 3 else e) := by
  rw [readPartnerFlp_eq]
  refine (if_neg (by rw [noteClaim_role]; omega)).trans ?_
  simp only [compareRole, noteClaim_role, hjoined, noteClaim_partner, if_false]

theorem partnerFlpRx_valid {h : PortId} {p : Packet} (hup : d.portUp h = true) (hpass : pktPasses p = true)
    (hvalid : (d.countRx h p).validFlp p.body = some x) : d.partnerFlpRx h p = (d.countRx h p).readPartnerFlp x := by
  simp [partnerFlpRx, hup, hpass, hvalid]

end

/-- A packet that passes leaves every object as it was. -/
theorem countRx_obj {p : Packet} (h : PortId) (k : Nat) (d : Dev) (hpass : pktPasses p = true) :
    (d.countRx h p).obj k = d.obj k := by
  rw [countRx_passes h d hpass]
  rfl

/-! ### Take-over (R433 to R435), joining alone (R437, R439) -/

section
variable {d : Dev}

theorem claimBelow_of (hbelow : d.claim < d.obj K.PAIR_PARTNER_CLAIM) : d.claimBelow = true := decide_eq_true hbelow

theorem takeOver_eq (cause : Nat) : d.takeOver cause =
    (let e := d.keepObj K.PAIR_GENERATION (min (d.obj K.PAIR_GEN_SEEN + 1) 0xFFFFFF)
     let e := e.setObj K.PAIR_GEN_SEEN (max (e.obj K.PAIR_GEN_SEEN) (min (d.obj K.PAIR_GEN_SEEN + 1) 0xFFFFFF))
     let e := ((e.bump K.PAIR_FAILOVERS).setObj K.PAIR_LAST_CAUSE cause).setObj K.PAIR_LAST_FAILOVER d.wall
     (e.fault 1 K.PAIR_FAILOVERS 0).compareRole) := by
  have hwall : (d.keepObj K.PAIR_GENERATION (min (d.obj K.PAIR_GEN_SEEN + 1) 0xFFFFFF)).wall = d.wall :=
    congrArg (· % 2 ^ 48) (keepObj_now _ _ d)
  rw [← hwall]
  rfl

section
variable (hsender : d.isSender = true) (hstarted : d.role ≠ 1) (hauto : d.obj K.PAIR_AUTO_TAKEOVER = 1)
  (hbelow : d.claim < d.obj K.PAIR_PARTNER_CLAIM)
include hsender hstarted hauto hbelow

/-- Cause 1: every closed port is silent, and there is one. -/
theorem partnerSilent_all (hclosed : ∃ h, h < 4 ∧ d.obj (K.ENUM_CLOSED h) = 1)
    (hsilent : ∀ h, h < 4 → d.obj (K.ENUM_CLOSED h) = 1 → d.pathSilent h = true) : d.partnerSilent = d.takeOver 1 := by
  obtain ⟨h, hlt, hc⟩ := hclosed
  have hmem : h ∈ (List.range 4).filter (fun h => d.obj (K.ENUM_CLOSED h) == 1) := by simp [hlt, hc]
  have hsome : ((List.range 4).filter (fun h => d.obj (K.ENUM_CLOSED h) == 1)).isEmpty = false :=
    List.isEmpty_eq_false_iff.mpr (List.ne_nil_of_mem hmem)
  have hall : ((List.range 4).filter (fun h => d.obj (K.ENUM_CLOSED h) == 1)).all (fun h => d.pathSilent h) = true := by
    refine List.all_eq_true.mpr fun h hh => ?_
    obtain ⟨hlt, hc⟩ := List.mem_filter.mp hh
    exact hsilent h (List.mem_range.mp hlt) (beq_iff_eq.mp hc)
  simp [partnerSilent, hsender, hstarted, hauto, claimBelow_of hbelow, hsome, hall, -List.all_filter,
    -List.isEmpty_eq_false_iff, -List.isEmpty_iff]

/-- Cause 2: the partner has run free for 1 s. -/
theorem partnerFreerun_long {u : Time} (hsince : d.time.partnerFreerunSince = some u) (hlong : u + 10 ^ 9 ≤ d.now)
    (htimed : d.tstate = tsLocked ∨ d.tstate = tsHoldover) : d.partnerFreerun = d.takeOver 2 := by
  have hlong' : u + 1000000000 ≤ d.now := hlong
  simp [partnerFreerun, hsender, hstarted, hauto, claimBelow_of hbelow, hsince, hlong', htimed]

end

theorem takeoverCommand_below (hstarted : d.role ≠ 1) (hbelow : d.claim < d.obj K.PAIR_PARTNER_CLAIM) :
    d.takeoverCommand = d.takeOver 3 := if_pos ⟨hstarted, claimBelow_of hbelow⟩

theorem takeoverCommand_without_effect (hnot : d.role = 1 ∨ d.obj K.PAIR_PARTNER_CLAIM ≤ d.claim) :
    d.takeoverCommand = d := by
  refine if_neg fun ⟨hstarted, hbelow⟩ => ?_
  have hlt : d.claim < d.obj K.PAIR_PARTNER_CLAIM := of_decide_eq_true hbelow
  omega

/-- With no partner's claim for `PAIR_JOIN_WAIT` the sender is Alone, with a generation of at least 1. -/
theorem joinWaitEnd_late (hsender : d.isSender = true) (hrole : d.role = 1 ∨ d.role = 3)
    (hlate : d.pair.quietSince + d.obj K.PAIR_JOIN_WAIT * 1000000 ≤ d.now) : d.joinWaitEnd =
      (let e := if d.obj K.PAIR_GENERATION = 0 then
           (d.keepObj K.PAIR_GENERATION 1).setObj K.PAIR_GEN_SEEN (max (d.obj K.PAIR_GEN_SEEN) 1) else d
       ((e.setObj K.PAIR_ROLE 4).setObj K.PAIR_PARTNER_CLAIM 0).setPair (fun q => { q with
         sending := d.obj K.INTEG_STATE == 1 })) := by
  have hseen : (d.keepObj K.PAIR_GENERATION 1).obj K.PAIR_GEN_SEEN = d.obj K.PAIR_GEN_SEEN :=
    keepObj_obj_other _ _ d (by decide)
  unfold joinWaitEnd
  rw [if_pos ⟨hsender, hrole, hlate⟩]
  by_cases hgen : d.obj K.PAIR_GENERATION = 0
  · have hkept : (d.setGeneration 1).obj K.INTEG_STATE = d.obj K.INTEG_STATE :=
      (setObj_obj_other _ _ (by decide)).trans (keepObj_obj_other _ _ d (by decide))
    simp only [hgen, if_true, mayServe, hkept]
    rw [setGeneration, hseen]
  · simp only [hgen, if_false]
    rfl

end

end Dev

/-- Settles O46: an FLP of the partner is noted and the role follows the claims, the three causes lead to one take-over, and a
sender that hears no partner is Alone. -/
theorem senderPairsSettleTheirRoles : Obligations.SenderPairsSettleTheirRoles := by
  intro s t d takeOver
  have hnow : d.now = t := Dev.begin_now t s.dev
  have htakeOver (cause : Nat) : d.takeOver cause = takeOver cause := Dev.takeOver_eq cause
  refine ⟨fun ⟨hports, hsender⟩ => ⟨?flp, ?cause, ?alone⟩, fun sid x v => ⟨?command, ?confirm⟩⟩
  case flp =>
    intro h p x hup hpass hvalid e clash e' e''
    have hexec : exec (.partnerFlpReceived t h p) s = .next (after t s ((d.countRx h p).readPartnerFlp x)) := by
      refine (act_whenPorts _ hports).trans ?_
      rw [Dev.onSender_open _ hsender, Dev.partnerFlpRx_valid hup hpass hvalid]
    have hrole : (d.countRx h p).role = d.role := Dev.countRx_obj h _ d hpass
    have hnoted : (d.countRx h p).noteClaim x = e'' := by
      simp only [e'', e', e, clash, Dev.noteClaim, Dev.countRx_passes h d hpass, ← hnow]
      rfl
    refine ⟨fun hstarted hjoined => ?_, fun hjoining => ?_⟩
    · rw [hexec, Dev.readPartnerFlp_serving (by rwa [hrole]) (by rwa [hrole]), hnoted]
    · rw [hexec, Dev.readPartnerFlp_joining (by rwa [hrole]), hnoted]
  case cause =>
    intro hstarted hauto hbelow
    refine ⟨fun hclosed hsilent => ?_, fun u hsince hlong htimed => ?_⟩
    · refine (act_whenPorts _ hports).trans ?_
      rw [Dev.partnerSilent_all hsender hstarted hauto hbelow hclosed hsilent, htakeOver]
    · refine (act_whenPorts _ hports).trans ?_
      rw [Dev.partnerFreerun_long hsender hstarted hauto hbelow hsince (by rwa [hnow]) htimed, htakeOver]
  case alone =>
    intro hrole hlate
    refine (act_whenPorts _ hports).trans ?_
    rw [Dev.joinWaitEnd_late hsender hrole (by rwa [hnow])]
  case command =>
    intro hopen
    have hexec : exec (.pairTakeover t sid v) s =
        .next (after t s (d.takeoverCommand.emit (.entry sid K.PAIR_TAKEOVER Status.OK))) :=
      (act_eq t _ s).trans (by rw [Dev.rowWrite_action hopen (Dev.action_takeover d false x.id v), Dev.entryDone])
    refine ⟨fun hstarted hbelow => ?_, fun hnot => ?_⟩
    · rw [hexec, Dev.takeoverCommand_below hstarted hbelow, htakeOver]
    · rw [hexec, Dev.takeoverCommand_without_effect hnot]
  case confirm =>
    intro hopen
    refine (act_eq t _ s).trans ?_
    rw [Dev.rowWrite_action hopen (Dev.action_stateConfirm d false x.id v), Dev.entryDone]
    rfl

end Sys2Proof.Machine

/-!
PROOFS. Reset and the start sequence (19_startup.md): RST_N and power (R545, R546, R551), the steps (R499, R500, R548, R549)
and the wait for a mode on a tile.
-/
namespace Sys2Proof.Machine
open Sys2Proof.Safety

namespace Dev

/-! ### RST_N and power (R545, R551, R552) -/

@[simp] theorem stopDriving_now (d : Dev) : d.stopDriving.now = d.now := by
  unfold stopDriving
  dsimp only
  split
  · exact List.foldlRecOn (motive := fun e : Dev => e.now = d.now) _ _ rfl fun _ he _ _ => he
  · rfl

theorem resetAssert_eq (w : Nat) (d : Dev) :
    d.resetAssert w = if 1000 ≤ w ∧ d.start.run ≠ .off then d.stopDriving.goTo .inReset else d := by
  unfold resetAssert
  rw [← ite_not]
  exact if_congr (by rw [not_or, Nat.not_lt]) rfl rfl

theorem resetRelease_starts {d : Dev} (x : Straps) (h : d.start.run = .inReset ∨ d.start.run = .off) :
    d.resetRelease x = (d.setStart (fun z => { z with straps := x })).bootStart := by
  unfold resetRelease
  rcases h with h | h <;> rw [h]

/-! ### What leaves the start sequence alone -/

@[simp] theorem loadSettings_start (d : Dev) : d.loadSettings.start = d.start := by
  unfold loadSettings withSettings
  refine (List.foldlRecOn (motive := fun e : Dev => e.start = d.start) _ _ ?_ fun _ he _ _ => he)
  exact List.foldlRecOn (motive := fun e : Dev => e.start = d.start) _ _ rfl fun _ he _ _ => he

@[simp] theorem writeBoot_start (f : BootRec → BootRec) (d : Dev) : (d.writeBoot f).start = d.start := by
  unfold writeBoot
  split <;> rfl

@[simp] theorem putBoot_start (r : Option BootRec) (d : Dev) : (d.putBoot r).start = d.start := by
  unfold putBoot
  split
  · rfl
  · split
    · rfl
    · exact writeBoot_start _ d

@[simp] theorem bootUpdate_start (slot : Nat) (r : BootRec) (d : Dev) : (d.bootUpdate slot r).start = d.start := by
  unfold bootUpdate
  dsimp only
  split <;> rfl

theorem stepReported_fix (r : StepResult) (d : Dev) : (d.stepReported r).fix = d.fix :=
  List.foldlRecOn (motive := fun e : Dev => e.fix = d.fix) _ _ rfl fun _ he _ _ => he

theorem stepReported_straps (r : StepResult) (d : Dev) : (d.stepReported r).start.straps = d.start.straps := by
  rw [stepReported, journalErrors_start]
  rfl

theorem stepTo_ofStep {d : Dev} {k : Nat} (n : Nat) (h : d.start.run = .step k) : d.stepTo n = d.goTo (.step n) := by
  rw [stepTo, h]

theorem stepNow_ofStep {d : Dev} {n : Nat} (h : d.start.run = .step n) : d.stepNow = some n := by rw [stepNow, h]

/-! ### The steps of a start (R548) -/

section
variable {d : Dev} {r : StepResult} (hnormal : d.obj K.INTEG_STATE = 1)
include hnormal

/-- A step that ends acts on the device with what the step reports. -/
theorem stepComplete_ofStep {n : Nat} (hrun : d.start.run = .step n) : d.stepComplete r =
    (let e := d.stepReported r
     match n with
     | 1 => if e.fix.fuses.complementsAgree then e.stepTo 2 else e.halt
     | 2 => if r.ok then e.stepTo 3 else e.halt
     | 3 =>
       if !r.ok then e.goTo .startFailed
       else if e.flogRestore.start.straps.recovery then e.flogRestore.enterRecovery else e.flogRestore.stepTo 4
     | 4 => if e.bootLoad.1 then ((e.bootLoad.2.stepTo 5).firmwareStart).requestVolts 750 else e.bootLoad.2.enterRecovery
     | 5 =>
       if (e.dramTrain r.training).1 then (e.dramTrain r.training).2.migrationCheck.senseStart.stepTo 6
       else (e.dramTrain r.training).2.goTo .startFailed
     | 6 => (e.loadEqTable.startPorts).stepTo 7
     | 8 => if e.isSender then e.step9Begin.reviewPlan else e
     | 9 => if e.step9Over then e.arm else e
     | _ => e) := by
  have hstep : d.stepNow = some n := stepNow_ofStep hrun
  have hrun' : (d.stepReported r).start.run = .step n := (stepReported_run r d).trans hrun
  have hstep' : (d.stepReported r).stepNow = some n := stepNow_ofStep hrun'
  unfold stepReported at hrun' hstep' ⊢
  simp only [stepComplete, hnormal, hstep, hstep', hrun', ne_eq, not_true_eq_false, Option.isNone_some, Bool.false_eq_true,
    or_self, if_false]
  match n with
  | 0 | 1 | 2 | 3 | 4 | 5 | 6 | 7 | 8 | 9 | _ + 10 => rfl

theorem stepComplete_fusesAgree (hrun : d.start.run = .step 1) (hagree : d.fix.fuses.complementsAgree = true) :
    d.stepComplete r = (d.stepReported r).goTo (.step 2) := by
  rw [stepComplete_ofStep hnormal hrun, ← stepTo_ofStep 2 ((stepReported_run r d).trans hrun)]
  exact if_pos (by rw [stepReported_fix, hagree])

theorem stepComplete_fusesDiffer (hrun : d.start.run = .step 1) (hdiffer : d.fix.fuses.complementsAgree = false) :
    d.stepComplete r = (d.stepReported r).halt := by
  rw [stepComplete_ofStep hnormal hrun]
  exact if_neg (by rw [stepReported_fix, hdiffer]; decide)

theorem stepComplete_testPasses (hrun : d.start.run = .step 2) (hok : r.ok = true) :
    d.stepComplete r = (d.stepReported r).goTo (.step 3) := by
  rw [stepComplete_ofStep hnormal hrun, ← stepTo_ofStep 3 ((stepReported_run r d).trans hrun)]
  exact if_pos hok

theorem stepComplete_testFails (hrun : d.start.run = .step 2) (hno : r.ok = false) :
    d.stepComplete r = (d.stepReported r).halt := by
  rw [stepComplete_ofStep hnormal hrun]
  exact if_neg (ne_true_of_eq_false hno)

theorem stepComplete_noClock (hrun : d.start.run = .step 3) (hno : r.ok = false) :
    d.stepComplete r = (d.stepReported r).goTo .startFailed := by
  rw [stepComplete_ofStep hnormal hrun]
  exact if_pos (by rw [hno]; rfl)

section
variable (hrun : d.start.run = .step 3) (hok : r.ok = true)
include hrun hok

theorem stepComplete_recoveryStrap (hstrap : d.start.straps.recovery = true) :
    d.stepComplete r = (d.stepReported r).flogRestore.enterRecovery := by
  have hstrap' : (d.stepReported r).flogRestore.start.straps.recovery = true :=
    (congrArg Straps.recovery (stepReported_straps r d)).trans hstrap
  rw [stepComplete_ofStep hnormal hrun]
  simp only [hok, hstrap', Bool.not_true, Bool.false_eq_true, if_false, if_true]

theorem stepComplete_clock (hstrap : d.start.straps.recovery = false) :
    d.stepComplete r = (d.stepReported r).flogRestore.goTo (.step 4) := by
  have hstrap' : (d.stepReported r).flogRestore.start.straps.recovery = false :=
    (congrArg Straps.recovery (stepReported_straps r d)).trans hstrap
  have hrun' : (d.stepReported r).flogRestore.start.run = .step 3 := (stepReported_run r d).trans hrun
  rw [stepComplete_ofStep hnormal hrun, ← stepTo_ofStep 4 hrun']
  simp only [hok, hstrap', Bool.not_true, Bool.false_eq_true, if_false]

end

section
variable (hrun : d.start.run = .step 4)
include hrun

theorem stepComplete_noSlot (hnone : (d.stepReported r).bootChoice.1 = none) :
    d.stepComplete r = ((d.stepReported r).putBoot (d.stepReported r).bootChoice.2).enterRecovery := by
  rw [stepComplete_ofStep hnormal hrun]
  simp only [bootLoad, hnone, Bool.false_eq_true, if_false]

theorem stepComplete_slot {slot : Nat} (hslot : (d.stepReported r).bootChoice.1 = some slot) : d.stepComplete r =
    (let f := (((d.stepReported r).putBoot (d.stepReported r).bootChoice.2).setUpd (fun u =>
       { u with running := slot })).loadSettings
     let f := ((f.setObj K.ACTIVE_SLOT slot).showVersions slot).bootUpdate slot f.bootNow
     ((f.goTo (.step 5)).firmwareStart).requestVolts 750) := by
  have hloaded (e : Dev) (b : BootRec) (he : e.start.run = .step 4) :
      (((e.setObj K.ACTIVE_SLOT slot).showVersions slot).bootUpdate slot b).start.run = .step 4 := by
    rw [bootUpdate_start]
    exact he
  have hrun' : (((d.stepReported r).putBoot (d.stepReported r).bootChoice.2).setUpd (fun u =>
      { u with running := slot })).loadSettings.start.run = .step 4 := by
    rw [loadSettings_start, setUpd_start, putBoot_start, stepReported_run, hrun]
  dsimp only
  rw [stepComplete_ofStep hnormal hrun, ← stepTo_ofStep 5 (hloaded _ _ hrun')]
  simp only [bootLoad, hslot, if_true]

end

theorem stepComplete_trained (hrun : d.start.run = .step 5) (hok : ((d.stepReported r).dramTrain r.training).1 = true) :
    d.stepComplete r = ((d.stepReported r).dramTrain r.training).2.migrationCheck.senseStart.stepTo 6 := by
  rw [stepComplete_ofStep hnormal hrun]
  exact if_pos hok

theorem stepComplete_untrained (hrun : d.start.run = .step 5) (hno : ((d.stepReported r).dramTrain r.training).1 = false) :
    d.stepComplete r = ((d.stepReported r).dramTrain r.training).2.goTo .startFailed := by
  rw [stepComplete_ofStep hnormal hrun]
  exact if_neg (ne_true_of_eq_false hno)

theorem stepComplete_senderMode (hsender : d.isSender = true) (hrun : d.start.run = .step 8) :
    d.stepComplete r = (d.stepReported r).step9Begin.reviewPlan := by
  rw [stepComplete_ofStep hnormal hrun]
  exact if_pos (by rw [stepReported_isSender, hsender])

theorem stepComplete_partsEnded (hover : (d.stepReported r).step9Over = true) (hrun : d.start.run = .step 9) :
    d.stepComplete r = (d.stepReported r).arm := by
  rw [stepComplete_ofStep hnormal hrun]
  exact if_pos hover

end

theorem modeCommitTimeout_due {d : Dev} (htile : d.isTile = true) (hrun : d.start.run = .step 8)
    (hlate : d.start.stepAt + 1000000000 ≤ d.now) (hnormal : d.obj K.INTEG_STATE = 1) :
    d.modeCommitTimeout = d.step9Begin := if_pos ⟨htile, stepNow_ofStep hrun, hlate, hnormal⟩

end Dev

/-- Settles O53: RST_N and power put the device where they say, and each step that ends takes the branch that what it reports
decides. -/
theorem startsGoStepByStep : Obligations.StartsGoStepByStep := by
  intro s t d dark
  have hnow : d.now = t := Dev.begin_now t s.dev
  have hstart : d.start = s.dev.start := Dev.begin_start t s.dev
  have hdark : d.stopDriving = dark := rfl
  have hstop (run : Run) : d.stopDriving.goTo run = dark.setStart (fun z => { z with run := run, stepAt := t }) := by
    rw [Dev.goTo, Dev.stopDriving_now, hnow, hdark]
  refine ⟨fun x hoff => ⟨fun htest => ?test, fun hstraps => ?release⟩, fun w => ?assert, ?loss,
    fun hnormal r => ?steps, fun htile hrun hlate hnormal => ?mode⟩
  case test =>
    have hstrapped : testStrapped x s.dev = true := by
      rcases hoff with h | h <;> simp [testStrapped, htest, h]
    rw [exec_resetRelease, if_pos hstrapped]
  case release =>
    have hstrapped : testStrapped x s.dev = false := by simp [testStrapped, hstraps]
    rw [exec_resetRelease, if_neg (ne_true_of_eq_false hstrapped), act_eq]
    rw [Dev.resetRelease_starts x (by rwa [Dev.begin_start])]
  case assert =>
    refine (act_eq t _ s).trans ?_
    rw [Dev.resetAssert_eq, hstop]
  case loss =>
    refine (act_eq t (fun d => d.stopDriving.goTo .off) s).trans ?_
    rw [hstop]
  case steps =>
    intro e
    have hexec {f : Dev} (h : d.stepComplete r = f) : exec (.startStepComplete t r) s = .next (after t s f) :=
      (act_eq t _ s).trans (by rw [h])
    refine ⟨fun hrun => ⟨fun hagree => ?_, fun hdiffer => ?_⟩, fun hrun => ⟨fun hok => ?_, fun hno => ?_⟩,
      fun hrun => ⟨fun hno => ?_, fun hok hstrap => ?_, fun hok hstrap => ?_⟩, fun hrun => ⟨fun hnone => ?_, fun slot hslot => ?_⟩,
      fun hrun => ⟨fun hok => ?_, fun hno => ?_⟩, fun hrun => ?_, fun hrun hsender => ?_, fun hrun hover => ?_⟩
    · exact hexec (Dev.stepComplete_fusesAgree hnormal hrun hagree)
    · exact hexec (Dev.stepComplete_fusesDiffer hnormal hrun hdiffer)
    · exact hexec (Dev.stepComplete_testPasses hnormal hrun hok)
    · exact hexec (Dev.stepComplete_testFails hnormal hrun hno)
    · exact hexec (Dev.stepComplete_noClock hnormal hrun hno)
    · exact hexec (Dev.stepComplete_recoveryStrap hnormal hrun hok hstrap)
    · exact hexec (Dev.stepComplete_clock hnormal hrun hok hstrap)
    · exact hexec (Dev.stepComplete_noSlot hnormal hrun hnone)
    · exact hexec (Dev.stepComplete_slot hnormal hrun hslot)
    · exact hexec (Dev.stepComplete_trained hnormal hrun hok)
    · exact hexec (Dev.stepComplete_untrained hnormal hrun hno)
    · exact hexec (Dev.stepComplete_ofStep hnormal hrun)
    · exact hexec (Dev.stepComplete_senderMode hnormal hsender hrun)
    · exact hexec (Dev.stepComplete_partsEnded hnormal hover hrun)
  case mode =>
    refine (act_eq t _ s).trans ?_
    rw [Dev.modeCommitTimeout_due htile hrun (by rwa [hnow]) hnormal]

end Sys2Proof.Machine

/-!
PROOFS. Firmware update (17_update.md): download and verification (R492 to R496, R500, R511), activation (R501 to R506, R515,
R516), trial, confirmation and fallback (R510 to R512).
-/
namespace Sys2Proof.Machine
open Sys2Proof.Safety

namespace Dev

/-! ### The boot record, and the settings it leaves alone (R498) -/

/-- The boot record is in flash. -/
theorem writeBoot_frame (f : BootRec → BootRec) (d : Dev) : ∃ b, d.writeBoot f = { d with flash := b } := by
  unfold writeBoot
  split
  · exact ⟨d.flash, rfl⟩
  · exact ⟨_, rfl⟩

theorem writeBoot_now (f : BootRec → BootRec) (d : Dev) : (d.writeBoot f).now = d.now := by
  obtain ⟨b, hb⟩ := writeBoot_frame f d
  rw [hb]

/-! ### Download (R492 to R496) -/

section
variable {d : Dev} {sid : Nat} {b : Chunk} {x : Session}

/-- An allowed chunk of an image goes to the update, whose checks are its own. -/
theorem rowChunk_updImage (hw : Writes d sid K.UPD_IMAGE x) (hrole : d.entryRefused (writerOf x false) K.UPD_IMAGE = none)
    (hdef : ∃ o, findDef d.pers K.UPD_IMAGE = some o ∧ o.ty = .blob) (hsize : chunkSized b = true)
    (hdevice : d.deviceRefuses K.UPD_IMAGE = false) :
    d.rowChunk sid K.UPD_IMAGE b true = entryDone sid K.UPD_IMAGE (d.updChunk x.id b) := by
  obtain ⟨o, ho, hblob⟩ := hdef
  rw [rowChunk, bySession_open _ hw]
  simp only [writeChunk, hrole, ho, hblob, hsize, hdevice, ne_eq, not_true_eq_false, Bool.not_true, Bool.false_eq_true,
    if_false, if_true]
  rfl

section
variable (hfirst : b.offset = 0) (hstate : d.updState = 1 ∨ d.updState = 4 ∨ d.updState = 8) (hlen : b.data.length = 512)
  (hmore : b.more = decide (512 < b.total))
include hfirst hstate hlen hmore

/-- A first chunk whose header passes marks the spare slot Empty, and its bytes are taken. -/
theorem updChunk_first (hpass : d.headerFail b.data b.total = none) : d.updChunk x.id b =
    (Status.OK, ((d.writeBoot (BootRec.setMark d.spareSlot 0)).setUpd (fun u => { u with image := [] })).updTake x.id b) := by
  have hnot2 : ¬ (d.updState = 2 ∧ d.update.session ≠ x.id) := by omega
  have hopen : ¬ (d.updState ≠ 1 ∧ d.updState ≠ 4 ∧ d.updState ≠ 8) := by omega
  have hgood : ¬ (b.data.length ≠ 512 ∨ b.more ≠ decide (512 < b.total)) := by simp [hlen, hmore]
  simp only [updChunk, updFirst, hfirst, hnot2, hopen, hgood, hpass, if_true, if_false]

/-- A header that fails is answered with its status, and its reason is kept. -/
theorem updChunk_badHeader {reason st : Nat} (hfail : d.headerFail b.data b.total = some (reason, st)) :
    d.updChunk x.id b = (st, d.setObj K.UPD_LAST_REASON reason) := by
  have hnot2 : ¬ (d.updState = 2 ∧ d.update.session ≠ x.id) := by omega
  have hopen : ¬ (d.updState ≠ 1 ∧ d.updState ≠ 4 ∧ d.updState ≠ 8) := by omega
  have hgood : ¬ (b.data.length ≠ 512 ∨ b.more ≠ decide (512 < b.total)) := by simp [hlen, hmore]
  simp only [updChunk, updFirst, hfirst, hnot2, hopen, hgood, hfail, updReason, if_true, if_false]

end

section
variable (hnext : b.offset ≠ 0) (hstate : d.updState = 2) (hmine : d.update.session = x.id)
include hnext hstate hmine

theorem updChunk_follows (hfollows : b.offset = d.update.image.length ∧ b.total = d.update.total ∧
      b.more = decide (b.offset + b.data.length < b.total) ∧ b.offset + b.data.length ≤ b.total) :
    d.updChunk x.id b = (Status.OK, d.updTake x.id b) := by
  unfold updChunk
  rw [if_neg hnext, if_pos ⟨hstate, hmine⟩, if_pos hfollows]

theorem updChunk_breaks (hnot : ¬ (b.offset = d.update.image.length ∧ b.total = d.update.total ∧
      b.more = decide (b.offset + b.data.length < b.total) ∧ b.offset + b.data.length ≤ b.total)) :
    d.updChunk x.id b = (Status.LENGTH, d.updDiscard) := by
  unfold updChunk
  rw [if_neg hnext, if_pos ⟨hstate, hmine⟩, if_neg hnot]

end

theorem updChunkLate_due (hstate : d.updState = 2) (hlate : d.update.lastChunk + 60000000000 ≤ d.now) :
    d.updChunkLate = d.updDiscard.updReason 12 := if_pos ⟨hstate, hlate⟩

/-! ### Verification (R496, R500) -/

section
variable (hstate : d.updState = 3)
include hstate

/-- A sound image in a slot that read back: the slot is Verified, or in Recovery Confirmed, and the device restarts. -/
theorem updVerified_sound (hdigests : digestsOk (d.slotBytes d.spareSlot) = true)
    (hsigned : imageSigOk (d.slotBytes d.spareSlot) = true) : d.updVerified true =
      (let e := d.updAlert.setUpd (fun u => { u with image := [], total := 0, session := 0 })
       if d.recovering then
         ((e.writeBoot (fun r => { r.setMark d.spareSlot 2 with active := d.spareSlot, trial := 0 })).setObj K.UPD_STATE 8).bootStart
       else (e.writeBoot (BootRec.setMark d.spareSlot 1)).setObj K.UPD_STATE 4) := by
  have hnot3 : ¬ d.updState ≠ 3 := not_not_intro hstate
  simp only [updVerified, hnot3, hdigests, hsigned, Bool.not_true, Bool.false_eq_true, ne_eq, not_true_eq_false, if_false]
  rfl

/-- An image that fails its verification is discarded, with the reason of the first check that fails, and a log entry. -/
theorem updVerified_unsound {ok : Bool} (hfail : ok = false ∨ digestsOk (d.slotBytes d.spareSlot) = false ∨
      imageSigOk (d.slotBytes d.spareSlot) = false) : d.updVerified ok =
      ((d.updAlert.updDiscard.updReason
        (if ok = false then 11 else if digestsOk (d.slotBytes d.spareSlot) = false then 9 else 10)).fault 16
          K.UPD_LAST_REASON 0) := by
  have hnot3 : ¬ d.updState ≠ 3 := not_not_intro hstate
  simp only [updVerified, hnot3, if_false]
  cases ok with
  | false => rfl
  | true =>
    cases hdigests : digestsOk (d.slotBytes d.spareSlot) with
    | false => rfl
    | true =>
      have hsigned : imageSigOk (d.slotBytes d.spareSlot) = false := by simpa [hdigests] using hfail
      simp only [hsigned]
      rfl

end

/-! ### Abort (R511, R512) -/

theorem updAbort_confirmed (hstate : d.updState = 4) (hmark : d.slotMark d.spareSlot = 2) :
    d.updAbort = (d.setObj K.UPD_STATE 1).setObj K.UPD_LAST_REASON 13 := if_pos ⟨hstate, hmark⟩

theorem updAbort_discards
    (hstate : d.updState = 2 ∨ d.updState = 3 ∨ (d.updState = 4 ∧ d.slotMark d.spareSlot ≠ 2)) :
    d.updAbort = ((if d.slotMark d.spareSlot = 0 then d
      else d.writeBoot (BootRec.setMark d.spareSlot 0)).updDiscard).updReason 13 := by
  have hnot : ¬ (d.updState = 4 ∧ d.slotMark d.spareSlot = 2) := by omega
  have hheld : d.updState = 2 ∨ d.updState = 3 ∨ d.updState = 4 := by omega
  unfold updAbort
  dsimp only
  rw [if_neg hnot, if_pos hheld]

theorem updAbort_abandons (hstate : d.updState = 5 ∨ (d.updState = 6 ∧ d.update.previous = none)) :
    d.updAbort = d.updAbandon 13 := by
  have hnot : ¬ (d.updState = 4 ∧ d.slotMark d.spareSlot = 2) := by omega
  have hpast : ¬ (d.updState = 2 ∨ d.updState = 3 ∨ d.updState = 4) := by omega
  unfold updAbort
  dsimp only
  rw [if_neg hnot, if_neg hpast, if_pos (by simpa using hstate)]

theorem updAbort_fallsBack (hstate : (d.updState = 6 ∧ d.update.previous ≠ none) ∨ d.updState = 7) :
    d.updAbort = d.setUpd (fun u => { u with abort := true }) := by
  have hnot : ¬ (d.updState = 4 ∧ d.slotMark d.spareSlot = 2) := by omega
  have hpast : ¬ (d.updState = 2 ∨ d.updState = 3 ∨ d.updState = 4) := by omega
  have hchanged : ¬ (d.updState = 5 ∨ (d.updState = 6 ∧ d.update.previous.isNone = true)) := by
    rcases hstate with ⟨h, hprev⟩ | h <;> simp [*]
  have htrial : d.updState = 6 ∨ d.updState = 7 := by omega
  unfold updAbort
  dsimp only
  rw [if_neg hnot, if_neg hpast, if_neg hchanged, if_pos htrial]

end

end Dev

/-- Settles O49: a chunk is the first, follows or breaks off; a verification passes or gives the reason of the first check that
fails; an abort goes by the update state. -/
theorem updatesAreDownloadedAndVerified : Obligations.UpdatesAreDownloadedAndVerified := by
  intro s t d
  have hnow : d.now = t := Dev.begin_now t s.dev
  refine ⟨fun sid x b hw hrole hdef hsize hdevice => ?chunk, fun hruns hstate => ?verify, fun hruns hstate hlate => ?late,
    fun sid x v hopen => ?abort⟩
  case chunk =>
    intro fin' take
    have hexec {st : Nat} {e : Dev} (h : d.updChunk x.id b = (st, e)) : exec (.updImage t sid b) s = .next (fin' st e) :=
      (act_eq t _ s).trans (by rw [Dev.rowChunk_updImage hw hrole hdef hsize hdevice, h, Dev.entryDone])
    have htake {e : Dev} (he : e.now = d.now) : e.updTake x.id b = take e := by
      rw [Dev.updTake, he, hnow]
    refine ⟨fun hfirst hstate hlen hmore => ⟨fun hpass => ?_, fun reason st hfail => ?_⟩, fun hnext hstate hmine => ?_⟩
    · refine hexec ((Dev.updChunk_first hfirst hstate hlen hmore hpass).trans ?_)
      exact congrArg (Prod.mk Status.OK) (htake (Dev.writeBoot_now _ d))
    · exact hexec (Dev.updChunk_badHeader hfirst hstate hlen hmore hfail)
    · intro follows
      refine ⟨fun hfollows => hexec ((Dev.updChunk_follows hnext hstate hmine hfollows).trans (by rw [htake rfl])),
        fun hnot => hexec (Dev.updChunk_breaks hnext hstate hmine hnot)⟩
  case verify =>
    intro img clear
    have hexec (ok : Bool) {e : Dev} (h : d.updVerified ok = e) : exec (.updVerifyDone t ok) s = .next (after t s e) :=
      (act_whenControl _ hruns).trans (by rw [h])
    refine ⟨fun hdigests hsigned => ⟨fun hrest => ?_, fun hrec => ?_⟩, fun ok hfail => ?_⟩
    · exact hexec true ((Dev.updVerified_sound hstate hdigests hsigned).trans (if_neg (ne_true_of_eq_false hrest)))
    · exact hexec true ((Dev.updVerified_sound hstate hdigests hsigned).trans (if_pos hrec))
    · exact hexec ok (Dev.updVerified_unsound hstate hfail)
  case late =>
    refine (act_whenControl _ hruns).trans ?_
    rw [Dev.updChunkLate_due hstate (by rwa [hnow])]
    rfl
  case abort =>
    intro ok
    have hexec {e : Dev} (h : d.updAbort = e) : exec (.updAbort t sid v) s = .next (ok e) :=
      (act_eq t _ s).trans
        (by rw [Dev.rowWrite_action hopen (Dev.action_updAbort d false x.id v), Dev.entryDone, h])
    exact ⟨fun hstate hmark => hexec (Dev.updAbort_confirmed hstate hmark),
      fun hstate => hexec (Dev.updAbort_discards hstate), fun hstate => hexec (Dev.updAbort_abandons hstate),
      fun hstate => hexec (Dev.updAbort_fallsBack hstate)⟩

namespace Dev

/-! ### Activation (R501 to R504) -/

section
variable {d : Dev} {v : Nat}

theorem updActivate_notReady (hsize : v < 2 ^ 48) (hnot : d.updReady = false) : d.updActivate v = (Status.BUSY, d) := by
  unfold updActivate
  rw [if_neg (Nat.not_le.mpr hsize), if_pos (by rw [hnot]; rfl)]

section
variable (hsize : v < 2 ^ 48) (hready : d.updReady = true)
include hsize hready

theorem updActivate_wallWideNow (hnow : v = 0) (hwide : d.slotWallWide d.spareSlot = true) :
    d.updActivate v = (Status.RANGE, d) := by
  have hready' : ¬ (!d.updReady) = true := by simp [hready]
  unfold updActivate
  rw [if_neg (Nat.not_le.mpr hsize), if_neg hready', if_pos ⟨hnow, hwide⟩]

theorem updActivate_prepares (hw : (v = 0 ∧ d.slotWallWide d.spareSlot = false) ∨
      (v ≠ 0 ∧ 1000000000 ≤ wallDiff v d.wall ∧ wallDiff v d.wall ≤ 3600000000000)) : d.updActivate v =
    (Status.OK, (d.setObj K.UPD_STATE 5).setUpd (fun u => { u with
      slot := d.spareSlot, w := if v = 0 then 0 else wallToAbs d.now v, migrated := none, handed := false })) := by
  have hready' : ¬ (!d.updReady) = true := by simp [hready]
  have hnotWide : ¬ (v = 0 ∧ d.slotWallWide d.spareSlot = true) := by
    rcases hw with ⟨_, hwide⟩ | ⟨hne, _⟩
    · simp [hwide]
    · simp [hne]
  have hlate : ¬ (v ≠ 0 ∧ wallDiff v d.wall < 1000000000) := by omega
  have hfar : ¬ (v ≠ 0 ∧ 3600000000000 < wallDiff v d.wall) := by omega
  unfold updActivate
  dsimp only
  rw [if_neg (Nat.not_le.mpr hsize), if_neg hready', if_neg hnotWide, if_neg hlate, if_neg hfar]

end

/-! ### The change of image (R503 to R506, R515, R516) -/

/-- The change at `fa` with the settings of that instant, migrated; one that does not migrate is abandoned. -/
def changeNow (fa : Time) (d : Dev) : Dev :=
  let e := d.handOver
  if e.update.handed then e.contextChange fa else e

theorem changeNow_abandons {reason : Nat} (fa : Time) (h : d.migrationFault d.passedSettings = some reason) :
    d.changeNow fa = d.updAbandon reason := by
  unfold changeNow handOver
  rw [h]
  rfl

theorem changeNow_changes (fa : Time) (h : d.migrationFault d.passedSettings = none) :
    d.changeNow fa = (d.setUpd (fun u => { u with
      handed := true, migrated := some (d.migrate d.passedSettings) })).contextChange fa := by
  unfold changeNow handOver
  rw [h]
  rfl

theorem handOver_now (d : Dev) : d.handOver.now = d.now := by
  unfold handOver
  split <;> rfl

/-- What was prepared is logged, stands in the new region, and is armed for its target. -/
def armed (d : Dev) : Dev :=
  let e := (d.logMigration d.oldSettings).setRegion d.update.slot { newest := some (d.migrate d.oldSettings), older := none }
  let w := if e.update.w ≠ 0 then e.update.w else if e.mode = 0 then e.now else e.applyBoundary
  (e.setObj K.UPD_STATE 6).setUpd (fun u => { u with w := w, migrated := some (d.migrate d.oldSettings) })

section
variable (hstate : d.updState = 5) (hflash : d.flashOpen = true)
include hstate hflash

theorem updPrepared_late (hlate : d.update.w ≠ 0 ∧
      (if d.mode = 0 then d.update.w ≤ d.now else d.updTarget ≤ d.now + latchLead)) : d.updPrepared = d.updAbandon 18 := by
  have hopen : ¬ (d.updState ≠ 5 ∨ (!d.flashOpen) = true) := by simp [hstate, hflash]
  unfold updPrepared
  rw [if_neg hopen]
  exact if_pos hlate

section
variable (hlate : ¬ (d.update.w ≠ 0 ∧
    (if d.mode = 0 then d.update.w ≤ d.now else d.updTarget ≤ d.now + latchLead)))
include hlate

theorem updPrepared_fails {reason : Nat} (hfault : d.migrationFault d.oldSettings = some reason) :
    d.updPrepared = (d.setRegion d.update.slot { newest := none, older := none }).updAbandon reason := by
  have hopen : ¬ (d.updState ≠ 5 ∨ (!d.flashOpen) = true) := by simp [hstate, hflash]
  unfold updPrepared
  rw [if_neg hopen]
  refine (if_neg hlate).trans ?_
  simp only [hfault]

theorem updPrepared_arms (hfault : d.migrationFault d.oldSettings = none) : d.updPrepared =
    (let e := (d.logMigration d.oldSettings).setRegion d.update.slot
       { newest := some (d.migrate d.oldSettings), older := none }
     if e.update.w = 0 ∧ d.armed.mode = 0 then d.armed.changeNow d.armed.now else d.armed) := by
  have hopen : ¬ (d.updState ≠ 5 ∨ (!d.flashOpen) = true) := by simp [hstate, hflash]
  rw [← handOver_now d.armed]
  unfold updPrepared
  rw [if_neg hopen]
  refine (if_neg hlate).trans ?_
  simp only [hfault]
  rfl

end
end

section
variable (hmode : d.mode = 0) (hw : d.update.w ≠ 0) (hdue : d.update.w ≤ d.now) (hflash : d.flashOpen = true)
include hmode hw hdue hflash

theorem updInstant_unprepared (hstate : d.updState = 5) : d.updInstant = d.updAbandon 18 := by
  have hopen : ¬ (d.mode ≠ 0 ∨ d.update.w = 0 ∨ d.now < d.update.w ∨ (!d.flashOpen) = true) := by
    simp [hmode, hw, hdue, hflash]
  unfold updInstant
  rw [if_neg hopen, if_pos hstate]

theorem updInstant_changes (hstate : d.updState = 6) (hfirst : d.update.previous = none) :
    d.updInstant = d.changeNow d.now := by
  have hopen : ¬ (d.mode ≠ 0 ∨ d.update.w = 0 ∨ d.now < d.update.w ∨ (!d.flashOpen) = true) := by
    simp [hmode, hw, hdue, hflash]
  rw [← handOver_now d]
  unfold updInstant
  rw [if_neg hopen, if_neg (by omega), if_pos ⟨hstate, by rw [hfirst]; rfl⟩]
  rfl

end

/-! ### Trial (R506, R510, R511) -/

theorem updTrialEntry_enters (hstate : d.updState = 6) (hchanged : d.update.previous ≠ none) (hflash : d.flashOpen = true) :
    d.updTrialEntry =
      (d.trialWrite.setObj K.UPD_STATE 7).setObj K.UPD_TRIAL_END d.trialWrite.bootNow.trialEnd := by
  have hstate' : d.obj K.UPD_STATE = 6 := hstate
  have hbetween : d.betweenImages = true := by simp [betweenImages, hstate', Option.isSome_iff_ne_none, hchanged]
  exact if_pos ⟨hbetween, hflash⟩

theorem updConfirm_trial (hstate : d.updState = 7) : d.updConfirm =
    (Status.OK,
      (((d.writeBoot (fun r => { r.setMark d.update.running 2 with
          trial := 0, secMin := max r.secMin (imgSecurity (d.slotBytes d.update.running)) })).setUpd (fun u =>
        { u with previous := none, w := 0, migrated := none, abort := false, startedLate := false })).setObj
          K.UPD_STATE 1).setObj K.UPD_TRIAL_END 0) := if_neg (not_not_intro hstate)

theorem updConfirm_busy (hstate : d.updState ≠ 7) : d.updConfirm = (Status.BUSY, d) := if_pos hstate

theorem updTrialExpiry_over (hstate : d.updState = 7) (hflash : d.flashOpen = true) (hover : d.trialOver = true)
    (hdue : d.mode = 0 ∨ isBoundary d.mode d.now = true) : d.updTrialExpiry = d.fallback 16 :=
  if_pos ⟨hstate, hflash, hover, hdue⟩

end

end Dev

/-- Settles O50: an activation prepares, arms and changes by its target and by whether its settings migrate, and the trial ends
by a confirmation or by its time. -/
theorem updatesAreActivatedAndTried : Obligations.UpdatesAreActivatedAndTried := by
  intro s t d changed
  have hnow : d.now = t := Dev.begin_now t s.dev
  have hchange (e : Dev) (fa : Time) : e.changeNow fa = changed e fa := by
    dsimp only [changed]
    split
    · exact Dev.changeNow_abandons fa ‹_›
    · exact Dev.changeNow_changes fa ‹_›
  refine ⟨fun sid x v hopen hsize => ?activate, fun hruns => ⟨fun hstate hflash => ?prepare, fun hmode hw hdue hflash => ?instant,
    fun hstate hchanged hflash => ?entry, fun hstate hflash hover hdue => ?expiry⟩, fun sid x v hopen => ?confirm⟩
  case activate =>
    intro fin'
    have hexec {st : Nat} {e : Dev} (h : d.updActivate v = (st, e)) : exec (.updActivate t sid v) s = .next (fin' st e) :=
      (act_eq t _ s).trans
        (by rw [Dev.rowWrite_action hopen (Dev.action_updActivate d false x.id v), Dev.entryDone, h])
    refine ⟨fun hready => ⟨fun hzero hwide => ?_, fun hw => ?_⟩, fun hnot => ?_⟩
    · exact hexec (Dev.updActivate_wallWideNow hsize hready hzero hwide)
    · exact hexec ((Dev.updActivate_prepares hsize hready hw).trans (by rw [hnow]))
    · exact hexec (Dev.updActivate_notReady hsize hnot)
  case prepare =>
    intro late old
    have hexec {e : Dev} (h : d.updPrepared = e) : exec (.updPreparationDone t) s = .next (after t s e) :=
      (act_whenControl _ hruns).trans (by rw [h])
    have hlate : late ↔ d.update.w ≠ 0 ∧
        (if d.mode = 0 then d.update.w ≤ d.now else d.updTarget ≤ d.now + Dev.latchLead) := by
      rw [hnow]
    refine ⟨fun h => hexec (Dev.updPrepared_late hstate hflash (hlate.mp h)),
      fun h reason hfault => hexec (Dev.updPrepared_fails hstate hflash (mt hlate.mpr h) hfault), fun h hfault => ?_⟩
    have harms := Dev.updPrepared_arms hstate hflash (mt hlate.mpr h) hfault
    intro e w f
    refine ⟨fun hnowhere => ?_, fun hlater => ?_⟩
    · exact hexec ((harms.trans (if_pos hnowhere)).trans (hchange f f.now))
    · exact hexec (harms.trans (if_neg fun ⟨hzero, hmode⟩ => hlater.elim (· hzero) (· hmode)))
  case instant =>
    have hexec {e : Dev} (h : d.updInstant = e) : exec (.updActivationInstant t) s = .next (after t s e) :=
      (act_whenControl _ hruns).trans (by rw [h])
    have hdue' : d.update.w ≤ d.now := by rwa [hnow]
    refine ⟨fun hstate => hexec (Dev.updInstant_unprepared hmode hw hdue' hflash hstate), fun hstate hfirst => ?_⟩
    refine hexec ((Dev.updInstant_changes hmode hw hdue' hflash hstate hfirst).trans ?_)
    rw [hchange, hnow]
  case entry =>
    refine (act_whenControl _ hruns).trans ?_
    rw [Dev.updTrialEntry_enters hstate hchanged hflash]
  case expiry =>
    refine (act_whenControl _ hruns).trans ?_
    rw [Dev.updTrialExpiry_over hstate hflash hover (by rwa [hnow])]
  case confirm =>
    intro fin'
    have hexec {st : Nat} {e : Dev} (h : d.updConfirm = (st, e)) : exec (.updConfirm t sid v) s = .next (fin' st e) :=
      (act_eq t _ s).trans
        (by rw [Dev.rowWrite_action hopen (Dev.action_updConfirm d false x.id v), Dev.entryDone, h])
    exact ⟨fun hstate => hexec (Dev.updConfirm_trial hstate), fun hstate => hexec (Dev.updConfirm_busy hstate)⟩

end Sys2Proof.Machine

/-!
PROOFS. Integrity (18_integrity.md): the persistent log (R523, R525), stalls (R530 to R532), core voltage (R533, R534), the
configuration scrub (R535).
-/
namespace Sys2Proof.Machine
open Sys2Proof.Safety

namespace Dev

section
variable {d : Dev}

/-! ### The persistent fault log (R523, R525) -/

theorem flogPersist_open (hflash : d.flashOpen = true) :
    d.flogPersist = d.integ.toPersist.foldl (fun e x => e.flogWrite x) (d.setInteg (fun g => { g with toPersist := [] })) :=
  if_pos hflash

theorem flogClear_eq (d : Dev) : d.flogClear =
    (let e := d.setInteg (fun g => { g with log := [], toPersist := [], blocks := [[], []], block := 0 })
     let e := e.logFault 8 1 K.FLOG_COUNT 0 ((d.integ.nextSeq + 2 ^ 32 - 1) % 2 ^ 32)
     (e.integ.log.getLast?).elim e (fun x => e.flogWrite x)) := by
  unfold flogClear
  dsimp only
  split
  · next h => rw [h]; rfl
  · next h => rw [h]; rfl

/-! ### Core voltage (R533, R534) -/

/-- A fault is logged without a word on slow pacing. -/
theorem logFault_slowSince (cls severity key subject detail : Nat) (d : Dev) :
    (d.logFault cls severity key subject detail).integ.slowSince = d.integ.slowSince := by
  unfold logFault
  dsimp only
  split <;> rfl

theorem requestVolts_slowSince (mv : Nat) (d : Dev) : (d.requestVolts mv).integ.slowSince = d.integ.slowSince := by
  unfold requestVolts
  split <;> rfl

theorem requestVolts_avsFails (mv : Nat) (d : Dev) : (d.requestVolts mv).integ.avsFails = d.integ.avsFails := by
  unfold requestVolts
  split <;> rfl

theorem avsOutcome_slowSince (ok : Bool) (d : Dev) : (d.avsOutcome ok).integ.slowSince = d.integ.slowSince := by
  unfold avsOutcome
  dsimp only
  generalize (if ok = true then 0 else d.integ.avsFails + 1) = n
  split
  · exact logFault_slowSince _ _ _ _ _ _
  · rfl

theorem writeVolts_slowSince (mv : Nat) (ok : Bool) (d : Dev) :
    (d.writeVolts mv ok).integ.slowSince = d.integ.slowSince := by
  unfold writeVolts
  split
  · rfl
  · rw [avsOutcome_slowSince, requestVolts_slowSince]

theorem writeVolts_same {mv : Nat} (ok : Bool) (h : d.integ.vreq = mv) : d.writeVolts mv ok = d := if_pos h

theorem writeVolts_other {mv : Nat} (ok : Bool) (h : d.integ.vreq ≠ mv) : d.writeVolts mv ok =
    (let n := if ok then 0 else d.integ.avsFails + 1
     let e := (d.requestVolts mv).setInteg (fun g => { g with avsFails := n })
     if n = 3 then e.bumpFault 15 K.AVS_FAULTS 0 else e) := by
  rw [writeVolts, if_neg h, avsOutcome, requestVolts_avsFails]

/-- A pace below its target, neither slow for good nor close to its deadline, is noted. -/
def paceBelow (rate : Nat) (slack : Int) (d : Dev) : Dev :=
  (d.setObj K.PACE_RATE rate).setInteg (fun g => { g with
    slacks := (d.now, slack) :: g.slacks.filter (fun x => decide (d.now < x.1 + 1000000000)),
    fastSince := none,
    slowSince := none })

/-- A pace below its target raises the voltage request by 5 mV, to at most 800. -/
theorem avsAdjust_below {rate : Nat} {x : AvsStep} (hruns : d.avsRuns = true) (hlow : rate < d.obj K.AVS_RATE_TARGET)
    (hsize : rate < 65536) (hquick : 2000 ≤ rate) (hslack : 10000 ≤ x.slack) :
    d.avsAdjust rate x = (d.paceBelow rate x.slack).writeVolts (min 800 (d.integ.vreq + 5)) x.written := by
  have hmin : min rate 65535 = rate := by omega
  have htarget : (d.setObj K.PACE_RATE rate).obj K.AVS_RATE_TARGET = d.obj K.AVS_RATE_TARGET :=
    setObj_obj_other _ d (by decide)
  have hnotLate : decide (x.slack < 10000) = false := decide_eq_false (Int.not_lt.mpr hslack)
  have hnotFast (b : Prop) : ¬ (d.obj K.AVS_RATE_TARGET * 11 < rate * 10 ∧ b) := by omega
  have hnotSlow (b : Prop) : ¬ (rate < 2000 ∧ b) := by omega
  have hpace : (d.setObj K.PACE_RATE rate).setInteg (fun g => { g with
      slacks := (d.now, x.slack) :: g.slacks.filter (fun x => decide (d.now < x.1 + 1000000000)),
      lastLateWale := g.lastLateWale, fastSince := none, slowSince := none }) = d.paceBelow rate x.slack := rfl
  have hnone (mv : Nat) : ((d.paceBelow rate x.slack).writeVolts mv x.written).integ.slowSince = none := by
    rw [writeVolts_slowSince]
    rfl
  unfold avsAdjust
  simp only [hruns, hmin, htarget, hnotLate, hnotFast, hnotSlow, hlow, setObj_now, Bool.not_true, Bool.false_eq_true,
    if_false, if_true, true_or, hpace, hnone]
  rfl

theorem avsRead_fails (hruns : d.avsRuns = true) :
    d.avsRead none =
      (let e := d.setInteg (fun g => { g with avsFails := g.avsFails + 1 })
       if d.integ.avsFails + 1 = 3 then e.bumpFault 15 K.AVS_FAULTS 0 else e) := by
  unfold avsRead
  rw [if_neg (by simp [hruns])]
  rfl

/-- A reading within 20 mV of the request is reported, and ends a run of failures and of deviations. -/
theorem avsRead_within {mv i : Nat} (hruns : d.avsRuns = true) (hmv : mv < 65536) (hi : i < 65536)
    (hhigh : mv ≤ d.integ.vreq + 20) (hlow : d.integ.vreq ≤ mv + 20) : d.avsRead (some (mv, i)) =
      ((d.setObj K.AVS_VOUT_READ mv).setObj K.AVS_IOUT_READ i).setInteg (fun g => { g with
        avsFails := 0, voltOffSince := none }) := by
  have hmv' : min mv 65535 = mv := by omega
  have hi' : min i 65535 = i := by omega
  have hoff : (decide (20 < (mv : Int) - d.integ.vreq) || decide (20 < (d.integ.vreq : Int) - mv)) = false := by
    simp only [Bool.or_eq_false_iff, decide_eq_false_iff_not]
    omega
  unfold avsRead
  rw [if_neg (by simp [hruns])]
  simp only [hmv', hi', setObj_integ, hoff, Bool.false_eq_true, if_false]
  rfl

/-! ### Configuration scrub (R535) -/

/-- Four passes of the scrub a second are counted. -/
def scrubPass (d : Dev) : Dev :=
  if d.integ.scrubAt + 250000000 ≤ d.now then
    (d.setInteg (fun g => { g with scrubAt := d.now })).bumpWrap K.CSCRUB_PASSES
  else d

theorem configScrub_store {st : Nat} (k : EccKind) (hstore : d.hasStore st = true) : d.configScrub st k =
    match k with
    | .none => d.scrubPass
    | .corrected => d.scrubPass.bump K.CSCRUB_CORRECTED
    | .uncorrectable => d.scrubPass.storeFails st := by
  unfold configScrub
  rw [if_neg (by simp [hstore])]
  cases k <;> rfl

theorem storeFails_first {st : Nat} (h : d.integ.reloading.contains st = false) : d.storeFails st =
    (d.setInteg (fun g => { g with reloading := g.reloading ++ [st] })).bumpFault 4 K.CSCRUB_RELOADS 0 :=
  if_neg (ne_true_of_eq_false h)

theorem storeFails_again {st : Nat} (h : d.integ.reloading.contains st = true) : d.storeFails st = d := if_pos h

theorem reloadDone_runs (st : Nat) (h : d.integ.restart = none) : d.reloadDone st =
    (let e := d.setInteg (fun g => { g with reloading := g.reloading.filter (fun x => x != st) })
     if st = 5 then e.setPrism (fun p => { p with rebuilding := [] }) else e) := if_neg (by simp [h])

end

end Dev

/-- Settles O51: the log is written or cleared, a stall is counted, and each reading of pace, voltage and store takes the branch
its value decides. -/
theorem integrityWatchesLogStallsVoltageAndStores : Obligations.IntegrityWatchesLogStallsVoltageAndStores := by
  intro s t d
  have hnow : d.now = t := Dev.begin_now t s.dev
  refine ⟨fun hruns hflash => ?persist, fun sid x v hopen => ?clear,
    fun hports => ⟨fun stage h dist i => ?stall, fun rate slack written havs hlow hsize hquick hslack => ?pace⟩,
    fun hpliuk hbase => ⟨fun havs => ⟨fun hthird => ?third, fun hfew => ?few, fun mv i hmv hi hhigh hle => ?within⟩,
      fun st hstore => ?scrub, fun st hnone => ?reload⟩⟩
  case persist =>
    refine (act_whenControl _ hruns).trans ?_
    rw [Dev.flogPersist_open hflash]
  case clear =>
    refine (act_eq t _ s).trans ?_
    rw [Dev.rowWrite_action hopen (Dev.action_flogClear d false x.id v), Dev.entryDone, Dev.flogClear_eq]
  case stall =>
    refine (act_whenPorts _ hports).trans ?_
    rw [Dev.stageStall, show (d.bump K.PACE_STALLS).now = t from hnow]
    rfl
  case pace =>
    intro mv e
    have hexec {f : Dev} (h : (d.paceBelow rate slack).writeVolts mv written = f) :
        exec (.avsAdjust t rate ⟨slack, written⟩) s = .next (after t s f) := by
      refine (act_whenPorts _ hports).trans ?_
      rw [Dev.avsAdjust_below havs hlow hsize hquick hslack]
      exact congrArg (fun f => Host.Outcome.next (after t s f)) h
    have hpace : d.paceBelow rate slack = e := by
      simp only [e, Dev.paceBelow, hnow]
    refine ⟨fun hsame => hexec ((Dev.writeVolts_same (d := d.paceBelow rate slack) written hsame).trans hpace), fun hother => hexec ?_⟩
    rw [Dev.writeVolts_other (d := d.paceBelow rate slack) written hother, hpace]
    rfl
  case third =>
    refine (act_whenFirmware _ hpliuk hbase).trans ?_
    rw [Dev.avsRead_fails havs]
    simp [Dev.setInteg, hthird]
  case few =>
    refine (act_whenFirmware _ hpliuk hbase).trans ?_
    rw [Dev.avsRead_fails havs]
    exact congrArg (fun e => Host.Outcome.next (after t s e)) (if_neg (by omega))
  case within =>
    refine (act_whenFirmware _ hpliuk hbase).trans ?_
    rw [Dev.avsRead_within havs hmv hi hhigh hle]
  case scrub =>
    intro e
    have hpass : d.scrubPass = e := by simp only [Dev.scrubPass, hnow, e]
    have hexec (k : EccKind) {f : Dev} (h : d.configScrub st k = f) :
        exec (.configScrub t st k) s = .next (after t s f) :=
      (act_whenFirmware _ hpliuk hbase).trans (by rw [h])
    refine ⟨hexec _ ?_, hexec _ ?_, fun hfirst => hexec _ ?_, fun hagain => hexec _ ?_⟩
    · rw [Dev.configScrub_store _ hstore, hpass]
    · rw [Dev.configScrub_store _ hstore, hpass]
    · rw [Dev.configScrub_store _ hstore, hpass]
      exact Dev.storeFails_first hfirst
    · rw [Dev.configScrub_store _ hstore, hpass]
      exact Dev.storeFails_again hagain
  case reload =>
    refine (act_whenFirmware _ hpliuk hbase).trans ?_
    rw [Dev.reloadDone_runs st hnone]

end Sys2Proof.Machine

/-!
PROOFS. Control restarts (R537, R538), safe states (R541, R542) and one-time storage (R543, R544).
-/
namespace Sys2Proof.Machine
open Sys2Proof.Safety

namespace Dev

section
variable {d : Dev}

/-! ### Control restarts (R537, R538) -/

/-! A fault is logged without a word on control restarts. -/

section
variable (cls severity key subject detail c u word : Nat) (d : Dev)

theorem logFault_restart : (d.logFault cls severity key subject detail).integ.restart = d.integ.restart := by
  unfold logFault
  dsimp only
  split <;> rfl

theorem logFault_lastRestart : (d.logFault cls severity key subject detail).integ.lastRestart = d.integ.lastRestart := by
  unfold logFault
  dsimp only
  split <;> rfl

theorem logFault_now : (d.logFault cls severity key subject detail).now = d.now := by
  unfold logFault
  dsimp only
  split <;> rfl

/-- An uncorrectable error is counted, located and logged; where it lies is of no matter to what a restart keeps. -/
theorem uncorrectable_eq : ∃ loc, d.uncorrectable c u word =
    (((d.bump (K.CH_ECC_UNCORRECTED c)).setObj K.ECC_LAST_UE_LOC loc).setObj K.ECC_LAST_UE_TIME d.wall).fault 7
      (K.CH_ECC_UNCORRECTED c) c := by
  unfold uncorrectable
  generalize dramPlace (d.bootObj K.DRAM_ADDR_ORDER) u = place
  obtain ⟨r, b, x⟩ := place
  exact ⟨_, rfl⟩

theorem uncorrectable_restart : (d.uncorrectable c u word).integ.restart = d.integ.restart := by
  obtain ⟨loc, h⟩ := uncorrectable_eq c u word d
  rw [h]
  exact logFault_restart _ _ _ _ _ _

theorem uncorrectable_lastRestart : (d.uncorrectable c u word).integ.lastRestart = d.integ.lastRestart := by
  obtain ⟨loc, h⟩ := uncorrectable_eq c u word d
  rw [h]
  exact logFault_lastRestart _ _ _ _ _ _

theorem uncorrectable_now : (d.uncorrectable c u word).now = d.now := by
  obtain ⟨loc, h⟩ := uncorrectable_eq c u word d
  rw [h]
  exact logFault_now _ _ _ _ _ _

end

theorem poisonRead_eq (a : PoisonAt) (d : Dev) : d.poisonRead a =
    (let r := d.route a.addr
     if d.holdsAddr a.addr then d.uncorrectable r.1 (r.2 / 64) (r.2 % 64 / 8) else d) := rfl

/-- The device with the poisoned word that a core read, if it read one, counted. -/
def poisonCounted (p : Option PoisonAt) (d : Dev) : Dev :=
  match p with
  | some a => d.poisonRead a
  | none => d

theorem poisonCounted_restart (p : Option PoisonAt) (d : Dev) :
    (d.poisonCounted p).integ.restart = d.integ.restart ∧
      (d.poisonCounted p).integ.lastRestart = d.integ.lastRestart ∧ (d.poisonCounted p).now = d.now := by
  unfold poisonCounted
  split
  · unfold poisonRead
    split
    · exact ⟨uncorrectable_restart _ _ _ d, uncorrectable_lastRestart _ _ _ d, uncorrectable_now _ _ _ d⟩
    · exact ⟨rfl, rfl, rfl⟩
  · exact ⟨rfl, rfl, rfl⟩

/-- The control processors restarted less than 10 s ago, or do so now. -/
def restartedLately (d : Dev) : Bool :=
  d.integ.restart.isSome || (match d.integ.lastRestart with
    | some t => decide (d.now < t + 10000000000)
    | none => false)

theorem diverge_eq (p : Option PoisonAt) (d : Dev) : d.diverge p =
    (let e := d.poisonCounted p
     if e.restartedLately then e.haltControl
     else
       (((e.keepObj K.LOCKSTEP_RESTARTS (satInc 32 (e.obj K.LOCKSTEP_RESTARTS))).fault 6 K.LOCKSTEP_RESTARTS 0).setInteg
         (fun g => { g with restart := some e.now })).closeAll) := by
  have hnow (e : Dev) (v : Nat) : ((e.keepObj K.LOCKSTEP_RESTARTS v).fault 6 K.LOCKSTEP_RESTARTS 0).now = e.now :=
    (logFault_now _ _ _ _ _ _).trans (keepObj_now _ v e)
  unfold diverge poisonCounted
  simp only [hnow]
  rfl

theorem restartedLately_counted (p : Option PoisonAt) (d : Dev) :
    (d.poisonCounted p).restartedLately = d.restartedLately := by
  obtain ⟨hrestart, hlast, hnow⟩ := poisonCounted_restart p d
  unfold restartedLately
  rw [hrestart, hlast, hnow]

theorem restartedLately_no (hnone : d.integ.restart = none)
    (hlong : ∀ u, d.integ.lastRestart = some u → u + 10000000000 ≤ d.now) : d.restartedLately = false := by
  unfold restartedLately
  rw [hnone]
  cases hlast : d.integ.lastRestart with
  | none => rfl
  | some u => simpa using hlong u hlast

theorem restartedLately_yes
    (h : d.integ.restart ≠ none ∨ ∃ u, d.integ.lastRestart = some u ∧ d.now < u + 10000000000) :
    d.restartedLately = true := by
  unfold restartedLately
  rcases h with h | ⟨u, hlast, hlt⟩
  · simp [Option.isSome_iff_ne_none.mpr h]
  · simp [hlast, hlt]

/-- A divergence long after the last restart closes every session and begins a restart. -/
theorem diverge_restarts (p : Option PoisonAt) (hlong : d.restartedLately = false) : d.diverge p =
    (let e := d.poisonCounted p
     (((e.keepObj K.LOCKSTEP_RESTARTS (satInc 32 (e.obj K.LOCKSTEP_RESTARTS))).fault 6 K.LOCKSTEP_RESTARTS 0).setInteg
       (fun g => { g with restart := some d.now })).closeAll) := by
  obtain ⟨_, _, hnow⟩ := poisonCounted_restart p d
  rw [diverge_eq]
  dsimp only
  rw [hnow, restartedLately_counted, hlong]
  exact if_neg Bool.false_ne_true

/-- A divergence during a restart, or too soon after one, halts the device. -/
theorem diverge_halts (p : Option PoisonAt) (hsoon : d.restartedLately = true) :
    d.diverge p = (d.poisonCounted p).haltControl := by
  rw [diverge_eq]
  exact if_pos (by rw [restartedLately_counted, hsoon])

section
variable {u : Time} (hrestart : d.integ.restart = some u)
include hrestart

theorem restartDone_restarting :
    d.restartDone = d.setInteg (fun g => { g with restart := none, lastRestart := some d.now }) :=
  if_pos (by rw [hrestart]; rfl)

theorem restartTimeout_late (hlate : u + 300000000 ≤ d.now) (hrun : d.start.run ≠ .offReady) :
    d.restartTimeout = (d.logFault 6 3 K.LOCKSTEP_RESTARTS 0 (d.obj K.LOCKSTEP_RESTARTS)).halt := by
  unfold restartTimeout haltControl
  rw [hrestart]
  dsimp only
  rw [if_pos hlate, if_neg hrun]

end

/-! ### Safe states (R541, R542) -/

/-- An allowed write of `INTEG_CLEAR_SAFE` clears the safe state, or does not, with what its self-test shows. -/
theorem rowClearSafe_open {sid v : Nat} {x : Session} (stalled : Nat) (ok : Bool)
    (h : ScalarOpen d sid K.INTEG_CLEAR_SAFE v x) :
    d.rowClearSafe sid v stalled ok = entryDone sid K.INTEG_CLEAR_SAFE (d.clearSafe stalled ok) := by
  obtain ⟨hw, hrefused, hdevice, hlocked⟩ := h
  have hid : x.id = sid := by
    obtain ⟨_, hsess, _, _, _⟩ := hw
    simpa using List.find?_some hsess
  unfold rowClearSafe
  dsimp only
  rw [bySession_open _ hw, hrefused]
  simp [hdevice, hid ▸ hlocked]

theorem clearSafe_normal (stalled : Nat) (ok : Bool) (h : d.obj K.INTEG_STATE = 1) :
    d.clearSafe stalled ok = (Status.OK, d) := if_pos h

/-- Is the stall of a stage among the causes of the safe state, so that the self-test runs (R542)? -/
def selfTests (d : Dev) : Bool :=
  d.integ.causes.any (fun c => match c with
    | .stalls _ => true
    | _ => false)

/-- The device with the stalls of the self-test counted, and its failure logged. -/
def selfTested (stalled : Nat) (ok : Bool) (d : Dev) : Dev :=
  let e := if d.selfTests then d.bumpBy stalled K.PACE_STALLS else d
  if d.selfTests && !(stalled == 0 && ok) then e.fault 5 K.PACE_STALLS 0 else e

/-- A write in a safe state ends it where every cause has ended. -/
theorem clearSafe_safe (stalled : Nat) (ok : Bool) (h : d.obj K.INTEG_STATE ≠ 1) : d.clearSafe stalled ok =
    (let e := d.selfTested stalled ok
     if e.integ.causes.all (fun c => e.causeEnded (stalled == 0 && ok) c) then
       let r := ((e.setInteg (fun g => { g with causes := [], okSince := [], mismatches := [], stalls := [] })).setObj
         K.INTEG_STATE 1).setObj K.INTEG_SAFE_CAUSE 0
       (Status.OK, if r.isTile then r.scanFollow else r.pairStart)
     else (Status.BUSY, e)) := if_neg h

/-! ### One-time storage (R543, R544) -/

/-- A key of 32 bytes sent whole is written where no key is. -/
theorem rowChunk_safetyKey {sid : Nat} {x : Session} {key : Bytes}
    (h : ChunkOpen d sid K.OTP_SAFETY_KEY (wholeChunk key) x) (hlen : key.length = 32)
    (hnone : d.fix.otp.safetyKey = none) (hfree : d.stageOf x.id 0 K.OTP_SAFETY_KEY = none) :
    d.rowChunk sid K.OTP_SAFETY_KEY (wholeChunk key) true =
      (let e := d.dropStage x.id 0 K.OTP_SAFETY_KEY
       entryDone sid K.OTP_SAFETY_KEY
         (Status.OK, { e with fix := { e.fix with otp := { e.fix.otp with safetyKey := some key } } })) := by
  have hnext : d.blobNext K.OTP_SAFETY_KEY (wholeChunk key).total = Status.OK := rfl
  have hwhole : chunkBad (wholeChunk key) = false := by simp [chunkBad, wholeChunk]
  have hfirst : d.blobFirst K.OTP_SAFETY_KEY (wholeChunk key).total = Status.OK := by
    show d.blobFirst K.OTP_SAFETY_KEY key.length = Status.OK
    rw [hlen]
    rfl
  have hset : (d.dropStage x.id 0 K.OTP_SAFETY_KEY).otpKeySet key =
      { d.dropStage x.id 0 K.OTP_SAFETY_KEY with fix := { d.fix with otp := { d.fix.otp with safetyKey := some key } } } :=
    if_neg (by rw [show (d.dropStage x.id 0 K.OTP_SAFETY_KEY).fix = d.fix from rfl, hnone]; decide)
  have hdone : (d.blobBegin K.OTP_SAFETY_KEY).takeChunk x.id 0 K.OTP_SAFETY_KEY (wholeChunk key) (wholeChunk key).data
      (wholeDone K.OTP_SAFETY_KEY true) = (Status.OK, (d.dropStage x.id 0 K.OTP_SAFETY_KEY).otpKeySet key) := rfl
  rw [rowChunk_open true h, hfree]
  simp only [hnext, hwhole, hfirst, hdone, hset, ne_eq, not_true_eq_false, Bool.false_eq_true, if_false]
  rfl

theorem otpRevoke_some {v : Nat} (h : (d.fix.otp.revoked ||| v % 16) % 16 ≠ 15) : d.otpRevoke v =
    (Status.OK, { d with fix := { d.fix with otp := { d.fix.otp with revoked := d.fix.otp.revoked ||| v % 16 } } }) :=
  if_neg h

theorem otpRevoke_all {v : Nat} (h : (d.fix.otp.revoked ||| v % 16) % 16 = 15) : d.otpRevoke v = (Status.RANGE, d) :=
  if_pos h

end

end Dev

/-- Settles O52: a divergence restarts or halts by how long ago the last restart was, a safe state ends with its causes, and
one-time storage is written once. -/
theorem restartsSafeStatesAndOneTimeStorage : Obligations.RestartsSafeStatesAndOneTimeStorage := by
  intro s t d
  have hnow : d.now = t := Dev.begin_now t s.dev
  refine ⟨fun hpliuk hbase => ⟨fun p => ?diverge, fun u hrestart => ⟨?done, fun hlate hrun => ?timeout⟩⟩,
    fun sid x v stalled ok hopen hnormal => ?normal, fun sid x v stalled ok hopen hsafe => ?safe,
    fun sid x key hopen hlen hnone hfree => ?key, fun sid x v hopen => ?revoke⟩
  case diverge =>
    intro e stops
    have hcounted : d.poisonCounted p = e := by cases p with
      | none => rfl
      | some a => exact Dev.poisonRead_eq a d
    have hexec {f : Dev} (h : d.diverge p = f) : exec (.lockstepDivergence t p) s = .next (after t s f) :=
      (act_whenFirmware _ hpliuk hbase).trans (by rw [h])
    refine ⟨fun hnone hlong => hexec ?_, fun hsoon => hexec ?_⟩
    · rw [Dev.diverge_restarts p (Dev.restartedLately_no hnone (by rwa [hnow])), hcounted, hnow]
    · rw [Dev.diverge_halts p (Dev.restartedLately_yes (by rwa [hnow])), hcounted]
      rfl
  case done =>
    refine (act_whenFirmware _ hpliuk hbase).trans ?_
    rw [Dev.restartDone_restarting hrestart, hnow]
  case timeout =>
    refine (act_whenFirmware _ hpliuk hbase).trans ?_
    rw [Dev.restartTimeout_late hrestart (by rwa [hnow]) hrun]
  case normal =>
    refine (act_eq t _ s).trans ?_
    rw [Dev.rowClearSafe_open stalled ok hopen, Dev.clearSafe_normal stalled ok hnormal, Dev.entryDone]
  case safe =>
    intro test passed e e' fin'
    have htested : d.selfTested stalled ok = e' := rfl
    have hexec {st : Nat} {r : Dev} (h : d.clearSafe stalled ok = (st, r)) :
        exec (.integClearSafe t sid v stalled ok) s = .next (fin' st r) :=
      (act_eq t _ s).trans (by rw [Dev.rowClearSafe_open stalled ok hopen, h, Dev.entryDone])
    have hclear := Dev.clearSafe_safe stalled ok hsafe
    rw [htested] at hclear
    exact ⟨fun hended => hexec (hclear.trans (if_pos hended)),
      fun hlasts => hexec (hclear.trans (if_neg (ne_true_of_eq_false hlasts)))⟩
  case key =>
    refine (act_eq t _ s).trans ?_
    rw [Dev.rowChunk_safetyKey hopen hlen hnone hfree]
    rfl
  case revoke =>
    intro r
    have hexec {st : Nat} {e : Dev} (h : d.otpRevoke v = (st, e)) :
        exec (.otpKeyRevoke t sid v) s = .next (after t s (e.emit (.entry sid K.OTP_KEY_REVOKE st))) :=
      (act_eq t _ s).trans
        (by rw [Dev.rowWrite_action hopen (Dev.action_keyRevoke d false x.id v), Dev.entryDone, h])
    exact ⟨fun hsome => hexec (Dev.otpRevoke_some hsome), fun hall => hexec (Dev.otpRevoke_all hall)⟩

end Sys2Proof.Machine

/-!
PROOFS. The stacked memory: retraining epochs (R454, R455), set points (R456, R457), refresh and temperature (R467 to
R471), the patrol scrub (R464 to R466) and self-refresh (R472).
-/
namespace Sys2Proof.Machine
open Sys2Proof.Safety

namespace Dev

section
variable {d : Dev} {c : Nat}

/-! ### Epochs (R454, R455) -/

theorem retrainEpoch_runs (count : Nat) (hruns : d.dramRuns = true) (hepoch : d.epochRuns c = true) :
    d.retrainEpoch c count = (d.epochEnds c (d.driftOf c count)).releaseSetpoint :=
  if_pos (by rw [hruns, hepoch]; rfl)

/-- The device with the correction of an epoch applied and counted, and one beyond the limits logged. -/
def driftMoved (c : Nat) (drift : Int) (d : Dev) : Dev :=
  let bad := driftBad (d.objI 16 (K.CH_DRIFT c)) drift
  let e := (d.setObjI 16 (K.CH_DRIFT c) (driftAfter (d.objI 16 (K.CH_DRIFT c)) drift)).bumpWrap (K.CH_RETRAINS c)
  let e := e.setDramCh c (fun x =>
    { x with epochEnd := d.now, epochAgain := none, driftRun := if bad then x.driftRun + 1 else 0 })
  if bad then e.bumpFault 7 (K.CH_DRIFT_FAULTS c) c else e

/-- The third correction in succession beyond the limits makes a ready channel Retire pending. -/
theorem epochEnds_eq (drift : Int) : d.epochEnds c drift =
    (let e := d.driftMoved c drift
     if 3 ≤ (e.dramCh c).driftRun ∧ e.obj (K.CH_STATE c) = 2 then
       (e.setObj (K.CH_STATE c) 3).setDram (fun m => { m with retireNext := m.retireNext ++ [c] })
     else e) := by
  have hthird (e : Dev) : (decide (3 ≤ (e.dramCh c).driftRun) && e.obj (K.CH_STATE c) == 2) = true ↔
      3 ≤ (e.dramCh c).driftRun ∧ e.obj (K.CH_STATE c) = 2 := by simp
  exact if_congr (hthird _) rfl rfl

/-! ### Set points (R456, R457) -/

theorem setpointChange_due (hother : d.obj K.DRAM_SETPOINT ≠ d.setpointDue) (hruns : d.dramRuns = true) :
    d.setpointChange d.setpointDue d.setpointUrgent =
      (if d.setpointUrgent then
         ((List.range d.channelCount).foldl (fun e k => e.discardEpoch k) d).switchSetpoint d.setpointDue
       else if d.anyEpoch then d.setDram (fun m => { m with waiting := some d.setpointDue })
       else d.switchSetpoint d.setpointDue) := by
  unfold setpointChange askSetpoint
  rw [if_pos ⟨rfl, rfl⟩, hruns, if_neg hother]
  rfl

theorem setpointChange_other {target : Nat} {u : Bool} (h : target ≠ d.setpointDue ∨ u ≠ d.setpointUrgent) :
    d.setpointChange target u = d :=
  if_neg (not_and_or.mpr h)

/-! ### Refresh and temperature (R467 to R471) -/

theorem bankRefresh_serving {bank : Nat} (issued : Bool) (hruns : d.dramRuns = true) (hserves : d.chServes c = true)
    (hbank : bank < 16) : d.bankRefresh c bank issued =
      (d.setDramCh c (fun x => { x with
        debts := upd bank (fun b => if issued then 0 else min 8 (b + 1)) x.debts })).noteDebt c :=
  if_pos (by simp [hruns, hserves, hbank])

theorem rangeDue_of {die : Nat} (hdie : die < d.dieCount)
    (hwall : d.isSender = true → d.wall % 16000000 = die * 4000000)
    (hlast : ∀ u, d.dram.rangeAt.getD die none = some u → u < d.now ∧ (d.isSender = false → (d.now - u) % 16000000 = 0)) :
    d.rangeDue die = true := by
  have hlater : (d.dram.rangeAt.getD die none).all (fun u => decide (u < d.now)) = true := by
    cases hread : d.dram.rangeAt.getD die none with
    | none => rfl
    | some u => exact decide_eq_true (hlast u hread).1
  have htime : (if d.isSender then d.wall % 16000000 == die * 4000000
      else (d.dram.rangeAt.getD die none).all (fun u => (d.now - u) % 16000000 == 0)) = true := by
    cases hpers : d.isSender with
    | true => exact beq_iff_eq.mpr (hwall hpers)
    | false =>
      cases hread : d.dram.rangeAt.getD die none with
      | none => rfl
      | some u => exact beq_iff_eq.mpr ((hlast u hread).2 hpers)
  unfold rangeDue
  dsimp only
  rw [hlater, htime, decide_eq_true hdie]
  rfl

theorem mr4_valid {die r : Nat} (hdie : die < d.dieCount) (hlow : 1 ≤ r) (hhigh : r ≤ 4) :
    d.mr4 die r = (d.takeRange die r).derate r :=
  if_pos (by simp [hdie, hlow, hhigh])

theorem readRange_due {die r : Nat} (hruns : d.dramRuns = true) (hdue : d.rangeDue die = true) (hdie : die < d.dieCount)
    (hlow : 1 ≤ r) (hhigh : r ≤ 4) :
    d.readRange die r = (((d.takeRange die r).derate r).hotDie die r).reviewPlan := by
  rw [readRange, if_pos (by rw [hruns, hdue]; rfl), mr4_valid hdie hlow hhigh]

theorem hotDie_cool {die r : Nat} (h : r < 4) : d.hotDie die r = d := if_neg (Nat.ne_of_lt h)

/-! ### Patrol scrub (R464 to R466) -/

/-- The device with the words of a scrubbed burst corrected or reported, and the channel's place advanced. -/
def scrubbed (w : EccEvent) (d : Dev) : Dev :=
  (w.words.foldl (fun e x =>
    match x.2 with
    | .none => e
    | .corrected => (e.bump (K.CH_ECC_CORRECTED w.ch)).bump K.SCRUB_CORRECTED
    | .uncorrectable => e.uncorrectable w.ch (d.dramCh w.ch).scrub x.1) d).setDramCh w.ch
      (fun x => { x with scrub := x.scrub + 1 })

/-- The channels that serve. -/
def live (d : Dev) : List Nat := (List.range d.channelCount).filter (fun k => d.chServes k)

/-- Has the pass read every burst of every serving channel? -/
def scrubEnds (d : Dev) : Bool := d.live.all (fun k => decide (channelBursts ≤ (d.dramCh k).scrub))

theorem patrolScrub_serving {w : EccEvent} (hruns : d.dramRuns = true) (hserves : d.chServes w.ch = true)
    (hleft : (d.dramCh w.ch).scrub < channelBursts) : d.patrolScrub w =
      (let e := d.scrubbed w
       if e.scrubEnds then
         ((e.live.foldl (fun e k => e.setDramCh k (fun x => { x with scrub := 0 })) e).bumpWrap K.SCRUB_PASSES).setObj
           K.SCRUB_PROGRESS 0
       else e.setObj K.SCRUB_PROGRESS
         (e.live.foldl (fun a k => a + (e.dramCh k).scrub) 0 * 1000 / (e.live.length * channelBursts))) := by
  have hgo : ¬ (!d.dramRuns || !d.chServes w.ch || decide (channelBursts ≤ (d.dramCh w.ch).scrub)) = true := by
    simp [hruns, hserves, hleft]
  exact if_neg hgo

/-! ### Self-refresh (R472) -/

/-- The device in self-refresh, with every debt paid. -/
def selfRefreshed (d : Dev) : Dev :=
  (d.setDram (fun m => { m with
    waiting := none, derated := d.obj K.DRAM_STATE == 3,
    chans := m.chans.map (fun x => { x with debts := x.debts.map (fun _ => 0) }) })).setObj K.DRAM_STATE 4

theorem standbyEnter_ready (hrun : d.start.run = .toStandby) (hckpt : d.ledger.ckpt = none) (hepochs : d.anyEpoch = false)
    (hruns : d.dramRuns = true) : d.standbyEnter =
      (let e := d.selfRefreshed
       let e := (List.range e.nPorts).foldl (fun e h => e.disablePort h) e
       let e := if e.isSender then (List.range 8).foldl (fun e p => e.ingestLink p false) e else e
       (e.requestVolts 620).goTo .standby) := by
  have hself : d.selfRefresh = d.selfRefreshed := if_neg (by simp [hruns, hepochs])
  rw [standbyEnter, if_neg (by simp [hrun, hckpt, hepochs]), hself]

end

end Dev

/-- Settles O47: each row's guard holds, and the equation of its operation gives the state. -/
theorem theMemoryIsTrainedRefreshedAndScrubbed : Obligations.TheMemoryIsTrainedRefreshedAndScrubbed := by
  intro s t c d
  have hnow : d.now = t := Dev.begin_now t s.dev
  refine ⟨fun hports hruns => ⟨fun hserves => ⟨fun count hepoch => ?epoch, fun bank issued hbank => ?refresh,
      fun w hch hleft => ?scrub⟩, fun die r hdie hlow hwall hlast => ?range, fun hother => ?due,
      fun target u hnot => ?other⟩, fun hrun hckpt hepochs hruns => ?selfRefresh⟩
  case epoch =>
    refine (act_whenPorts (fun e => e.retrainEpoch c count) hports).trans ?_
    rw [Dev.retrainEpoch_runs count hruns hepoch, Dev.epochEnds_eq, Dev.driftMoved, hnow]
    rfl
  case refresh =>
    refine (act_whenPorts (fun e => e.bankRefresh c bank issued) hports).trans ?_
    rw [Dev.bankRefresh_serving issued hruns hserves hbank]
  case scrub =>
    subst hch
    have hexec {f : Dev} (h : d.patrolScrub w = f) : exec (.patrolScrub t w) s = .next (after t s f) :=
      (act_whenPorts (fun e => e.patrolScrub w) hports).trans (by rw [h])
    have hscrub := Dev.patrolScrub_serving hruns hserves hleft
    exact ⟨fun hends => hexec (hscrub.trans (if_pos hends)),
      fun hmore => hexec (hscrub.trans (if_neg (ne_true_of_eq_false hmore)))⟩
  case range =>
    have hdue : d.rangeDue die = true := Dev.rangeDue_of hdie (by rwa [Dev.wall, hnow]) (by rwa [hnow])
    have hexec {f : Dev} (h : d.readRange die r = f) : exec (.mr4Read t die r) s = .next (after t s f) :=
      (act_whenPorts (fun e => e.readRange die r) hports).trans (by rw [h])
    refine ⟨fun hcool => hexec ?_, fun hhot => hexec ?_⟩
    · rw [Dev.readRange_due hruns hdue hdie hlow hcool.le, Dev.hotDie_cool hcool]
    · rw [Dev.readRange_due hruns hdue hdie hlow hhot.le, hhot]
      rfl
  case due =>
    intro go
    have hexec {u : Bool} {f : Dev} (hu : d.setpointUrgent = u)
        (h : d.setpointChange d.setpointDue d.setpointUrgent = f) :
        exec (.setpointChange t d.setpointDue u) s = .next (after t s f) :=
      (act_whenPorts (fun e => e.setpointChange d.setpointDue u) hports).trans (by rw [← hu, h])
    have hchange := Dev.setpointChange_due hother hruns
    refine ⟨fun hurgent => hexec hurgent ?_, fun hcalm hfree => hexec hcalm ?_, fun hcalm hbusy => hexec hcalm ?_⟩
    · rw [hchange, if_pos hurgent]
      rfl
    · rw [hchange, if_neg (ne_true_of_eq_false hcalm), if_neg (ne_true_of_eq_false hfree)]
      rfl
    · rw [hchange, if_neg (ne_true_of_eq_false hcalm), if_pos hbusy]
  case other =>
    refine (act_whenPorts (fun e => e.setpointChange target u) hports).trans ?_
    rw [Dev.setpointChange_other hnot]
  case selfRefresh =>
    refine (act_eq t (fun e => e.standbyEnter) s).trans ?_
    rw [Dev.standbyEnter_ready hrun hckpt hepochs hruns]
    rfl

end Sys2Proof.Machine
